-- ==== Sys2Proof/Word.lean ====
section
/-! DEFINITION. The word types of the MZH1-56L (R7, R23, R231) and their plainest arithmetic. -/
namespace Sys2Proof

/-- One byte of device memory, of a packet or of a message (R7). -/
abbrev Byte := BitVec 8
abbrev W16 := BitVec 16
/-- One configuration register (R23). -/
abbrev W32 := BitVec 32
abbrev W64 := BitVec 64
/-- A torus coordinate: w [15:12], x [11:8], y [7:4], z [3:0] (R255). -/
abbrev Coord := BitVec 16
/-- A partition number (R21). -/
abbrev Part := Fin 8

end Sys2Proof
end

