-- ==== Sys2Proof/Syntax.lean ====
section
/-! DEFINITION. The commands of the MZH1-56L: one constructor of Instr for each row of
spec/opcode_table.json, with the operands the row's rules name (a control message's fields, a
packet, a pin or sensor reading, or the name of the unit whose own event it is). -/
namespace Sys2Proof

/-- How a control message is protected (R394): in clear, or with PROT set; a PROT message says
whether its tag verifies under the session key of its port (log 8, DESIGN CHOICE: AES-GCM itself is not computed). -/
inductive Auth where
  | clear
  | sealed (genuine : Bool)
  deriving DecidableEq, Repr

/-- The header of a request on a control port (Table 14.5): the port, MSEQ, protection, and the
number of payload bytes LEN gives, without the tag. -/
structure Req where
  port : Fin 4
  mseq : W32
  auth : Auth
  len : Nat
  deriving DecidableEq, Repr

/-- A fabric packet (R258): the 64-byte header, bit 8k + i being bit i of header byte k, and the
LEN payload bytes without the padding. -/
structure Packet where
  hdr : BitVec 512
  payload : List Byte
  deriving DecidableEq, Repr

/-- One flit of a flit group (R275): the VC it belongs to and its 64 bytes, whether it is the first
and whether it is the last of its packet. -/
structure Flit where
  vc : BitVec 3
  head : Bool
  tail : Bool
  bytes : BitVec 512
  deriving DecidableEq, Repr

/-- A flit group with its trailer (Table 11.3). crcOk is the outcome of the CRC-32 and codeword
check of R276. -/
structure FlitGroup where
  seq : W16
  ack : W16
  nak : Bool
  cvc : BitVec 3
  credit : BitVec 12
  flits : List Flit
  crcOk : Bool
  deriving DecidableEq, Repr

/-- A spine frame (R283): MAC addresses, EtherType, the packet and whether the FCS holds. -/
structure SpineFrame where
  dst : BitVec 48
  src : BitVec 48
  etype : W16
  vlan : Bool
  bytes : Nat
  pkt : Packet
  fcsOk : Bool
  deriving DecidableEq, Repr

/-- What the environment shows a starting or self-tested block: the link or training came UP, the
block's self-test outside the MAC columns passed, and the MAC columns that failed, as (array, column)
pairs (R37, R38, R185, R238, R333). -/
structure TestResult where
  trained : Bool
  passed : Bool
  badCols : List (Fin 4 × BitVec 7)
  deriving DecidableEq, Repr

/-- The outcome of one page's self-test in start-up step 6 (R423). -/
structure PageTest where
  page : BitVec 12
  res : TestResult
  deriving DecidableEq, Repr

/-- What the far end of a lane sent in the TRAIN units of stage 5 (R333). -/
structure TrainInfo where
  coord : Coord
  port : BitVec 3
  rxbuf : W16
  rxLast : W16
  deriving DecidableEq, Repr

/-- The port whose training ends (R333). -/
inductive LinkPort where
  | torus (n : Fin 8)
  | cxl (n : Fin 2)
  | control (n : Fin 4)
  | reference
  deriving DecidableEq, Repr

/-- How the retries of a failed GDDR7 burst ended (Table 10.3). -/
inductive EdcOutcome where
  | retried (times : Fin 3)
  | retrained
  | exhausted
  deriving DecidableEq, Repr

/-- How a GDDR7 block was reached when its detection code failed (Table 10.6). -/
inductive Reader where
  /-- a task on this core -/
  | core (c : Fin 64)
  /-- a KV block of this stream through its page table (R253) -/
  | kv (stream : BitVec 13)
  /-- another block, for this partition -/
  | block (p : Part)
  /-- a message of a control port -/
  | port (n : Fin 4)
  deriving DecidableEq, Repr

/-- Who waits for a CXL read (R249). -/
inductive CxlReader where
  | core (c : Fin 64)
  | fill (p : Part) (entry : W16)
  | refetch (frame : W16)
  | other (p : Part)
  deriving DecidableEq, Repr

/-- What a CXL read returned (R249). -/
inductive CxlResult where
  | data
  | poison
  | ideFail
  deriving DecidableEq, Repr

/-- Why a torus link is declared lost (R284). -/
inductive LossCause where
  | noGroup
  | retries
  | lanes
  deriving DecidableEq, Repr

/-- The KIND of a SWAP control unit (Table 14.2). -/
inductive SwapKind where
  | req
  | ack
  | nak
  | done
  deriving DecidableEq, Repr

/-- A CXL.io completion (Table 10.9): data and STATUS. -/
structure IoResult where
  data : W32
  status : BitVec 2
  deriving DecidableEq, Repr

/-- The commands: one constructor per row of spec/opcode_table.json, in the table's order. -/
inductive Instr where
  | cfgRd (r : Req) (addr : BitVec 24)
  | cfgWr (r : Req) (addr : BitVec 24) (data : W32)
  | pageEnable (r : Req) (page : BitVec 12) (halt : Bool)
  | pageDisable (r : Req) (page : BitVec 12) (halt : Bool)
  | pageHalt (r : Req) (page : BitVec 12) (en : Bool) (halt : Bool)
  | pageSoftReset (r : Req) (page : BitVec 12) (bist : TestResult)
  | startSequenceComplete (page : BitVec 12) (res : TestResult)
  | stopSequenceComplete (page : BitVec 12)
  | startTimeout (page : BitVec 12)
  | stopTimeout (page : BitVec 12)
  | snapshotTake (r : Req) (page : BitVec 12)
  | snapshotComplete (page : BitVec 12)
  | errorCountClear (r : Req) (page : BitVec 12) (data : W32)
  | event (page : BitVec 12) (bit : Fin 32)
  | markerAccept (m : W64) (src : W16) (crcOk : Bool)
  | refLossTimeout
  | holdoverServo
  | refEnWrite (r : Req) (data : W32)
  | waystoneCopyCorrect (die : Fin 2)
  | timingExchange (port : Fin 8)
  | timingRequest (port : Fin 8) (xnum : W16)
  | timingReply (port : Fin 8) (mode : BitVec 3) (t2 t3 : W64) (xnum : W16)
  | streamDescriptorWrite (r : Req) (word : Fin 32) (data : W32)
  | strDselWrite (r : Req) (data : W32)
  | arm (r : Req) (stream : BitVec 13)
  | close (r : Req) (stream : BitVec 13)
  | replay (r : Req) (stream : BitVec 13)
  | resync (r : Req) (stream : BitVec 13)
  | streamEventPop (r : Req) (p : Part)
  | streamOrigin (stream : BitVec 13)
  | frameFragment (pkt : Packet)
  | frameReassemblyTimeout (stream : BitVec 13) (seq : W32)
  | streamTick (stream : BitVec 13)
  | bindingComplete (p : Part)
  | streamDeadline (stream : BitVec 13) (step : W32)
  | replayPresent (stream : BitVec 13)
  | streamCloseComplete (stream : BitVec 13)
  | launchSet (r : Req) (slot : BitVec 9) (entry : BitVec 128)
  | launchWindowWrite (r : Req) (word3 : W32)
  | launchDue (slot : BitVec 9)
  | deferredLaunch (p : Part)
  | taskIssue (p : Part)
  | taskComplete (core : Fin 64)
  | graphComplete (p : Part) (background : Bool)
  | graphLimit (p : Part) (background : Bool)
  | partitionReset (r : Req) (p : Part)
  | partitionResetComplete (p : Part)
  | laneGrant (unit : Fin 8) (lane : Fin 4)
  | tokenSelect (unit : Fin 8) (lane : Fin 4)
  | weightFetchComplete (unit : Fin 8) (lane : Fin 4)
  | bankLoadComplete (unit : Fin 8) (readErr : Bool)
  | bankSwitch (unit : Fin 8)
  | inv (r : Req) (unit : Fin 8)
  | loadHint (pkt : Packet)
  | droverParity (unit : Fin 8)
  | convoyDispatchRecord (unit : Fin 8)
  | convoyTokenRecord (unit : Fin 8)
  | convoyEndRecord (unit : Fin 8)
  | closeSend (ctx : Fin 8)
  | seraiDispatchBale (pkt : Packet)
  | seraiCloseBale (pkt : Packet)
  | queueTimeout (queue : BitVec 12) (next : Bool)
  | returnBale (pkt : Packet)
  | ackSend (coord : Coord) (eng : Fin 8) (man : BitVec 7)
  | ackBale (pkt : Packet)
  | manifestTimeout (unit : Fin 8) (man : BitVec 7)
  | ledgerAlloc (r : Req) (data : W32)
  | ledgerFree (r : Req) (hi : W32)
  | convoyParity (unit : Fin 8)
  | seraiParity (queue : BitVec 12)
  | ledgerParity
  | passCheck (core : Fin 64) (array : Fin 4) (mismatch : Bool)
  | range (core : Fin 64)
  | scratchpadParity (core : Fin 64)
  | halfRemove (r : Req) (hi : W32)
  | edcError (gmc : Fin 32) (out : EdcOutcome)
  | refresh (gmc : Fin 32)
  | detectionFailure (addr : BitVec 44) (secondFails : Bool) (reader : Reader)
  | refetchComplete (addr : BitVec 44) (out : CxlResult)
  | migrationStart (p : Part)
  | fillPageComplete (p : Part) (entry : W16) (out : CxlResult)
  | cxlReadComplete (addr : BitVec 44) (reader : CxlReader) (out : CxlResult)
  | cxlLinkLoss (port : Fin 2)
  | cxlIoAccess (r : Req) (port : Fin 2) (wr : Option W32) (res : IoResult)
  | packetInject (p : Part) (pkt : Packet)
  | packetReceive (input : Fin 11) (pkt : Packet)
  | packetForward (input : Fin 11) (vc : BitVec 3)
  | escapeTimeout (input : Fin 11) (vc : BitVec 3)
  | stallWatchdog (input : Fin 11) (vc : BitVec 3)
  | flitGroupSend (port : Fin 8)
  | flitGroupReceive (port : Fin 8) (grp : FlitGroup)
  | linkLost (port : Fin 8) (cause : LossCause)
  | routerNotice (input : Fin 8) (pkt : Packet)
  | reinjectWaitTimeout (port : Fin 8)
  | epochArm (r : Req) (fclr : Bool)
  | epochDisarm (r : Req)
  | epochSwitch
  | overrideWrite (r : Req) (word3 : W32)
  | faultClear (r : Req) (data : W32)
  | spineFrameReceive (port : Fin 2) (frame : SpineFrame)
  | spineLinkDown (port : Fin 2)
  | linkTrained (port : LinkPort) (info : TrainInfo)
  | remoteEntryStart (eng : Fin 16)
  | remoteRequest (pkt : Packet)
  | remoteResponse (pkt : Packet)
  | remoteTimeout (eng : Fin 16) (slot : BitVec 9)
  | windowWrite (r : Req) (word3 : W32)
  | gatewayHoldExpire (eng : Fin 16)
  | gatewayWriteFragment (pkt : Packet)
  | gatewaySegmentTimeout (eng : Fin 16) (slot : BitVec 9)
  | tollgateUp (pkt : Packet)
  | tollgateDown (pkt : Packet)
  | tollgateSlotTimeout (slot : Fin 64)
  | opTimeout (group : Fin 16) (step : W32) (opidx : Byte)
  | twinDigest (pkt : Packet)
  | twinMissing (p : Part)
  | collStart (core : Fin 64)
  | colKick (r : Req) (hi : W32)
  | chunkReceive (pkt : Packet)
  | chunkNak (pkt : Packet)
  | collectiveTimeout (ctx : Fin 16)
  | broadcastChunk (pkt : Packet)
  | broadcastEnd (pkt : Packet)
  | broadcastRoundTimeout (ctx : Fin 16)
  | resume (r : Req) (data : W32)
  | broadcastResumeTimeout (ctx : Fin 16)
  | laserSample (eng : Fin 12) (power : Int)
  | laneFail (eng : Fin 12) (lane : Fin 9) (degraded : Bool)
  | opeSwap (r : Req) (eng : Fin 12) (data : W32)
  | swap (eng : Fin 12) (kind : SwapKind) (logical : Fin 8) (spare : Fin 9)
  | controlFlit (port : Fin 4) (flit : BitVec 512)
  | controlLinkLoss (port : Fin 4)
  | memRd (r : Req) (addr : W64) (len : W32)
  | memWr (r : Req) (addr : W64) (data : List Byte)
  | fwLoad (r : Req) (off : W32) (data : List Byte) (last : Bool)
  | heartbeat (r : Req)
  | heartbeatTimer (port : Fin 4)
  | nodeSilent (port : Fin 4)
  | getKey (r : Req)
  | report (r : Req) (nonce : BitVec 256)
  | sessionStart (r : Req) (nodeKey : BitVec 776) (nonce : BitVec 256)
  | sessionEnd (r : Req)
  | suspectExpire (entry : Fin 64)
  | suspectClear (r : Req) (data : W32)
  | aggregationRound
  | aggregationChildWait (step : W32) (opidx : Byte)
  | aggClear (r : Req) (data : W32)
  | abort (pkt : Packet)
  | recompute (p : Part)
  | checkpointArm (r : Req) (p : Part) (step : W32)
  | ckWrite (pkt : Packet)
  | ckAck (pkt : Packet)
  | ckRead (pkt : Packet)
  | ckData (pkt : Packet)
  | checkpointTimeout (p : Part)
  | restore (r : Req) (p : Part)
  | restoreAbort (r : Req) (p : Part)
  | scrub (r : Req) (p : Part)
  | scrubDone (p : Part)
  | managementHandover (r : Req) (data : W32)
  | swapCommand (r : Req)
  | firmwareSwapComplete
  | bundleOpen (r : Req) (p : Part)
  | bundleOpenComplete
  | apply (r : Req)
  | revoke (r : Req)
  | debugExpiry
  | debugAccess (r : Req) (wr : Option W32)
  | undervolt (millivolts : Nat)
  | supplyFail (millivolts : Nat)
  | pllUnlock (bit : Fin 32)
  | throttle (die : Fin 2) (tj : Int) (p10 : Nat)
  | peakLimit (watts : Nat)
  | tempSample (east west fabric : Int)
  | alertIbiRetry (acked : Bool)
  | powerStateRequest (r : Req) (target : BitVec 2)
  | stateDone
  | a1Wake
  | powerOn (millivolts : Nat)
  | devrst (r : Req) (key : Byte)
  | rstNAssert
  | rstNRelease
  | pfw
  | pfwRelease
  | startupStep (tests : List PageTest)
  | bootGo (r : Req) (data : W32)
  | ctpStartRetry (port : Fin 4)
  | setdasa (addr : BitVec 7)
  | entdaa (addr : BitVec 7)
  | serviceBusRead
  | serviceBusWrite (index : Byte) (data : List Byte)
  | peakLimitRelease (watts : Nat)
  | spineLinkUp (port : Fin 2)
  | routerParity
  | tollgateSlotParity
  | storePageComplete (p : Part) (entry : W16)
  | gddr7Hot (gmc : Fin 32) (temp : Int)
  | ideActiveLost (port : Fin 2)
  | laneAlign (eng : Fin 12) (lane : Fin 9)
  deriving DecidableEq, Repr

end Sys2Proof
end

