-- ==== Sys2Proof/Machine/Bits.lean ====
section
/-! DEFINITION. Bit fields, byte order, checksums and sparse tables: the helpers every block's meaning uses.
Every multi-byte field of this device is little-endian (R7). -/
namespace Sys2Proof.Machine

/-- Bits [hi:lo] of a number. -/
def nbits (w hi lo : Nat) : Nat := (w >>> lo) % 2 ^ (hi + 1 - lo)

/-- Bits [hi:lo] of a word, as a number. -/
def fld {n : Nat} (w : BitVec n) (hi lo : Nat) : Nat := nbits w.toNat hi lo

/-- Bit i of a word. -/
def bit {n : Nat} (w : BitVec n) (i : Nat) : Bool := w.getLsbD i

/-- A word with bits [hi:lo] replaced. -/
def setFld {n : Nat} (w : BitVec n) (hi lo v : Nat) : BitVec n :=
  let m := BitVec.ofNat n ((2 ^ (hi + 1 - lo) - 1) <<< lo)
  (w &&& ~~~m) ||| (BitVec.ofNat n (v <<< lo) &&& m)

/-- A word with bit i replaced. -/
def setBit {n : Nat} (w : BitVec n) (i : Nat) (b : Bool) : BitVec n := setFld w i i b.toNat

/-- A field placed at bit lo. -/
def at_ (lo v : Nat) : Nat := v <<< lo

/-- A word of 32 bits from a number. -/
def w32 (n : Nat) : W32 := BitVec.ofNat 32 n

/-- The number a list of bytes spells, first byte least significant (R7). -/
def leNat : List Byte → Nat
  | [] => 0
  | b :: bs => b.toNat + 256 * leNat bs

/-- The n bytes of a number, least significant first (R7). -/
def toLE : Nat → Nat → List Byte
  | 0, _ => []
  | n + 1, v => BitVec.ofNat 8 v :: toLE n (v / 256)

/-- The signed reading of the low n bits of a number. -/
def signed (n v : Nat) : Int :=
  if v % 2 ^ n < 2 ^ (n - 1) then (v % 2 ^ n : Nat) else ((v % 2 ^ n : Nat) : Int) - (2 ^ n : Nat)

/-- A signed number in n bits of two's complement. -/
def twos (n : Nat) (i : Int) : Nat := (i % ((2 ^ n : Nat) : Int)).toNat

/-- The bits set among 0 .. n - 1, ascending. -/
def bitsSet (n w : Nat) : List Nat := (List.range n).filter (fun i => w.testBit i)

/-- How many of the bits 0 .. n - 1 are set. -/
def popcount (n w : Nat) : Nat := (bitsSet n w).length

/-! Checksums -/

/-- One step of a reflected CRC-32 over one bit. -/
def crcBit (poly c : Nat) : Nat := if c % 2 = 1 then (c / 2) ^^^ poly else c / 2

/-- One byte into a reflected CRC-32. -/
def crcByte (poly c b : Nat) : Nat :=
  let x := crcBit poly; x (x (x (x (x (x (x (x (c ^^^ b))))))))

/-- A reflected CRC-32 with initial value and final complement all ones. -/
def crcOf (poly : Nat) (bs : List Byte) : W32 :=
  w32 ((bs.foldl (fun c b => crcByte poly c b.toNat) 0xFFFFFFFF) ^^^ 0xFFFFFFFF)

/-- CRC-32C (Castagnoli), of packets, bales, flits, records and headers (R117, R343). -/
def crc32c (bs : List Byte) : W32 := crcOf 0x82F63B78 bs

/-- The CRC-32 of IEEE 802.3 (Table 11.3). -/
def crc32 (bs : List Byte) : W32 := crcOf 0xEDB88320 bs

/-! Sparse tables: strictly rising keys, and no entry equal to what an unlisted key reads as. -/

/-- A table of values by number. -/
abbrev SMap (α : Type) := List (Nat × α)

/-- The value at a key; d is what an unlisted key reads as. -/
def SMap.get {α : Type} (m : SMap α) (d : α) (k : Nat) : α :=
  match m with
  | [] => d
  | (j, v) :: r => if j = k then v else SMap.get r d k

/-- The table with one key removed, so that it reads as unlisted. -/
def SMap.erase {α : Type} (m : SMap α) (k : Nat) : SMap α :=
  match m with
  | [] => []
  | (j, v) :: r => if j = k then r else if k < j then (j, v) :: r else (j, v) :: SMap.erase r k

/-- The table with one key listed. -/
def SMap.insert {α : Type} (m : SMap α) (k : Nat) (v : α) : SMap α :=
  match m with
  | [] => [(k, v)]
  | (j, x) :: r =>
    if j = k then (k, v) :: r else if k < j then (k, v) :: (j, x) :: r else (j, x) :: SMap.insert r k v

/-- The table with the value at one key replaced, in canonical form. -/
def SMap.set {α : Type} [DecidableEq α] (m : SMap α) (d : α) (k : Nat) (v : α) : SMap α :=
  if v = d then SMap.erase m k else SMap.insert m k v

/-- Every key rises, from a lower bound on. -/
def SMap.rising {α : Type} (lo : Nat) : SMap α → Bool
  | [] => true
  | (j, _) :: r => decide (lo ≤ j) && SMap.rising (j + 1) r

/-- The canonical form of a table whose unlisted keys read as d. -/
def SMap.wf {α : Type} [DecidableEq α] (d : α) (m : SMap α) : Bool :=
  SMap.rising 0 m && m.all (fun kv => decide (kv.2 ≠ d))

/-- A table without the keys of a range. -/
def SMap.dropRange {α : Type} (m : SMap α) (lo hi : Nat) : SMap α :=
  m.filter (fun kv => decide (kv.1 < lo ∨ hi ≤ kv.1))

/-- A table without the keys a test picks. -/
def SMap.dropIf {α : Type} (m : SMap α) (f : Nat → Bool) : SMap α := m.filter (fun kv => !f kv.1)

/-! Lists -/

/-- The i-th element, or d. -/
def nth {α : Type} (l : List α) (d : α) (i : Nat) : α := (l[i]?).getD d

/-- A list with its i-th element replaced. -/
def setNth {α : Type} (l : List α) (i : Nat) (v : α) : List α := l.set i v

/-- The first element satisfying a test, with its position. -/
def findPos {α : Type} (f : α → Bool) : List α → Option Nat
  | [] => none
  | a :: r => if f a then some 0 else (findPos f r).map (· + 1)

/-- A table with fixed slots, read by number. -/
def vget {α : Type} {n : Nat} [NeZero n] (v : Vector α n) (i : Nat) : α := v.get (Fin.ofNat n i)

/-- A table with fixed slots, one of them replaced. -/
def vset {α : Type} {n : Nat} [NeZero n] (v : Vector α n) (i : Nat) (a : α) : Vector α n :=
  v.set (Fin.ofNat n i).val a (Fin.ofNat n i).isLt

end Sys2Proof.Machine
end

