-- ==== Sys2Proof/Machine/Crypto.lean ====
section
/-! DEFINITION. The published algorithms the spec names and does not spell out: SHA-384, HMAC and HKDF
(R381, R393, R399), AES-256 in XTS and GCM modes (R394, R396, R399), and brainpoolP384r1 (R381 to R399).
Their constants are those of the standards (log 9, PRESUMED). -/
namespace Sys2Proof.Machine

/-! SHA-384 -/

/-- The round constants of SHA-384. -/
def shaK0 : List Nat := [
  0x428a2f98d728ae22, 0x7137449123ef65cd, 0xb5c0fbcfec4d3b2f, 0xe9b5dba58189dbbc,
  0x3956c25bf348b538, 0x59f111f1b605d019, 0x923f82a4af194f9b, 0xab1c5ed5da6d8118,
  0xd807aa98a3030242, 0x12835b0145706fbe, 0x243185be4ee4b28c, 0x550c7dc3d5ffb4e2,
  0x72be5d74f27b896f, 0x80deb1fe3b1696b1, 0x9bdc06a725c71235, 0xc19bf174cf692694,
  0xe49b69c19ef14ad2, 0xefbe4786384f25e3, 0x0fc19dc68b8cd5b5, 0x240ca1cc77ac9c65,
  0x2de92c6f592b0275, 0x4a7484aa6ea6e483, 0x5cb0a9dcbd41fbd4, 0x76f988da831153b5,
  0x983e5152ee66dfab, 0xa831c66d2db43210, 0xb00327c898fb213f, 0xbf597fc7beef0ee4,
  0xc6e00bf33da88fc2, 0xd5a79147930aa725, 0x06ca6351e003826f, 0x142929670a0e6e70,
  0x27b70a8546d22ffc, 0x2e1b21385c26c926, 0x4d2c6dfc5ac42aed, 0x53380d139d95b3df,
  0x650a73548baf63de, 0x766a0abb3c77b2a8, 0x81c2c92e47edaee6, 0x92722c851482353b,
  0xa2bfe8a14cf10364, 0xa81a664bbc423001, 0xc24b8b70d0f89791, 0xc76c51a30654be30,
  0xd192e819d6ef5218, 0xd69906245565a910, 0xf40e35855771202a, 0x106aa07032bbd1b8,
  0x19a4c116b8d2d0c8, 0x1e376c085141ab53, 0x2748774cdf8eeb99, 0x34b0bcb5e19b48a8,
  0x391c0cb3c5c95a63, 0x4ed8aa4ae3418acb, 0x5b9cca4f7763e373, 0x682e6ff3d6b2b8a3,
  0x748f82ee5defb2fc, 0x78a5636f43172f60, 0x84c87814a1f0ab72, 0x8cc702081a6439ec,
  0x90befffa23631e28, 0xa4506cebde82bde9, 0xbef9a3f7b2c67915, 0xc67178f2e372532b]

/-- The round constants of SHA-384. -/
def shaK1 : List Nat := [
  0xca273eceea26619c, 0xd186b8c721c0c207, 0xeada7dd6cde0eb1e, 0xf57d4f7fee6ed178,
  0x06f067aa72176fba, 0x0a637dc5a2c898a6, 0x113f9804bef90dae, 0x1b710b35131c471b,
  0x28db77f523047d84, 0x32caab7b40c72493, 0x3c9ebe0a15c9bebc, 0x431d67c49c100d4c,
  0x4cc5d4becb3e42b6, 0x597f299cfc657e2a, 0x5fcb6fab3ad6faec, 0x6c44198c4a475817]

/-- The round constants of SHA-384. -/
def shaK : List Nat := shaK0 ++ shaK1

/-- The initial value of SHA-384. -/
def shaInit : List Nat := [
  0xcbbb9d5dc1059ed8, 0x629a292a367cd507, 0x9159015a3070dd17, 0x152fecd8f70e5939,
  0x67332667ffc00b31, 0x8eb44a8768581511, 0xdb0c2e0d64f98fa7, 0x47b5481dbefa4fa4]

/-- A rotation of a 64-bit word to the right. -/
def ror64 (x n : Nat) : Nat := (x >>> n) ||| ((x <<< (64 - n)) % 2 ^ 64)

/-- The number a list of bytes spells, first byte most significant. -/
def beNat (bs : List Byte) : Nat := bs.foldl (fun a b => a * 256 + b.toNat) 0

/-- The n bytes of a number, most significant first. -/
def toBE (n v : Nat) : List Byte := (toLE n v).reverse

/-- The next word of the message schedule, from the last 16, newest first. -/
def shaNext (w : List Nat) : Nat :=
  let x := nth w 0 1
  let y := nth w 0 14
  let s1 := ror64 x 19 ^^^ ror64 x 61 ^^^ (x >>> 6)
  let s0 := ror64 y 1 ^^^ ror64 y 8 ^^^ (y >>> 7)
  (s1 + nth w 0 6 + s0 + nth w 0 15) % 2 ^ 64

/-- One round on the eight working words. -/
def shaRound (h : List Nat) (k w : Nat) : List Nat :=
  match h with
  | [a, b, c, d, e, f, g, t] =>
    let m := 2 ^ 64
    let s1 := ror64 e 14 ^^^ ror64 e 18 ^^^ ror64 e 41
    let ch := (e &&& f) ^^^ ((m - 1 - e) &&& g)
    let t1 := (t + s1 + ch + k + w) % m
    let s0 := ror64 a 28 ^^^ ror64 a 34 ^^^ ror64 a 39
    let maj := (a &&& b) ^^^ (a &&& c) ^^^ (b &&& c)
    [(t1 + s0 + maj) % m, a, b, c, (d + t1) % m, e, f, g]
  | _ => h

/-- The rounds of one block: the schedule's last 16 words (newest first) and the words still to use. -/
def shaRounds : List Nat → List Nat → List Nat → List Nat → List Nat
  | [], _, _, h => h
  | k :: ks, first, sched, h =>
    match first with
    | w :: ws => shaRounds ks ws (w :: sched) (shaRound h k w)
    | [] => let w := shaNext sched; shaRounds ks [] (w :: sched.take 15) (shaRound h k w)

/-- The 64-bit words of a list of bytes. -/
def beWords : Nat → List Byte → List Nat
  | 0, _ => []
  | n + 1, bs => beNat (bs.take 8) :: beWords n (bs.drop 8)

/-- The compression of one 128-byte block. -/
def shaBlock (h : List Nat) (blk : List Byte) : List Nat :=
  List.zipWith (fun a b => (a + b) % 2 ^ 64) h (shaRounds shaK (beWords 16 blk) [] h)

/-- The blocks of a padded message. -/
def shaBlocks : Nat → List Byte → List Nat → List Nat
  | 0, _, h => h
  | n + 1, bs, h => shaBlocks n (bs.drop 128) (shaBlock h (bs.take 128))

/-- The SHA-384 of a list of bytes: 48 bytes. -/
def sha384 (msg : List Byte) : List Byte :=
  let n := msg.length
  let z := (128 - (n + 17) % 128) % 128
  let padded := msg ++ [0x80] ++ List.replicate z 0 ++ toBE 16 (8 * n)
  ((shaBlocks (padded.length / 128) padded shaInit).take 6).flatMap (toBE 8)

/-- HMAC-SHA-384. -/
def hmac384 (key msg : List Byte) : List Byte :=
  let k0 := if key.length > 128 then sha384 key else key
  let k := k0 ++ List.replicate (128 - k0.length) 0
  sha384 (k.map (· ^^^ 0x5c) ++ sha384 (k.map (· ^^^ 0x36) ++ msg))

/-- The expansion steps of HKDF. -/
def hkdfExpand (prk info : List Byte) : Nat → Nat → List Byte → List Byte
  | 0, _, _ => []
  | n + 1, i, prev =>
    let t := hmac384 prk (prev ++ info ++ [BitVec.ofNat 8 i])
    t ++ hkdfExpand prk info n (i + 1) t

/-- HKDF-SHA-384. -/
def hkdf384 (salt ikm info : List Byte) (len : Nat) : List Byte :=
  (hkdfExpand (hmac384 salt ikm) info ((len + 47) / 48) 1 []).take len

/-! AES-256 on the sixteen bytes of a block, first byte first -/

/-- The AES substitution box. -/
def aesS0 : List Nat := [
  0x63, 0x7c, 0x77, 0x7b, 0xf2, 0x6b, 0x6f, 0xc5, 0x30, 0x01, 0x67, 0x2b, 0xfe, 0xd7, 0xab, 0x76,
  0xca, 0x82, 0xc9, 0x7d, 0xfa, 0x59, 0x47, 0xf0, 0xad, 0xd4, 0xa2, 0xaf, 0x9c, 0xa4, 0x72, 0xc0,
  0xb7, 0xfd, 0x93, 0x26, 0x36, 0x3f, 0xf7, 0xcc, 0x34, 0xa5, 0xe5, 0xf1, 0x71, 0xd8, 0x31, 0x15,
  0x04, 0xc7, 0x23, 0xc3, 0x18, 0x96, 0x05, 0x9a, 0x07, 0x12, 0x80, 0xe2, 0xeb, 0x27, 0xb2, 0x75]

/-- The AES substitution box. -/
def aesS1 : List Nat := [
  0x09, 0x83, 0x2c, 0x1a, 0x1b, 0x6e, 0x5a, 0xa0, 0x52, 0x3b, 0xd6, 0xb3, 0x29, 0xe3, 0x2f, 0x84,
  0x53, 0xd1, 0x00, 0xed, 0x20, 0xfc, 0xb1, 0x5b, 0x6a, 0xcb, 0xbe, 0x39, 0x4a, 0x4c, 0x58, 0xcf,
  0xd0, 0xef, 0xaa, 0xfb, 0x43, 0x4d, 0x33, 0x85, 0x45, 0xf9, 0x02, 0x7f, 0x50, 0x3c, 0x9f, 0xa8,
  0x51, 0xa3, 0x40, 0x8f, 0x92, 0x9d, 0x38, 0xf5, 0xbc, 0xb6, 0xda, 0x21, 0x10, 0xff, 0xf3, 0xd2]

/-- The AES substitution box. -/
def aesS2 : List Nat := [
  0xcd, 0x0c, 0x13, 0xec, 0x5f, 0x97, 0x44, 0x17, 0xc4, 0xa7, 0x7e, 0x3d, 0x64, 0x5d, 0x19, 0x73,
  0x60, 0x81, 0x4f, 0xdc, 0x22, 0x2a, 0x90, 0x88, 0x46, 0xee, 0xb8, 0x14, 0xde, 0x5e, 0x0b, 0xdb,
  0xe0, 0x32, 0x3a, 0x0a, 0x49, 0x06, 0x24, 0x5c, 0xc2, 0xd3, 0xac, 0x62, 0x91, 0x95, 0xe4, 0x79,
  0xe7, 0xc8, 0x37, 0x6d, 0x8d, 0xd5, 0x4e, 0xa9, 0x6c, 0x56, 0xf4, 0xea, 0x65, 0x7a, 0xae, 0x08]

/-- The AES substitution box. -/
def aesS3 : List Nat := [
  0xba, 0x78, 0x25, 0x2e, 0x1c, 0xa6, 0xb4, 0xc6, 0xe8, 0xdd, 0x74, 0x1f, 0x4b, 0xbd, 0x8b, 0x8a,
  0x70, 0x3e, 0xb5, 0x66, 0x48, 0x03, 0xf6, 0x0e, 0x61, 0x35, 0x57, 0xb9, 0x86, 0xc1, 0x1d, 0x9e,
  0xe1, 0xf8, 0x98, 0x11, 0x69, 0xd9, 0x8e, 0x94, 0x9b, 0x1e, 0x87, 0xe9, 0xce, 0x55, 0x28, 0xdf,
  0x8c, 0xa1, 0x89, 0x0d, 0xbf, 0xe6, 0x42, 0x68, 0x41, 0x99, 0x2d, 0x0f, 0xb0, 0x54, 0xbb, 0x16]

/-- The AES substitution box. -/
def aesS : List Nat := aesS0 ++ aesS1 ++ aesS2 ++ aesS3

/-- The inverse of the AES substitution box. -/
def aesInvS0 : List Nat := [
  0x52, 0x09, 0x6a, 0xd5, 0x30, 0x36, 0xa5, 0x38, 0xbf, 0x40, 0xa3, 0x9e, 0x81, 0xf3, 0xd7, 0xfb,
  0x7c, 0xe3, 0x39, 0x82, 0x9b, 0x2f, 0xff, 0x87, 0x34, 0x8e, 0x43, 0x44, 0xc4, 0xde, 0xe9, 0xcb,
  0x54, 0x7b, 0x94, 0x32, 0xa6, 0xc2, 0x23, 0x3d, 0xee, 0x4c, 0x95, 0x0b, 0x42, 0xfa, 0xc3, 0x4e,
  0x08, 0x2e, 0xa1, 0x66, 0x28, 0xd9, 0x24, 0xb2, 0x76, 0x5b, 0xa2, 0x49, 0x6d, 0x8b, 0xd1, 0x25]

/-- The inverse of the AES substitution box. -/
def aesInvS1 : List Nat := [
  0x72, 0xf8, 0xf6, 0x64, 0x86, 0x68, 0x98, 0x16, 0xd4, 0xa4, 0x5c, 0xcc, 0x5d, 0x65, 0xb6, 0x92,
  0x6c, 0x70, 0x48, 0x50, 0xfd, 0xed, 0xb9, 0xda, 0x5e, 0x15, 0x46, 0x57, 0xa7, 0x8d, 0x9d, 0x84,
  0x90, 0xd8, 0xab, 0x00, 0x8c, 0xbc, 0xd3, 0x0a, 0xf7, 0xe4, 0x58, 0x05, 0xb8, 0xb3, 0x45, 0x06,
  0xd0, 0x2c, 0x1e, 0x8f, 0xca, 0x3f, 0x0f, 0x02, 0xc1, 0xaf, 0xbd, 0x03, 0x01, 0x13, 0x8a, 0x6b]

/-- The inverse of the AES substitution box. -/
def aesInvS2 : List Nat := [
  0x3a, 0x91, 0x11, 0x41, 0x4f, 0x67, 0xdc, 0xea, 0x97, 0xf2, 0xcf, 0xce, 0xf0, 0xb4, 0xe6, 0x73,
  0x96, 0xac, 0x74, 0x22, 0xe7, 0xad, 0x35, 0x85, 0xe2, 0xf9, 0x37, 0xe8, 0x1c, 0x75, 0xdf, 0x6e,
  0x47, 0xf1, 0x1a, 0x71, 0x1d, 0x29, 0xc5, 0x89, 0x6f, 0xb7, 0x62, 0x0e, 0xaa, 0x18, 0xbe, 0x1b,
  0xfc, 0x56, 0x3e, 0x4b, 0xc6, 0xd2, 0x79, 0x20, 0x9a, 0xdb, 0xc0, 0xfe, 0x78, 0xcd, 0x5a, 0xf4]

/-- The inverse of the AES substitution box. -/
def aesInvS3 : List Nat := [
  0x1f, 0xdd, 0xa8, 0x33, 0x88, 0x07, 0xc7, 0x31, 0xb1, 0x12, 0x10, 0x59, 0x27, 0x80, 0xec, 0x5f,
  0x60, 0x51, 0x7f, 0xa9, 0x19, 0xb5, 0x4a, 0x0d, 0x2d, 0xe5, 0x7a, 0x9f, 0x93, 0xc9, 0x9c, 0xef,
  0xa0, 0xe0, 0x3b, 0x4d, 0xae, 0x2a, 0xf5, 0xb0, 0xc8, 0xeb, 0xbb, 0x3c, 0x83, 0x53, 0x99, 0x61,
  0x17, 0x2b, 0x04, 0x7e, 0xba, 0x77, 0xd6, 0x26, 0xe1, 0x69, 0x14, 0x63, 0x55, 0x21, 0x0c, 0x7d]

/-- The inverse of the AES substitution box. -/
def aesInvS : List Nat := aesInvS0 ++ aesInvS1 ++ aesInvS2 ++ aesInvS3

/-- Multiplication by x in GF(2^8). -/
def xtime (a : Nat) : Nat := if a ≥ 128 then ((2 * a) ^^^ 0x11b) % 256 else 2 * a

/-- Multiplication in GF(2^8) by a constant of four bits. -/
def gmul (a k : Nat) : Nat :=
  (if k.testBit 0 then a else 0) ^^^ (if k.testBit 1 then xtime a else 0) ^^^
    (if k.testBit 2 then xtime (xtime a) else 0) ^^^ (if k.testBit 3 then xtime (xtime (xtime a)) else 0)

/-- The expanded key, four-byte words oldest first, grown word by word. -/
def aesExpand : Nat → Nat → List (List Nat) → List (List Nat)
  | 0, _, w => w
  | n + 1, i, w =>
    let t := nth w [] (i - 1)
    let sub := fun l => List.map (fun b => nth aesS 0 b) l
    let t1 :=
      if i % 8 = 0 then
        match sub (t.drop 1 ++ t.take 1) with
        | a :: r => (a ^^^ 2 ^ (i / 8 - 1)) :: r
        | [] => []
      else if i % 8 = 4 then sub t else t
    aesExpand n (i + 1) (w ++ [List.zipWith (· ^^^ ·) (nth w [] (i - 8)) t1])

/-- The key's bytes in words of n. -/
def chunks {α : Type} (n : Nat) : Nat → List α → List (List α)
  | 0, _ => []
  | k + 1, l => l.take n :: chunks n k (l.drop n)

/-- The fifteen round keys of a 32-byte key. -/
def aesKeys (key : List Byte) : List (List Nat) :=
  chunks 16 15 (aesExpand 52 8 (chunks 4 8 (key.map (·.toNat)))).flatten

/-- ShiftRows, or its inverse. -/
def aesShift (inv : Bool) (s : List Nat) : List Nat :=
  (List.range 16).map fun i =>
    nth s 0 ((i + (if inv then 16 - 4 * (i % 4) else 4 * (i % 4))) % 16 / 4 * 4 + i % 4)

/-- MixColumns with a row of four constants. -/
def aesMix (k : List Nat) (s : List Nat) : List Nat :=
  (List.range 16).map fun i =>
    let c := i / 4 * 4
    (List.range 4).foldl (fun a j => a ^^^ gmul (nth s 0 (c + j)) (nth k 0 ((j + 4 - i % 4) % 4))) 0

/-- AES-256 encryption of a block. -/
def aesEnc (keys : List (List Nat)) (blk : List Nat) : List Nat :=
  let x := fun s k => List.zipWith (· ^^^ ·) s k
  let s := (keys.take 14).drop 1 |>.foldl
    (fun s k => x (aesMix [2, 3, 1, 1] (aesShift false (s.map (nth aesS 0)))) k) (x blk (nth keys [] 0))
  x (aesShift false (s.map (nth aesS 0))) (nth keys [] 14)

/-- AES-256 decryption of a block. -/
def aesDec (keys : List (List Nat)) (blk : List Nat) : List Nat :=
  let x := fun s k => List.zipWith (· ^^^ ·) s k
  let s := ((keys.take 14).drop 1).reverse.foldl
    (fun s k => aesMix [14, 11, 13, 9] (x ((aesShift true s).map (nth aesInvS 0)) k)) (x blk (nth keys [] 14))
  x ((aesShift true s).map (nth aesInvS 0)) (nth keys [] 0)

/-- Bytes as numbers. -/
def nats (bs : List Byte) : List Nat := bs.map (·.toNat)

/-- Numbers as bytes. -/
def bytes (ns : List Nat) : List Byte := ns.map (BitVec.ofNat 8)

/-! XTS-AES-256 (R396): a 64-byte key pair, data key then tweak key; data units of 512 bytes -/

/-- Multiplication of a tweak by x, little-endian as IEEE 1619 has it. -/
def xtsDouble (t : Nat) : Nat := if t ≥ 2 ^ 127 then ((2 * t) % 2 ^ 128) ^^^ 0x87 else 2 * t

/-- The tweak of block j of a data unit. -/
def xtsTweak (key2 : List (List Nat)) (unit : Nat) : Nat → Nat
  | 0 => leNat (bytes (aesEnc key2 (nats (toLE 16 unit))))
  | j + 1 => xtsDouble (xtsTweak key2 unit j)

/-- One 16-byte block of a data unit, encrypted or decrypted. -/
def xtsBlock (enc : Bool) (key : List Byte) (unit j : Nat) (blk : List Byte) : List Byte :=
  let k1 := aesKeys (key.take 32)
  let k2 := aesKeys (key.drop 32)
  let t := toLE 16 (xtsTweak k2 unit j)
  let x := List.zipWith (· ^^^ ·) blk t
  let y := bytes (if enc then aesEnc k1 (nats x) else aesDec k1 (nats x))
  List.zipWith (· ^^^ ·) y t

/-! AES-256-GCM (R394, R399) -/

/-- Multiplication in GF(2^128) as GCM has it: x's bits most significant first. -/
def ghashMul (x y : Nat) : Nat → Nat → Nat
  | 0, z => z
  | n + 1, z =>
    let z' := if x.testBit n then z ^^^ y else z
    let y' := if y.testBit 0 then (y >>> 1) ^^^ (0xE1 <<< 120) else y >>> 1
    ghashMul x y' n z'

/-- GHASH over whole blocks. -/
def ghash (h : Nat) : Nat → List Byte → Nat → Nat
  | 0, _, y => y
  | n + 1, bs, y =>
    let b := bs.take 16
    let v := beNat (b ++ List.replicate (16 - b.length) 0)
    ghash h n (bs.drop 16) (ghashMul (y ^^^ v) h 128 0)

/-- The GCM key stream applied to a list of bytes, from a counter on. -/
def gcmCtr (k : List (List Nat)) (iv : List Byte) : Nat → Nat → List Byte → List Byte
  | 0, _, _ => []
  | n + 1, c, bs =>
    List.zipWith (· ^^^ ·) (bs.take 16) (bytes (aesEnc k (nats (iv ++ toBE 4 c))))
      ++ gcmCtr k iv n (c + 1) (bs.drop 16)

/-- The GCM tag of a ciphertext. -/
def gcmTag (key iv aad ct : List Byte) : List Byte :=
  let k := aesKeys key
  let h := beNat (bytes (aesEnc k (List.replicate 16 0)))
  let blocks := fun (l : List Byte) => (l.length + 15) / 16
  let y := ghash h (blocks aad) aad 0
  let y := ghash h (blocks ct) ct y
  let y := ghash h 1 (toBE 8 (8 * aad.length) ++ toBE 8 (8 * ct.length)) y
  List.zipWith (· ^^^ ·) (toBE 16 y) (bytes (aesEnc k (nats (iv ++ toBE 4 1))))

/-- GCM encryption: the ciphertext followed by its 16-byte tag. -/
def gcmSeal (key iv aad pt : List Byte) : List Byte :=
  let ct := gcmCtr (aesKeys key) iv ((pt.length + 15) / 16) 2 pt
  ct ++ gcmTag key iv aad ct

/-- GCM decryption of a ciphertext and tag; none where the tag fails. -/
def gcmOpen (key iv aad ct tag : List Byte) : Option (List Byte) :=
  if gcmTag key iv aad ct = tag then some (gcmCtr (aesKeys key) iv ((ct.length + 15) / 16) 2 ct) else none

/-! brainpoolP384r1 -/

/-- The field prime. -/
def ecP : Nat := 0x8cb91e82a3386d280f5d6f7e50e641df152f7109ed5456b412b1da197fb71123acd3a729901d1a71874700133107ec53
/-- The coefficient a. -/
def ecA : Nat := 0x7bc382c63d8c150c3c72080ace05afa0c2bea28e4fb22787139165efba91f90f8aa5814a503ad4eb04a8c7dd22ce2826
/-- The coefficient b. -/
def ecB : Nat := 0x04a8c7dd22ce28268b39b55416f0447c2fb77de107dcd2a62e880ea53eeb62d57cb4390295dbc9943ab78696fa504c11
/-- The order of the base point. -/
def ecN : Nat := 0x8cb91e82a3386d280f5d6f7e50e641df152f7109ed5456b31f166e6cac0425a7cf3ab6af6b7fc3103b883202e9046565
/-- The base point. -/
def ecG : Nat × Nat :=
  (0x1d1c64f068cf45ffa2a63a81b7c13f6b8847a3e77ef14fe3db7fcafe0cbd10e8e826e03436d646aaef87b2e247d4af1e,
   0x8abe1d7520f9c2a45cb1eb8e95cfd55262b70b29feec5864e19c054ff99129280e4646217791811142820341263c5315)

/-- x ^ e modulo m by squaring, over the low n bits of e. -/
def powMod (m : Nat) : Nat → Nat → Nat → Nat → Nat
  | 0, _, _, r => r
  | n + 1, x, e, r => powMod m n (x * x % m) (e / 2) (if e % 2 = 1 then r * x % m else r)

/-- The inverse modulo a 384-bit prime. -/
def invMod (m x : Nat) : Nat := powMod m 384 (x % m) (m - 2) 1

/-- Addition of points; none is the point at infinity. -/
def ecAdd (u v : Option (Nat × Nat)) : Option (Nat × Nat) :=
  match u, v with
  | none, _ => v
  | _, none => u
  | some (x1, y1), some (x2, y2) =>
    if x1 = x2 ∧ (y1 + y2) % ecP = 0 then none
    else
      let l := if x1 = x2 then (3 * x1 * x1 + ecA) * invMod ecP (2 * y1) % ecP
        else (y2 + ecP - y1) * invMod ecP (x2 + ecP - x1) % ecP
      let x3 := (l * l + 2 * ecP - x1 - x2) % ecP
      some (x3, (l * (x1 + ecP - x3) + ecP - y1) % ecP)

/-- The multiple of a point, over the low n bits of the factor. -/
def ecMul : Nat → Nat → Option (Nat × Nat) → Option (Nat × Nat) → Option (Nat × Nat)
  | 0, _, _, r => r
  | n + 1, k, u, r => ecMul n (k / 2) (ecAdd u u) (if k % 2 = 1 then ecAdd r u else r)

/-- The 97-byte uncompressed encoding of a point (R381). -/
def ecEncode (u : Option (Nat × Nat)) : List Byte :=
  match u with
  | none => [0]
  | some (x, y) => 0x04 :: (toBE 48 x ++ toBE 48 y)

/-- The point a 97-byte encoding names, where it lies on the curve. -/
def ecDecode (bs : List Byte) : Option (Nat × Nat) :=
  let x := beNat ((bs.drop 1).take 48)
  let y := beNat ((bs.drop 49).take 48)
  if bs.length = 97 ∧ nth bs 0 0 = 0x04 ∧ x < ecP ∧ y < ecP ∧
      (y * y) % ecP = (x * x * x + ecA * x + ecB) % ecP then some (x, y) else none

/-- The public key of a private key. -/
def ecPublic (d : Nat) : List Byte := ecEncode (ecMul 384 d (some ecG) none)

/-- The 48-byte x-coordinate of the shared point (R393, R399). -/
def ecdh (d : Nat) (pub : List Byte) : List Byte :=
  match ecMul 384 d (ecDecode pub) none with
  | some (x, _) => toBE 48 x
  | none => []

/-- An ECDSA-SHA-384 signature by a private key, with its nonce k: r and s, 48 bytes each (R382). -/
def ecdsaSign (d k : Nat) (msg : List Byte) : List Byte :=
  let e := beNat (sha384 msg)
  let r := match ecMul 384 k (some ecG) none with
    | some (x, _) => x % ecN
    | none => 0
  toBE 48 r ++ toBE 48 (invMod ecN k * (e + r * d) % ecN)

/-- An ECDSA-SHA-384 signature verifies under a public key. -/
def ecdsaVerify (pub msg sig : List Byte) : Bool :=
  match ecDecode pub with
  | none => false
  | some q =>
    let r := beNat (sig.take 48)
    let t := beNat (sig.drop 48)
    let e := beNat (sha384 msg)
    let w := invMod ecN t
    match ecAdd (ecMul 384 (e * w % ecN) (some ecG) none) (ecMul 384 (r * w % ecN) (some q) none) with
    | none => false
    | some (x, _) => decide (0 < r ∧ r < ecN ∧ 0 < t ∧ t < ecN ∧ x % ecN = r)

end Sys2Proof.Machine
end

