-- ==== Sys2Proof/Config.lean ====
section
/-! DEFINITION. What the spec leaves to the individual part or leaves open: constants without a body, so
that nothing can be proved of their values. -/
namespace Sys2Proof

/-- The n-th value the spec leaves open (log 2, DESIGN CHOICE): random draws, and results the spec does not state. -/
opaque Config.freeWord : Nat → BitVec 64

/-- The 256-bit secret of the fabric die's PUF (R381). -/
opaque Config.pufSecret : BitVec 256

/-- The production key, the developer root key and the debug key of the boot ROM (R383): 97 bytes each. -/
opaque Config.productionKey : List Byte
opaque Config.developerRootKey : List Byte
opaque Config.debugKey : List Byte

/-- Word k of the lot name of die d: 0 east, 1 west, 2 fabric (R380, Table 16.9). -/
opaque Config.dieLot : Nat → Nat → W32

/-- The wafer number and die position of die d, as DEV_POSd (R380, Table 16.9). -/
opaque Config.diePos : Nat → W32

/-- What byte a of the CXL tier's memory holds before anything is written there (R239; log 5, DESIGN CHOICE). -/
opaque Config.cxlByte : Nat → Byte

end Sys2Proof
end

