-- ==== Sys2Proof/Machine/Blocks.lean ====
section
/-! DEFINITION. The page map of configuration space (R23, R28, Table 2.3). -/
namespace Sys2Proof.Machine

/-- The kinds of block of Table 2.3. -/
inductive Blk where
  | dev | pwr | clk | wst | sec | dbg | flt | mgt | ctp | sch | lnt | scb | str | rpl | par | cor
  | drv | cnv | sri | ldg | gmc | cxl | tir | rte | trp | spn | tol | col | rmo | gwy | ope | ckp
  deriving DecidableEq, Repr

/-- Who may reach a page (R28). -/
inductive OwnerKind where
  | device | single | shared
  deriving DecidableEq, Repr

/-- One row of Table 2.3. -/
structure PageRow where
  first : Nat
  count : Nat
  blk : Blk
  owner : OwnerKind
  sm : Bool
  quar : Bool
  deriving DecidableEq, Repr

/-- Table 2.3. -/
def pageMap : List PageRow := [
  ⟨0x000, 1, .dev, .device, false, false⟩,
  ⟨0x001, 1, .pwr, .device, false, false⟩,
  ⟨0x002, 1, .clk, .device, false, false⟩,
  ⟨0x003, 1, .wst, .device, false, false⟩,
  ⟨0x004, 1, .sec, .device, false, false⟩,
  ⟨0x005, 1, .dbg, .device, true, false⟩,
  ⟨0x006, 1, .flt, .device, false, false⟩,
  ⟨0x007, 1, .mgt, .device, false, false⟩,
  ⟨0x008, 4, .ctp, .device, true, false⟩,
  ⟨0x010, 1, .sch, .shared, true, false⟩,
  ⟨0x011, 1, .lnt, .shared, true, false⟩,
  ⟨0x012, 1, .scb, .shared, true, false⟩,
  ⟨0x018, 1, .str, .shared, true, false⟩,
  ⟨0x019, 1, .rpl, .shared, true, false⟩,
  ⟨0x020, 8, .par, .single, true, false⟩,
  ⟨0x040, 64, .cor, .single, true, true⟩,
  ⟨0x080, 8, .drv, .single, true, true⟩,
  ⟨0x088, 8, .cnv, .single, true, true⟩,
  ⟨0x090, 1, .sri, .shared, true, false⟩,
  ⟨0x091, 1, .ldg, .shared, true, false⟩,
  ⟨0x0A0, 32, .gmc, .shared, true, true⟩,
  ⟨0x0C0, 2, .cxl, .shared, true, true⟩,
  ⟨0x0C2, 1, .tir, .shared, true, false⟩,
  ⟨0x0D0, 1, .rte, .device, true, false⟩,
  ⟨0x0D1, 8, .trp, .device, true, true⟩,
  ⟨0x0D9, 2, .spn, .device, true, true⟩,
  ⟨0x0DB, 1, .tol, .shared, true, false⟩,
  ⟨0x0DC, 1, .col, .shared, true, false⟩,
  ⟨0x0DD, 1, .rmo, .shared, true, false⟩,
  ⟨0x0DE, 1, .gwy, .shared, true, false⟩,
  ⟨0x0E0, 12, .ope, .device, true, true⟩,
  ⟨0x0F0, 1, .ckp, .shared, true, false⟩]

/-- The row of a page, when the page is mapped. -/
def rowOf (page : Nat) : Option PageRow :=
  pageMap.find? (fun r => decide (r.first ≤ page ∧ page < r.first + r.count))

/-- Every mapped page. -/
def allPages : List Nat := pageMap.flatMap (fun r => (List.range r.count).map (r.first + ·))

/-- The kind of block of a page; DEV for an unmapped one (only asked of mapped pages). -/
def blkOf (page : Nat) : Blk := match rowOf page with | some r => r.blk | none => .dev

/-- The instance number of a page within its block (R28). -/
def instOf (page : Nat) : Nat := match rowOf page with | some r => page - r.first | none => 0

/-- The page belongs to the block state machine of Table 2.10. -/
def hasSM (page : Nat) : Bool := match rowOf page with | some r => r.sm | none => false

/-- The page can be QUARANTINED. -/
def hasQuar (page : Nat) : Bool := match rowOf page with | some r => r.quar | none => false

/-- The owner kind of a page. -/
def ownerKind (page : Nat) : OwnerKind := match rowOf page with | some r => r.owner | none => .device

/-! Pages of the blocks -/
def Pg.dev : Nat := 0x000
def Pg.pwr : Nat := 0x001
def Pg.clk : Nat := 0x002
def Pg.wst : Nat := 0x003
def Pg.sec : Nat := 0x004
def Pg.dbg : Nat := 0x005
def Pg.flt : Nat := 0x006
def Pg.mgt : Nat := 0x007
def Pg.ctp (n : Nat) : Nat := 0x008 + n
def Pg.sch : Nat := 0x010
def Pg.lnt : Nat := 0x011
def Pg.scb : Nat := 0x012
def Pg.str : Nat := 0x018
def Pg.rpl : Nat := 0x019
def Pg.par (p : Nat) : Nat := 0x020 + p
def Pg.cor (c : Nat) : Nat := 0x040 + c
def Pg.drv (u : Nat) : Nat := 0x080 + u
def Pg.cnv (u : Nat) : Nat := 0x088 + u
def Pg.sri : Nat := 0x090
def Pg.ldg : Nat := 0x091
def Pg.gmc (g : Nat) : Nat := 0x0A0 + g
def Pg.cxl (n : Nat) : Nat := 0x0C0 + n
def Pg.tir : Nat := 0x0C2
def Pg.rte : Nat := 0x0D0
def Pg.trp (n : Nat) : Nat := 0x0D1 + n
def Pg.spn (n : Nat) : Nat := 0x0D9 + n
def Pg.tol : Nat := 0x0DB
def Pg.col : Nat := 0x0DC
def Pg.rmo : Nat := 0x0DD
def Pg.gwy : Nat := 0x0DE
def Pg.ope (n : Nat) : Nat := 0x0E0 + n
def Pg.ckp : Nat := 0x0F0

/-- The largest snapshot counter count each kind of block names (PG_CAP.SNAP_LEN). -/
def snapLen : Blk → Nat
  | .wst => 3 | .str => 2 | .rpl => 3 | .sch => 4 | .lnt => 1 | .scb => 2 | .drv => 11 | .cnv => 8
  | .sri => 9 | .ldg => 4 | .cor => 15 | .gmc => 7 | .cxl => 5 | .tir => 7 | .rte => 10 | .trp => 8
  | .spn => 8 | .rmo => 7 | .gwy => 6 | .tol => 6 | .col => 9 | .ope => 6 | .ctp => 8 | .flt => 9
  | .ckp => 7 | .sec => 3 | .dbg => 3 | .pwr => 4 | .clk => 2 | .dev => 0 | .mgt => 0 | .par => 0

/-- PG_CTRL.HALT is implemented (the chapters of DRV, CNV and COR say so). -/
def hasHalt : Blk → Bool
  | .drv => true | .cnv => true | .cor => true | _ => false

end Sys2Proof.Machine
end

