-- ==== Sys2Proof/Machine/RegNames.lean ====
section
/-! DEFINITION. The offset of every register of every register table of the spec, by name: one
definition for each row of Tables 3.2, 3.8, 3.9, 4.4, 4.5, 4.8, 5.6, 6.7, 6.9, 6.10, 7.7, 8.5, 9.10,
10.8 to 10.10, 11.5 to 11.7, 12.6, 12.7, 13.5, 13.6, 14.8, 14.9, 15.7, 15.8, 16.8 to 16.12, 17.5 and
17.6. A row for several registers takes its indices in the order the row writes them. -/
namespace Sys2Proof.Machine

/-- DEV_DEVID (Table 16.9) -/
def Reg.devDevid (i0 : Nat) : Nat := 0x100 + 0x4 * i0
/-- DEV_STAT (Table 16.9) -/
def Reg.devStat : Nat := 0x110
/-- DEV_LOTd (Table 16.9) -/
def Reg.devLotd (i0 : Nat) (i1 : Nat) : Nat := 0x120 + 0x10 * i0 + 0x4 * i1
/-- DEV_POSd (Table 16.9) -/
def Reg.devPosd (i0 : Nat) : Nat := 0x12c + 0x10 * i0
/-- PWR_CMD (Table 17.5) -/
def Reg.pwrCmd : Nat := 0x100
/-- PWR_STAT (Table 17.5) -/
def Reg.pwrStat : Nat := 0x104
/-- PWR_BOOT (Table 17.5) -/
def Reg.pwrBoot : Nat := 0x108
/-- PWR_VIN (Table 17.5) -/
def Reg.pwrVin : Nat := 0x10c
/-- PWR_POWER (Table 17.5) -/
def Reg.pwrPower : Nat := 0x110
/-- PWR_LIMIT (Table 17.5) -/
def Reg.pwrLimit : Nat := 0x114
/-- PWR_TEMP (Table 17.5) -/
def Reg.pwrTemp : Nat := 0x118
/-- PWR_THERM (Table 17.5) -/
def Reg.pwrTherm : Nat := 0x11c
/-- PWR_WAKE (Table 17.5) -/
def Reg.pwrWake : Nat := 0x120
/-- PWR_CNT_PEAK (Table 17.5) -/
def Reg.pwrCntPeak : Nat := 0x140
/-- PWR_CNT_PFW (Table 17.5) -/
def Reg.pwrCntPfw : Nat := 0x144
/-- PWR_CNT_UV (Table 17.5) -/
def Reg.pwrCntUv : Nat := 0x148
/-- PWR_CNT_REFUSED (Table 17.5) -/
def Reg.pwrCntRefused : Nat := 0x14c
/-- CLK_LOCK (Table 17.6) -/
def Reg.clkLock : Nat := 0x100
/-- CLK_CORE (Table 17.6) -/
def Reg.clkCore : Nat := 0x104
/-- CLK_CNT_STEP (Table 17.6) -/
def Reg.clkCntStep : Nat := 0x140
/-- CLK_CNT_UNLOCK (Table 17.6) -/
def Reg.clkCntUnlock : Nat := 0x144
/-- WST_NOW_LO (Table 3.2) -/
def Reg.wstNowLo : Nat := 0x100
/-- WST_NOW_HI (Table 3.2) -/
def Reg.wstNowHi : Nat := 0x104
/-- WST_CTRL (Table 3.2) -/
def Reg.wstCtrl : Nat := 0x108
/-- WST_STAT (Table 3.2) -/
def Reg.wstStat : Nat := 0x10c
/-- WST_OFFSET (Table 3.2) -/
def Reg.wstOffset : Nat := 0x110
/-- WST_ADJ (Table 3.2) -/
def Reg.wstAdj : Nat := 0x114
/-- WST_GAIN (Table 3.2) -/
def Reg.wstGain : Nat := 0x118
/-- WST_LOCK (Table 3.2) -/
def Reg.wstLock : Nat := 0x11c
/-- WST_REF_DLY (Table 3.2) -/
def Reg.wstRefDly : Nat := 0x120
/-- WST_PDLY (Table 3.2) -/
def Reg.wstPdly (i0 : Nat) : Nat := 0x130 + 0x4 * i0
/-- WST_POFF (Table 3.2) -/
def Reg.wstPoff (i0 : Nat) : Nat := 0x150 + 0x4 * i0
/-- WST_NBR (Table 3.2) -/
def Reg.wstNbr : Nat := 0x170
/-- WST_PASYM (Table 3.2) -/
def Reg.wstPasym (i0 : Nat) : Nat := 0x180 + 0x4 * i0
/-- WST_CNT_REF (Table 3.2) -/
def Reg.wstCntRef : Nat := 0x1a0
/-- WST_CNT_HOLD (Table 3.2) -/
def Reg.wstCntHold : Nat := 0x1a4
/-- WST_CNT_STEP (Table 3.2) -/
def Reg.wstCntStep : Nat := 0x1a8
/-- SEC_STAT (Table 16.10) -/
def Reg.secStat : Nat := 0x100
/-- SEC_MGMT (Table 16.10) -/
def Reg.secMgmt : Nat := 0x104
/-- SEC_BADDR_LO (Table 16.10) -/
def Reg.secBaddrLo : Nat := 0x108
/-- SEC_BADDR_HI (Table 16.10) -/
def Reg.secBaddrHi : Nat := 0x10c
/-- SEC_BCMD (Table 16.10) -/
def Reg.secBcmd : Nat := 0x110
/-- SEC_BSTAT (Table 16.10) -/
def Reg.secBstat : Nat := 0x114
/-- SEC_FWMEAS (Table 16.10) -/
def Reg.secFwmeas (i0 : Nat) : Nat := 0x140 + 0x4 * i0
/-- SEC_MGTMEAS (Table 16.10) -/
def Reg.secMgtmeas (i0 : Nat) : Nat := 0x170 + 0x4 * i0
/-- SEC_CNT_AUTH (Table 16.10) -/
def Reg.secCntAuth : Nat := 0x1a0
/-- SEC_CNT_VC7 (Table 16.10) -/
def Reg.secCntVc7 : Nat := 0x1a4
/-- SEC_CNT_BFAIL (Table 16.10) -/
def Reg.secCntBfail : Nat := 0x1a8
/-- DBG_GRANT (Table 16.12) -/
def Reg.dbgGrant : Nat := 0x100
/-- DBG_EXP_LO (Table 16.12) -/
def Reg.dbgExpLo : Nat := 0x104
/-- DBG_EXP_HI (Table 16.12) -/
def Reg.dbgExpHi : Nat := 0x108
/-- DBG_NONCE (Table 16.12) -/
def Reg.dbgNonce (i0 : Nat) : Nat := 0x110 + 0x4 * i0
/-- DBG_TOK_LO (Table 16.12) -/
def Reg.dbgTokLo : Nat := 0x130
/-- DBG_TOK_HI (Table 16.12) -/
def Reg.dbgTokHi : Nat := 0x134
/-- DBG_CMD (Table 16.12) -/
def Reg.dbgCmd : Nat := 0x138
/-- DBG_TSTAT (Table 16.12) -/
def Reg.dbgTstat : Nat := 0x13c
/-- DBG_TRING_LO (Table 16.12) -/
def Reg.dbgTringLo : Nat := 0x140
/-- DBG_TRING_HI (Table 16.12) -/
def Reg.dbgTringHi : Nat := 0x144
/-- DBG_TSIZE (Table 16.12) -/
def Reg.dbgTsize : Nat := 0x148
/-- DBG_TWR (Table 16.12) -/
def Reg.dbgTwr : Nat := 0x14c
/-- DBG_TRD (Table 16.12) -/
def Reg.dbgTrd : Nat := 0x150
/-- DBG_AADDR_LO (Table 16.12) -/
def Reg.dbgAaddrLo : Nat := 0x154
/-- DBG_AADDR_HI (Table 16.12) -/
def Reg.dbgAaddrHi : Nat := 0x158
/-- DBG_ADATA (Table 16.12) -/
def Reg.dbgAdata : Nat := 0x15c
/-- DBG_ASTAT (Table 16.12) -/
def Reg.dbgAstat : Nat := 0x160
/-- DBG_CNT_TRACE (Table 16.12) -/
def Reg.dbgCntTrace : Nat := 0x170
/-- DBG_CNT_TDROP (Table 16.12) -/
def Reg.dbgCntTdrop : Nat := 0x174
/-- DBG_CNT_REFUSED (Table 16.12) -/
def Reg.dbgCntRefused : Nat := 0x178
/-- FLT_CTRL (Table 15.7) -/
def Reg.fltCtrl : Nat := 0x100
/-- FLT_PERIOD (Table 15.7) -/
def Reg.fltPeriod : Nat := 0x104
/-- FLT_TREE (Table 15.7) -/
def Reg.fltTree : Nat := 0x108
/-- FLT_FIRST (Table 15.7) -/
def Reg.fltFirst : Nat := 0x10c
/-- FLT_SSEL (Table 15.7) -/
def Reg.fltSsel : Nat := 0x110
/-- FLT_SENT0 (Table 15.7) -/
def Reg.fltSent0 : Nat := 0x114
/-- FLT_SENT1 (Table 15.7) -/
def Reg.fltSent1 : Nat := 0x118
/-- FLT_CLR (Table 15.7) -/
def Reg.fltClr : Nat := 0x11c
/-- FLT_AGG_STAT (Table 15.7) -/
def Reg.fltAggStat : Nat := 0x120
/-- FLT_AGG_ROUND (Table 15.7) -/
def Reg.fltAggRound : Nat := 0x124
/-- FLT_AGG_MEMBERS (Table 15.7) -/
def Reg.fltAggMembers : Nat := 0x128
/-- FLT_ASEL (Table 15.7) -/
def Reg.fltAsel : Nat := 0x12c
/-- FLT_AGG_PAGES (Table 15.7) -/
def Reg.fltAggPages (i0 : Nat) : Nat := 0x130 + 0x4 * i0
/-- FLT_AGG_MAP (Table 15.7) -/
def Reg.fltAggMap (i0 : Nat) : Nat := 0x140 + 0x4 * i0
/-- FLT_CNT_ROUND (Table 15.7) -/
def Reg.fltCntRound : Nat := 0x1c0
/-- FLT_CNT_COAL (Table 15.7) -/
def Reg.fltCntCoal : Nat := 0x1c4
/-- FLT_CNT_SUSPOVF (Table 15.7) -/
def Reg.fltCntSuspovf : Nat := 0x1c8
/-- FLT_CNT_OUTSIDE (Table 15.7) -/
def Reg.fltCntOutside : Nat := 0x1cc
/-- FLT_CNT_PARTIAL (Table 15.7) -/
def Reg.fltCntPartial : Nat := 0x1d0
/-- FLT_CNT_ABORT_TX (Table 15.7) -/
def Reg.fltCntAbortTx : Nat := 0x1d4
/-- FLT_CNT_ABORT_RX (Table 15.7) -/
def Reg.fltCntAbortRx : Nat := 0x1d8
/-- FLT_CNT_RCMP (Table 15.7) -/
def Reg.fltCntRcmp : Nat := 0x1dc
/-- FLT_CNT_ABANDON (Table 15.7) -/
def Reg.fltCntAbandon : Nat := 0x1e0
/-- FLT_RCMPp (Table 15.7) -/
def Reg.fltRcmpp (i0 : Nat) : Nat := 0x200 + 0x20 * i0
/-- FLT_RLOGp_LO (Table 15.7) -/
def Reg.fltRlogpLo (i0 : Nat) : Nat := 0x204 + 0x20 * i0
/-- FLT_RLOGp_HI (Table 15.7) -/
def Reg.fltRlogpHi (i0 : Nat) : Nat := 0x208 + 0x20 * i0
/-- FLT_RLOGp_CNT (Table 15.7) -/
def Reg.fltRlogpCnt (i0 : Nat) : Nat := 0x20c + 0x20 * i0
/-- FLT_RSTATp (Table 15.7) -/
def Reg.fltRstatp (i0 : Nat) : Nat := 0x210 + 0x20 * i0
/-- MGT_STAT (Table 16.11) -/
def Reg.mgtStat : Nat := 0x100
/-- MGT_CMD (Table 16.11) -/
def Reg.mgtCmd : Nat := 0x104
/-- MGT_PAUSE (Table 16.11) -/
def Reg.mgtPause : Nat := 0x108
/-- CTP_CTRL (Table 14.9) -/
def Reg.ctpCtrl : Nat := 0x100
/-- CTP_STAT (Table 14.9) -/
def Reg.ctpStat : Nat := 0x104
/-- CTP_HB (Table 14.9) -/
def Reg.ctpHb : Nat := 0x108
/-- CTP_NTMO (Table 14.9) -/
def Reg.ctpNtmo : Nat := 0x10c
/-- CTP_MSEQ (Table 14.9) -/
def Reg.ctpMseq : Nat := 0x110
/-- CTP_LOSS (Table 14.9) -/
def Reg.ctpLoss : Nat := 0x114
/-- CTP_CNT_RXMSG (Table 14.9) -/
def Reg.ctpCntRxmsg : Nat := 0x140
/-- CTP_CNT_TXMSG (Table 14.9) -/
def Reg.ctpCntTxmsg : Nat := 0x144
/-- CTP_CNT_RETRY (Table 14.9) -/
def Reg.ctpCntRetry : Nat := 0x148
/-- CTP_CNT_CRCERR (Table 14.9) -/
def Reg.ctpCntCrcerr : Nat := 0x14c
/-- CTP_CNT_SEQ (Table 14.9) -/
def Reg.ctpCntSeq : Nat := 0x150
/-- CTP_CNT_DUP (Table 14.9) -/
def Reg.ctpCntDup : Nat := 0x154
/-- CTP_CNT_EVDROP (Table 14.9) -/
def Reg.ctpCntEvdrop : Nat := 0x158
/-- CTP_CNT_LOSS (Table 14.9) -/
def Reg.ctpCntLoss : Nat := 0x15c
/-- SCH_CTRL (Table 4.4) -/
def Reg.schCtrl : Nat := 0x100
/-- SCH_STAT (Table 4.4) -/
def Reg.schStat : Nat := 0x104
/-- SCH_PRST (Table 4.4) -/
def Reg.schPrst : Nat := 0x108
/-- SCH_CNT_ISSUE (Table 4.4) -/
def Reg.schCntIssue : Nat := 0x10c
/-- SCH_CNT_SKIP (Table 4.4) -/
def Reg.schCntSkip : Nat := 0x110
/-- SCH_CNT_DEFER (Table 4.4) -/
def Reg.schCntDefer : Nat := 0x114
/-- SCH_CNT_LSKIP (Table 4.4) -/
def Reg.schCntLskip : Nat := 0x118
/-- SCH_GTABp_LO (Table 4.4) -/
def Reg.schGtabpLo (i0 : Nat) : Nat := 0x200 + 0x20 * i0
/-- SCH_GTABp_HI (Table 4.4) -/
def Reg.schGtabpHi (i0 : Nat) : Nat := 0x204 + 0x20 * i0
/-- SCH_GTABp_CNT (Table 4.4) -/
def Reg.schGtabpCnt (i0 : Nat) : Nat := 0x208 + 0x20 * i0
/-- SCH_LASTp_STEP (Table 4.4) -/
def Reg.schLastpStep (i0 : Nat) : Nat := 0x20c + 0x20 * i0
/-- SCH_LASTp_DONE_LO (Table 4.4) -/
def Reg.schLastpDoneLo (i0 : Nat) : Nat := 0x210 + 0x20 * i0
/-- SCH_LASTp_DONE_HI (Table 4.4) -/
def Reg.schLastpDoneHi (i0 : Nat) : Nat := 0x214 + 0x20 * i0
/-- SCH_LASTp_STAT (Table 4.4) -/
def Reg.schLastpStat (i0 : Nat) : Nat := 0x218 + 0x20 * i0
/-- SCH_CTXp (Table 4.4) -/
def Reg.schCtxp (i0 : Nat) (i1 : Nat) : Nat := 0x400 + 0x80 * i0 + 0x4 * i1
/-- LNT_SEL (Table 4.5) -/
def Reg.lntSel : Nat := 0x100
/-- LNT_E (Table 4.5) -/
def Reg.lntE (i0 : Nat) : Nat := 0x110 + 0x4 * i0
/-- LNT_WSTAT (Table 4.5) -/
def Reg.lntWstat : Nat := 0x120
/-- LNT_PEND (Table 4.5) -/
def Reg.lntPend : Nat := 0x124
/-- LNT_NEXT_LO (Table 4.5) -/
def Reg.lntNextLo : Nat := 0x128
/-- LNT_NEXT_HI (Table 4.5) -/
def Reg.lntNextHi : Nat := 0x12c
/-- LNT_CNT_REF (Table 4.5) -/
def Reg.lntCntRef : Nat := 0x130
/-- SCB_SEL (Table 4.8) -/
def Reg.scbSel : Nat := 0x100
/-- SCB_VAL (Table 4.8) -/
def Reg.scbVal : Nat := 0x104
/-- SCB_CNT_STALE (Table 4.8) -/
def Reg.scbCntStale : Nat := 0x108
/-- SCB_CNT_OVF (Table 4.8) -/
def Reg.scbCntOvf : Nat := 0x10c
/-- SCB_RANGEp (Table 4.8) -/
def Reg.scbRangep (i0 : Nat) : Nat := 0x140 + 0x4 * i0
/-- STR_CMD (Table 3.8) -/
def Reg.strCmd : Nat := 0x100
/-- STR_DSEL (Table 3.8) -/
def Reg.strDsel : Nat := 0x104
/-- STR_ACTIVE (Table 3.8) -/
def Reg.strActive : Nat := 0x108
/-- STR_CNT_NOSTREAM (Table 3.8) -/
def Reg.strCntNostream : Nat := 0x10c
/-- STR_CNT_FRAG (Table 3.8) -/
def Reg.strCntFrag : Nat := 0x110
/-- STR_EVHEADp (Table 3.8) -/
def Reg.strEvheadp (i0 : Nat) : Nat := 0x140 + 0x8 * i0
/-- STR_EVPOPp (Table 3.8) -/
def Reg.strEvpopp (i0 : Nat) : Nat := 0x144 + 0x8 * i0
/-- STR_BINDp_LO (Table 3.8) -/
def Reg.strBindpLo (i0 : Nat) : Nat := 0x180 + 0xc * i0
/-- STR_BINDp_HI (Table 3.8) -/
def Reg.strBindpHi (i0 : Nat) : Nat := 0x184 + 0xc * i0
/-- STR_BINDp_SIG (Table 3.8) -/
def Reg.strBindpSig (i0 : Nat) : Nat := 0x188 + 0xc * i0
/-- STR_DWIN (Table 3.8) -/
def Reg.strDwin (i0 : Nat) : Nat := 0x200 + 0x4 * i0
/-- RPL_CNT_REC (Table 3.9) -/
def Reg.rplCntRec : Nat := 0x100
/-- RPL_CNT_FULL (Table 3.9) -/
def Reg.rplCntFull : Nat := 0x104
/-- RPL_CNT_CRC (Table 3.9) -/
def Reg.rplCntCrc : Nat := 0x108
/-- RPL_STAT (Table 3.9) -/
def Reg.rplStat : Nat := 0x10c
/-- PAR_CFG (Table 16.8) -/
def Reg.parCfg : Nat := 0x100
/-- PAR_CORES_LO (Table 16.8) -/
def Reg.parCoresLo : Nat := 0x104
/-- PAR_CORES_HI (Table 16.8) -/
def Reg.parCoresHi : Nat := 0x108
/-- PAR_GDR (Table 16.8) -/
def Reg.parGdr : Nat := 0x10c
/-- PAR_CXL (Table 16.8) -/
def Reg.parCxl : Nat := 0x110
/-- PAR_STR (Table 16.8) -/
def Reg.parStr : Nat := 0x114
/-- PAR_SCB (Table 16.8) -/
def Reg.parScb : Nat := 0x118
/-- PAR_SRI (Table 16.8) -/
def Reg.parSri : Nat := 0x11c
/-- PAR_STAT (Table 16.8) -/
def Reg.parStat : Nat := 0x120
/-- PAR_CMD (Table 16.8) -/
def Reg.parCmd : Nat := 0x124
/-- COR_RM_CTRL (Table 7.7) -/
def Reg.corRmCtrl : Nat := 0x300
/-- COR_RM_TH01 (Table 7.7) -/
def Reg.corRmTh01 : Nat := 0x304
/-- COR_RM_TH23 (Table 7.7) -/
def Reg.corRmTh23 : Nat := 0x308
/-- COR_RM_TH45 (Table 7.7) -/
def Reg.corRmTh45 : Nat := 0x30c
/-- COR_RM_LAST (Table 7.7) -/
def Reg.corRmLast : Nat := 0x310
/-- COR_RM_CNT (Table 7.7) -/
def Reg.corRmCnt (i0 : Nat) : Nat := 0x320 + 0x4 * i0
/-- COR_RM_TILES (Table 7.7) -/
def Reg.corRmTiles : Nat := 0x338
/-- COR_CTRL (Table 8.5) -/
def Reg.corCtrl : Nat := 0x100
/-- COR_STAT (Table 8.5) -/
def Reg.corStat : Nat := 0x104
/-- COR_WIDTH (Table 8.5) -/
def Reg.corWidth : Nat := 0x108
/-- COR_COLMAP (Table 8.5) -/
def Reg.corColmap (i0 : Nat) : Nat := 0x110 + 0x4 * i0
/-- COR_BIST (Table 8.5) -/
def Reg.corBist : Nat := 0x120
/-- COR_RES_LAST (Table 8.5) -/
def Reg.corResLast : Nat := 0x124
/-- COR_CNT_TASKS (Table 8.5) -/
def Reg.corCntTasks : Nat := 0x140
/-- COR_CNT_PASSES (Table 8.5) -/
def Reg.corCntPasses : Nat := 0x144
/-- COR_CNT_RCHK (Table 8.5) -/
def Reg.corCntRchk : Nat := 0x148
/-- COR_CNT_RMISS (Table 8.5) -/
def Reg.corCntRmiss : Nat := 0x14c
/-- COR_CNT_RECOMP (Table 8.5) -/
def Reg.corCntRecomp : Nat := 0x150
/-- COR_CNT_REISSUE (Table 8.5) -/
def Reg.corCntReissue : Nat := 0x154
/-- COR_CNT_GATED (Table 8.5) -/
def Reg.corCntGated : Nat := 0x158
/-- COR_CNT_PAR (Table 8.5) -/
def Reg.corCntPar : Nat := 0x15c
/-- COR_SP_CTRL (Table 9.10) -/
def Reg.corSpCtrl : Nat := 0x200
/-- COR_SP_LAST (Table 9.10) -/
def Reg.corSpLast : Nat := 0x204
/-- COR_SP_CNT_PASS (Table 9.10) -/
def Reg.corSpCntPass : Nat := 0x210
/-- COR_SP_CNT_DROP (Table 9.10) -/
def Reg.corSpCntDrop : Nat := 0x214
/-- COR_SP_CNT_OOB (Table 9.10) -/
def Reg.corSpCntOob : Nat := 0x218
/-- COR_SG_CNT_ROWS (Table 9.10) -/
def Reg.corSgCntRows : Nat := 0x220
/-- COR_SG_CNT_PRED (Table 9.10) -/
def Reg.corSgCntPred : Nat := 0x224
/-- COR_SG_CNT_MISS (Table 9.10) -/
def Reg.corSgCntMiss : Nat := 0x228
/-- COR_SG_CNT_SKIP (Table 9.10) -/
def Reg.corSgCntSkip : Nat := 0x22c
/-- COR_SG_CNT_BLKSKIP (Table 9.10) -/
def Reg.corSgCntBlkskip : Nat := 0x230
/-- DRV_CTRL (Table 5.6) -/
def Reg.drvCtrl : Nat := 0x100
/-- DRV_CMD (Table 5.6) -/
def Reg.drvCmd : Nat := 0x104
/-- DRV_STAT (Table 5.6) -/
def Reg.drvStat : Nat := 0x108
/-- DRV_B0_REC_LO (Table 5.6) -/
def Reg.drvB0RecLo : Nat := 0x110
/-- DRV_B0_REC_HI (Table 5.6) -/
def Reg.drvB0RecHi : Nat := 0x114
/-- DRV_B1_REC_LO (Table 5.6) -/
def Reg.drvB1RecLo : Nat := 0x118
/-- DRV_B1_REC_HI (Table 5.6) -/
def Reg.drvB1RecHi : Nat := 0x11c
/-- DRV_LANEn_STEP (Table 5.6) -/
def Reg.drvLanenStep (i0 : Nat) : Nat := 0x130 + 0x8 * i0
/-- DRV_LANEn_STAT (Table 5.6) -/
def Reg.drvLanenStat (i0 : Nat) : Nat := 0x134 + 0x8 * i0
/-- DRV_QSEL (Table 5.6) -/
def Reg.drvQsel : Nat := 0x150
/-- DRV_QVAL (Table 5.6) -/
def Reg.drvQval : Nat := 0x154
/-- DRV_CNT_TOKENS (Table 5.6) -/
def Reg.drvCntTokens : Nat := 0x160
/-- DRV_CNT_DISP (Table 5.6) -/
def Reg.drvCntDisp : Nat := 0x164
/-- DRV_CNT_NAN (Table 5.6) -/
def Reg.drvCntNan : Nat := 0x168
/-- DRV_CNT_OVF (Table 5.6) -/
def Reg.drvCntOvf : Nat := 0x16c
/-- DRV_CNT_SUBST (Table 5.6) -/
def Reg.drvCntSubst : Nat := 0x170
/-- DRV_CNT_DROP (Table 5.6) -/
def Reg.drvCntDrop : Nat := 0x174
/-- DRV_CNT_REPL (Table 5.6) -/
def Reg.drvCntRepl : Nat := 0x178
/-- DRV_CNT_SHORT (Table 5.6) -/
def Reg.drvCntShort : Nat := 0x17c
/-- DRV_CNT_PFMISS (Table 5.6) -/
def Reg.drvCntPfmiss : Nat := 0x180
/-- DRV_CNT_STALL (Table 5.6) -/
def Reg.drvCntStall : Nat := 0x184
/-- DRV_CNT_BIASBAD (Table 5.6) -/
def Reg.drvCntBiasbad : Nat := 0x188
/-- CNV_CTRL (Table 6.7) -/
def Reg.cnvCtrl : Nat := 0x100
/-- CNV_STAT (Table 6.7) -/
def Reg.cnvStat : Nat := 0x104
/-- CNV_MTMO (Table 6.7) -/
def Reg.cnvMtmo : Nat := 0x108
/-- CNV_MSEL (Table 6.7) -/
def Reg.cnvMsel : Nat := 0x10c
/-- CNV_MSTAT (Table 6.7) -/
def Reg.cnvMstat : Nat := 0x110
/-- CNV_MSTEP (Table 6.7) -/
def Reg.cnvMstep : Nat := 0x114
/-- CNV_CNT_BALES (Table 6.7) -/
def Reg.cnvCntBales : Nat := 0x120
/-- CNV_CNT_MCAST (Table 6.7) -/
def Reg.cnvCntMcast : Nat := 0x124
/-- CNV_CNT_RET (Table 6.7) -/
def Reg.cnvCntRet : Nat := 0x128
/-- CNV_CNT_RETIN (Table 6.7) -/
def Reg.cnvCntRetin : Nat := 0x12c
/-- CNV_CNT_COMB (Table 6.7) -/
def Reg.cnvCntComb : Nat := 0x130
/-- CNV_CNT_ZERO (Table 6.7) -/
def Reg.cnvCntZero : Nat := 0x134
/-- CNV_CNT_ACK (Table 6.7) -/
def Reg.cnvCntAck : Nat := 0x138
/-- CNV_CNT_STALE (Table 6.7) -/
def Reg.cnvCntStale : Nat := 0x13c
/-- SRI_CTRL (Table 6.9) -/
def Reg.sriCtrl : Nat := 0x100
/-- SRI_QTMO (Table 6.9) -/
def Reg.sriQtmo : Nat := 0x104
/-- SRI_STAT (Table 6.9) -/
def Reg.sriStat : Nat := 0x108
/-- SRI_QSEL (Table 6.9) -/
def Reg.sriQsel : Nat := 0x10c
/-- SRI_QSTAT (Table 6.9) -/
def Reg.sriQstat : Nat := 0x110
/-- SRI_QSTEP (Table 6.9) -/
def Reg.sriQstep : Nat := 0x114
/-- SRI_QCLOSES (Table 6.9) -/
def Reg.sriQcloses : Nat := 0x118
/-- SRI_QEXPECT (Table 6.9) -/
def Reg.sriQexpect : Nat := 0x11c
/-- SRI_QRECV (Table 6.9) -/
def Reg.sriQrecv : Nat := 0x120
/-- SRI_CNT_BALES (Table 6.9) -/
def Reg.sriCntBales : Nat := 0x140
/-- SRI_CNT_ENTRIES (Table 6.9) -/
def Reg.sriCntEntries : Nat := 0x144
/-- SRI_CNT_CLOSE (Table 6.9) -/
def Reg.sriCntClose : Nat := 0x148
/-- SRI_CNT_DONE (Table 6.9) -/
def Reg.sriCntDone : Nat := 0x14c
/-- SRI_CNT_ZERO (Table 6.9) -/
def Reg.sriCntZero : Nat := 0x150
/-- SRI_CNT_SPILL (Table 6.9) -/
def Reg.sriCntSpill : Nat := 0x154
/-- SRI_CNT_CRC (Table 6.9) -/
def Reg.sriCntCrc : Nat := 0x158
/-- SRI_CNT_EXCESS (Table 6.9) -/
def Reg.sriCntExcess : Nat := 0x15c
/-- SRI_CNT_STALE (Table 6.9) -/
def Reg.sriCntStale : Nat := 0x160
/-- SRI_LPLANp_LO (Table 6.9) -/
def Reg.sriLplanpLo (i0 : Nat) : Nat := 0x200 + 0x20 * i0
/-- SRI_LPLANp_HI (Table 6.9) -/
def Reg.sriLplanpHi (i0 : Nat) : Nat := 0x204 + 0x20 * i0
/-- SRI_LPLANp_CNT (Table 6.9) -/
def Reg.sriLplanpCnt (i0 : Nat) : Nat := 0x208 + 0x20 * i0
/-- SRI_HINTp (Table 6.9) -/
def Reg.sriHintp (i0 : Nat) : Nat := 0x20c + 0x20 * i0
/-- SRI_RETIREp (Table 6.9) -/
def Reg.sriRetirep (i0 : Nat) : Nat := 0x210 + 0x20 * i0
/-- SRI_RSTATp (Table 6.9) -/
def Reg.sriRstatp (i0 : Nat) : Nat := 0x214 + 0x20 * i0
/-- SRI_HBOXp_LO (Table 6.9) -/
def Reg.sriHboxpLo (i0 : Nat) : Nat := 0x218 + 0x20 * i0
/-- SRI_HBOXp_HI (Table 6.9) -/
def Reg.sriHboxpHi (i0 : Nat) : Nat := 0x21c + 0x20 * i0
/-- LDG_P1_BASE_LO (Table 6.10) -/
def Reg.ldgP1BaseLo : Nat := 0x100
/-- LDG_P1_BASE_HI (Table 6.10) -/
def Reg.ldgP1BaseHi : Nat := 0x104
/-- LDG_P1_CELLS (Table 6.10) -/
def Reg.ldgP1Cells : Nat := 0x108
/-- LDG_P2_BASE_LO (Table 6.10) -/
def Reg.ldgP2BaseLo : Nat := 0x110
/-- LDG_P2_BASE_HI (Table 6.10) -/
def Reg.ldgP2BaseHi : Nat := 0x114
/-- LDG_P2_CELLS (Table 6.10) -/
def Reg.ldgP2Cells : Nat := 0x118
/-- LDG_FREE0 (Table 6.10) -/
def Reg.ldgFree0 : Nat := 0x120
/-- LDG_FREE1 (Table 6.10) -/
def Reg.ldgFree1 : Nat := 0x124
/-- LDG_FREE2 (Table 6.10) -/
def Reg.ldgFree2 : Nat := 0x128
/-- LDG_LOW (Table 6.10) -/
def Reg.ldgLow : Nat := 0x12c
/-- LDG_AREQ (Table 6.10) -/
def Reg.ldgAreq : Nat := 0x130
/-- LDG_ARES_LO (Table 6.10) -/
def Reg.ldgAresLo : Nat := 0x134
/-- LDG_ARES_HI (Table 6.10) -/
def Reg.ldgAresHi : Nat := 0x138
/-- LDG_ASTAT (Table 6.10) -/
def Reg.ldgAstat : Nat := 0x13c
/-- LDG_FREE_LO (Table 6.10) -/
def Reg.ldgFreeLo : Nat := 0x140
/-- LDG_FREE_HI (Table 6.10) -/
def Reg.ldgFreeHi : Nat := 0x144
/-- LDG_CNT_ALLOC (Table 6.10) -/
def Reg.ldgCntAlloc : Nat := 0x150
/-- LDG_CNT_FALLBACK (Table 6.10) -/
def Reg.ldgCntFallback : Nat := 0x154
/-- LDG_CNT_FAIL (Table 6.10) -/
def Reg.ldgCntFail : Nat := 0x158
/-- LDG_CNT_BADPTR (Table 6.10) -/
def Reg.ldgCntBadptr : Nat := 0x15c
/-- LDG_QUOTA (Table 6.10) -/
def Reg.ldgQuota (i0 : Nat) (i1 : Nat) (i2 : Nat) : Nat := 0x200 + 0x40 * i0 + 0x10 * i1 + 0x4 * i2
/-- LDG_USED (Table 6.10) -/
def Reg.ldgUsed (i0 : Nat) (i1 : Nat) (i2 : Nat) : Nat := 0x400 + 0x40 * i0 + 0x10 * i1 + 0x4 * i2
/-- GMC_CTRL (Table 10.8) -/
def Reg.gmcCtrl : Nat := 0x100
/-- GMC_STAT (Table 10.8) -/
def Reg.gmcStat : Nat := 0x104
/-- GMC_ERRADDR_LO (Table 10.8) -/
def Reg.gmcErraddrLo : Nat := 0x108
/-- GMC_ERRADDR_HI (Table 10.8) -/
def Reg.gmcErraddrHi : Nat := 0x10c
/-- GMC_CNT_DET (Table 10.8) -/
def Reg.gmcCntDet : Nat := 0x120
/-- GMC_CNT_TRANSIENT (Table 10.8) -/
def Reg.gmcCntTransient : Nat := 0x124
/-- GMC_CNT_POISON (Table 10.8) -/
def Reg.gmcCntPoison : Nat := 0x128
/-- GMC_CNT_EDC (Table 10.8) -/
def Reg.gmcCntEdc : Nat := 0x12c
/-- GMC_CNT_RETRAIN (Table 10.8) -/
def Reg.gmcCntRetrain : Nat := 0x130
/-- GMC_CNT_ODECC (Table 10.8) -/
def Reg.gmcCntOdecc : Nat := 0x134
/-- GMC_CNT_RMW (Table 10.8) -/
def Reg.gmcCntRmw : Nat := 0x138
/-- CXL_CTRL (Table 10.9) -/
def Reg.cxlCtrl : Nat := 0x100
/-- CXL_STAT (Table 10.9) -/
def Reg.cxlStat : Nat := 0x104
/-- CXL_IO_ADDR_LO (Table 10.9) -/
def Reg.cxlIoAddrLo : Nat := 0x108
/-- CXL_IO_ADDR_HI (Table 10.9) -/
def Reg.cxlIoAddrHi : Nat := 0x10c
/-- CXL_IO_CTRL (Table 10.9) -/
def Reg.cxlIoCtrl : Nat := 0x110
/-- CXL_IO_DATA (Table 10.9) -/
def Reg.cxlIoData : Nat := 0x114
/-- CXL_IO_STAT (Table 10.9) -/
def Reg.cxlIoStat : Nat := 0x118
/-- CXL_CNT_RD (Table 10.9) -/
def Reg.cxlCntRd : Nat := 0x120
/-- CXL_CNT_WR (Table 10.9) -/
def Reg.cxlCntWr : Nat := 0x124
/-- CXL_CNT_REPLAY (Table 10.9) -/
def Reg.cxlCntReplay : Nat := 0x128
/-- CXL_CNT_POISON (Table 10.9) -/
def Reg.cxlCntPoison : Nat := 0x12c
/-- CXL_CNT_IDEFAIL (Table 10.9) -/
def Reg.cxlCntIdefail : Nat := 0x130
/-- TIR_HREMOVE_LO (Table 10.10) -/
def Reg.tirHremoveLo : Nat := 0x100
/-- TIR_HREMOVE_HI (Table 10.10) -/
def Reg.tirHremoveHi : Nat := 0x104
/-- TIR_CTRL (Table 10.10) -/
def Reg.tirCtrl : Nat := 0x108
/-- TIR_LAYOUT (Table 10.10) -/
def Reg.tirLayout : Nat := 0x10c
/-- TIR_FSEL (Table 10.10) -/
def Reg.tirFsel : Nat := 0x110
/-- TIR_FSTAT (Table 10.10) -/
def Reg.tirFstat : Nat := 0x114
/-- TIR_KVLOST (Table 10.10) -/
def Reg.tirKvlost : Nat := 0x118
/-- TIR_CNT_CXLRD (Table 10.10) -/
def Reg.tirCntCxlrd : Nat := 0x140
/-- TIR_CNT_FILL (Table 10.10) -/
def Reg.tirCntFill : Nat := 0x144
/-- TIR_CNT_EVICT (Table 10.10) -/
def Reg.tirCntEvict : Nat := 0x148
/-- TIR_CNT_REFETCH (Table 10.10) -/
def Reg.tirCntRefetch : Nat := 0x14c
/-- TIR_CNT_ABANDON (Table 10.10) -/
def Reg.tirCntAbandon : Nat := 0x150
/-- TIR_CNT_WPROT (Table 10.10) -/
def Reg.tirCntWprot : Nat := 0x154
/-- TIR_CNT_KVLOST (Table 10.10) -/
def Reg.tirCntKvlost : Nat := 0x158
/-- TIR_MIGp_LO (Table 10.10) -/
def Reg.tirMigpLo (i0 : Nat) : Nat := 0x200 + 0x20 * i0
/-- TIR_MIGp_HI (Table 10.10) -/
def Reg.tirMigpHi (i0 : Nat) : Nat := 0x204 + 0x20 * i0
/-- TIR_MIGp_CNT (Table 10.10) -/
def Reg.tirMigpCnt (i0 : Nat) : Nat := 0x208 + 0x20 * i0
/-- TIR_MIGp_STAT (Table 10.10) -/
def Reg.tirMigpStat (i0 : Nat) : Nat := 0x20c + 0x20 * i0
/-- RTE_CTRL (Table 11.5) -/
def Reg.rteCtrl : Nat := 0x100
/-- RTE_VCW (Table 11.5) -/
def Reg.rteVcw : Nat := 0x104
/-- RTE_WDOG (Table 11.5) -/
def Reg.rteWdog : Nat := 0x108
/-- RTE_SELF (Table 11.5) -/
def Reg.rteSelf : Nat := 0x10c
/-- RTE_EPOCH (Table 11.5) -/
def Reg.rteEpoch : Nat := 0x110
/-- RTE_EPCMD (Table 11.5) -/
def Reg.rteEpcmd : Nat := 0x114
/-- RTE_EPSW_LO (Table 11.5) -/
def Reg.rteEpswLo : Nat := 0x118
/-- RTE_EPSW_HI (Table 11.5) -/
def Reg.rteEpswHi : Nat := 0x11c
/-- RTE_OSEL (Table 11.5) -/
def Reg.rteOsel : Nat := 0x120
/-- RTE_OENT (Table 11.5) -/
def Reg.rteOent (i0 : Nat) : Nat := 0x124 + 0x4 * i0
/-- RTE_TSEL (Table 11.5) -/
def Reg.rteTsel : Nat := 0x140
/-- RTE_TENT (Table 11.5) -/
def Reg.rteTent : Nat := 0x144
/-- RTE_TAGLAST (Table 11.5) -/
def Reg.rteTaglast : Nat := 0x148
/-- RTE_SHAPE (Table 11.5) -/
def Reg.rteShape (i0 : Nat) : Nat := 0x150 + 0x4 * i0
/-- RTE_PTAG (Table 11.5) -/
def Reg.rtePtag (i0 : Nat) : Nat := 0x190 + 0x4 * i0
/-- RTE_FCLR (Table 11.5) -/
def Reg.rteFclr : Nat := 0x1b0
/-- RTE_SDRAIN (Table 11.5) -/
def Reg.rteSdrain (i0 : Nat) : Nat := 0x1b4 + 0x4 * i0
/-- RTE_FSLOT (Table 11.5) -/
def Reg.rteFslot (i0 : Nat) : Nat := 0x240 + 0x4 * i0
/-- RTE_CNT_FWD (Table 11.5) -/
def Reg.rteCntFwd : Nat := 0x200
/-- RTE_CNT_TAGDROP (Table 11.5) -/
def Reg.rteCntTagdrop : Nat := 0x204
/-- RTE_CNT_INJREF (Table 11.5) -/
def Reg.rteCntInjref : Nat := 0x208
/-- RTE_CNT_NOROUTE (Table 11.5) -/
def Reg.rteCntNoroute : Nat := 0x20c
/-- RTE_CNT_REEPOCH (Table 11.5) -/
def Reg.rteCntReepoch : Nat := 0x210
/-- RTE_CNT_ESCAPE (Table 11.5) -/
def Reg.rteCntEscape : Nat := 0x214
/-- RTE_CNT_STALL (Table 11.5) -/
def Reg.rteCntStall : Nat := 0x218
/-- RTE_CNT_UCONV (Table 11.5) -/
def Reg.rteCntUconv : Nat := 0x21c
/-- RTE_CNT_DUPRISK (Table 11.5) -/
def Reg.rteCntDuprisk : Nat := 0x220
/-- RTE_CNT_FRMCRC (Table 11.5) -/
def Reg.rteCntFrmcrc : Nat := 0x224
/-- TRP_CTRL (Table 11.6) -/
def Reg.trpCtrl : Nat := 0x100
/-- TRP_STAT (Table 11.6) -/
def Reg.trpStat : Nat := 0x104
/-- TRP_NBR (Table 11.6) -/
def Reg.trpNbr : Nat := 0x108
/-- TRP_FAULT (Table 11.6) -/
def Reg.trpFault : Nat := 0x10c
/-- TRP_LOSS (Table 11.6) -/
def Reg.trpLoss : Nat := 0x110
/-- TRP_SEQ (Table 11.6) -/
def Reg.trpSeq : Nat := 0x114
/-- TRP_CNT_TXFLIT (Table 11.6) -/
def Reg.trpCntTxflit : Nat := 0x120
/-- TRP_CNT_RXFLIT (Table 11.6) -/
def Reg.trpCntRxflit : Nat := 0x124
/-- TRP_CNT_FECCORR (Table 11.6) -/
def Reg.trpCntFeccorr : Nat := 0x128
/-- TRP_CNT_FECUNC (Table 11.6) -/
def Reg.trpCntFecunc : Nat := 0x12c
/-- TRP_CNT_CRCERR (Table 11.6) -/
def Reg.trpCntCrcerr : Nat := 0x130
/-- TRP_CNT_RETRY (Table 11.6) -/
def Reg.trpCntRetry : Nat := 0x134
/-- TRP_CNT_LOSS (Table 11.6) -/
def Reg.trpCntLoss : Nat := 0x138
/-- TRP_CNT_REINJ (Table 11.6) -/
def Reg.trpCntReinj : Nat := 0x13c
/-- SPN_CTRL (Table 11.7) -/
def Reg.spnCtrl : Nat := 0x100
/-- SPN_ETYPE (Table 11.7) -/
def Reg.spnEtype : Nat := 0x104
/-- SPN_MACPFX (Table 11.7) -/
def Reg.spnMacpfx : Nat := 0x108
/-- SPN_STAT (Table 11.7) -/
def Reg.spnStat : Nat := 0x10c
/-- SPN_CNT_TXFRM (Table 11.7) -/
def Reg.spnCntTxfrm : Nat := 0x120
/-- SPN_CNT_RXFRM (Table 11.7) -/
def Reg.spnCntRxfrm : Nat := 0x124
/-- SPN_CNT_FCSERR (Table 11.7) -/
def Reg.spnCntFcserr : Nat := 0x128
/-- SPN_CNT_DADROP (Table 11.7) -/
def Reg.spnCntDadrop : Nat := 0x12c
/-- SPN_CNT_ETDROP (Table 11.7) -/
def Reg.spnCntEtdrop : Nat := 0x130
/-- SPN_CNT_FMTDROP (Table 11.7) -/
def Reg.spnCntFmtdrop : Nat := 0x134
/-- SPN_CNT_FECCORR (Table 11.7) -/
def Reg.spnCntFeccorr : Nat := 0x138
/-- SPN_CNT_FECUNC (Table 11.7) -/
def Reg.spnCntFecunc : Nat := 0x13c
/-- TOL_TMO (Table 13.5) -/
def Reg.tolTmo : Nat := 0x100
/-- TOL_TWTMO (Table 13.5) -/
def Reg.tolTwtmo : Nat := 0x104
/-- TOL_STAT (Table 13.5) -/
def Reg.tolStat : Nat := 0x108
/-- TOL_GRPg (Table 13.5) -/
def Reg.tolGrpg (i0 : Nat) : Nat := 0x300 + 0x8 * i0
/-- TOL_GRPg_TREE (Table 13.5) -/
def Reg.tolGrpgTree (i0 : Nat) : Nat := 0x304 + 0x8 * i0
/-- TOL_CNT_OPS (Table 13.5) -/
def Reg.tolCntOps : Nat := 0x180
/-- TOL_CNT_TMO (Table 13.5) -/
def Reg.tolCntTmo : Nat := 0x184
/-- TOL_CNT_SUSPECT (Table 13.5) -/
def Reg.tolCntSuspect : Nat := 0x188
/-- TOL_CNT_TWMISS (Table 13.5) -/
def Reg.tolCntTwmiss : Nat := 0x18c
/-- TOL_CNT_MEMBERS (Table 13.5) -/
def Reg.tolCntMembers : Nat := 0x190
/-- TOL_CNT_STALE (Table 13.5) -/
def Reg.tolCntStale : Nat := 0x194
/-- TOL_TWINp (Table 13.5) -/
def Reg.tolTwinp (i0 : Nat) : Nat := 0x200 + 0x10 * i0
/-- TOL_TWINp_DEST (Table 13.5) -/
def Reg.tolTwinpDest (i0 : Nat) : Nat := 0x204 + 0x10 * i0
/-- TOL_TWINp_SUSP (Table 13.5) -/
def Reg.tolTwinpSusp (i0 : Nat) : Nat := 0x208 + 0x10 * i0
/-- COL_TMO (Table 13.6) -/
def Reg.colTmo : Nat := 0x100
/-- COL_STAT (Table 13.6) -/
def Reg.colStat : Nat := 0x104
/-- COL_CSEL (Table 13.6) -/
def Reg.colCsel : Nat := 0x108
/-- COL_CSTAT (Table 13.6) -/
def Reg.colCstat : Nat := 0x10c
/-- COL_CSTEP (Table 13.6) -/
def Reg.colCstep : Nat := 0x110
/-- COL_KICK_LO (Table 13.6) -/
def Reg.colKickLo : Nat := 0x118
/-- COL_KICK_HI (Table 13.6) -/
def Reg.colKickHi : Nat := 0x11c
/-- COL_BCMD (Table 13.6) -/
def Reg.colBcmd : Nat := 0x120
/-- COL_CNT_COLL (Table 13.6) -/
def Reg.colCntColl : Nat := 0x140
/-- COL_CNT_CHUNK_TX (Table 13.6) -/
def Reg.colCntChunkTx : Nat := 0x144
/-- COL_CNT_CHUNK_RX (Table 13.6) -/
def Reg.colCntChunkRx : Nat := 0x148
/-- COL_CNT_RESFAIL (Table 13.6) -/
def Reg.colCntResfail : Nat := 0x14c
/-- COL_CNT_RESEND (Table 13.6) -/
def Reg.colCntResend : Nat := 0x150
/-- COL_CNT_TMO (Table 13.6) -/
def Reg.colCntTmo : Nat := 0x154
/-- COL_CNT_POISON (Table 13.6) -/
def Reg.colCntPoison : Nat := 0x158
/-- COL_CNT_BCROUND (Table 13.6) -/
def Reg.colCntBcround : Nat := 0x15c
/-- COL_CNT_STALE (Table 13.6) -/
def Reg.colCntStale : Nat := 0x160
/-- RMO_STAT (Table 12.6) -/
def Reg.rmoStat : Nat := 0x100
/-- RMO_TMO (Table 12.6) -/
def Reg.rmoTmo : Nat := 0x104
/-- RMO_WSEL (Table 12.6) -/
def Reg.rmoWsel : Nat := 0x108
/-- RMO_WENT (Table 12.6) -/
def Reg.rmoWent (i0 : Nat) : Nat := 0x110 + 0x4 * i0
/-- RMO_CNT_REQ (Table 12.6) -/
def Reg.rmoCntReq : Nat := 0x140
/-- RMO_CNT_WREF (Table 12.6) -/
def Reg.rmoCntWref : Nat := 0x144
/-- RMO_CNT_TMO (Table 12.6) -/
def Reg.rmoCntTmo : Nat := 0x148
/-- RMO_CNT_STRAY (Table 12.6) -/
def Reg.rmoCntStray : Nat := 0x14c
/-- RMO_CNT_TGTOP (Table 12.6) -/
def Reg.rmoCntTgtop : Nat := 0x150
/-- RMO_CNT_TGTREF (Table 12.6) -/
def Reg.rmoCntTgtref : Nat := 0x154
/-- RMO_CNT_ABANDON (Table 12.6) -/
def Reg.rmoCntAbandon : Nat := 0x158
/-- RMO_ENGn (Table 12.6) -/
def Reg.rmoEngn (i0 : Nat) : Nat := 0x200 + 0x20 * i0
/-- RMO_ENGn_LIST_LO (Table 12.6) -/
def Reg.rmoEngnListLo (i0 : Nat) : Nat := 0x204 + 0x20 * i0
/-- RMO_ENGn_LIST_HI (Table 12.6) -/
def Reg.rmoEngnListHi (i0 : Nat) : Nat := 0x208 + 0x20 * i0
/-- RMO_ENGn_CNT (Table 12.6) -/
def Reg.rmoEngnCnt (i0 : Nat) : Nat := 0x20c + 0x20 * i0
/-- RMO_ENGn_STAT (Table 12.6) -/
def Reg.rmoEngnStat (i0 : Nat) : Nat := 0x210 + 0x20 * i0
/-- GWY_CTRL (Table 12.7) -/
def Reg.gwyCtrl : Nat := 0x100
/-- GWY_HOLD (Table 12.7) -/
def Reg.gwyHold : Nat := 0x104
/-- GWY_TMO (Table 12.7) -/
def Reg.gwyTmo : Nat := 0x108
/-- GWY_RETRY (Table 12.7) -/
def Reg.gwyRetry : Nat := 0x10c
/-- GWY_STAT (Table 12.7) -/
def Reg.gwyStat : Nat := 0x110
/-- GWY_CNT_WSEG (Table 12.7) -/
def Reg.gwyCntWseg : Nat := 0x140
/-- GWY_CNT_GSEG (Table 12.7) -/
def Reg.gwyCntGseg : Nat := 0x144
/-- GWY_CNT_MERGE (Table 12.7) -/
def Reg.gwyCntMerge : Nat := 0x148
/-- GWY_CNT_RETRY (Table 12.7) -/
def Reg.gwyCntRetry : Nat := 0x14c
/-- GWY_CNT_FAIL (Table 12.7) -/
def Reg.gwyCntFail : Nat := 0x150
/-- GWY_CNT_CRC (Table 12.7) -/
def Reg.gwyCntCrc : Nat := 0x154
/-- OPE_CTRL (Table 14.8) -/
def Reg.opeCtrl : Nat := 0x100
/-- OPE_STAT (Table 14.8) -/
def Reg.opeStat : Nat := 0x104
/-- OPE_LASER (Table 14.8) -/
def Reg.opeLaser : Nat := 0x108
/-- OPE_LTH_LO (Table 14.8) -/
def Reg.opeLthLo : Nat := 0x10c
/-- OPE_LTH_HI (Table 14.8) -/
def Reg.opeLthHi : Nat := 0x110
/-- OPE_LMAP (Table 14.8) -/
def Reg.opeLmap : Nat := 0x114
/-- OPE_SWAP (Table 14.8) -/
def Reg.opeSwap : Nat := 0x118
/-- OPE_SWTH (Table 14.8) -/
def Reg.opeSwth : Nat := 0x11c
/-- OPE_LSEL (Table 14.8) -/
def Reg.opeLsel : Nat := 0x120
/-- OPE_LSTAT (Table 14.8) -/
def Reg.opeLstat : Nat := 0x124
/-- OPE_LCORR (Table 14.8) -/
def Reg.opeLcorr : Nat := 0x128
/-- OPE_REFSRC (Table 14.8) -/
def Reg.opeRefsrc : Nat := 0x12c
/-- OPE_CNT_SWAP (Table 14.8) -/
def Reg.opeCntSwap : Nat := 0x140
/-- OPE_CNT_LANEFAIL (Table 14.8) -/
def Reg.opeCntLanefail : Nat := 0x144
/-- OPE_CNT_CUNIT (Table 14.8) -/
def Reg.opeCntCunit : Nat := 0x148
/-- OPE_CNT_LASER (Table 14.8) -/
def Reg.opeCntLaser : Nat := 0x14c
/-- OPE_CNT_MARKER (Table 14.8) -/
def Reg.opeCntMarker : Nat := 0x150
/-- OPE_CNT_MKERR (Table 14.8) -/
def Reg.opeCntMkerr : Nat := 0x154
/-- CKP_TMO (Table 15.8) -/
def Reg.ckpTmo : Nat := 0x100
/-- CKP_CNT_SNAP (Table 15.8) -/
def Reg.ckpCntSnap : Nat := 0x140
/-- CKP_CNT_COMMIT (Table 15.8) -/
def Reg.ckpCntCommit : Nat := 0x144
/-- CKP_CNT_FAIL (Table 15.8) -/
def Reg.ckpCntFail : Nat := 0x148
/-- CKP_CNT_COW (Table 15.8) -/
def Reg.ckpCntCow : Nat := 0x14c
/-- CKP_CNT_MIB (Table 15.8) -/
def Reg.ckpCntMib : Nat := 0x150
/-- CKP_CNT_REFUSED (Table 15.8) -/
def Reg.ckpCntRefused : Nat := 0x154
/-- CKP_CNT_RESTORE (Table 15.8) -/
def Reg.ckpCntRestore : Nat := 0x158
/-- CKP_REGp_LO (Table 15.8) -/
def Reg.ckpRegpLo (i0 : Nat) : Nat := 0x200 + 0x40 * i0
/-- CKP_REGp_HI (Table 15.8) -/
def Reg.ckpRegpHi (i0 : Nat) : Nat := 0x204 + 0x40 * i0
/-- CKP_REGp_SIZE (Table 15.8) -/
def Reg.ckpRegpSize (i0 : Nat) : Nat := 0x208 + 0x40 * i0
/-- CKP_BUDDYp (Table 15.8) -/
def Reg.ckpBuddyp (i0 : Nat) : Nat := 0x20c + 0x40 * i0
/-- CKP_GUESTp (Table 15.8) -/
def Reg.ckpGuestp (i0 : Nat) : Nat := 0x210 + 0x40 * i0
/-- CKP_LISTp_LO (Table 15.8) -/
def Reg.ckpListpLo (i0 : Nat) : Nat := 0x214 + 0x40 * i0
/-- CKP_LISTp_HI (Table 15.8) -/
def Reg.ckpListpHi (i0 : Nat) : Nat := 0x218 + 0x40 * i0
/-- CKP_LISTp_CNT (Table 15.8) -/
def Reg.ckpListpCnt (i0 : Nat) : Nat := 0x21c + 0x40 * i0
/-- CKP_ARMp (Table 15.8) -/
def Reg.ckpArmp (i0 : Nat) : Nat := 0x220 + 0x40 * i0
/-- CKP_STATp (Table 15.8) -/
def Reg.ckpStatp (i0 : Nat) : Nat := 0x224 + 0x40 * i0
/-- CKP_LASTp (Table 15.8) -/
def Reg.ckpLastp (i0 : Nat) : Nat := 0x228 + 0x40 * i0
/-- CKP_RLISTp_LO (Table 15.8) -/
def Reg.ckpRlistpLo (i0 : Nat) : Nat := 0x22c + 0x40 * i0
/-- CKP_RLISTp_HI (Table 15.8) -/
def Reg.ckpRlistpHi (i0 : Nat) : Nat := 0x230 + 0x40 * i0
/-- CKP_RLISTp_CNT (Table 15.8) -/
def Reg.ckpRlistpCnt (i0 : Nat) : Nat := 0x234 + 0x40 * i0
/-- CKP_RSTEPp (Table 15.8) -/
def Reg.ckpRstepp (i0 : Nat) : Nat := 0x238 + 0x40 * i0
/-- CKP_CMDp (Table 15.8) -/
def Reg.ckpCmdp (i0 : Nat) : Nat := 0x23c + 0x40 * i0

end Sys2Proof.Machine
end

