-- ==== Sys2Proof/Machine/RegTable.lean ====
section
/-! DEFINITION. The access code and reset value of every register at offset 0x100 and above (R23,
Table 2.2), row by row from the register tables of the spec. Fields without a rule here read 0 and
ignore writes (RSV), read back hardware state (RO), or act as a command (WO). -/
namespace Sys2Proof.Machine

/-- One row of a register table: its first offset, the (stride, count) of each index, its RW and RW1C
bits, its reset value, whether it is a snapshotted counter (R34), whether any write clears it, and
whether it has one copy per control port. -/
structure RegDef where
  off : Nat
  dims : List (Nat × Nat)
  rw : Nat
  w1c : Nat
  rst : Nat
  snap : Bool
  wclr : Bool
  perPort : Bool
  deriving DecidableEq, Repr

/-- The registers of a DEV page. -/
def regsDev : List RegDef := [
  ⟨0x100, [(0x4, 4)], 0x0, 0x0, 0x0, false, false, false⟩,
  ⟨0x110, [], 0x0, 0x0, 0x0, false, false, false⟩,
  ⟨0x120, [(0x10, 3), (0x4, 3)], 0x0, 0x0, 0x0, false, false, false⟩,
  ⟨0x12c, [(0x10, 3)], 0x0, 0x0, 0x0, false, false, false⟩]

/-- The registers of a PWR page. -/
def regsPwr : List RegDef := [
  ⟨0x100, [], 0x0, 0x0, 0x0, false, false, false⟩,
  ⟨0x104, [], 0x0, 0x0, 0x0, false, false, false⟩,
  ⟨0x108, [], 0x10fff, 0x0, 0x0, false, false, false⟩,
  ⟨0x10c, [], 0x0, 0x0, 0x0, false, false, false⟩,
  ⟨0x110, [], 0x0, 0x0, 0x0, false, false, false⟩,
  ⟨0x114, [], 0xfff, 0x0, 0x708, false, false, false⟩,
  ⟨0x118, [], 0x0, 0x0, 0x0, false, false, false⟩,
  ⟨0x11c, [], 0xffffff, 0x0, 0x2645f, false, false, false⟩,
  ⟨0x120, [], 0xffffffff, 0x0, 0x7d0, false, false, false⟩,
  ⟨0x140, [], 0x0, 0x0, 0x0, true, true, false⟩,
  ⟨0x144, [], 0x0, 0x0, 0x0, true, true, false⟩,
  ⟨0x148, [], 0x0, 0x0, 0x0, true, true, false⟩,
  ⟨0x14c, [], 0x0, 0x0, 0x0, true, true, false⟩]

/-- The registers of a CLK page. -/
def regsClk : List RegDef := [
  ⟨0x100, [], 0x0, 0x0, 0x0, false, false, false⟩,
  ⟨0x104, [], 0x1f0000, 0x0, 0x81010, false, false, false⟩,
  ⟨0x140, [], 0x0, 0x0, 0x0, true, true, false⟩,
  ⟨0x144, [], 0x0, 0x0, 0x0, true, true, false⟩]

/-- The registers of a WST page. -/
def regsWst : List RegDef := [
  ⟨0x100, [], 0x0, 0x0, 0x0, false, false, false⟩,
  ⟨0x104, [], 0x0, 0x0, 0x0, false, false, false⟩,
  ⟨0x108, [], 0x7f, 0x0, 0x54, false, false, false⟩,
  ⟨0x10c, [], 0x0, 0x0, 0x0, false, false, false⟩,
  ⟨0x110, [], 0x0, 0x0, 0x0, false, false, false⟩,
  ⟨0x114, [], 0x0, 0x0, 0x0, false, false, false⟩,
  ⟨0x118, [], 0xf0f, 0x0, 0x602, false, false, false⟩,
  ⟨0x11c, [], 0xffffffff, 0x0, 0x3e81002, false, false, false⟩,
  ⟨0x120, [], 0xffffffff, 0x0, 0x0, false, false, false⟩,
  ⟨0x130, [(0x4, 8)], 0x0, 0x0, 0x0, false, false, false⟩,
  ⟨0x150, [(0x4, 8)], 0x0, 0x0, 0x0, false, false, false⟩,
  ⟨0x170, [], 0x0, 0x0, 0x0, false, false, false⟩,
  ⟨0x180, [(0x4, 8)], 0xffffffff, 0x0, 0x0, false, false, false⟩,
  ⟨0x1a0, [], 0x0, 0x0, 0x0, true, false, false⟩,
  ⟨0x1a4, [], 0x0, 0x0, 0x0, true, false, false⟩,
  ⟨0x1a8, [], 0x0, 0x0, 0x0, true, false, false⟩]

/-- The registers of a SEC page. -/
def regsSec : List RegDef := [
  ⟨0x100, [], 0x0, 0x0, 0x0, false, false, false⟩,
  ⟨0x104, [], 0x3, 0x0, 0x0, false, false, false⟩,
  ⟨0x108, [], 0xffffffff, 0x0, 0x0, false, false, false⟩,
  ⟨0x10c, [], 0xfff, 0x0, 0x0, false, false, false⟩,
  ⟨0x110, [], 0x0, 0x0, 0x0, false, false, false⟩,
  ⟨0x114, [], 0x0, 0x0, 0x0, false, false, false⟩,
  ⟨0x140, [(0x4, 12)], 0x0, 0x0, 0x0, false, false, false⟩,
  ⟨0x170, [(0x4, 12)], 0x0, 0x0, 0x0, false, false, false⟩,
  ⟨0x1a0, [], 0x0, 0x0, 0x0, true, false, false⟩,
  ⟨0x1a4, [], 0x0, 0x0, 0x0, true, false, false⟩,
  ⟨0x1a8, [], 0x0, 0x0, 0x0, true, false, false⟩]

/-- The registers of a DBG page. -/
def regsDbg : List RegDef := [
  ⟨0x100, [], 0x0, 0x0, 0x0, false, false, false⟩,
  ⟨0x104, [], 0x0, 0x0, 0x0, false, false, false⟩,
  ⟨0x108, [], 0x0, 0x0, 0x0, false, false, false⟩,
  ⟨0x110, [(0x4, 8)], 0x0, 0x0, 0x0, false, false, false⟩,
  ⟨0x130, [], 0xffffffff, 0x0, 0x0, false, false, false⟩,
  ⟨0x134, [], 0xfff, 0x0, 0x0, false, false, false⟩,
  ⟨0x138, [], 0x0, 0x0, 0x0, false, false, false⟩,
  ⟨0x13c, [], 0x0, 0x0, 0x0, false, false, false⟩,
  ⟨0x140, [], 0xffffffff, 0x0, 0x0, false, false, false⟩,
  ⟨0x144, [], 0xfff, 0x0, 0x0, false, false, false⟩,
  ⟨0x148, [], 0xffffffff, 0x0, 0x0, false, false, false⟩,
  ⟨0x14c, [], 0x0, 0x0, 0x0, false, false, false⟩,
  ⟨0x150, [], 0xffffffff, 0x0, 0x0, false, false, false⟩,
  ⟨0x154, [], 0xffffffff, 0x0, 0x0, false, false, false⟩,
  ⟨0x158, [], 0xf03f0fff, 0x0, 0x0, false, false, false⟩,
  ⟨0x15c, [], 0xffffffff, 0x0, 0x0, false, false, false⟩,
  ⟨0x160, [], 0x0, 0x0, 0x0, false, false, false⟩,
  ⟨0x170, [], 0x0, 0x0, 0x0, true, false, false⟩,
  ⟨0x174, [], 0x0, 0x0, 0x0, true, false, false⟩,
  ⟨0x178, [], 0x0, 0x0, 0x0, true, false, false⟩]

/-- The registers of a FLT page. -/
def regsFlt : List RegDef := [
  ⟨0x100, [], 0x1, 0x0, 0x0, false, false, false⟩,
  ⟨0x104, [], 0xffffffff, 0x0, 0x186a0, false, false, false⟩,
  ⟨0x108, [], 0x3fffffff, 0x0, 0x2003e8, false, false, false⟩,
  ⟨0x10c, [], 0x0, 0x0, 0x0, false, false, false⟩,
  ⟨0x110, [], 0x3f, 0x0, 0x0, false, false, true⟩,
  ⟨0x114, [], 0x0, 0x0, 0x0, false, false, false⟩,
  ⟨0x118, [], 0x0, 0x0, 0x0, false, false, false⟩,
  ⟨0x11c, [], 0x0, 0x0, 0x0, false, false, false⟩,
  ⟨0x120, [], 0x0, 0x80000000, 0x0, false, false, false⟩,
  ⟨0x124, [], 0x0, 0x0, 0x0, false, false, false⟩,
  ⟨0x128, [], 0x0, 0x0, 0x0, false, false, false⟩,
  ⟨0x12c, [], 0x7f, 0x0, 0x0, false, false, false⟩,
  ⟨0x130, [(0x4, 4)], 0x0, 0x0, 0x0, false, false, false⟩,
  ⟨0x140, [(0x4, 16)], 0x0, 0x0, 0x0, false, false, false⟩,
  ⟨0x1c0, [], 0x0, 0x0, 0x0, true, false, false⟩,
  ⟨0x1c4, [], 0x0, 0x0, 0x0, true, false, false⟩,
  ⟨0x1c8, [], 0x0, 0x0, 0x0, true, false, false⟩,
  ⟨0x1cc, [], 0x0, 0x0, 0x0, true, false, false⟩,
  ⟨0x1d0, [], 0x0, 0x0, 0x0, true, false, false⟩,
  ⟨0x1d4, [], 0x0, 0x0, 0x0, true, false, false⟩,
  ⟨0x1d8, [], 0x0, 0x0, 0x0, true, false, false⟩,
  ⟨0x1dc, [], 0x0, 0x0, 0x0, true, false, false⟩,
  ⟨0x1e0, [], 0x0, 0x0, 0x0, true, false, false⟩,
  ⟨0x200, [(0x20, 8)], 0x830f0000, 0x0, 0x2000000, false, false, false⟩,
  ⟨0x204, [(0x20, 8)], 0xffffffff, 0x0, 0x0, false, false, false⟩,
  ⟨0x208, [(0x20, 8)], 0xfff, 0x0, 0x0, false, false, false⟩,
  ⟨0x20c, [(0x20, 8)], 0xffff, 0x0, 0x0, false, false, false⟩,
  ⟨0x210, [(0x20, 8)], 0x0, 0x0, 0x0, false, false, false⟩]

/-- The registers of a MGT page. -/
def regsMgt : List RegDef := [
  ⟨0x100, [], 0x0, 0x0, 0x0, false, false, false⟩,
  ⟨0x104, [], 0x0, 0x0, 0x0, false, false, false⟩,
  ⟨0x108, [], 0x0, 0x0, 0x0, false, false, false⟩]

/-- The registers of a CTP page. -/
def regsCtp : List RegDef := [
  ⟨0x100, [], 0x1, 0x0, 0x1, false, false, false⟩,
  ⟨0x104, [], 0x0, 0x0, 0x0, false, false, false⟩,
  ⟨0x108, [], 0xffffffff, 0x0, 0x989680, false, false, false⟩,
  ⟨0x10c, [], 0xffffffff, 0x0, 0x3b9aca00, false, false, false⟩,
  ⟨0x110, [], 0x0, 0x0, 0x0, false, false, false⟩,
  ⟨0x114, [], 0xffffff, 0x0, 0x81388, false, false, false⟩,
  ⟨0x140, [], 0x0, 0x0, 0x0, true, true, false⟩,
  ⟨0x144, [], 0x0, 0x0, 0x0, true, true, false⟩,
  ⟨0x148, [], 0x0, 0x0, 0x0, true, true, false⟩,
  ⟨0x14c, [], 0x0, 0x0, 0x0, true, true, false⟩,
  ⟨0x150, [], 0x0, 0x0, 0x0, true, true, false⟩,
  ⟨0x154, [], 0x0, 0x0, 0x0, true, true, false⟩,
  ⟨0x158, [], 0x0, 0x0, 0x0, true, true, false⟩,
  ⟨0x15c, [], 0x0, 0x0, 0x0, true, true, false⟩]

/-- The registers of a SCH page. -/
def regsSch : List RegDef := [
  ⟨0x100, [], 0xff, 0x0, 0x0, false, false, false⟩,
  ⟨0x104, [], 0x0, 0x0, 0x0, false, false, false⟩,
  ⟨0x108, [], 0x7, 0x0, 0x0, false, false, false⟩,
  ⟨0x10c, [], 0x0, 0x0, 0x0, true, false, false⟩,
  ⟨0x110, [], 0x0, 0x0, 0x0, true, false, false⟩,
  ⟨0x114, [], 0x0, 0x0, 0x0, true, false, false⟩,
  ⟨0x118, [], 0x0, 0x0, 0x0, true, false, false⟩,
  ⟨0x200, [(0x20, 8)], 0xffffffff, 0x0, 0x0, false, false, false⟩,
  ⟨0x204, [(0x20, 8)], 0xfff, 0x0, 0x0, false, false, false⟩,
  ⟨0x208, [(0x20, 8)], 0x1fff, 0x0, 0x0, false, false, false⟩,
  ⟨0x20c, [(0x20, 8)], 0x0, 0x0, 0x0, false, false, false⟩,
  ⟨0x210, [(0x20, 8)], 0x0, 0x0, 0x0, false, false, false⟩,
  ⟨0x214, [(0x20, 8)], 0x0, 0x0, 0x0, false, false, false⟩,
  ⟨0x218, [(0x20, 8)], 0x0, 0x0, 0x0, false, false, false⟩,
  ⟨0x400, [(0x80, 8), (0x4, 32)], 0x0, 0x0, 0x0, false, false, false⟩]

/-- The registers of a LNT page. -/
def regsLnt : List RegDef := [
  ⟨0x100, [], 0x1ff, 0x0, 0x0, false, false, true⟩,
  ⟨0x110, [(0x4, 4)], 0xffffffff, 0x0, 0x0, false, false, true⟩,
  ⟨0x120, [], 0x0, 0x0, 0x0, false, false, true⟩,
  ⟨0x124, [], 0x0, 0x0, 0x0, false, false, false⟩,
  ⟨0x128, [], 0x0, 0x0, 0x0, false, false, false⟩,
  ⟨0x12c, [], 0x0, 0x0, 0x0, false, false, false⟩,
  ⟨0x130, [], 0x0, 0x0, 0x0, true, false, false⟩]

/-- The registers of a SCB page. -/
def regsScb : List RegDef := [
  ⟨0x100, [], 0x7fff, 0x0, 0x0, false, false, true⟩,
  ⟨0x104, [], 0x0, 0x0, 0x0, false, false, false⟩,
  ⟨0x108, [], 0x0, 0x0, 0x0, true, false, false⟩,
  ⟨0x10c, [], 0x0, 0x0, 0x0, true, false, false⟩,
  ⟨0x140, [(0x4, 8)], 0x0, 0x0, 0x0, false, false, false⟩]

/-- The registers of a STR page. -/
def regsStr : List RegDef := [
  ⟨0x100, [], 0x0, 0x0, 0x0, false, false, false⟩,
  ⟨0x104, [], 0x1fff, 0x0, 0x0, false, false, true⟩,
  ⟨0x108, [], 0x0, 0x0, 0x0, false, false, false⟩,
  ⟨0x10c, [], 0x0, 0x0, 0x0, true, false, false⟩,
  ⟨0x110, [], 0x0, 0x0, 0x0, true, false, false⟩,
  ⟨0x140, [(0x8, 8)], 0x0, 0x0, 0x0, false, false, false⟩,
  ⟨0x144, [(0x8, 8)], 0x0, 0x0, 0x0, false, false, false⟩,
  ⟨0x180, [(0xc, 8)], 0xffffffff, 0x0, 0x0, false, false, false⟩,
  ⟨0x184, [(0xc, 8)], 0xfff, 0x0, 0x0, false, false, false⟩,
  ⟨0x188, [(0xc, 8)], 0x7fff, 0x0, 0x0, false, false, false⟩,
  ⟨0x200, [(0x4, 32)], 0x0, 0x0, 0x0, false, false, false⟩]

/-- The registers of a RPL page. -/
def regsRpl : List RegDef := [
  ⟨0x100, [], 0x0, 0x0, 0x0, true, false, false⟩,
  ⟨0x104, [], 0x0, 0x0, 0x0, true, false, false⟩,
  ⟨0x108, [], 0x0, 0x0, 0x0, true, false, false⟩,
  ⟨0x10c, [], 0x0, 0x0, 0x0, false, false, false⟩]

/-- The registers of a PAR page. -/
def regsPar : List RegDef := [
  ⟨0x100, [], 0xb00000ff, 0x0, 0x0, false, false, false⟩,
  ⟨0x104, [], 0xffffffff, 0x0, 0x0, false, false, false⟩,
  ⟨0x108, [], 0xffffffff, 0x0, 0x0, false, false, false⟩,
  ⟨0x10c, [], 0x7f007f, 0x0, 0x0, false, false, false⟩,
  ⟨0x110, [], 0x3fff3fff, 0x0, 0x0, false, false, false⟩,
  ⟨0x114, [], 0x3fff1fff, 0x0, 0x0, false, false, false⟩,
  ⟨0x118, [], 0xffff7fff, 0x0, 0x0, false, false, false⟩,
  ⟨0x11c, [], 0x1fff0fff, 0x0, 0x0, false, false, false⟩,
  ⟨0x120, [], 0x0, 0x0, 0x0, false, false, false⟩,
  ⟨0x124, [], 0x0, 0x0, 0x0, false, false, false⟩]

/-- The registers of a COR page. -/
def regsCor : List RegDef := [
  ⟨0x300, [], 0x3f, 0x0, 0x0, false, false, false⟩,
  ⟨0x304, [], 0xffffffff, 0x0, 0x40, false, false, false⟩,
  ⟨0x308, [], 0xffffffff, 0x0, 0x10, false, false, false⟩,
  ⟨0x30c, [], 0xffffffff, 0x0, 0x0, false, false, false⟩,
  ⟨0x310, [], 0x0, 0x80000000, 0x0, false, false, false⟩,
  ⟨0x320, [(0x4, 6)], 0x0, 0x0, 0x0, true, true, false⟩,
  ⟨0x338, [], 0x0, 0x0, 0x0, true, true, false⟩,
  ⟨0x100, [], 0x7f03, 0x0, 0x2003, false, false, false⟩,
  ⟨0x104, [], 0x0, 0x0, 0x0, false, false, false⟩,
  ⟨0x108, [], 0x0, 0x0, 0x80808080, false, false, false⟩,
  ⟨0x110, [(0x4, 4)], 0x0, 0x0, 0x0, false, false, false⟩,
  ⟨0x120, [], 0x0, 0x0, 0x0, false, false, false⟩,
  ⟨0x124, [], 0x0, 0x80000000, 0x0, false, false, false⟩,
  ⟨0x140, [], 0x0, 0x0, 0x0, true, true, false⟩,
  ⟨0x144, [], 0x0, 0x0, 0x0, true, true, false⟩,
  ⟨0x148, [], 0x0, 0x0, 0x0, true, true, false⟩,
  ⟨0x14c, [], 0x0, 0x0, 0x0, true, true, false⟩,
  ⟨0x150, [], 0x0, 0x0, 0x0, true, true, false⟩,
  ⟨0x154, [], 0x0, 0x0, 0x0, true, true, false⟩,
  ⟨0x158, [], 0x0, 0x0, 0x0, true, true, false⟩,
  ⟨0x15c, [], 0x0, 0x0, 0x0, true, true, false⟩,
  ⟨0x200, [], 0x1, 0x0, 0x0, false, false, false⟩,
  ⟨0x204, [], 0x0, 0x80000000, 0x0, false, false, false⟩,
  ⟨0x210, [], 0x0, 0x0, 0x0, false, true, false⟩,
  ⟨0x214, [], 0x0, 0x0, 0x0, false, true, false⟩,
  ⟨0x218, [], 0x0, 0x0, 0x0, false, true, false⟩,
  ⟨0x220, [], 0x0, 0x0, 0x0, false, true, false⟩,
  ⟨0x224, [], 0x0, 0x0, 0x0, false, true, false⟩,
  ⟨0x228, [], 0x0, 0x0, 0x0, false, true, false⟩,
  ⟨0x22c, [], 0x0, 0x0, 0x0, false, true, false⟩,
  ⟨0x230, [], 0x0, 0x0, 0x0, false, true, false⟩]

/-- The registers of a DRV page. -/
def regsDrv : List RegDef := [
  ⟨0x100, [], 0x3, 0x0, 0x2, false, false, false⟩,
  ⟨0x104, [], 0x0, 0x0, 0x0, false, false, false⟩,
  ⟨0x108, [], 0x0, 0x0, 0x0, false, false, false⟩,
  ⟨0x110, [], 0x0, 0x0, 0x0, false, false, false⟩,
  ⟨0x114, [], 0x0, 0x0, 0x0, false, false, false⟩,
  ⟨0x118, [], 0x0, 0x0, 0x0, false, false, false⟩,
  ⟨0x11c, [], 0x0, 0x0, 0x0, false, false, false⟩,
  ⟨0x130, [(0x8, 4)], 0x0, 0x0, 0x0, false, false, false⟩,
  ⟨0x134, [(0x8, 4)], 0x0, 0x0, 0x0, false, false, false⟩,
  ⟨0x150, [], 0x1ffff, 0x0, 0x0, false, false, true⟩,
  ⟨0x154, [], 0x0, 0x0, 0x0, false, false, false⟩,
  ⟨0x160, [], 0x0, 0x0, 0x0, true, false, false⟩,
  ⟨0x164, [], 0x0, 0x0, 0x0, true, false, false⟩,
  ⟨0x168, [], 0x0, 0x0, 0x0, true, false, false⟩,
  ⟨0x16c, [], 0x0, 0x0, 0x0, true, false, false⟩,
  ⟨0x170, [], 0x0, 0x0, 0x0, true, false, false⟩,
  ⟨0x174, [], 0x0, 0x0, 0x0, true, false, false⟩,
  ⟨0x178, [], 0x0, 0x0, 0x0, true, false, false⟩,
  ⟨0x17c, [], 0x0, 0x0, 0x0, true, false, false⟩,
  ⟨0x180, [], 0x0, 0x0, 0x0, true, false, false⟩,
  ⟨0x184, [], 0x0, 0x0, 0x0, true, false, false⟩,
  ⟨0x188, [], 0x0, 0x0, 0x0, true, false, false⟩]

/-- The registers of a CNV page. -/
def regsCnv : List RegDef := [
  ⟨0x100, [], 0x1, 0x0, 0x1, false, false, false⟩,
  ⟨0x104, [], 0x0, 0x0, 0x0, false, false, false⟩,
  ⟨0x108, [], 0xffffffff, 0x0, 0x30d40, false, false, false⟩,
  ⟨0x10c, [], 0x7f, 0x0, 0x0, false, false, true⟩,
  ⟨0x110, [], 0x0, 0x0, 0x0, false, false, false⟩,
  ⟨0x114, [], 0x0, 0x0, 0x0, false, false, false⟩,
  ⟨0x120, [], 0x0, 0x0, 0x0, true, false, false⟩,
  ⟨0x124, [], 0x0, 0x0, 0x0, true, false, false⟩,
  ⟨0x128, [], 0x0, 0x0, 0x0, true, false, false⟩,
  ⟨0x12c, [], 0x0, 0x0, 0x0, true, false, false⟩,
  ⟨0x130, [], 0x0, 0x0, 0x0, true, false, false⟩,
  ⟨0x134, [], 0x0, 0x0, 0x0, true, false, false⟩,
  ⟨0x138, [], 0x0, 0x0, 0x0, true, false, false⟩,
  ⟨0x13c, [], 0x0, 0x0, 0x0, true, false, false⟩]

/-- The registers of a SRI page. -/
def regsSri : List RegDef := [
  ⟨0x100, [], 0x1, 0x0, 0x0, false, false, false⟩,
  ⟨0x104, [], 0xffffffff, 0x0, 0x1e8480, false, false, false⟩,
  ⟨0x108, [], 0x0, 0x0, 0x0, false, false, false⟩,
  ⟨0x10c, [], 0x1fff, 0x0, 0x0, false, false, true⟩,
  ⟨0x110, [], 0x0, 0x0, 0x0, false, false, false⟩,
  ⟨0x114, [], 0x0, 0x0, 0x0, false, false, false⟩,
  ⟨0x118, [], 0x0, 0x0, 0x0, false, false, false⟩,
  ⟨0x11c, [], 0x0, 0x0, 0x0, false, false, false⟩,
  ⟨0x120, [], 0x0, 0x0, 0x0, false, false, false⟩,
  ⟨0x140, [], 0x0, 0x0, 0x0, true, false, false⟩,
  ⟨0x144, [], 0x0, 0x0, 0x0, true, false, false⟩,
  ⟨0x148, [], 0x0, 0x0, 0x0, true, false, false⟩,
  ⟨0x14c, [], 0x0, 0x0, 0x0, true, false, false⟩,
  ⟨0x150, [], 0x0, 0x0, 0x0, true, false, false⟩,
  ⟨0x154, [], 0x0, 0x0, 0x0, true, false, false⟩,
  ⟨0x158, [], 0x0, 0x0, 0x0, true, false, false⟩,
  ⟨0x15c, [], 0x0, 0x0, 0x0, true, false, false⟩,
  ⟨0x160, [], 0x0, 0x0, 0x0, true, false, false⟩,
  ⟨0x200, [(0x20, 8)], 0xffffffff, 0x0, 0x0, false, false, false⟩,
  ⟨0x204, [(0x20, 8)], 0xfff, 0x0, 0x0, false, false, false⟩,
  ⟨0x208, [(0x20, 8)], 0x1ff, 0x0, 0x0, false, false, false⟩,
  ⟨0x20c, [(0x20, 8)], 0xffff, 0x0, 0x0, false, false, false⟩,
  ⟨0x210, [(0x20, 8)], 0x0, 0x0, 0x0, false, false, false⟩,
  ⟨0x214, [(0x20, 8)], 0x0, 0x0, 0x0, false, false, false⟩,
  ⟨0x218, [(0x20, 8)], 0xffffffff, 0x0, 0x0, false, false, false⟩,
  ⟨0x21c, [(0x20, 8)], 0xffffffff, 0x0, 0x0, false, false, false⟩]

/-- The registers of a LDG page. -/
def regsLdg : List RegDef := [
  ⟨0x100, [], 0xffffffff, 0x0, 0x0, false, false, false⟩,
  ⟨0x104, [], 0xfff, 0x0, 0x0, false, false, false⟩,
  ⟨0x108, [], 0xffffff, 0x0, 0x0, false, false, false⟩,
  ⟨0x110, [], 0xffffffff, 0x0, 0x0, false, false, false⟩,
  ⟨0x114, [], 0xfff, 0x0, 0x0, false, false, false⟩,
  ⟨0x118, [], 0xffffff, 0x0, 0x0, false, false, false⟩,
  ⟨0x120, [], 0x0, 0x0, 0x40000, false, false, false⟩,
  ⟨0x124, [], 0x0, 0x0, 0x0, false, false, false⟩,
  ⟨0x128, [], 0x0, 0x0, 0x0, false, false, false⟩,
  ⟨0x12c, [], 0xffffff, 0x0, 0x4000, false, false, false⟩,
  ⟨0x130, [], 0x0, 0x0, 0x0, false, false, true⟩,
  ⟨0x134, [], 0x0, 0x0, 0x0, false, false, true⟩,
  ⟨0x138, [], 0x0, 0x0, 0x0, false, false, true⟩,
  ⟨0x13c, [], 0x0, 0x0, 0x0, false, false, true⟩,
  ⟨0x140, [], 0x0, 0x0, 0x0, false, false, true⟩,
  ⟨0x144, [], 0x0, 0x0, 0x0, false, false, true⟩,
  ⟨0x150, [], 0x0, 0x0, 0x0, true, false, false⟩,
  ⟨0x154, [], 0x0, 0x0, 0x0, true, false, false⟩,
  ⟨0x158, [], 0x0, 0x0, 0x0, true, false, false⟩,
  ⟨0x15c, [], 0x0, 0x0, 0x0, true, false, false⟩,
  ⟨0x200, [(0x40, 8), (0x10, 3), (0x4, 3)], 0xffffff, 0x0, 0x0, false, false, false⟩,
  ⟨0x400, [(0x40, 8), (0x10, 3), (0x4, 3)], 0x0, 0x0, 0x0, false, false, false⟩]

/-- The registers of a GMC page. -/
def regsGmc : List RegDef := [
  ⟨0x100, [], 0x1, 0x0, 0x1, false, false, false⟩,
  ⟨0x104, [], 0x0, 0x0, 0x0, false, false, false⟩,
  ⟨0x108, [], 0x0, 0x0, 0x0, false, false, false⟩,
  ⟨0x10c, [], 0x0, 0x0, 0x0, false, false, false⟩,
  ⟨0x120, [], 0x0, 0x0, 0x0, true, false, false⟩,
  ⟨0x124, [], 0x0, 0x0, 0x0, true, false, false⟩,
  ⟨0x128, [], 0x0, 0x0, 0x0, true, false, false⟩,
  ⟨0x12c, [], 0x0, 0x0, 0x0, true, false, false⟩,
  ⟨0x130, [], 0x0, 0x0, 0x0, true, false, false⟩,
  ⟨0x134, [], 0x0, 0x0, 0x0, true, false, false⟩,
  ⟨0x138, [], 0x0, 0x0, 0x0, true, false, false⟩]

/-- The registers of a CXL page. -/
def regsCxl : List RegDef := [
  ⟨0x100, [], 0x1, 0x0, 0x0, false, false, false⟩,
  ⟨0x104, [], 0x0, 0x0, 0x0, false, false, false⟩,
  ⟨0x108, [], 0xffffffff, 0x0, 0x0, false, false, false⟩,
  ⟨0x10c, [], 0xffffffff, 0x0, 0x0, false, false, false⟩,
  ⟨0x110, [], 0x1, 0x0, 0x0, false, false, false⟩,
  ⟨0x114, [], 0xffffffff, 0x0, 0x0, false, false, false⟩,
  ⟨0x118, [], 0x0, 0x0, 0x0, false, false, false⟩,
  ⟨0x120, [], 0x0, 0x0, 0x0, true, false, false⟩,
  ⟨0x124, [], 0x0, 0x0, 0x0, true, false, false⟩,
  ⟨0x128, [], 0x0, 0x0, 0x0, true, false, false⟩,
  ⟨0x12c, [], 0x0, 0x0, 0x0, true, false, false⟩,
  ⟨0x130, [], 0x0, 0x0, 0x0, true, false, false⟩]

/-- The registers of a TIR page. -/
def regsTir : List RegDef := [
  ⟨0x100, [], 0xffffffff, 0x0, 0x0, false, false, false⟩,
  ⟨0x104, [], 0xffffffff, 0x0, 0x0, false, false, false⟩,
  ⟨0x108, [], 0xff01, 0x0, 0x1, false, false, false⟩,
  ⟨0x10c, [], 0x0, 0x0, 0x7e0040, false, false, false⟩,
  ⟨0x110, [], 0xffff, 0x0, 0x0, false, false, true⟩,
  ⟨0x114, [], 0x0, 0x0, 0x0, false, false, false⟩,
  ⟨0x118, [], 0x0, 0x80000000, 0x0, false, false, false⟩,
  ⟨0x140, [], 0x0, 0x0, 0x0, true, false, false⟩,
  ⟨0x144, [], 0x0, 0x0, 0x0, true, false, false⟩,
  ⟨0x148, [], 0x0, 0x0, 0x0, true, false, false⟩,
  ⟨0x14c, [], 0x0, 0x0, 0x0, true, false, false⟩,
  ⟨0x150, [], 0x0, 0x0, 0x0, true, false, false⟩,
  ⟨0x154, [], 0x0, 0x0, 0x0, true, false, false⟩,
  ⟨0x158, [], 0x0, 0x0, 0x0, true, false, false⟩,
  ⟨0x200, [(0x20, 8)], 0xffffffff, 0x0, 0x0, false, false, false⟩,
  ⟨0x204, [(0x20, 8)], 0xfff, 0x0, 0x0, false, false, false⟩,
  ⟨0x208, [(0x20, 8)], 0x1ffff, 0x0, 0x10000, false, false, false⟩,
  ⟨0x20c, [(0x20, 8)], 0x0, 0x0, 0x0, false, false, false⟩]

/-- The registers of a RTE page. -/
def regsRte : List RegDef := [
  ⟨0x100, [], 0x1fff, 0x0, 0x10c8, false, false, false⟩,
  ⟨0x104, [], 0xfffffff, 0x0, 0x1122488, false, false, false⟩,
  ⟨0x108, [], 0xffffffff, 0x0, 0x7a120, false, false, false⟩,
  ⟨0x10c, [], 0xffff, 0x0, 0x0, false, false, false⟩,
  ⟨0x110, [], 0x0, 0x0, 0x0, false, false, false⟩,
  ⟨0x114, [], 0x0, 0x0, 0x0, false, false, false⟩,
  ⟨0x118, [], 0xffffffff, 0x0, 0x0, false, false, false⟩,
  ⟨0x11c, [], 0xffffffff, 0x0, 0x0, false, false, false⟩,
  ⟨0x120, [], 0x1fff, 0x0, 0x0, false, false, true⟩,
  ⟨0x124, [(0x4, 4)], 0xffffffff, 0x0, 0x0, false, false, true⟩,
  ⟨0x140, [], 0xfff, 0x0, 0x0, false, false, true⟩,
  ⟨0x144, [], 0xf1, 0x0, 0x0, false, false, false⟩,
  ⟨0x148, [], 0x0, 0x80000000, 0x0, false, false, false⟩,
  ⟨0x150, [(0x4, 16)], 0xffffffff, 0x0, 0x0, false, false, false⟩,
  ⟨0x190, [(0x4, 8)], 0x80000fff, 0x0, 0x0, false, false, false⟩,
  ⟨0x1b0, [], 0x0, 0x0, 0x0, false, false, false⟩,
  ⟨0x1b4, [(0x4, 16)], 0x0, 0x0, 0x0, false, false, false⟩,
  ⟨0x240, [(0x4, 16)], 0x0, 0x0, 0x0, false, false, false⟩,
  ⟨0x200, [], 0x0, 0x0, 0x0, true, false, false⟩,
  ⟨0x204, [], 0x0, 0x0, 0x0, true, false, false⟩,
  ⟨0x208, [], 0x0, 0x0, 0x0, true, false, false⟩,
  ⟨0x20c, [], 0x0, 0x0, 0x0, true, false, false⟩,
  ⟨0x210, [], 0x0, 0x0, 0x0, true, false, false⟩,
  ⟨0x214, [], 0x0, 0x0, 0x0, true, false, false⟩,
  ⟨0x218, [], 0x0, 0x0, 0x0, true, false, false⟩,
  ⟨0x21c, [], 0x0, 0x0, 0x0, true, false, false⟩,
  ⟨0x220, [], 0x0, 0x0, 0x0, true, false, false⟩,
  ⟨0x224, [], 0x0, 0x0, 0x0, true, false, false⟩]

/-- The registers of a TRP page. -/
def regsTrp : List RegDef := [
  ⟨0x100, [], 0x1, 0x0, 0x1, false, false, false⟩,
  ⟨0x104, [], 0x0, 0x0, 0x0, false, false, false⟩,
  ⟨0x108, [], 0x8007ffff, 0x0, 0x80000000, false, false, false⟩,
  ⟨0x10c, [], 0x80ff0fff, 0x0, 0x80180000, false, false, false⟩,
  ⟨0x110, [], 0xffffff, 0x0, 0x81388, false, false, false⟩,
  ⟨0x114, [], 0x0, 0x0, 0x0, false, false, false⟩,
  ⟨0x120, [], 0x0, 0x0, 0x0, true, false, false⟩,
  ⟨0x124, [], 0x0, 0x0, 0x0, true, false, false⟩,
  ⟨0x128, [], 0x0, 0x0, 0x0, true, false, false⟩,
  ⟨0x12c, [], 0x0, 0x0, 0x0, true, false, false⟩,
  ⟨0x130, [], 0x0, 0x0, 0x0, true, false, false⟩,
  ⟨0x134, [], 0x0, 0x0, 0x0, true, false, false⟩,
  ⟨0x138, [], 0x0, 0x0, 0x0, true, false, false⟩,
  ⟨0x13c, [], 0x0, 0x0, 0x0, true, false, false⟩]

/-- The registers of a SPN page. -/
def regsSpn : List RegDef := [
  ⟨0x100, [], 0x3, 0x0, 0x3, false, false, false⟩,
  ⟨0x104, [], 0xffff, 0x0, 0x88b5, false, false, false⟩,
  ⟨0x108, [], 0xffffff, 0x0, 0x24d5a, false, false, false⟩,
  ⟨0x10c, [], 0x0, 0x0, 0x0, false, false, false⟩,
  ⟨0x120, [], 0x0, 0x0, 0x0, true, false, false⟩,
  ⟨0x124, [], 0x0, 0x0, 0x0, true, false, false⟩,
  ⟨0x128, [], 0x0, 0x0, 0x0, true, false, false⟩,
  ⟨0x12c, [], 0x0, 0x0, 0x0, true, false, false⟩,
  ⟨0x130, [], 0x0, 0x0, 0x0, true, false, false⟩,
  ⟨0x134, [], 0x0, 0x0, 0x0, true, false, false⟩,
  ⟨0x138, [], 0x0, 0x0, 0x0, true, false, false⟩,
  ⟨0x13c, [], 0x0, 0x0, 0x0, true, false, false⟩]

/-- The registers of a TOL page. -/
def regsTol : List RegDef := [
  ⟨0x100, [], 0xffffffff, 0x0, 0x30d40, false, false, false⟩,
  ⟨0x104, [], 0xffffffff, 0x0, 0x1e8480, false, false, false⟩,
  ⟨0x108, [], 0x0, 0x0, 0x0, false, false, false⟩,
  ⟨0x300, [(0x8, 16)], 0xc7000fff, 0x0, 0x0, false, false, false⟩,
  ⟨0x304, [(0x8, 16)], 0xff0fffff, 0x0, 0x80000, false, false, false⟩,
  ⟨0x180, [], 0x0, 0x0, 0x0, true, false, false⟩,
  ⟨0x184, [], 0x0, 0x0, 0x0, true, false, false⟩,
  ⟨0x188, [], 0x0, 0x0, 0x0, true, false, false⟩,
  ⟨0x18c, [], 0x0, 0x0, 0x0, true, false, false⟩,
  ⟨0x190, [], 0x0, 0x0, 0x0, true, false, false⟩,
  ⟨0x194, [], 0x0, 0x0, 0x0, true, false, false⟩,
  ⟨0x200, [(0x10, 8)], 0x80070fff, 0x0, 0x0, false, false, false⟩,
  ⟨0x204, [(0x10, 8)], 0xffffff, 0x0, 0x30000, false, false, false⟩,
  ⟨0x208, [(0x10, 8)], 0x0, 0x0, 0x0, false, false, false⟩]

/-- The registers of a COL page. -/
def regsCol : List RegDef := [
  ⟨0x100, [], 0xffffffff, 0x0, 0x30d40, false, false, false⟩,
  ⟨0x104, [], 0x0, 0x0, 0x0, false, false, false⟩,
  ⟨0x108, [], 0xf, 0x0, 0x0, false, false, true⟩,
  ⟨0x10c, [], 0x0, 0x0, 0x0, false, false, false⟩,
  ⟨0x110, [], 0x0, 0x0, 0x0, false, false, false⟩,
  ⟨0x118, [], 0x0, 0x0, 0x0, false, false, false⟩,
  ⟨0x11c, [], 0x0, 0x0, 0x0, false, false, false⟩,
  ⟨0x120, [], 0x0, 0x0, 0x0, false, false, false⟩,
  ⟨0x140, [], 0x0, 0x0, 0x0, true, false, false⟩,
  ⟨0x144, [], 0x0, 0x0, 0x0, true, false, false⟩,
  ⟨0x148, [], 0x0, 0x0, 0x0, true, false, false⟩,
  ⟨0x14c, [], 0x0, 0x0, 0x0, true, false, false⟩,
  ⟨0x150, [], 0x0, 0x0, 0x0, true, false, false⟩,
  ⟨0x154, [], 0x0, 0x0, 0x0, true, false, false⟩,
  ⟨0x158, [], 0x0, 0x0, 0x0, true, false, false⟩,
  ⟨0x15c, [], 0x0, 0x0, 0x0, true, false, false⟩,
  ⟨0x160, [], 0x0, 0x0, 0x0, true, false, false⟩]

/-- The registers of a RMO page. -/
def regsRmo : List RegDef := [
  ⟨0x100, [], 0x0, 0x0, 0x0, false, false, false⟩,
  ⟨0x104, [], 0xffffffff, 0x0, 0x30d40, false, false, false⟩,
  ⟨0x108, [], 0xff, 0x0, 0x0, false, false, true⟩,
  ⟨0x110, [(0x4, 4)], 0xffffffff, 0x0, 0x0, false, false, true⟩,
  ⟨0x140, [], 0x0, 0x0, 0x0, true, false, false⟩,
  ⟨0x144, [], 0x0, 0x0, 0x0, true, false, false⟩,
  ⟨0x148, [], 0x0, 0x0, 0x0, true, false, false⟩,
  ⟨0x14c, [], 0x0, 0x0, 0x0, true, false, false⟩,
  ⟨0x150, [], 0x0, 0x0, 0x0, true, false, false⟩,
  ⟨0x154, [], 0x0, 0x0, 0x0, true, false, false⟩,
  ⟨0x158, [], 0x0, 0x0, 0x0, true, false, false⟩,
  ⟨0x200, [(0x20, 16)], 0x80000007, 0x0, 0x0, false, false, false⟩,
  ⟨0x204, [(0x20, 16)], 0xffffffff, 0x0, 0x0, false, false, false⟩,
  ⟨0x208, [(0x20, 16)], 0xfff, 0x0, 0x0, false, false, false⟩,
  ⟨0x20c, [(0x20, 16)], 0x1ffff, 0x0, 0x10000, false, false, false⟩,
  ⟨0x210, [(0x20, 16)], 0x0, 0x0, 0x0, false, false, false⟩]

/-- The registers of a GWY page. -/
def regsGwy : List RegDef := [
  ⟨0x100, [], 0x1, 0x0, 0x1, false, false, false⟩,
  ⟨0x104, [], 0xffffffff, 0x0, 0x7d0, false, false, false⟩,
  ⟨0x108, [], 0xffffffff, 0x0, 0xf4240, false, false, false⟩,
  ⟨0x10c, [], 0xf, 0x0, 0x2, false, false, false⟩,
  ⟨0x110, [], 0x0, 0x0, 0x0, false, false, false⟩,
  ⟨0x140, [], 0x0, 0x0, 0x0, true, false, false⟩,
  ⟨0x144, [], 0x0, 0x0, 0x0, true, false, false⟩,
  ⟨0x148, [], 0x0, 0x0, 0x0, true, false, false⟩,
  ⟨0x14c, [], 0x0, 0x0, 0x0, true, false, false⟩,
  ⟨0x150, [], 0x0, 0x0, 0x0, true, false, false⟩,
  ⟨0x154, [], 0x0, 0x0, 0x0, true, false, false⟩]

/-- The registers of a OPE page. -/
def regsOpe : List RegDef := [
  ⟨0x100, [], 0x1, 0x0, 0x1, false, false, false⟩,
  ⟨0x104, [], 0x0, 0x0, 0x0, false, false, false⟩,
  ⟨0x108, [], 0x0, 0x0, 0x0, false, false, false⟩,
  ⟨0x10c, [], 0xffffffff, 0x0, 0x5dc060e, false, false, false⟩,
  ⟨0x110, [], 0xffffffff, 0x0, 0x76c073a, false, false, false⟩,
  ⟨0x114, [], 0x0, 0x0, 0x76543210, false, false, false⟩,
  ⟨0x118, [], 0x0, 0x0, 0x0, false, false, false⟩,
  ⟨0x11c, [], 0xffff, 0x0, 0x4000, false, false, false⟩,
  ⟨0x120, [], 0xf, 0x0, 0x0, false, false, true⟩,
  ⟨0x124, [], 0x0, 0x0, 0x0, false, false, false⟩,
  ⟨0x128, [], 0x0, 0x0, 0x0, false, true, false⟩,
  ⟨0x12c, [], 0x0, 0x0, 0x0, false, false, false⟩,
  ⟨0x140, [], 0x0, 0x0, 0x0, true, true, false⟩,
  ⟨0x144, [], 0x0, 0x0, 0x0, true, true, false⟩,
  ⟨0x148, [], 0x0, 0x0, 0x0, true, true, false⟩,
  ⟨0x14c, [], 0x0, 0x0, 0x0, true, true, false⟩,
  ⟨0x150, [], 0x0, 0x0, 0x0, true, true, false⟩,
  ⟨0x154, [], 0x0, 0x0, 0x0, true, true, false⟩]

/-- The registers of a CKP page. -/
def regsCkp : List RegDef := [
  ⟨0x100, [], 0xffffffff, 0x0, 0x30d40, false, false, false⟩,
  ⟨0x140, [], 0x0, 0x0, 0x0, true, false, false⟩,
  ⟨0x144, [], 0x0, 0x0, 0x0, true, false, false⟩,
  ⟨0x148, [], 0x0, 0x0, 0x0, true, false, false⟩,
  ⟨0x14c, [], 0x0, 0x0, 0x0, true, false, false⟩,
  ⟨0x150, [], 0x0, 0x0, 0x0, true, false, false⟩,
  ⟨0x154, [], 0x0, 0x0, 0x0, true, false, false⟩,
  ⟨0x158, [], 0x0, 0x0, 0x0, true, false, false⟩,
  ⟨0x200, [(0x40, 8)], 0xffffffff, 0x0, 0x0, false, false, false⟩,
  ⟨0x204, [(0x40, 8)], 0xfff, 0x0, 0x0, false, false, false⟩,
  ⟨0x208, [(0x40, 8)], 0x7fff, 0x0, 0x0, false, false, false⟩,
  ⟨0x20c, [(0x40, 8)], 0x8fffffff, 0x0, 0x0, false, false, false⟩,
  ⟨0x210, [(0x40, 8)], 0x8fffffff, 0x0, 0x0, false, false, false⟩,
  ⟨0x214, [(0x40, 8)], 0xffffffff, 0x0, 0x0, false, false, false⟩,
  ⟨0x218, [(0x40, 8)], 0xfff, 0x0, 0x0, false, false, false⟩,
  ⟨0x21c, [(0x40, 8)], 0xfff, 0x0, 0x0, false, false, false⟩,
  ⟨0x220, [(0x40, 8)], 0xffffffff, 0x0, 0x0, false, false, false⟩,
  ⟨0x224, [(0x40, 8)], 0x0, 0x0, 0x0, false, false, false⟩,
  ⟨0x228, [(0x40, 8)], 0x0, 0x0, 0x0, false, false, false⟩,
  ⟨0x22c, [(0x40, 8)], 0xffffffff, 0x0, 0x0, false, false, false⟩,
  ⟨0x230, [(0x40, 8)], 0xfff, 0x0, 0x0, false, false, false⟩,
  ⟨0x234, [(0x40, 8)], 0xffff, 0x0, 0x0, false, false, false⟩,
  ⟨0x238, [(0x40, 8)], 0xffffffff, 0x0, 0x0, false, false, false⟩,
  ⟨0x23c, [(0x40, 8)], 0x0, 0x0, 0x0, false, false, false⟩]

/-- The register table of a kind of block. -/
def blockRegs : Blk → List RegDef
  | .dev => regsDev
  | .pwr => regsPwr
  | .clk => regsClk
  | .wst => regsWst
  | .sec => regsSec
  | .dbg => regsDbg
  | .flt => regsFlt
  | .mgt => regsMgt
  | .ctp => regsCtp
  | .sch => regsSch
  | .lnt => regsLnt
  | .scb => regsScb
  | .str => regsStr
  | .rpl => regsRpl
  | .par => regsPar
  | .cor => regsCor
  | .drv => regsDrv
  | .cnv => regsCnv
  | .sri => regsSri
  | .ldg => regsLdg
  | .gmc => regsGmc
  | .cxl => regsCxl
  | .tir => regsTir
  | .rte => regsRte
  | .trp => regsTrp
  | .spn => regsSpn
  | .tol => regsTol
  | .col => regsCol
  | .rmo => regsRmo
  | .gwy => regsGwy
  | .ope => regsOpe
  | .ckp => regsCkp

end Sys2Proof.Machine
end

