-- ==== Sys2Proof/Machine/State.lean ====
section
/-! DEFINITION. The state of the MZH1-56L as plain data: every register, table, queue, counter, mode and
pin the spec names, the queue of waiting commands, and what the device has sent. -/
namespace Sys2Proof.Machine

/-- The reasons a step stops with a fault: there are none. Every command of this device has an effect, if only to leave the
device as it was; what a reading beyond the absolute maximum ratings of R435 damages is not modelled (log 3, DESIGN CHOICE). -/
inductive Fault where
  deriving DecidableEq, Repr

/-- The reasons a command is refused by the model itself. -/
inductive Refusal where
  /-- No meaning has been given to the command yet. Safe: nothing can be proved of its effect. -/
  | notModelled (mnemonic : String)
  deriving DecidableEq, Repr

/-! Register pages (R30) -/

/-- PG_STATE.STATE (Table 2.5). -/
inductive PgState where
  | off | starting | on | stopping | fault | quarantined
  deriving DecidableEq, Repr

/-- The common header of a page, but for its constant words (Tables 2.5 to 2.8); since is when it entered
STARTING or STOPPING (R38), in elapsed ticks. -/
structure Page where
  st : PgState
  en : Bool
  halt : Bool
  reen : Bool
  irq : W32
  irqEn : W32
  err : W32
  errCnt : W32
  owner : BitVec 8
  lock : BitVec 3
  snapSeq : Byte
  snapValid : Bool
  snapTake : Bool
  since : Nat
  deriving DecidableEq, Repr

/-- A page after device reset (Tables 2.5 to 2.8, R31): OFF, or always ON where PG_CAP.SM is 0. -/
def Page.init (sm : Bool) : Page :=
  { st := if sm then .off else .on, en := !sm, halt := false, reen := false, irq := 0, irqEn := 0, err := 0,
    errCnt := 0, owner := 0, lock := 0, snapSeq := 0, snapValid := false, snapTake := false, since := 0 }

/-! What leaves the device -/

/-- A control message (Table 14.5). -/
structure Msg where
  type : Nat
  resp : Bool
  last : Bool
  prot : Bool
  mseq : W32
  status : Nat
  rseq : W32
  payload : List Byte
  deriving DecidableEq, Repr

/-- A control unit of the lane layer that carries data (Table 14.2). -/
inductive CtlUnit where
  | timingReq (xnum : W16)
  | timingReply (mode : BitVec 3) (t2 t3 : W64) (xnum : W16)
  | swap (kind : SwapKind) (logical : Nat) (spare : Nat)
  deriving DecidableEq, Repr

/-- What the device sends, in the order it is sent. -/
inductive Out where
  /-- a message handed to a control port -/
  | msg (port : Nat) (m : Msg)
  /-- a flit of a control port (Table 14.4) -/
  | flit (port : Nat) (f : BitVec 512)
  /-- a flit group of a torus port -/
  | group (port : Nat) (g : FlitGroup)
  /-- a frame of a spine port -/
  | spine (port : Nat) (f : SpineFrame)
  /-- a control unit on an engine's lanes -/
  | ctlUnit (eng : Nat) (u : CtlUnit)
  /-- an in-band interrupt on the service bus, with its data byte -/
  | ibi (data : Byte)
  /-- the four bytes a service-bus read returns -/
  | svcRead (data : W32)
  /-- a CXL access sent to a CXL port: the address, and whether it writes -/
  | cxl (port : Nat) (addr : Nat) (write : Bool)
  deriving DecidableEq, Repr

/-! Time (R40 to R49) -/

/-- WST_STAT.MODE (Table 3.1). -/
inductive WstMode where
  | free | acquire | locked | holdover
  deriving DecidableEq, Repr

/-- A torus port's link measurement (R44, R45): the last ten exchanges, delay then offset. -/
structure NbrTime where
  samples : List (Int × Int)
  t1 : Option (Nat × W16)
  mode : Nat
  excluded : Bool
  okRun : Nat
  xnum : W16
  lastAt : Option Nat
  deriving DecidableEq, Repr

def NbrTime.init : NbrTime :=
  { samples := [], t1 := none, mode := 0, excluded := false, okRun := 0, xnum := 0,
    lastAt := none }

/-- The Waystone: 64-bit count, 40-bit fraction, servo and mode; the compute-die copies (R15) in 2^-40 tick. -/
structure Waystone where
  count : Nat
  frac : Nat
  adj : Int
  adjI : Int
  mode : WstMode
  off : Int
  lastAccept : Option Nat
  lockRun : Nat
  holdSince : Nat
  lastServo : Nat
  ports : Vector NbrTime 8
  copies : Vector Nat 2
  deriving DecidableEq, Repr

def Waystone.init : Waystone :=
  { count := 0, frac := 0, adj := 0, adjI := 0, mode := .free, off := 0, lastAccept := none, lockRun := 0,
    holdSince := 0, lastServo := 0, ports := Vector.replicate 8 NbrTime.init,
    copies := Vector.replicate 2 0 }

/-! Control ports (R343 to R349) -/

/-- The LINK codes of TRP_STAT, SPN_STAT and CTP_STAT. -/
inductive Link where
  | down | training | up | lost
  deriving DecidableEq, Repr

/-- A session on a control port (R393). -/
structure Session where
  keys : BitVec 576
  rseq : Nat
  inCount : Nat
  reported : Bool
  deriving DecidableEq, Repr

/-- One control port. Times are in elapsed ticks. -/
structure CtlPort where
  link : Link
  nodeBuf : Nat
  credit : Nat
  fseqTx : W16
  fseqRx : W16
  freed : Nat
  retry : List (BitVec 512)
  waiting : List (Bool × List Byte)
  resends : Nat
  lastFlit : Nat
  asmLen : Nat
  asm : List Byte
  arrived : List Msg
  expect : Option W32
  applied : W32
  firsts : List (W32 × Nat × List Byte)
  events : List (List Byte)
  evOvf : Bool
  devSeq : W32
  hbAt : Nat
  nodeAt : Nat
  silent : Bool
  session : Option Session
  deriving DecidableEq, Repr

def CtlPort.init : CtlPort :=
  { link := .down, nodeBuf := 0, credit := 0, fseqTx := 0, fseqRx := 0, freed := 0, retry := [],
    waiting := [], resends := 0, lastFlit := 0, asmLen := 0, asm := [], arrived := [], expect := none,
    applied := 0, firsts := [], events := [], evOvf := false, devSeq := 0, hbAt := 0, nodeAt := 0,
    silent := false, session := none }

/-! Optical engines (R327 to R338) -/

/-- OPE_LSTAT.STATE (Table 14.8). -/
inductive LaneState where
  | dark | signal | equalised | fecLock | aligned | up | failed
  deriving DecidableEq, Repr

/-- A lane swap in progress (R336). -/
structure LaneSwap where
  logical : Nat
  spare : Nat
  started : Nat
  acked : Bool
  aligned : Bool
  doneHere : Bool
  doneThere : Bool
  oldFails : Bool
  deriving DecidableEq, Repr

/-- One optical engine: nine physical lanes. -/
structure Engine where
  lanes : Vector LaneState 9
  power : Int
  flags : BitVec 4
  lowRun : Nat
  lit : Bool
  temp : Nat
  rxPower : Vector Int 9
  swaps : List LaneSwap
  deriving DecidableEq, Repr

def Engine.init : Engine :=
  { lanes := Vector.replicate 9 .dark, power := 0, flags := 0, lowRun := 0, lit := false, temp := 0,
    rxPower := Vector.replicate 9 0, swaps := [] }

/-! Streams (R50 to R66) -/

/-- A frame in reassembly (R56); full says that it found no ring space (R65), roff its reserved record. -/
structure Reasm where
  seq : W32
  fragCnt : Nat
  len : Nat
  got : List Nat
  roff : Nat
  full : Bool
  started : Nat
  media : Nat
  ingest : Nat
  discont : Bool
  deriving DecidableEq, Repr

/-- An entry of a stream that is not yet bound: an accepted frame waiting for its tick, or an entry the
stream has made at a tick (R59, R61). roff is the ring offset of its record, none where none was written;
phase is P of R57. -/
structure Entry where
  seq : W32
  tick : Nat
  absent : Bool
  roff : Option Nat
  phase : Int
  deriving DecidableEq, Repr

/-- A binding made for a step (R62 to R64): what its entry of Table 3.6 says, where
it stands, whether it has been written, whether its deadline has passed, and whether its step is over, so that
only its write is still to come. -/
structure Bound where
  step : W32
  launch : Nat
  deadline : Nat
  addr : Nat
  record : Nat
  typ : Nat
  seq : W32
  idle : Bool
  latePhys : Bool
  dropped : Bool
  written : Bool
  passed : Bool
  done : Bool
  deriving DecidableEq, Repr

/-- A record presented by a replay and not yet bound (R66). -/
structure Presented where
  record : Nat
  typ : Nat
  seq : W32
  tick : Nat
  deriving DecidableEq, Repr

/-- A replay in progress (R66): the command's count, the BIND of the first bound record, the offset to
read next, and what has been presented. -/
structure Replay where
  start : Nat
  first : Option Nat
  ptr : Nat
  presented : List Presented
  deriving DecidableEq, Repr

/-- What a stream holds beside its descriptor. -/
structure StreamAux where
  slots : List Entry
  entries : List Entry
  reasm : List Reasm
  resync : Bool
  bucketAt : Nat
  bucketRem : Nat
  replay : Option Replay
  bound : List Bound
  evTimes : SMap Nat
  deriving DecidableEq, Repr

def StreamAux.init : StreamAux :=
  { slots := [], entries := [], reasm := [], resync := false, bucketAt := 0, bucketRem := 0,
    replay := none, bound := [], evTimes := [] }

/-- The stream block: descriptor words by 32 · stream + word, what each stream holds beside, and the
event queues of the partitions, oldest first. -/
structure Streams where
  desc : SMap W32
  aux : SMap StreamAux
  evq : Vector (List (Nat × Nat)) 8
  evOvf : BitVec 8
  deriving DecidableEq, Repr

def Streams.init : Streams :=
  { desc := [], aux := [], evq := Vector.replicate 8 [], evOvf := 0 }

/-! Scheduler, launch table and scoreboards (R68 to R86) -/

/-- Where a task of an active graph stands. -/
inductive TaskSt where
  | waiting | running (core : Nat) | done | skipped | failed
  deriving DecidableEq, Repr

/-- An active graph (Table 4.7). run counts the ticks up to since; since is the tick from which it runs. -/
structure Graph where
  index : Nat
  step : W32
  launch : Nat
  taskBase : Nat
  count : Nat
  scbBase : Nat
  scbCount : Nat
  limit : Nat
  run : Nat
  since : Option Nat
  descs : SMap (BitVec 512)
  tasks : SMap TaskSt
  failed : Bool
  timeout : Bool
  failTask : Nat
  gid : Nat
  digest : BitVec 64
  deriving DecidableEq, Repr

/-- A signal that waits for the launch of its step (R73). -/
structure Held where
  step : W32
  ctr : Nat
  add : Nat
  deriving DecidableEq, Repr

/-- A live launch that waits for the active live graph (R82). -/
structure Launch where
  index : Nat
  step : W32
  count : Nat
  deriving DecidableEq, Repr

/-- SCH_LASTp (Table 4.4). -/
structure LastRec where
  step : W32
  done : Nat
  task : Nat
  status : Nat
  deriving DecidableEq, Repr

/-- The scheduler's part for one partition: retired step (R125), aborts and failures held for a later launch
(R128, R360), queues that completed with a total of zero (R75), and the KV layer entries and roots the
step's log holds or lacks (R363), the recomputation to launch (R362), and the steps whose bindings are not
written yet, oldest first (R62). -/
structure SchedPart where
  live : Option Graph
  bg : Option Graph
  deferred : Option Launch
  held : List Held
  voting : Option Graph
  last : LastRec
  retired : Option W32
  heldAborts : List W32
  prefail : List W32
  emptyQ : List (Nat × W32)
  resetting : Bool
  kvSeen : List Nat
  kvLost : List Nat
  rcmp : Option Launch
  binds : List W32
  deriving DecidableEq, Repr

def SchedPart.init : SchedPart :=
  { live := none, bg := none, deferred := none, held := [], voting := none,
    last := ⟨0, 0, 0, 0⟩, retired := none, heldAborts := [], prefail := [], emptyQ := [],
    resetting := false, kvSeen := [], kvLost := [], rcmp := none, binds := [] }

/-- Scheduler, launch table (16-byte entries by slot), scoreboard counters (bit 16: SCB_OVF), and the number
of graph launches so far (R101: every launch differs). -/
structure Sched where
  parts : Vector SchedPart 8
  slots : SMap (BitVec 128)
  ctrs : SMap Nat
  launches : Nat
  deriving DecidableEq, Repr

def Sched.init : Sched := { parts := Vector.replicate 8 SchedPart.init, slots := [], ctrs := [], launches := 0 }

/-! Security, partitions and debug (R380 to R404) -/

/-- A partition's security state. -/
structure PartSec where
  kg : Option (BitVec 512)
  kc : Option (BitVec 512)
  bundle : Option (BitVec 128)
  quiet : Bool
  dirty : Bool
  scrubbing : Bool
  scrubbed : Nat
  deriving DecidableEq, Repr

def PartSec.init : PartSec :=
  { kg := none, kc := none, bundle := none, quiet := false, dirty := false, scrubbing := false,
    scrubbed := 0 }

/-- MGT_STAT.STATE (Table 16.11). -/
inductive MgtState where
  | running | staged | switching | verifyFail
  deriving DecidableEq, Repr

/-- The security block. -/
structure Sec where
  identity : Bool
  developer : Bool
  signer : Nat
  certId : BitVec 128
  devKey : List Byte
  mgmt : Option (Fin 4)
  handover : Option (Fin 4)
  loading : Option (Fin 4)
  stage : SMap Byte
  fwMeas : BitVec 384
  mgtMeas : BitVec 384
  mgtNext : BitVec 384
  mgtGen : Nat
  mgtState : MgtState
  swapAt : Nat
  pause : Nat
  heldMsgs : List Instr
  level : Nat
  pmask : BitVec 8
  expiry : Nat
  nonce : BitVec 256
  tokStat : Nat
  accStat : Nat
  opening : Option (Fin 8)
  bStat : Nat
  trWr : Nat
  parts : Vector PartSec 8
  deriving DecidableEq, Repr

def Sec.init : Sec :=
  { identity := false, developer := false, signer := 0, certId := 0, devKey := [], mgmt := none,
    handover := none, loading := none, stage := [], fwMeas := 0, mgtMeas := 0, mgtNext := 0, mgtGen := 0,
    mgtState := .running, swapAt := 0, pause := 0, heldMsgs := [], level := 0, pmask := 0, expiry := 0,
    nonce := 0, tokStat := 0, accStat := 0, opening := none, bStat := 0, trWr := 0,
    parts := Vector.replicate 8 PartSec.init }

/-! Power, clocks, start-up and the service bus (R407 to R434) -/

/-- The HEARTBEAT device state (R349). -/
inductive DevState where
  | boot | fwload | selftest | training | ready | stopped
  deriving DecidableEq, Repr

/-- Supply, regulator groups, clocks, sensors, pins and the start-up sequence; a software reset that waits for its
response to be sent (R418); and whether the self-tests of step 6 are done (R423). -/
structure Power where
  supply : Nat
  powered : Bool
  groupE : Bool
  groupW : Bool
  groupF : Bool
  inReset : Bool
  dev : DevState
  step : Nat
  state : Nat
  target : Nat
  pending : Bool
  kEast : Nat
  kWest : Nat
  downEast : Nat
  downWest : Nat
  fast : Bool
  therm : Bool
  tshut : Bool
  pfw : Bool
  pfwIn : Bool
  tEast : Int
  tWest : Int
  tFabric : Int
  p10 : Nat
  p1 : Nat
  amps : Nat
  bootGo : Bool
  firstMarker : Option Nat
  pll : BitVec 32
  rstReq : Bool
  tested : Bool
  deriving DecidableEq, Repr

def Power.init : Power :=
  { supply := 56000, powered := true, groupE := false, groupW := false, groupF := false, inReset := false,
    dev := .boot, step := 1, state := 0, target := 0, pending := false, kEast := 16, kWest := 16,
    downEast := 0, downWest := 0, fast := false, therm := false, tshut := false, pfw := false,
    pfwIn := false, tEast := 0, tWest := 0, tFabric := 0, p10 := 0, p1 := 0, amps := 0, bootGo := false,
    firstMarker := none, pll := 0, rstReq := false, tested := false }

/-- The service-bus registers, its I3C address, and the data bytes of in-band interrupts that the controller has
not acknowledged, oldest first (Table 18.3, R432, R434). -/
structure Service where
  alert : BitVec 7
  alertEn : BitVec 7
  dynAddr : Option (BitVec 7)
  index : Nat
  ibis : List Byte
  deriving DecidableEq, Repr

def Service.init : Service :=
  { alert := 0, alertEn := 0x7F, dynAddr := none, index := 0, ibis := [] }

/-! Suspects (R354, R355) -/

/-- An entry of the suspect table. Times are in elapsed ticks. -/
structure Suspect where
  coord : Coord
  cause : BitVec 10
  count : Nat
  seenAt : Nat
  round : Nat
  sentAt : Option Nat
  due : Bool
  deriving DecidableEq, Repr

/-! Router, torus and spine ports (R255 to R287) -/

/-- A packet in an input buffer: when it reached the head of its queue, and whether it is an escape packet. -/
structure Buffered where
  pkt : Packet
  headAt : Nat
  escape : Bool
  deriving DecidableEq, Repr

/-- A torus port: its link, its groups in both directions, and its loss history. -/
structure Torus where
  link : Link
  nbr : Coord
  nbrPort : Nat
  txNext : W16
  rxLast : W16
  rxValid : Bool
  retry : List FlitGroup
  resends : Nat
  lastGroup : Nat
  losses : List Nat
  waitNotice : Option Nat
  nak : Bool
  cur : Option Nat
  nextVc : Nat
  deficit : Vector Nat 8
  deriving DecidableEq, Repr

def Torus.init : Torus :=
  { link := .down, nbr := 0, nbrPort := 0, txNext := 0, rxLast := 0, rxValid := false, retry := [],
    resends := 0, lastGroup := 0, losses := [], waitNotice := none, nak := false, cur := none, nextVc := 1,
    deficit := Vector.replicate 8 0 }

/-- A spine port's link. -/
structure Spine where
  up : Bool
  losses : List Nat
  deriving DecidableEq, Repr

/-- A slot of the fault set (R279). -/
structure FaultSlot where
  fault : Nat
  reporters : List Coord
  deriving DecidableEq, Repr

/-- The router: tag table, override entries by 4096 · bank + entry, epochs, fault set, input buffers by
8 · input + VC, output queues and credit by 8 · port + VC, and packets delivered to the local port. -/
structure Router where
  tags : SMap Nat
  ovr : SMap (BitVec 128)
  active : Bool
  armed : Bool
  armFclr : Bool
  held : Bool
  faults : List FaultSlot
  bufs : SMap (List Buffered)
  txq : SMap (List Flit)
  credit : SMap Nat
  owed : SMap Nat
  rx : SMap (List Flit)
  lastIn : SMap Nat
  arrived : List (Nat × Packet)
  ejected : List Packet
  torus : Vector Torus 8
  spine : Vector Spine 2
  dead : Bool
  deriving DecidableEq, Repr

def Router.init : Router :=
  { tags := [], ovr := [], active := false, armed := false, armFclr := false, held := false, faults := [],
    bufs := [], txq := [], credit := [], owed := [], rx := [], lastIn := [], arrived := [], ejected := [],
    torus := Vector.replicate 8 Torus.init, spine := Vector.replicate 2 ⟨false, []⟩, dead := false }

/-! Memory tiers (R231 to R254) -/

/-- TIR_FSTAT.STATE of a frame that is not free (Table 10.10). -/
inductive FrameState where
  | filling | resident | draining
  deriving DecidableEq, Repr

/-- A frame in use: the CXL page it holds, counted from the window's base, and its partition. -/
structure Frame where
  st : FrameState
  part : Nat
  cpage : Nat
  deriving DecidableEq, Repr

/-- A migration entry that has started (Table 10.4), and the pages it has finished. -/
structure MigRun where
  entry : Nat
  op : Nat
  npage : Nat
  cxl : Nat
  gdr : Nat
  done : Nat
  deriving DecidableEq, Repr

/-- A partition's migration list (R243). -/
structure Mig where
  pos : Nat
  halted : Bool
  running : List MigRun
  deriving DecidableEq, Repr

def Mig.init : Mig := { pos := 0, halted := false, running := [] }

/-- A GDDR7 controller: temperature, times of code 0x12, and whether a retrain is in progress. -/
structure Gmc where
  temp : Nat
  hot : Bool
  retrain : Bool
  edcAt : List Nat
  deriving DecidableEq, Repr

/-- A CXL port. -/
structure CxlPort where
  up : Bool
  ide : Bool
  ioStat : Nat
  deriving DecidableEq, Repr

/-- A 4 KiB refetch in progress (R250): the CXL-homed address, the frame, and who waits. -/
structure Refetch where
  addr : Nat
  frame : Nat
  reader : Reader
  deriving DecidableEq, Repr

/-- The memory tiers: halves in use, frames by number, migration lists, controllers and CXL ports. -/
structure Tier where
  inUse : BitVec 64
  frames : SMap (Option Frame)
  migs : Vector Mig 8
  gmc : Vector Gmc 32
  cxl : Vector CxlPort 2
  refetch : List Refetch
  deriving DecidableEq, Repr

def Tier.init : Tier :=
  { inUse := BitVec.allOnes 64, frames := [], migs := Vector.replicate 8 Mig.init,
    gmc := Vector.replicate 32 ⟨0, false, false, []⟩,
    cxl := Vector.replicate 2 ⟨false, false, 0⟩, refetch := [] }

/-! Checkpoints (R370 to R375) -/

/-- A snapshot in progress (R372): slot letter, step, shards (address, 4 KiB blocks, identifier), whether
the buddy has acknowledged the first header, the next block in list order, blocks copied ahead, buddy
writes not yet acknowledged (offset and time), and what has become of each copy. -/
structure Snapshot where
  letter : Nat
  step : W32
  shards : List (Nat × Nat × Nat)
  guest : Bool
  opened : Bool
  next : Nat
  ahead : SMap Bool
  acks : List (Nat × Nat)
  homeDone : Bool
  guestHdr : Bool
  guestDone : Bool
  deriving DecidableEq, Repr

/-- Where a restore stands (R375): the entry, what it has read so far, and the request outstanding. -/
structure Restore where
  entry : Nat
  stage : Nat
  hdrs : List (List Byte)
  letter : Nat
  pos : Nat
  shard : Nat
  got : Nat
  asked : Option (Nat × Nat)
  deriving DecidableEq, Repr

/-- The checkpoint engine's part for one partition. -/
structure Ckp where
  armed : Option W32
  snap : Option Snapshot
  sstat : Nat
  rstat : Nat
  lastLetter : Option Nat
  restore : Option Restore
  seq : Nat
  bytes : Nat
  deriving DecidableEq, Repr

def Ckp.init : Ckp :=
  { armed := none, snap := none, sstat := 0, rstat := 0, lastLetter := none, restore := none, seq := 0,
    bytes := 0 }

/-! Cores (R176 to R205) -/

/-- A GATE_SCORE task's side of its Drover lane (R89, R199): its operands, the next token, how many token
vectors in the scratchpad Convoy has neither read nor released, and whether the lane is granted, the last
token issued and the END record issued. -/
structure GateRun where
  route : Nat
  unit : Nat
  lane : Nat
  base : Nat
  next : Nat
  total : Nat
  unread : Nat
  granted : Bool
  issued : Bool
  ended : Bool
  deriving DecidableEq, Repr

/-- A task on a core: its graph's launch number, index, descriptor, when it started, whether it has made
its once-only effect (R189), the passes ended and the mismatches of the pass in hand of each array, the
monitor tiles ended (R173), LENIENT as it was at the start (R220), and whether the queue of a
GROUPED_GEMM_SERAI task was COMPLETE at the start (R198). -/
structure Run where
  part : Nat
  bg : Bool
  gid : Nat
  index : Nat
  step : W32
  launch : Nat
  desc : BitVec 512
  started : Nat
  once : Bool
  passes : Nat
  tries : SMap Nat
  tiles : Nat
  lenient : Bool
  genOk : Bool
  gate : Option GateRun
  deriving DecidableEq, Repr

/-- A core: its task, the index, operator and partition of its running or last task, the time of its last
scratchpad parity error, and the scratchpad words known since its last task, whose contents do not outlive it
(R177). -/
structure CoreSt where
  run : Option Run
  lastTask : Nat
  lastOp : Nat
  lastPart : Nat
  parityAt : Option Nat
  spad : SMap (Option W32)
  deriving DecidableEq, Repr

def CoreSt.init : CoreSt :=
  { run := none, lastTask := 0, lastOp := 0, lastPart := 0, parityAt := none, spad := [] }

/-! Drover units (R88 to R115) -/

/-- The quota set of a lane (R101): the record and the graph launch that opened it. -/
structure QuotaSet where
  record : Nat
  launch : Nat
  step : W32
  layer : Nat
  tokens : Nat
  prim : SMap Nat
  repl : SMap Nat
  deriving DecidableEq, Repr

/-- An intake lane: the core whose task holds it, and its quota set. -/
structure LaneUse where
  core : Option Nat
  quota : Option QuotaSet
  deriving DecidableEq, Repr

/-- DRV_STAT.Bn_STATE. -/
inductive BankSt where
  | empty | loading | ready | active
  deriving DecidableEq, Repr

/-- A table bank (R94, R96): the record's address and partition, the record and the tables as copied, hot
flags (R103) and the experts fetched (R110). -/
structure Bank where
  st : BankSt
  addr : Nat
  part : Nat
  words : BitVec 1024
  locs : List Nat
  bias : List W32
  hot : SMap Bool
  fetched : SMap Bool
  deriving DecidableEq, Repr

def Bank.init : Bank :=
  { st := .empty, addr := 0, part := 0, words := 0, locs := [], bias := [], hot := [], fetched := [] }

/-- A Drover unit. waits: the lanes whose token waits at the intake port for its record, in the order their
tokens reached it (R94). -/
structure DrvUnit where
  lanes : Vector LaneUse 4
  banks : Vector Bank 2
  waits : List Nat
  parityAt : Option Nat
  deriving DecidableEq, Repr

def DrvUnit.init : DrvUnit :=
  { lanes := Vector.replicate 4 ⟨none, none⟩, banks := Vector.replicate 2 Bank.init, waits := [], parityAt := none }

/-! Convoy, Serai and the Ledger (R116 to R150) -/

/-- A combine entry (R136): its GATE_SCORE task, key, masks, weights, and the returns stored (rank, chain,
format, bytes). -/
structure Comb where
  task : Nat
  part : Nat
  step : W32
  layer : Nat
  token : Nat
  expect : Nat
  arrived : Nat
  weights : SMap W32
  rets : List (Nat × Nat × Nat × Nat)
  deriving DecidableEq, Repr

/-- A manifest (R141). -/
structure Man where
  part : Nat
  ret : Bool
  step : W32
  layer : Nat
  dests : SMap Nat
  other : Nat
  sealedAt : Option Nat
  fence : Option Nat
  deriving DecidableEq, Repr

/-- A GATE_SCORE task as Convoy counts it (R139): tokens not yet written, and whether its END came. -/
structure GateTask where
  id : Nat
  part : Nat
  step : W32
  layer : Nat
  unwritten : Nat
  ended : Bool
  deriving DecidableEq, Repr

/-- A record on its way to a Convoy engine (Table 5.3): its 32 bytes; in a TOKEN record the token's vector,
as the core's scratchpad holds it; and the task it comes from: partition, core, launch number and index. -/
structure CnvRec where
  word : BitVec 256
  vec : List Byte
  part : Nat
  core : Nat
  gid : Nat
  task : Nat
  deriving DecidableEq, Repr

/-- A Convoy engine: records not yet taken, DISPATCH records kept per lane, and its tables. -/
structure CnvEng where
  fifo : List CnvRec
  kept : Vector (List (BitVec 256)) 4
  laneTask : Vector (Option Nat) 4
  tasks : List GateTask
  nextTask : Nat
  comb : List Comb
  mans : Vector (Option Man) 128
  parityAt : Option Nat
  deriving DecidableEq, Repr

def CnvEng.init : CnvEng :=
  { fifo := [], kept := Vector.replicate 4 [], laneTask := Vector.replicate 4 none, tasks := [],
    nextTask := 0, comb := [], mans := Vector.replicate 128 none, parityAt := none }

/-- A close context (R122): its close list with the counts (destination, queue, count), and its END
records, and the counter its dispatch manifests signal. -/
structure CloseCtx where
  part : Nat
  step : W32
  layer : Nat
  bad : Bool
  entries : List (Nat × Nat × Nat)
  ends : Nat
  expect : Nat
  due : Bool
  fence : Option Nat
  deriving DecidableEq, Repr

/-- The state of a generation (R125). -/
inductive GenSt where
  | opened | complete | broken
  deriving DecidableEq, Repr

/-- A generation of a Serai queue (R125, R130). -/
structure Gen where
  part : Nat
  step : W32
  layer : Nat
  st : GenSt
  senders : Nat
  expert : Nat
  sig : Nat
  sigAdd : Nat
  hint : Bool
  hot : Bool
  closes : Nat
  expected : Nat
  received : Nat
  openedAt : Nat
  entries : List (BitVec 128)
  cells : List Nat
  deriving DecidableEq, Repr

/-- A Serai queue: its current and its next generation. -/
structure Queue where
  cur : Option Gen
  nxt : Option Gen
  deriving DecidableEq, Repr

/-- Acknowledgements pending for a sender (R140). -/
structure Ack where
  part : Nat
  coord : Coord
  eng : Nat
  man : Nat
  count : Nat
  since : Nat
  deriving DecidableEq, Repr

/-- A layer plan entry as it was read for a (STEP, LAYER) (R121); none where it is invalid. -/
structure PlanUse where
  part : Nat
  step : W32
  layer : Nat
  words : Option (BitVec 512)
  deriving DecidableEq, Repr

/-- The Serai with the close unit. -/
structure Serai where
  queues : SMap Queue
  ctxs : Vector (Option CloseCtx) 8
  acks : List Ack
  plans : List PlanUse
  deriving DecidableEq, Repr

def Serai.init : Serai := { queues := [], ctxs := Vector.replicate 8 none, acks := [], plans := [] }

/-- A chain of Ledger cells (R144): requester, pool and cells in order. -/
structure Chain where
  part : Nat
  cls : Nat
  pool : Nat
  cells : List Nat
  deriving DecidableEq, Repr

/-- The Ledger: chains by head pointer, and the pool ranges in force (base, cells). -/
structure Ledger where
  chains : SMap (Option Chain)
  p1 : Nat × Nat
  p2 : Nat × Nat
  deriving DecidableEq, Repr

def Ledger.init : Ledger := { chains := [], p1 := (0, 0), p2 := (0, 0) }

/-! Remote memory engines and the gateway (R289 to R301) -/

/-- The Drover fetch a remote request serves (R110): unit, record address, and the task's core, launch number
and index. -/
structure Fetch where
  unit : Nat
  rec_ : Nat
  core : Nat
  gid : Nat
  task : Nat
  deriving DecidableEq, Repr

/-- An entry in progress (R290, R295): its number in the list, or the Drover fetch it serves; its words, and
the bytes that packets have been sent for. -/
structure RmoRun where
  id : Nat
  entry : Nat
  fetch : Option Fetch
  words : BitVec 512
  part : Nat
  step : W32
  sent : Nat
  total : Nat
  deriving DecidableEq, Repr

/-- A request slot in use: the entries it serves (none after a partition reset, R298); whether it is a gateway
segment, and a write; where the data it returns goes, from which address of the target on; its packets, resends
and fragments received. -/
structure RmoSlot where
  runs : List Nat
  part : Nat
  gw : Bool
  write : Bool
  dest : Coord
  base : Nat
  raddr : Nat
  len : Nat
  laddr : Nat
  pkts : List Packet
  tries : Nat
  got : List Nat
  sentAt : Nat
  deriving DecidableEq, Repr

/-- A STORE the gateway holds for merging (R299). -/
structure RmoHold where
  runs : List Nat
  part : Nat
  step : W32
  dest : Coord
  raddr : Nat
  bytes : List Byte
  since : Nat
  deriving DecidableEq, Repr

/-- A remote engine. -/
structure RmoEng where
  pos : Nat
  halted : Bool
  runs : List RmoRun
  slots : SMap (Option RmoSlot)
  held : Option RmoHold
  nextId : Nat
  deriving DecidableEq, Repr

def RmoEng.init : RmoEng := { pos := 0, halted := false, runs := [], slots := [], held := none, nextId := 0 }

/-- A bulk write arriving at this device as target (R300): sender, tag, engine, slot, fragments and status. -/
structure GwIn where
  src : Coord
  tag : Nat
  eng : Nat
  slot : Nat
  frags : List Nat
  status : Nat
  deriving DecidableEq, Repr

/-- The remote engines, the windows by 32 · partition + window, and the bulk writes arriving. -/
structure Remote where
  engs : Vector RmoEng 16
  wins : SMap (BitVec 128)
  gwIn : List GwIn
  deriving DecidableEq, Repr

def Remote.init : Remote := { engs := Vector.replicate 16 RmoEng.init, wins := [], gwIn := [] }

/-! Tollgate and collectives (R303 to R325) -/

/-- A contribution to a Tollgate operation, or its result: operation code, scalars, contributions combined,
and the eight values with their indices (R306). -/
structure Contrib where
  opc : Nat
  nscal : Nat
  members : Nat
  vals : List (Nat × Nat)
  deriving DecidableEq, Repr

/-- A combine slot (R308): its key, its own device's contribution and the children's by coordinate, when it
was taken and when its device contributed, and whether its UP packet has gone. -/
structure TolSlot where
  group : Nat
  step : W32
  opidx : Nat
  own : Option Contrib
  kids : List (Coord × Contrib)
  takenAt : Nat
  ownAt : Nat
  sent : Bool
  deriving DecidableEq, Repr

/-- What started a Tollgate operation: a BARRIER or SCALAR collective, a completion vote (R319), a broadcast
round (R324), the recomputation vote of a partition (R361), or an aggregation round (R356). -/
inductive TolUse where
  | coll (id : Nat)
  | vote (id : Nat)
  | bcast (id : Nat)
  | rcmp (p : Nat)
  | agg (round : W32) (k : Nat)
  deriving DecidableEq, Repr

/-- An operation of this device (R308): outstanding since a time, or waiting to start. -/
structure TolOp where
  group : Nat
  step : W32
  opidx : Nat
  con : Contrib
  use : TolUse
  startedAt : Option Nat
  deriving DecidableEq, Repr

/-- Twin digests of a partition (R322): its own that wait (step, digest, time), the counterpart's 8 newest,
and the consecutive misses. -/
structure Twin where
  own : List (W32 × BitVec 64 × Nat)
  other : List (W32 × BitVec 64)
  misses : Nat
  deriving DecidableEq, Repr

/-- The Tollgate: slots, this device's operations, the newest STEP seen by each group, the operations counted
by (group, STEP), the twins, and results that the block which started the operation has not yet taken. -/
structure Tollgate where
  slots : Vector (Option TolSlot) 64
  ops : List TolOp
  newest : SMap (Option W32)
  counts : SMap Nat
  twins : Vector Twin 8
  results : List (TolUse × Option Contrib)
  deriving DecidableEq, Repr

def Tollgate.init : Tollgate :=
  { slots := Vector.replicate 64 none, ops := [], newest := [], counts := [],
    twins := Vector.replicate 8 ⟨[], [], 0⟩, results := [] }

/-- A context of the collective engine: descriptor, key, and how far it is. hop is the position among its
ring steps; got the chunks released in it; failed1 the chunks whose check failed once; res the residues kept
(R317). The rest is of a broadcast (R324): round, repairs, BEND arrived, contributed; and since when it is
stalled (R325). -/
structure CollCtx where
  id : Nat
  part : Nat
  desc : BitVec 512
  step : W32
  kick : Bool
  cidx : Nat
  inUse : Bool
  failed : Bool
  done : Bool
  hop : Nat
  got : List Nat
  failed1 : List Nat
  res : SMap Nat
  lastAt : Option Nat
  round : Nat
  repairs : Nat
  bend : Bool
  told : Bool
  stalled : Option Nat
  voted : Bool
  deriving DecidableEq, Repr

/-- The collective engine: contexts, receive buffer, and the collectives counted by (group, STEP). -/
structure Coll where
  ctxs : Vector (Option CollCtx) 16
  buf : List Packet
  counts : SMap Nat
  nextId : Nat
  deriving DecidableEq, Repr

def Coll.init : Coll := { ctxs := Vector.replicate 16 none, buf := [], counts := [], nextId := 0 }

/-- Fault aggregation (R356, R358): the last round run, the ranks contributed in the rounds that are not over,
and the merged pages. -/
structure Agg where
  last : Option Nat
  rounds : List (W32 × List Nat)
  map : SMap (BitVec 512)
  deriving DecidableEq, Repr

def Agg.init : Agg := { last := none, rounds := [], map := [] }

/-! The whole device -/

/-- The state of the MZH1-56L. now counts elapsed ticks (R6); fresh numbers the values the spec leaves
open (Config.freeWord). stopped marks the partitions an error has stopped (R352). -/
structure State where
  pending : List Instr
  outbox : List Out
  now : Nat
  fresh : Nat
  pages : SMap Page
  regs : SMap W32
  snaps : SMap W32
  portRegs : SMap W32
  latches : SMap (Option W32)
  holds : SMap (Option (Nat × W32))
  stops : List (Option (Fin 8))
  stopped : BitVec 8
  mem : List Host.Cell
  poison : SMap Bool
  way : Waystone
  ctl : Vector CtlPort 4
  eng : Vector Engine 12
  str : Streams
  sch : Sched
  sec : Sec
  pwr : Power
  svc : Service
  suspects : Vector (Option Suspect) 64
  nextCause : BitVec 10
  rte : Router
  tier : Tier
  ckp : Vector Ckp 8
  cor : Vector CoreSt 64
  drv : Vector DrvUnit 8
  cnv : Vector CnvEng 8
  sri : Serai
  ldg : Ledger
  rmo : Remote
  tol : Tollgate
  col : Coll
  agg : Agg
  deriving DecidableEq, Repr

/-- The machine right after power-on reset, at start-up step 1 (R418, R422): every page at its reset
values, the Waystone FREE at count 0, memory with nothing listed, no command waiting. -/
def State.reset : State :=
  { pending := [], outbox := [], now := 0, fresh := 0, pages := [], regs := [], snaps := [], portRegs := [],
    latches := [], holds := [], stops := [], stopped := 0, mem := [], poison := [], way := Waystone.init,
    ctl := Vector.replicate 4 CtlPort.init, eng := Vector.replicate 12 Engine.init, str := Streams.init,
    sch := Sched.init, sec := Sec.init, pwr := Power.init, svc := Service.init,
    suspects := Vector.replicate 64 none, nextCause := 0, rte := Router.init, tier := Tier.init, ckp := Vector.replicate 8 Ckp.init,
    cor := Vector.replicate 64 CoreSt.init, drv := Vector.replicate 8 DrvUnit.init,
    cnv := Vector.replicate 8 CnvEng.init, sri := Serai.init, ldg := Ledger.init,
    rmo := Remote.init, tol := Tollgate.init, col := Coll.init, agg := Agg.init }

end Sys2Proof.Machine
end

