-- ==== Sys2Proof/Machine/Ops.lean ====
section
/-! DEFINITION. The named operations over the state that every block uses: pages, registers and their
counters, memory bytes, time, values the spec leaves open, and what the device sends. -/
namespace Sys2Proof.Machine

/-! Time -/

/-- The Waystone count (R6, R40). -/
def State.count (s : State) : Nat := s.way.count % 2 ^ 64

/-! Pages -/

/-- The header of a page. -/
def State.page (s : State) (pg : Nat) : Page := s.pages.get (Page.init (hasSM pg)) pg

/-- The state with one page header replaced. -/
def State.setPage (s : State) (pg : Nat) (p : Page) : State :=
  { s with pages := s.pages.set (Page.init (hasSM pg)) pg p }

/-- The page is ON: its block accepts work (Table 2.10). -/
def State.isOn (s : State) (pg : Nat) : Bool := decide ((s.page pg).st = .on)

/-! Registers at 0x100 and above -/

/-- The index of an offset within strided ranges, outermost first; none outside them. -/
def dimIndex (off : Nat) : List (Nat × Nat) → Option (List Nat)
  | [] => if off = 0 then some [] else none
  | (st, n) :: ds =>
    if off / st < n then (dimIndex (off % st) ds).map (off / st :: ·)
    else if n = 0 then none
    else none

/-- A row of a register table covers an offset. -/
def RegDef.covers (r : RegDef) (off : Nat) : Bool :=
  decide (r.off ≤ off) && (dimIndex (off - r.off) r.dims).isSome

/-- The row of the register at an offset of a page. -/
def regDef (pg off : Nat) : Option RegDef := (blockRegs (blkOf pg)).find? (fun r => r.covers off)

/-- The configuration address of a register (R23). -/
def regKey (pg off : Nat) : Nat := pg * 0x1000 + off

/-- The reset value of a register: that of its row; OPE_LMAP of engine 11 has its own (Table 14.8). -/
def regReset (pg off : Nat) : W32 :=
  if pg = Pg.ope 11 ∧ off = Reg.opeLmap then 0xFFF43210
  else match regDef pg off with
    | some r => w32 r.rst
    | none => 0

/-- The value a register holds. -/
def State.reg (s : State) (pg off : Nat) : W32 := s.regs.get (regReset pg off) (regKey pg off)

/-- A field of a register. -/
def State.rf (s : State) (pg off hi lo : Nat) : Nat := fld (s.reg pg off) hi lo

/-- A bit of a register. -/
def State.rb (s : State) (pg off i : Nat) : Bool := bit (s.reg pg off) i

/-- The state with one register replaced. -/
def State.setReg (s : State) (pg off : Nat) (v : W32) : State :=
  { s with regs := s.regs.set (regReset pg off) (regKey pg off) v }

/-- The state with one field of a register replaced. -/
def State.setRf (s : State) (pg off hi lo v : Nat) : State := s.setReg pg off (setFld (s.reg pg off) hi lo v)

/-- A 64-bit quantity held as a pair of registers (R27). -/
def State.reg64 (s : State) (pg lo hi : Nat) : Nat :=
  (s.reg pg lo).toNat + 2 ^ 32 * (s.reg pg hi).toNat

/-- The state with a 64-bit pair replaced. -/
def State.setReg64 (s : State) (pg lo hi v : Nat) : State :=
  (s.setReg pg lo (w32 (v % 2 ^ 32))).setReg pg hi (w32 (v / 2 ^ 32))

/-- A register that has one copy per control port. -/
def State.portReg (s : State) (port pg off : Nat) : W32 :=
  s.portRegs.get (regReset pg off) (port * 2 ^ 24 + regKey pg off)

/-- The state with one port's copy of a register replaced. -/
def State.setPortReg (s : State) (port pg off : Nat) (v : W32) : State :=
  { s with portRegs := s.portRegs.set (regReset pg off) (port * 2 ^ 24 + regKey pg off) v }

/-- A register's snapshot copy (R34). -/
def State.snapReg (s : State) (pg off : Nat) : W32 := s.snaps.get 0 (regKey pg off)

/-- Every register of a page at 0x100 and above back at its reset value (Table 2.9). -/
def State.clearRegs (s : State) (pg : Nat) : State :=
  { s with regs := s.regs.dropRange (pg * 0x1000) ((pg + 1) * 0x1000),
           snaps := s.snaps.dropRange (pg * 0x1000) ((pg + 1) * 0x1000) }

/-- The same, where a core keeps COR_BIST.RUNS, which counts since device reset (Table 8.5). -/
def State.resetRegs (s : State) (pg : Nat) : State :=
  let runs := s.rf pg Reg.corBist 15 8
  let s := s.clearRegs pg
  if blkOf pg = .cor then s.setRf pg Reg.corBist 15 8 runs else s

/-! Values the spec leaves open (log 2, DESIGN CHOICE) -/

/-- The next open value. -/
def State.free (s : State) : BitVec 64 × State := (Config.freeWord s.fresh, { s with fresh := s.fresh + 1 })

/-- The next n open bits, as a number. -/
def State.freeBits (s : State) (n : Nat) : Nat × State :=
  let k := (n + 63) / 64
  ((List.range k).foldl (fun a i => a * 2 ^ 64 + (Config.freeWord (s.fresh + i)).toNat) 0 % 2 ^ n,
   { s with fresh := s.fresh + k })

/-! Counters -/

/-- Kinds of block whose chapter says that counters saturate at 0xFFFF_FFFF. -/
def saturates : Blk → Bool
  | .wst => false | .str => false | .rpl => false | .sch => false | .lnt => false | .scb => false
  | .sri => false | .ldg => false | _ => true

/-- A counter register plus n. Past 0xFFFF_FFFF it saturates where the spec says so; elsewhere the value
is open (log 10, DESIGN CHOICE). -/
def State.bumpBy (s : State) (pg off n : Nat) : State :=
  let v := (s.reg pg off).toNat + n
  if v < 2 ^ 32 then s.setReg pg off (w32 v)
  else if saturates (blkOf pg) then s.setReg pg off 0xFFFFFFFF
  else
    let (f, s) := s.free
    s.setReg pg off (f.truncate 32)

/-- A counter register plus one. -/
def State.bump (s : State) (pg off : Nat) : State := s.bumpBy pg off 1

/-! Memory: one byte a cell; a byte nothing has written reads as the memory's reset contents (log 5, DESIGN CHOICE) -/

/-- What a byte of the address map reads as before anything is written: GDDR7 is written as zeros when its
controllers start (R238), the Serai SRAM too (log 5, DESIGN CHOICE), and the CXL tier as its masters hold it. -/
def memDefault (a : Nat) : Byte := if 0x80000000000 ≤ a then Config.cxlByte a else 0

/-- One byte of memory. -/
def Memory.read (m : List Host.Cell) (a : Nat) : Byte := SMap.get m (memDefault a) a

/-- Memory with one byte replaced. -/
def Memory.write (m : List Host.Cell) (a : Nat) (b : Byte) : List Host.Cell := SMap.set m (memDefault a) a b

/-- The canonical form of memory: addresses strictly rising, and no byte listed that equals what the
address reads as unlisted. -/
def Memory.wf (m : List Host.Cell) : Bool :=
  SMap.rising 0 m && m.all (fun c => decide (c.2 ≠ memDefault c.1))

/-- Memory with bytes written from an address up. -/
def Memory.writeBytes (m : List Host.Cell) (a : Nat) : List Byte → List Host.Cell
  | [] => m
  | b :: bs => Memory.writeBytes (Memory.write m a b) (a + 1) bs

/-- Memory in its canonical form: each listed byte written afresh where the list is out of form. -/
def Memory.tidy (m : List Host.Cell) : List Host.Cell :=
  if Memory.wf m then m else m.reverse.foldl (fun t c => Memory.write t c.1 c.2) []

/-- The stored bytes of a range. -/
def State.memBytes (s : State) (a n : Nat) : List Byte := (List.range n).map (fun i => Memory.read s.mem (a + i))

/-- The number stored in n bytes at an address, little-endian. -/
def State.memNat (s : State) (a n : Nat) : Nat := leNat (s.memBytes a n)

/-- The state with bytes stored from an address up. -/
def State.store (s : State) (a : Nat) (bs : List Byte) : State := { s with mem := Memory.writeBytes s.mem a bs }

/-- The state with the n bytes of a number stored at an address. -/
def State.storeNat (s : State) (a n v : Nat) : State := s.store a (toLE n v)

/-! The GDDR7 window (R232) -/

/-- Halves in use. -/
def State.halves (s : State) : Nat := popcount 64 s.tier.inUse.toNat

/-- The end of the data region (R232). -/
def State.dataEnd (s : State) : Nat := s.halves * 2130706432

/-- The end of the usable region: its top 1 GB is the firmware and tables region (R232). -/
def State.usableEnd (s : State) : Nat := s.dataEnd - 2 ^ 30

/-- [a, a + n) lies in the firmware and tables region. -/
def State.inFirmware (s : State) (a n : Nat) : Bool := decide (s.usableEnd ≤ a ∧ a + n ≤ s.dataEnd)

/-- GDDR7 is in self-refresh: in A2 and A3 (R414), and after a power-fail warning (R420). -/
def State.gdrAsleep (s : State) : Bool := decide (2 ≤ s.pwr.state) || s.pwr.pfw

/-- The device leaves A1 for A0 (R416). -/
def State.leaveA1 (s : State) : State := if s.pwr.state = 1 then { s with pwr := { s.pwr with state := 0 } } else s

/-! What leaves the device -/

/-- The state with one more thing sent. -/
def State.send (s : State) (o : Out) : State := { s with outbox := o :: s.outbox }

/-! Parts of the state with fixed slots -/

def State.ctlPort (s : State) (n : Nat) : CtlPort := vget s.ctl n
def State.setCtlPort (s : State) (n : Nat) (c : CtlPort) : State := { s with ctl := vset s.ctl n c }
def State.engine (s : State) (n : Nat) : Engine := vget s.eng n
def State.setEngine (s : State) (n : Nat) (e : Engine) : State := { s with eng := vset s.eng n e }
def State.torus (s : State) (n : Nat) : Torus := vget s.rte.torus n
def State.setTorus (s : State) (n : Nat) (t : Torus) : State :=
  { s with rte := { s.rte with torus := vset s.rte.torus n t } }
def State.schPart (s : State) (p : Nat) : SchedPart := vget s.sch.parts p
def State.setSchPart (s : State) (p : Nat) (x : SchedPart) : State :=
  { s with sch := { s.sch with parts := vset s.sch.parts p x } }
def State.partSec (s : State) (p : Nat) : PartSec := vget s.sec.parts p
def State.setPartSec (s : State) (p : Nat) (x : PartSec) : State :=
  { s with sec := { s.sec with parts := vset s.sec.parts p x } }

/-! Partitions (R387, Table 16.8) -/

/-- The PARp page is OFF. -/
def State.parOff (s : State) (p : Nat) : Bool := decide ((s.page (Pg.par p)).st = .off)
/-- Partition p is Confidential. -/
def State.parConf (s : State) (p : Nat) : Bool := s.rb (Pg.par p) Reg.parCfg 31
/-- The owner control port of partition p. -/
def State.parPort (s : State) (p : Nat) : Nat := s.rf (Pg.par p) Reg.parCfg 29 28
/-- The first address of partition p's GDDR7 range. -/
def State.gdrLo (s : State) (p : Nat) : Nat := s.rf (Pg.par p) Reg.parGdr 6 0 * 2 ^ 30
/-- The end of partition p's GDDR7 range. -/
def State.gdrHi (s : State) (p : Nat) : Nat := s.gdrLo p + s.rf (Pg.par p) Reg.parGdr 22 16 * 2 ^ 30
/-- The first address of partition p's CXL range. -/
def State.cxlLo (s : State) (p : Nat) : Nat := 0x80000000000 + s.rf (Pg.par p) Reg.parCxl 13 0 * 2 ^ 30
/-- The end of partition p's CXL range. -/
def State.cxlHi (s : State) (p : Nat) : Nat := s.cxlLo p + s.rf (Pg.par p) Reg.parCxl 29 16 * 2 ^ 30
/-- [a, a + n) lies in partition p's GDDR7 range. -/
def State.inGdr (s : State) (p a n : Nat) : Bool := decide (s.gdrLo p ≤ a ∧ a + n ≤ s.gdrHi p)
/-- [a, a + n) lies in partition p's CXL range. -/
def State.inCxl (s : State) (p a n : Nat) : Bool := decide (s.cxlLo p ≤ a ∧ a + n ≤ s.cxlHi p)
/-- Stream number n lies in partition p's stream range. -/
def State.inStr (s : State) (p n : Nat) : Bool :=
  decide (s.rf (Pg.par p) Reg.parStr 12 0 ≤ n ∧
    n < s.rf (Pg.par p) Reg.parStr 12 0 + s.rf (Pg.par p) Reg.parStr 29 16)
/-- Queue q lies in partition p's Serai range. -/
def State.inSri (s : State) (p q : Nat) : Bool :=
  decide (s.rf (Pg.par p) Reg.parSri 11 0 ≤ q ∧
    q < s.rf (Pg.par p) Reg.parSri 11 0 + s.rf (Pg.par p) Reg.parSri 28 16)
/-- Bit p of a page's PMASK: the partition owns or shares it. -/
def State.owns (s : State) (p pg : Nat) : Bool := bit (s.page pg).owner p
/-- The partition that owns a Single page, if one does. -/
def State.ownerOf (s : State) (pg : Nat) : Option (Fin 8) := (List.finRange 8).find? (fun p => s.owns p.val pg)
/-- PART of an error of a Single page: the partition that owns it, 0 where none does. -/
def State.partOf (s : State) (pg : Nat) : Nat := ((s.ownerOf pg).map (·.val)).getD 0
/-- The partitions whose owner port is this port, and which hold it while not OFF. -/
def State.portParts (s : State) (port : Nat) : List Nat :=
  (List.range 8).filter (fun p => !s.parOff p && decide (s.parPort p = port))

end Sys2Proof.Machine
end

