-- ==== Sys2Proof/Machine/Wire.lean ====
section
/-! DEFINITION. What a control port sends: messages, their protection, their flits, and the queue of
EVENT messages (R343 to R349, R394). -/
namespace Sys2Proof.Machine

/-- The 16-byte message header (Table 14.5). -/
def msgHeader (m : Msg) (len : Nat) : List Byte :=
  toLE 4 (m.type + at_ 8 m.resp.toNat + at_ 9 m.last.toNat + at_ 10 m.prot.toNat + at_ 16 len)
    ++ toLE 4 m.mseq.toNat ++ toLE 4 m.status ++ toLE 4 m.rseq.toNat

/-- The bytes of n flits of 52 content bytes each, the last padded with zeros (R345). -/
def flitContents : Nat → List Byte → List (List Byte)
  | 0, _ => []
  | n + 1, bs =>
    let c := bs.take 52
    (c ++ List.replicate (52 - c.length) 0) :: flitContents n (bs.drop 52)

/-- The flits of a message: HEAD then BODY flits (R345). -/
def msgFlits (bs : List Byte) : List (Bool × List Byte) :=
  match flitContents ((bs.length + 51) / 52) bs with
  | [] => []
  | h :: r => (true, h) :: r.map (false, ·)

/-- A flit of Table 14.4. kind is 0 IDLE, 1 HEAD, 2 BODY. -/
def buildFlit (kind : Nat) (fseq fack : W16) (credit : Nat) (nak : Bool) (content : List Byte) : BitVec 512 :=
  let bs := toLE 2 kind ++ toLE 2 fseq.toNat ++ toLE 2 fack.toNat
    ++ toLE 2 (min credit 4095 + at_ 15 nak.toNat) ++ content
  BitVec.ofNat 512 (leNat (bs ++ toLE 4 (crc32c bs).toNat))

/-- Send the waiting flits of a port for which the node has room, keeping each until it is acknowledged
(R344: 256 flits of retry buffer). -/
def State.pump (s : State) (port : Nat) : Nat → State
  | 0 => s
  | n + 1 =>
    let c := s.ctlPort port
    match c.waiting with
    | [] => s
    | (head, content) :: rest =>
      if c.link = .up ∧ 0 < c.credit ∧ c.retry.length < 256 then
        let f := buildFlit (if head then 1 else 2) (c.fseqTx + 1) c.fseqRx c.freed false content
        let s := s.setCtlPort port { c with waiting := rest, credit := c.credit - 1,
                                            fseqTx := c.fseqTx + 1, retry := c.retry ++ [f], freed := 0 }
        State.pump (s.send (.flit port f)) port n
      else s

/-- An IDLE flit that reports credit and acknowledgement, or asks for a resend (R344). -/
def State.idleFlit (s : State) (port : Nat) (nak : Bool) : State :=
  let c := s.ctlPort port
  (s.setCtlPort port { c with freed := 0 }).send
    (.flit port (buildFlit 0 c.fseqTx c.fseqRx c.freed nak (List.replicate 52 0)))

/-- A Confidential partition that is not OFF belongs to this port (R394). -/
def State.confPort (s : State) (port : Nat) : Bool := (s.portParts port).any (fun p => s.parConf p)

/-- The IV of a protected message (R394). -/
def msgIv (salt : List Byte) (seq kind : Nat) : List Byte := salt ++ toLE 4 seq ++ toLE 4 kind

/-- Protect a message of the device under the port's session (R394): kind 1 a response, 2 unsolicited. -/
def sealMsg (k : Session) (m : Msg) (kind : Nat) : Msg :=
  let m := { m with prot := true, rseq := w32 k.rseq }
  let keys := toLE 72 k.keys.toNat
  let hdr := msgHeader m (m.payload.length + 16)
  { m with payload := gcmSeal ((keys.drop 32).take 32) (msgIv ((keys.drop 68).take 4) k.rseq kind) hdr m.payload }

/-- Hand a message to a control port. It is protected where the port serves a Confidential partition that
is not OFF, or answers a protected request (log 12, DEDUCED), while the port holds a session; after 2^31 protected
messages the session is destroyed (R393). -/
def State.sendMsg (s : State) (port : Nat) (m : Msg) (wasProt : Bool) : State :=
  let c := s.ctlPort port
  let (m, c) :=
    match c.session with
    | some k =>
      if (s.confPort port || wasProt) && decide (m.type ≠ 0x0A) then
        (sealMsg k m (if m.resp then 1 else 2),
         { c with session := if k.rseq + 1 < 2 ^ 31 then some { k with rseq := k.rseq + 1 } else none })
      else (m, c)
    | none => (m, c)
  let s := s.setCtlPort port { c with waiting := c.waiting ++ msgFlits (msgHeader m m.payload.length ++ m.payload) }
  let s := s.bump (Pg.ctp port) Reg.ctpCntTxmsg
  State.pump (s.send (.msg port m)) port 256

/-- The management image is switching (R386). -/
def State.switching (s : State) : Bool := decide (s.sec.mgtState = .switching)

/-- Send the events a port has queued, while its link is UP and no image switch holds them (R349, R386). -/
def State.flushEvents (s : State) (port : Nat) : Nat → State
  | 0 => s
  | n + 1 =>
    let c := s.ctlPort port
    match c.events with
    | [] => s
    | e :: rest =>
      if c.link = .up ∧ !s.switching then
        let e := if c.evOvf then toLE 4 (leNat (e.take 4) ||| 0x1000) ++ e.drop 4 else e
        let s := s.setCtlPort port { c with events := rest, evOvf := false, devSeq := c.devSeq + 1 }
        State.flushEvents
          (s.sendMsg port ⟨0x06, false, false, false, c.devSeq, 0, 0, e⟩ false) port n
      else s

/-- The payload of an EVENT message (R349). -/
def State.eventPayload (s : State) (pg : Nat) : List Byte :=
  let p := s.page pg
  toLE 4 pg ++ toLE 4 p.irq.toNat ++ toLE 4 p.err.toNat ++ toLE 4 0 ++ toLE 8 s.count

/-- Queue an event on a port; true where the queue was full and the event is dropped (R349). -/
def State.queueEvent (s : State) (port pg : Nat) : Bool × State :=
  let c := s.ctlPort port
  if c.events.length < 1024 then
    (false, (s.setCtlPort port { c with events := c.events ++ [s.eventPayload pg] }).flushEvents port 1024)
  else
    (true, (s.setCtlPort port { c with evOvf := true }).bump (Pg.ctp port) Reg.ctpCntEvdrop)

/-- The ports an event of a page is sent to: the owner port of every partition in PG_OWNER and the
management port, each once (R32). -/
def State.eventPorts (s : State) (pg : Nat) : List Nat :=
  (List.range 4).filter fun n =>
    (List.range 8).any (fun p => s.owns p pg && decide (s.parPort p = n)) ||
      decide (s.sec.mgmt.map (·.val) = some n)

/-- An event sets its status bit; where the bit was clear and its enable is 1, one EVENT message goes out
(R32). A full queue raises EV_DROP on the port's own page in the same way (R349). -/
def State.raiseN : Nat → State → Nat → Nat → State
  | 0, s, _, _ => s
  | n + 1, s, pg, b =>
    let p := s.page pg
    if bit p.irq b then s
    else
      let s := s.setPage pg { p with irq := setBit p.irq b true }
      if bit p.irqEn b then
        (s.eventPorts pg).foldl
          (fun s port =>
            match s.queueEvent port pg with
            | (true, s) => State.raiseN n s (Pg.ctp port) 20
            | (false, s) => s) s
      else s

/-- Raise an event of a page (R32). -/
def State.irq (s : State) (pg b : Nat) : State := State.raiseN 6 s pg b

end Sys2Proof.Machine
end

