-- ==== Sys2Proof/Machine/Flags.lean ====
section
/-! DEFINITION. The flags every block computes: block states and their events (R36), first errors and
error counts (R33), trace records (R402) and suspects (R354). -/
namespace Sys2Proof.Machine

/-! Error classes (Table 15.1) -/
def Cls.corrected : Nat := 1
def Cls.recomputed : Nat := 2
def Cls.task : Nat := 3
def Cls.partition : Nat := 4
def Cls.device : Nat := 5
def Cls.start : Nat := 6

/-! Trace (R402, Table 16.5) -/

/-- Blocks on the compute dies (Table 1.1), whose records stop in A2 (Table 16.6). -/
def onComputeDie : Blk → Bool
  | .cor => true | .drv => true | .gmc => true | _ => false

/-- Write one trace record, or drop it where it would reach DBG_TRD. -/
def State.trace (s : State) (kind p pg idx val addr : Nat) : State :=
  if s.sec.level ≥ 1 ∧ s.isOn Pg.dbg ∧ bit s.sec.pmask p ∧ s.pwr.state < 3 ∧
      ¬(s.pwr.state = 2 ∧ onComputeDie (blkOf pg)) then
    let size := (s.reg Pg.dbg Reg.dbgTsize).toNat
    let base := s.reg64 Pg.dbg Reg.dbgTringLo Reg.dbgTringHi
    let next := if size ≤ s.sec.trWr + 32 then 0 else s.sec.trWr + 32
    if size < 32 ∨ !s.inFirmware base size ∨ next = (s.reg Pg.dbg Reg.dbgTrd).toNat then s.bump Pg.dbg Reg.dbgCntTdrop
    else
      let a := if s.parConf p then 0 else addr
      let rec_ := toLE 8 s.count ++ toLE 4 (kind + at_ 8 p + at_ 16 pg) ++ toLE 4 idx ++ toLE 4 val
        ++ toLE 4 0 ++ toLE 8 a
      let s := s.store (base + s.sec.trWr) rec_
      ({ s with sec := { s.sec with trWr := next } }).bump Pg.dbg Reg.dbgCntTrace
  else s

/-! Suspects (R354, Table 15.2) -/
def Cause.link : Nat := 0
def Cause.manifest : Nat := 1
def Cause.remote : Nat := 2
def Cause.coll : Nat := 3
def Cause.tree : Nat := 4
def Cause.twin : Nat := 5
def Cause.self : Nat := 6
def Cause.other : Nat := 7
def Cause.overflow : Nat := 8

/-- This device's physical coordinate. -/
def State.selfCoord (s : State) : Coord := BitVec.ofNat 16 (s.rf Pg.rte Reg.rteSelf 15 0)

/-- A cause that names no coordinate: its bit goes into the next contribution. -/
def State.suspectBit (s : State) (cause : Nat) : State := { s with nextCause := setBit s.nextCause cause true }

/-- Enter a detection of a coordinate with its cause (R354). A detection of an entry that already waits to
be contributed is coalesced (R355; log 14, DEDUCED). -/
def State.suspect (s : State) (c : Coord) (cause : Nat) : State :=
  match (List.range 64).find? (fun i => (vget s.suspects i).any (fun e => decide (e.coord = c))) with
  | some i =>
    match vget s.suspects i with
    | some e =>
      let s := if e.due then s.bump Pg.flt Reg.fltCntCoal else s
      let e := { e with cause := setBit e.cause cause true, count := min (e.count + 1) 0xFFFF,
                        seenAt := s.now, due := true }
      { s with suspects := vset s.suspects i (some e) }
    | none => s
  | none =>
    match (List.range 64).find? (fun i => (vget s.suspects i).isNone) with
    | some i =>
      let e : Suspect := { coord := c, cause := setBit 0 cause true, count := 1, seenAt := s.now, round := 0,
                           sentAt := none, due := true }
      { s with suspects := vset s.suspects i (some e) }
    | none => ((s.suspectBit Cause.overflow).bump Pg.flt Reg.fltCntSuspovf).irq Pg.flt 17

/-! Block states (R36, Table 2.10) -/

/-- A page enters a state; STATE_CHG is raised on each entry to OFF, ON, FAULT or QUARANTINED. -/
def State.enter (s : State) (pg : Nat) (st : PgState) : State :=
  let p := s.page pg
  match st with
  | .off => (s.setPage pg { p with st := .off, reen := false }).irq pg 0
  | .on => (s.setPage pg { p with st := .on }).irq pg 0
  | .fault => (s.setPage pg { p with st := .fault, en := false, reen := false }).irq pg 0
  | .quarantined =>
    let s := s.setPage pg { p with st := .quarantined, en := false, reen := false }
    (((s.irq pg 0).irq pg 3).suspect s.selfCoord Cause.self)
  | .starting => s.setPage pg { p with st := .starting, reen := false, since := s.now }
  | .stopping => s.setPage pg { p with st := .stopping, since := s.now }

/-! Errors (R33) -/

/-- The word of PG_ERR for a first error. -/
def errWord (cls part code detail : Nat) : W32 :=
  w32 (at_ 31 1 + at_ 27 (cls % 8) + at_ 24 (part % 8) + at_ 16 (code % 256) + detail % 65536)

/-- Count an error in PG_ERR_CNT, saturating; CNT_SAT is raised when it reaches its maximum. -/
def State.countErr (s : State) (pg : Nat) : State :=
  let p := s.page pg
  if p.errCnt.toNat + 1 < 2 ^ 32 then
    let s := s.setPage pg { p with errCnt := p.errCnt + 1 }
    if p.errCnt + 1 = 0xFFFFFFFF then s.irq pg 2 else s
  else s

/-- Record an error of class "detected and recomputed" or higher: the first, or OVF for a later one. -/
def State.recordErr (s : State) (pg cls part code detail : Nat) : State :=
  let p := s.page pg
  if bit p.err 31 then s.setPage pg { p with err := setBit p.err 30 true }
  else
    let w := errWord cls part code detail
    ((s.setPage pg { p with err := w }).irq pg 1).trace 6 part pg (detail % 65536) w.toNat 0

/-- The first error of class 0b100 or 0b101 (FLT_FIRST, R351). -/
def State.fltFirst (s : State) (pg cls part code : Nat) : State :=
  if s.rf Pg.flt Reg.fltFirst 31 29 = 0 then
    s.setReg Pg.flt Reg.fltFirst (w32 (at_ 29 cls + at_ 26 (part % 8) + at_ 16 (code % 256) + pg % 4096))
  else s

/-- An error of a block (R33, R36, R351): counted; recorded from class 0b010 up; one of class 0b100 or
0b101 also moves the page to FAULT, a Shared page only at 0b101, and stops the partition or the device
(R352, R353: carried out by settle at the end of the command). -/
def State.error (s : State) (pg cls part code detail : Nat) : State :=
  let s := s.countErr pg
  if cls < Cls.recomputed then s
  else
    let s := s.recordErr pg cls part code detail
    if cls = Cls.partition ∨ cls = Cls.device then
      let s := s.fltFirst pg cls part code
      let st := (s.page pg).st
      let moves := (st = .on ∨ st = .stopping) ∧ hasSM pg ∧ (cls = Cls.device ∨ ownerKind pg ≠ .shared)
      let s := if moves then s.enter pg .fault else s
      { s with stops := s.stops ++ [if cls = Cls.device then none else some (Fin.ofNat 8 part)] }
    else s

/-- An error whose DETAIL the spec does not state: those 16 bits are open (log 2, DESIGN CHOICE). -/
def State.errorOpen (s : State) (pg cls part code : Nat) : State :=
  let (d, s) := s.freeBits 16
  s.error pg cls part code d

/-- A start that fails ends the training of its port: LINK goes from TRAINING to DOWN. -/
def State.trainEnds (s : State) (pg : Nat) : State :=
  let n := instOf pg
  match blkOf pg with
  | .trp => if (s.torus n).link = .training then s.setTorus n { s.torus n with link := .down } else s
  | .ctp => if (s.ctlPort n).link = .training then s.setCtlPort n { s.ctlPort n with link := .down } else s
  | _ => s

/-- A start fault: the page goes from STARTING to FAULT and records its code with class 0b110. -/
def State.startFault (s : State) (pg code : Nat) : State :=
  ((s.errorOpen pg Cls.start 0 code).trainEnds pg).enter pg .fault

/-- A quarantine condition of a block: from ON the page enters QUARANTINED (Table 2.10). -/
def State.quarantine (s : State) (pg : Nat) : State :=
  if s.isOn pg ∧ hasQuar pg then s.enter pg .quarantined else s

end Sys2Proof.Machine
end

