-- ==== Sys2Proof/Machine/Service.lean ====
section
/-! DEFINITION. The service bus: alerts with their in-band interrupts, and the registers of Table 18.3 (R430 to
R434). -/
namespace Sys2Proof.Machine

/-- An SVB_ALERT bit goes from 0 to 1; with its enable set one in-band interrupt is raised, whose byte is
SVB_ALERT [7:0] after the edge (R434). -/
def State.alert (s : State) (b : Nat) : State :=
  if bit s.svc.alert b then s
  else
    let a := setBit s.svc.alert b true
    let s := { s with svc := { s.svc with alert := a } }
    if bit s.svc.alertEn b then
      let d : Byte := a.setWidth 8
      { s with svc := { s.svc with ibis := s.svc.ibis ++ [d] } }.send (.ibi d)
    else s

/-- ALERT_IBI_RETRY: at a bus idle the oldest interrupt that is not acknowledged is sent again (R434). -/
def State.doIbiRetry (s : State) (acked : Bool) : State :=
  match s.svc.ibis with
  | [] => s
  | d :: rest => { s with svc := { s.svc with ibis := if acked then rest else d :: rest } }.send (.ibi d)

/-- The service interface answers: from start-up step 2 on, in every power state except Off (R433). -/
def State.svcUp (s : State) : Bool := s.pwr.powered && decide (s.pwr.step ≠ 1)

/-- PWR_VIN (Table 17.5). -/
def State.vinWord (s : State) : W32 := w32 (at_ 16 (s.pwr.amps % 2 ^ 16) + s.pwr.supply % 2 ^ 16)

/-- PWR_POWER (Table 17.5). -/
def State.powerWord (s : State) : W32 := w32 (at_ 16 (s.pwr.p1 % 2 ^ 16) + s.pwr.p10 % 2 ^ 16)

/-- PWR_TEMP (Table 17.5). -/
def State.tempWord (s : State) : W32 :=
  w32 (at_ 16 (twos 8 s.pwr.tFabric) + at_ 8 (twos 8 s.pwr.tWest) + twos 8 s.pwr.tEast)

/-- HEARTBEAT device state codes (R349). -/
def devCode : DevState → Nat
  | .boot => 0 | .fwload => 1 | .selftest => 2 | .training => 3 | .ready => 4 | .stopped => 5

/-- SVB_LASER.LOW: the engines whose laser input is below the low alarm. -/
def State.laserLow (s : State) : Nat :=
  (List.range 12).foldl (fun m n => m + (if bit (s.engine n).flags 1 then 2 ^ n else 0)) 0

/-- A service-bus register (Table 18.3). -/
def State.svcReg (s : State) (i : Nat) : W32 :=
  if i = 0x00 then 0x4D5A0100
  else if i = 0x04 then
    w32 (at_ 13 s.pwr.therm.toNat + at_ 12 s.pwr.tshut.toNat + at_ 11 s.pwr.inReset.toNat
      + at_ 10 s.pwr.pfwIn.toNat + at_ 8 s.pwr.state + at_ 4 s.pwr.step + devCode s.pwr.dev)
  else if i = 0x08 then s.vinWord
  else if i = 0x0C then s.tempWord
  else if i = 0x10 then s.powerWord
  else if i = 0x14 then s.svc.alert.setWidth 32
  else if i = 0x18 then s.svc.alertEn.setWidth 32
  else if i = 0x1C then w32 s.laserLow
  else if i = 0x20 ∨ i = 0x24 ∨ i = 0x28 then Config.dieLot 2 ((i - 0x20) / 4)
  else if i = 0x2C then Config.diePos 2
  else 0

/-- SETDASA and ENTDAA assign the dynamic address while none is held (R432). -/
def State.assignAddr (s : State) (a : BitVec 7) : State :=
  if s.svcUp ∧ s.svc.dynAddr.isNone then { s with svc := { s.svc with dynAddr := some a } } else s

/-- SERVICE_BUS_READ: a private read returns four bytes and the index advances by 4. -/
def State.doSvcRead (s : State) : State :=
  if s.svcUp ∧ s.svc.dynAddr.isSome then
    { s with svc := { s.svc with index := (s.svc.index + 4) % 256 } }.send (.svcRead (s.svcReg s.svc.index))
  else s

/-- SERVICE_BUS_WRITE: an index byte, and a write where four data bytes follow it; fewer are discarded. -/
def State.doSvcWrite (s : State) (index : Byte) (data : List Byte) : State :=
  if s.svcUp ∧ s.svc.dynAddr.isSome then
    let s := { s with svc := { s.svc with index := index.toNat } }
    if data.length < 4 then s
    else
      let v := leNat (data.take 4)
      if index = 0x14 then { s with svc := { s.svc with alert := s.svc.alert &&& ~~~(BitVec.ofNat 7 v) } }
      else if index = 0x18 then { s with svc := { s.svc with alertEn := BitVec.ofNat 7 v } }
      else s
  else s

end Sys2Proof.Machine
end

