-- ==== Sys2Proof/Machine/Num.lean ====
section
/-! DEFINITION. Numbers (Chapter 7): exact fractions, floating-point values and their formats (Table 7.2),
rounding (R158, R163) and the FP32 operations of R193. -/
namespace Sys2Proof.Machine

/-! Exact fractions, kept in lowest terms -/

/-- A fraction with a positive denominator. -/
structure Frac where
  num : Int
  den : Nat
  deriving DecidableEq, Repr

/-- A fraction in lowest terms. -/
def Frac.of (n : Int) (d : Nat) : Frac :=
  let g := Nat.gcd n.natAbs d
  if g ≤ 1 then ⟨n, d⟩ else ⟨n / (g : Int), d / g⟩

def Frac.ofInt (n : Int) : Frac := ⟨n, 1⟩
def Frac.zero : Frac := ⟨0, 1⟩
def Frac.add (a b : Frac) : Frac := Frac.of (a.num * b.den + b.num * a.den) (a.den * b.den)
def Frac.neg (a : Frac) : Frac := ⟨-a.num, a.den⟩
def Frac.sub (a b : Frac) : Frac := a.add b.neg
def Frac.mul (a b : Frac) : Frac := Frac.of (a.num * b.num) (a.den * b.den)
def Frac.abs (a : Frac) : Frac := ⟨a.num.natAbs, a.den⟩
/-- 1 ÷ a, for a other than 0. -/
def Frac.inv (a : Frac) : Frac := ⟨if a.num < 0 then -(a.den : Int) else a.den, a.num.natAbs⟩
def Frac.div (a b : Frac) : Frac := a.mul b.inv
def Frac.lt (a b : Frac) : Bool := decide (a.num * b.den < b.num * a.den)
def Frac.le (a b : Frac) : Bool := decide (a.num * b.den ≤ b.num * a.den)
def Frac.isZero (a : Frac) : Bool := decide (a.num = 0)
def Frac.floor (a : Frac) : Int := a.num / (a.den : Int)

/-- 2^e. -/
def Frac.pow2 (e : Int) : Frac := if 0 ≤ e then ⟨((2 ^ e.toNat : Nat) : Int), 1⟩ else ⟨1, 2 ^ (-e).toNat⟩

/-- ⌊log2 a⌋ of a positive fraction. -/
def Frac.log2 (a : Frac) : Int :=
  let e := (Nat.log2 a.num.natAbs : Int) - (Nat.log2 a.den : Int)
  if (Frac.pow2 e).le a then e else e - 1

/-- The smallest k with a ≤ 2^k · b, for positive a and b. -/
def Frac.ceilLog (a b : Frac) : Int :=
  let q := a.div b
  let e := q.log2
  if q.le (Frac.pow2 e) then e else e + 1

/-! Values -/

/-- A floating-point value: a NaN, an infinity, or a finite value with its sign (that of a zero too). -/
inductive Val where
  | nan
  | inf (neg : Bool)
  | fin (neg : Bool) (q : Frac)
  deriving DecidableEq, Repr

def Val.zero : Val := .fin false .zero
/-- The value of a fraction; a zero is +0. -/
def Val.ofFrac (q : Frac) : Val := .fin (decide (q.num < 0)) q
def Val.ofInt (i : Int) : Val := Val.ofFrac (Frac.ofInt i)
def Val.one : Val := Val.ofInt 1

def Val.isNan : Val → Bool | .nan => true | _ => false
def Val.finite : Val → Bool | .fin _ _ => true | _ => false
def Val.isNeg : Val → Bool | .nan => false | .inf n => n | .fin n _ => n
def Val.isZero : Val → Bool | .fin _ q => q.isZero | _ => false
/-- The fraction of a finite value; 0 for the others. -/
def Val.frac : Val → Frac | .fin _ q => q | _ => .zero
def Val.neg : Val → Val | .nan => .nan | .inf n => .inf (!n) | .fin n q => .fin (!n) q.neg
def Val.abs : Val → Val | .nan => .nan | .inf _ => .inf false | .fin _ q => .fin false q.abs

/-- a < b for values that are not NaN. -/
def Val.lt : Val → Val → Bool
  | .fin _ a, .fin _ b => a.lt b
  | .inf n, .inf m => n && !m
  | .inf n, .fin _ _ => n
  | .fin _ _, .inf m => !m
  | _, _ => false

/-- a = b as numbers; false for a NaN. -/
def Val.eq : Val → Val → Bool
  | .fin _ a, .fin _ b => decide (a = b)
  | .inf n, .inf m => decide (n = m)
  | _, _ => false

/-! Rounding -/

/-- How a value is rounded: to nearest even, stochastically with r of R163, or toward +infinity. -/
inductive Rnd where
  | near
  | sr (r : Nat)
  | up
  deriving DecidableEq, Repr

/-- A magnitude in units of a grid, rounded to a whole number of units. -/
def roundUnits (q : Frac) (neg : Bool) (m : Rnd) : Nat :=
  let lo := q.floor.toNat
  let f := q.sub (Frac.ofInt lo)
  if f.isZero then lo
  else
    match m with
    | .near =>
      let c := f.mul ⟨2, 1⟩
      if (Frac.ofInt 1).lt c ∨ (decide (c = Frac.ofInt 1) && decide (lo % 2 = 1)) then lo + 1 else lo
    | .sr r => if r < (f.mul ⟨((2 ^ 32 : Nat) : Int), 1⟩).floor.toNat then lo + 1 else lo
    | .up => if neg then lo else lo + 1

/-! Floating-point formats (Table 7.2) -/

/-- What the codes with the largest exponent stand for. -/
inductive Special where
  | none | nanOnly | ieee
  deriving DecidableEq, Repr

/-- A floating-point element format. -/
structure Fp where
  eBits : Nat
  mBits : Nat
  bias : Nat
  special : Special
  deriving DecidableEq, Repr

def fpE2M1 : Fp := ⟨2, 1, 1, .none⟩
def fpE2M3 : Fp := ⟨2, 3, 1, .none⟩
def fpE3M2 : Fp := ⟨3, 2, 3, .none⟩
def fpE4M3 : Fp := ⟨4, 3, 7, .nanOnly⟩
def fpE5M2 : Fp := ⟨5, 2, 15, .ieee⟩
def fpF16 : Fp := ⟨5, 10, 15, .ieee⟩
def fpBf16 : Fp := ⟨8, 7, 127, .ieee⟩
def fpF32 : Fp := ⟨8, 23, 127, .ieee⟩

/-- The exponent of the largest finite value (Table 7.2 emax). -/
def Fp.emax (f : Fp) : Int := 2 ^ f.eBits - 1 - f.bias - (if f.special = .ieee then 1 else 0)

/-- The code of the largest finite magnitude. -/
def Fp.maxCode (f : Fp) : Nat :=
  match f.special with
  | .none => 2 ^ (f.eBits + f.mBits) - 1
  | .nanOnly => 2 ^ (f.eBits + f.mBits) - 2
  | .ieee => (2 ^ f.eBits - 1) * 2 ^ f.mBits - 1

/-- The magnitude of a finite code (R152). -/
def Fp.mag (f : Fp) (c : Nat) : Frac :=
  let e := c / 2 ^ f.mBits
  let m := c % 2 ^ f.mBits
  if e = 0 then (Frac.ofInt m).mul (Frac.pow2 (1 - f.bias - f.mBits))
  else (Frac.ofInt (2 ^ f.mBits + m : Nat)).mul (Frac.pow2 (e - f.bias - f.mBits))

/-- The largest finite magnitude. -/
def Fp.maxMag (f : Fp) : Frac := f.mag f.maxCode

/-- The value of a code (R152). -/
def Fp.decode (f : Fp) (code : Nat) : Val :=
  let w := f.eBits + f.mBits
  let neg := code.testBit w
  let c := code % 2 ^ w
  if c ≤ f.maxCode then let q := f.mag c; .fin neg (if neg then q.neg else q)
  else if f.special = .ieee ∧ c = f.maxCode + 1 then .inf neg
  else .nan

/-- The code of the canonical NaN (Table 7.2). -/
def Fp.nanCode (f : Fp) : Nat :=
  match f.special with
  | .none => 0
  | .nanOnly => 2 ^ (f.eBits + f.mBits) - 1
  | .ieee => (2 ^ f.eBits - 1) * 2 ^ f.mBits + 2 ^ (f.mBits - 1)

/-- The magnitude code of a magnitude, rounded; it may pass maxCode. -/
def Fp.roundMag (f : Fp) (q : Frac) (neg : Bool) (m : Rnd) : Nat :=
  if q.isZero then 0
  else
    let e := max q.log2 (1 - f.bias)
    let k := roundUnits (q.mul (Frac.pow2 (f.mBits - e))) neg m
    (e + f.bias - 1).toNat * 2 ^ f.mBits + k

/-- The code with its sign bit. -/
def Fp.withSign (f : Fp) (neg : Bool) (c : Nat) : Nat := c + neg.toNat * 2 ^ (f.eBits + f.mBits)

/-- A value rounded to a format under IEEE 754: overflow gives infinity (toward +infinity: the largest
finite value for a negative result). -/
def Fp.roundVal (f : Fp) (m : Rnd) : Val → Val
  | .nan => .nan
  | .inf n => .inf n
  | .fin n q =>
    let c := f.roundMag q.abs n m
    if c ≤ f.maxCode then let r := f.mag c; .fin n (if n then r.neg else r)
    else if m = .up ∧ n then .fin n f.maxMag.neg
    else .inf n

/-! FP32 operations (R193): IEEE 754 binary32, one rounding each -/

/-- The value of an FP32 code. -/
def ofF32 (c : Nat) : Val := fpF32.decode c

/-- The FP32 code of a value that FP32 holds. -/
def toF32 : Val → Nat
  | .nan => fpF32.nanCode
  | .inf n => fpF32.withSign n (fpF32.maxCode + 1)
  | .fin n q => fpF32.withSign n (fpF32.roundMag q.abs n .near)

/-- The exact sum of two values; a zero from opposite signs is +0. -/
def addExact : Val → Val → Val
  | .nan, _ => .nan
  | _, .nan => .nan
  | .inf a, .inf b => if a = b then .inf a else .nan
  | .inf a, .fin _ _ => .inf a
  | .fin _ _, .inf b => .inf b
  | .fin a p, .fin b q =>
    let r := p.add q
    if r.isZero then .fin (a && b) r else Val.ofFrac r

/-- The exact product of two values. -/
def mulExact : Val → Val → Val
  | .nan, _ => .nan
  | _, .nan => .nan
  | .inf a, .inf b => .inf (a != b)
  | .inf a, .fin b q => if q.isZero then .nan else .inf (a != b)
  | .fin a p, .inf b => if p.isZero then .nan else .inf (a != b)
  | .fin a p, .fin b q => .fin (a != b) (p.mul q)

/-- The exact quotient of two values. -/
def divExact : Val → Val → Val
  | .nan, _ => .nan
  | _, .nan => .nan
  | .inf _, .inf _ => .nan
  | .inf a, .fin b _ => .inf (a != b)
  | .fin a _, .inf b => .fin (a != b) .zero
  | .fin a p, .fin b q =>
    if q.isZero then (if p.isZero then .nan else .inf (a != b)) else .fin (a != b) (p.div q)

/-- Round to FP32. -/
def f32 (m : Rnd) (v : Val) : Val := fpF32.roundVal m v
def addF (a b : Val) : Val := f32 .near (addExact a b)
def subF (a b : Val) : Val := f32 .near (addExact a b.neg)
def mulF (a b : Val) : Val := f32 .near (mulExact a b)
def divF (a b : Val) : Val := f32 .near (divExact a b)
def fmaF (a b c : Val) : Val := f32 .near (addExact (mulExact a b) c)
def addUp (a b : Val) : Val := f32 .up (addExact a b)
def mulUp (a b : Val) : Val := f32 .up (mulExact a b)

/-- The larger of two values; NaN if either is NaN; +0 above −0 (R192). -/
def maxF (a b : Val) : Val :=
  if a.isNan ∨ b.isNan then .nan
  else if a.lt b ∨ (a.isZero && b.isZero && a.isNeg) then b else a

/-- The smaller of two values; NaN if either is NaN; −0 below +0 (R192). -/
def minF (a b : Val) : Val :=
  if a.isNan ∨ b.isNan then .nan
  else if b.lt a ∨ (a.isZero && b.isZero && b.isNeg) then b else a

/-- The compensated step of R138, on a sum s and its compensation c. -/
def compStep (s c p : Val) : Val × Val :=
  let t := addF s p
  let ge := !(s.abs.lt p.abs) && !s.isNan && !p.isNan
  (t, if ge then addF c (addF (subF s t) p) else addF c (addF (subF p t) s))

/-- A compensated sum in ascending order (R196). -/
def compSum (vs : List Val) : Val :=
  let (s, c) := vs.foldl (fun (a : Val × Val) p => compStep a.1 a.2 p) (Val.zero, Val.zero)
  addF s c

/-! Correctly rounded functions: an interval that holds the exact result is narrowed until both its ends
round to one value -/

/-- Round a real number given by ever narrower intervals. -/
def narrow (f : Nat → Frac × Frac) (m : Rnd) : List Nat → Val
  | [] => let (a, _) := f 1024; f32 m (Val.ofFrac a)
  | p :: ps =>
    let (a, b) := f p
    let x := f32 m (Val.ofFrac a)
    let y := f32 m (Val.ofFrac b)
    if x = y then x else narrow f m ps

/-- The working precisions, in bits. -/
def precisions : List Nat := [64, 128, 256, 512]

/-- The integer square root, bit by bit. -/
def isqrtAux (n : Nat) : Nat → Nat → Nat
  | 0, r => r
  | b + 1, r => isqrtAux n b (if (r + 2 ^ b) * (r + 2 ^ b) ≤ n then r + 2 ^ b else r)

def isqrt (n : Nat) : Nat := isqrtAux n (Nat.log2 n / 2 + 1) 0

/-- √q of a positive fraction, within 2^-p of its own size. -/
def sqrtRange (q : Frac) (p : Nat) : Frac × Frac :=
  let k := (p : Int) + 2 - q.log2 / 2
  let n := (q.mul (Frac.pow2 (2 * k))).floor.toNat
  let r := isqrt n
  let u := Frac.pow2 (-k)
  let exact := decide ((Frac.ofInt (r * r : Nat)) = q.mul (Frac.pow2 (2 * k)))
  ((Frac.ofInt r).mul u, (Frac.ofInt (if exact then r else r + 1)).mul u)

/-- √a, rounded (up for the Sage norms). -/
def sqrtR (m : Rnd) : Val → Val
  | .nan => .nan
  | .inf n => if n then .nan else .inf false
  | .fin n q => if q.isZero then .fin n q else if n then .nan else narrow (sqrtRange q) m precisions

def sqrtF : Val → Val := sqrtR .near

/-- 1 ÷ √a. -/
def rsqrtF : Val → Val
  | .nan => .nan
  | .inf n => if n then .nan else Val.zero
  | .fin n q => if q.isZero then .inf n else if n then .nan else narrow (sqrtRange q.inv) .near precisions

def rcpF (a : Val) : Val := divF Val.one a

/-- Σ t_k of a fixed-point series: each next term comes from the last; it stops at a zero term. -/
def series (next : Nat → Int → Int) : Nat → Nat → Int → Int → Int
  | 0, _, _, acc => acc
  | fuel + 1, k, t, acc => if t = 0 then acc else series next fuel (k + 1) (next k t) (acc + t)

/-- 2 · atanh(n ÷ d) in units of 2^-p, by its series. -/
def atanh2 (n d : Int) (p : Nat) : Int :=
  let z := n * ((2 ^ p : Nat) : Int) / d
  let z2 := z * z / ((2 ^ p : Nat) : Int)
  -- the terms z^(2k+1) ÷ (2k+1), with the power carried
  2 * (((List.range (p + 8)).foldl (fun (a : Int × Int) (k : Nat) =>
    if a.2 = 0 then a else (a.1 + a.2.tdiv (2 * k + 1), (a.2 * z2).tdiv ((2 ^ p : Nat) : Int))) (0, z)).1)

/-- ln 2 in units of 2^-p. -/
def ln2 (p : Nat) : Int := atanh2 1 3 p

/-- arctan(1 ÷ d) in units of 2^-p. -/
def atanInv (d : Int) (p : Nat) : Int :=
  ((List.range p).foldl (fun (a : Int × Int) (k : Nat) =>
    if a.2 = 0 then a
    else (a.1 + (if k % 2 = 0 then 1 else -1) * (a.2 / (2 * k + 1)), a.2 / (d * d)))
    (0, ((2 ^ p : Nat) : Int) / d)).1

/-- π in units of 2^-p, by Machin's formula. -/
def piFix (p : Nat) : Int := 4 * (4 * atanInv 5 p - atanInv 239 p)

/-- e^x within 2^-p of its own size, for |x| at most 2^12. -/
def expRange (x : Frac) (p : Nat) : Frac × Frac :=
  let w := p + 40
  let one : Int := ((2 ^ w : Nat) : Int)
  let xf := (x.mul ⟨one, 1⟩).floor
  let l := ln2 w
  let n := xf / l
  let r := xf - n * l
  let s := series (fun k t => t * r / (one * (k + 1))) (2 * w) 0 one 0
  let u := Frac.pow2 (n - w)
  let e : Int := ((2 ^ 32 : Nat) : Int)
  ((Frac.ofInt (s - e)).mul u, (Frac.ofInt (s + e)).mul u)

/-- ln q within 2^-p, for a positive fraction. -/
def lnRange (q : Frac) (p : Nat) : Frac × Frac :=
  let w := p + 64
  let e0 := q.log2
  let m0 := q.mul (Frac.pow2 (-e0))
  let big := (Frac.of 7 5).lt m0
  let e := if big then e0 + 1 else e0
  let m := if big then m0.mul ⟨1, 2⟩ else m0
  let v := e * ln2 w + atanh2 (m.num - m.den) (m.num + m.den) w
  let d : Int := ((2 ^ 24 : Nat) : Int)
  let u := Frac.pow2 (-w)
  ((Frac.ofInt (v - d)).mul u, (Frac.ofInt (v + d)).mul u)

/-- A range in which e^x leaves FP32: above, infinity; below, it rounds to 0. -/
def expF : Val → Val
  | .nan => .nan
  | .inf n => if n then Val.zero else .inf false
  | .fin _ q =>
    if q.isZero then Val.one
    else if (Frac.ofInt 100).lt q then .inf false
    else if q.lt (Frac.ofInt (-120)) then Val.zero
    else narrow (expRange q) .near precisions

def logF : Val → Val
  | .nan => .nan
  | .inf n => if n then .nan else .inf false
  | .fin n q =>
    if q.isZero then .inf true
    else if n then .nan
    else if q = Frac.ofInt 1 then Val.zero
    else narrow (lnRange q) .near precisions

/-- 1 ÷ (1 + e^-a). -/
def sigmoidF : Val → Val
  | .nan => .nan
  | .inf n => if n then Val.zero else Val.one
  | .fin _ q =>
    if (Frac.ofInt 120).lt q then Val.one
    else if q.lt (Frac.ofInt (-120)) then Val.zero
    else
      let g := fun x => ((Frac.ofInt 1).add x).inv
      narrow (fun p => let (a, b) := expRange q.neg p; (g b, g a)) .near precisions

/-- tanh a. -/
def tanhF : Val → Val
  | .nan => .nan
  | .inf n => .fin n (Frac.ofInt (if n then -1 else 1))
  | .fin n q =>
    if q.isZero then .fin n q
    else if (Frac.ofInt 40).lt q.abs then .fin n (Frac.ofInt (if n then -1 else 1))
    else
      let g := fun x => (x.sub (Frac.ofInt 1)).div (x.add (Frac.ofInt 1))
      narrow (fun p => let (a, b) := expRange (q.mul ⟨2, 1⟩) p; (g a, g b)) .near precisions

/-- erf within 2^-p, for |a| below 4. -/
def erfRange (q : Frac) (p : Nat) : Frac × Frac :=
  let w := p + 96
  let one : Int := ((2 ^ w : Nat) : Int)
  let x := (q.mul ⟨one, 1⟩).floor
  let x2 := x * x / one
  -- Σ (-1)^k x^(2k+1) ÷ (k! (2k+1)), with the power over the factorial carried
  let s := ((List.range (2 * w)).foldl (fun (a : Int × Int) (k : Nat) =>
    if a.2 = 0 ∨ a.2 = -1 then a
    else (a.1 + a.2 / (2 * k + 1), -(a.2 * x2 / (one * (k + 1))))) (0, x)).1
  let rp := (isqrt ((piFix w).toNat * 2 ^ w) : Int)
  let v := 2 * s * one / rp
  let d : Int := ((2 ^ 64 : Nat) : Int)
  let u := Frac.pow2 (-w)
  ((Frac.ofInt (v - d)).mul u, (Frac.ofInt (v + d)).mul u)

def erfF : Val → Val
  | .nan => .nan
  | .inf n => .fin n (Frac.ofInt (if n then -1 else 1))
  | .fin n q =>
    if q.isZero then .fin n q
    else if (Frac.ofInt 4).le q.abs then .fin n (Frac.ofInt (if n then -1 else 1))
    else narrow (erfRange q) .near precisions

/-- The cosine (k = 0) or sine (k = 1) of an angle, within 2^-p; turns counts the angle in units of 2π
where it is given so, else the angle is in radians. -/
def trigRange (k : Nat) (turns : Bool) (q : Frac) (p : Nat) : Frac × Frac :=
  let w := p + 64
  let one : Int := ((2 ^ w : Nat) : Int)
  let big := w + 40
  let tau := 2 * piFix big
  let xb := if turns then (q.mul ⟨tau, 1⟩).floor else (q.mul ⟨((2 ^ big : Nat) : Int), 1⟩).floor
  let x := (xb % tau) / ((2 ^ 40 : Nat) : Int)
  let x2 := x * x / one
  let t0 := if k = 0 then one else x
  let s := series (fun j t => -(t * x2).tdiv (one * ((2 * j + k + 1) * (2 * j + k + 2)))) (4 * w) 0 t0 0
  let d : Int := ((2 ^ 32 : Nat) : Int)
  let u := Frac.pow2 (-w)
  ((Frac.ofInt (s - d)).mul u, (Frac.ofInt (s + d)).mul u)

/-- The cosine or sine, correctly rounded; an infinite angle gives NaN. -/
def trigF (k : Nat) : Val → Val
  | .fin n q => if q.isZero then (if k = 0 then Val.one else .fin n q) else narrow (trigRange k false q) .near precisions
  | _ => .nan

/-- The cosine or sine of a fraction of a turn; the quarter turns are exact. -/
def turnF (k : Nat) (q : Frac) : Val :=
  let f := q.sub (Frac.ofInt q.floor)
  let i := (f.mul ⟨4, 1⟩)
  if i.den = 1 then
    Val.ofInt (match k, i.num.toNat with
      | 0, 0 => 1 | 0, 2 => -1 | 0, _ => 0 | _, 1 => 1 | _, 3 => -1 | _, _ => 0)
  else narrow (trigRange k true f) .near precisions

/-- θ^(-n ÷ d), correctly rounded (R200). -/
def rotFreq (theta : Val) (n d : Nat) : Val :=
  if n = 0 then Val.one
  else
    match theta with
    | .nan => .nan
    | .inf neg => if neg then .nan else Val.zero
    | .fin neg q =>
      if q.isZero then .inf false
      else if neg then .nan
      else if q = Frac.ofInt 1 then Val.one
      else
        narrow (fun p =>
          let (a, b) := lnRange q (p + 32)
          let e := fun x => Frac.of (-(x.num * n)) (x.den * d)
          let (x, y) := (e a, e b)
          let (lo, hi) := if x.le y then (x, y) else (y, x)
          ((expRange lo (p + 16)).1, (expRange hi (p + 16)).2)) .near precisions

/-- ⌊a⌋. -/
def floorF : Val → Val
  | .fin n q => let r := q.floor; if r = 0 then .fin n .zero else Val.ofInt r
  | v => v

/-- a rounded to an integer, ties to even. -/
def rintF : Val → Val
  | .fin n q =>
    let r : Int := roundUnits q.abs n .near
    if r = 0 then .fin n .zero else Val.ofInt (if n then -r else r)
  | v => v

end Sys2Proof.Machine
end

