-- ==== Sys2Proof/Machine/Convert.lean ====
section
/-! DEFINITION. Formats of Table 7.1: spans (R154, R155), decoding (R156, R157), conversion with its scale
rules (R158 to R163), and what the range monitor counts (Table 7.6). -/
namespace Sys2Proof.Machine

/-! The range monitor's counts (Table 7.6) -/

/-- Counts of the six classes. -/
structure Mon where
  sat : Nat
  hi : Nat
  lo : Nat
  nonf : Nat
  ovf : Nat
  enc : Nat
  deriving DecidableEq, Repr

def Mon.zero : Mon := ⟨0, 0, 0, 0, 0, 0⟩
def Mon.add (a b : Mon) : Mon :=
  ⟨a.sat + b.sat, a.hi + b.hi, a.lo + b.lo, a.nonf + b.nonf, a.ovf + b.ovf, a.enc + b.enc⟩
def Mon.ofSat (n : Nat) : Mon := { Mon.zero with sat := n }
def Mon.ofHi (n : Nat) : Mon := { Mon.zero with hi := n }
def Mon.ofLo (n : Nat) : Mon := { Mon.zero with lo := n }
def Mon.ofNonf (n : Nat) : Mon := { Mon.zero with nonf := n }
def Mon.ofOvf (n : Nat) : Mon := { Mon.zero with ovf := n }
def Mon.ofEnc (n : Nat) : Mon := { Mon.zero with enc := n }
/-- The count of a class. -/
def Mon.cls (m : Mon) (c : Nat) : Nat :=
  match c with
  | 0 => m.sat | 1 => m.hi | 2 => m.lo | 3 => m.nonf | 4 => m.ovf | _ => m.enc

/-- The counts of a task's monitor tiles, by tile. -/
abbrev Tally := SMap Mon

/-- Add counts to a tile. -/
def Tally.note (t : Tally) (k : Nat) (m : Mon) : Tally :=
  if m = .zero then t else SMap.set t .zero k ((SMap.get t .zero k).add m)

/-! Formats (Table 7.1) -/

/-- How an element is encoded. -/
inductive Elem where
  | fp (f : Fp)
  | int
  | mxint
  | mzt
  deriving DecidableEq, Repr

/-- The scales of a block. -/
inductive ScaleKind where
  | none | e8m0 | mz4n | e4m3 | f16
  deriving DecidableEq, Repr

/-- The operand class of Table 7.4. -/
inductive OpClass where
  | none | tern | b4 | b6 | b8 | b16 | int
  deriving DecidableEq, Repr

/-- A row of Table 7.1. -/
structure Fmt where
  elem : Elem
  bits : Nat
  block : Nat
  scale : ScaleKind
  w : Bool
  a : Bool
  cls : OpClass
  deriving DecidableEq, Repr

/-- The format of a code, 0x00 and reserved codes apart. -/
def fmtOf : Nat → Option Fmt
  | 0x01 => some ⟨.fp fpF32, 32, 1, .none, false, false, .none⟩
  | 0x02 => some ⟨.fp fpBf16, 16, 1, .none, true, true, .b16⟩
  | 0x03 => some ⟨.fp fpF16, 16, 1, .none, true, true, .b16⟩
  | 0x04 => some ⟨.fp fpE4M3, 8, 1, .none, true, true, .b8⟩
  | 0x05 => some ⟨.fp fpE5M2, 8, 1, .none, true, true, .b8⟩
  | 0x06 => some ⟨.int, 32, 1, .none, false, false, .none⟩
  | 0x07 => some ⟨.int, 8, 1, .none, true, true, .int⟩
  | 0x08 => some ⟨.int, 4, 1, .none, true, true, .int⟩
  | 0x10 => some ⟨.fp fpE4M3, 8, 32, .e8m0, true, true, .b8⟩
  | 0x11 => some ⟨.fp fpE5M2, 8, 32, .e8m0, true, true, .b8⟩
  | 0x12 => some ⟨.fp fpE2M3, 6, 32, .e8m0, true, true, .b6⟩
  | 0x13 => some ⟨.fp fpE3M2, 6, 32, .e8m0, true, true, .b6⟩
  | 0x14 => some ⟨.fp fpE2M1, 4, 32, .e8m0, true, true, .b4⟩
  | 0x15 => some ⟨.mxint, 8, 32, .e8m0, true, true, .b8⟩
  | 0x18 => some ⟨.fp fpE2M1, 4, 32, .mz4n, true, true, .b4⟩
  | 0x19 => some ⟨.mzt, 2, 16, .e4m3, true, false, .tern⟩
  | 0x1A => some ⟨.int, 4, 64, .f16, true, false, .b4⟩
  | _ => none

/-- The FP32 format. -/
def fmtF32 : Fmt := ⟨.fp fpF32, 32, 1, .none, false, false, .none⟩

/-- The scale bytes of a span of n elements (R155). -/
def Fmt.scaleBytes (f : Fmt) (n : Nat) : Nat :=
  match f.scale with
  | .none => 0
  | .e8m0 => n / 32
  | .mz4n => n / 32 + n / 8
  | .e4m3 => n / 16
  | .f16 => n / 64 * 2

/-- The bytes of an element section. -/
def Fmt.elemBytes (f : Fmt) (n : Nat) : Nat := (n * f.bits + 7) / 8

/-- The bytes of a span of n elements. -/
def Fmt.spanSize (f : Fmt) (n : Nat) : Nat := f.elemBytes n + f.scaleBytes n

/-! Element sections (R154) -/

/-- Bytes of the little-endian unit elements are packed in, and elements in a unit. -/
def unitOf (bits : Nat) : Nat × Nat := if bits = 6 then (3, 4) else if bits < 8 then (1, 8 / bits) else (bits / 8, 1)

/-- The element codes of a number of units. -/
def unpackUnits (bits u k : Nat) : Nat → List Byte → List Nat
  | 0, _ => []
  | n + 1, bs =>
    let w := leNat (bs.take u)
    (List.range k).map (fun i => w / 2 ^ (bits * i) % 2 ^ bits) ++ unpackUnits bits u k n (bs.drop u)

/-- The n element codes at the start of a list of bytes. -/
def unpackElems (bits n : Nat) (bs : List Byte) : List Nat :=
  let (u, k) := unitOf bits
  (unpackUnits bits u k ((n + k - 1) / k) bs).take n

/-- The bytes of a number of units. -/
def packUnits (bits u k : Nat) : Nat → List Nat → List Byte
  | 0, _ => []
  | n + 1, cs =>
    toLE u (((cs.take k).zipIdx.map (fun ci => ci.1 % 2 ^ bits * 2 ^ (bits * ci.2))).sum)
      ++ packUnits bits u k n (cs.drop k)

/-- The bytes of a list of element codes; the last unit is filled with 0. -/
def packElems (bits : Nat) (cs : List Nat) : List Byte :=
  let (u, k) := unitOf bits
  packUnits bits u k ((cs.length + k - 1) / k) cs

/-! Decoding (R152, R153, R156) -/

/-- The value of one element code, without its scale. -/
def Fmt.elemVal (f : Fmt) (c : Nat) : Val :=
  match f.elem with
  | .fp p => p.decode c
  | .int => Val.ofInt (signed f.bits c)
  | .mxint => Val.ofFrac ((Frac.ofInt (signed 8 c)).mul (Frac.pow2 (-6)))
  | .mzt => Val.ofInt (if c = 1 then 1 else if c = 3 then -1 else 0)

/-- What reading one element counts. -/
def Fmt.elemMon (f : Fmt) (c : Nat) : Mon :=
  match f.elem with
  | .mzt => if c = 2 then Mon.ofEnc 1 else .zero
  | _ => if (f.elemVal c).finite then .zero else Mon.ofNonf 1

/-- An E8M0 scale. -/
def e8m0Val (b : Nat) : Val := if b = 255 then .nan else Val.ofFrac (Frac.pow2 ((b : Int) - 127))

/-- A count of a scale that is a NaN. -/
def nanMon (v : Val) : Mon := if v.isNan then Mon.ofNonf 1 else .zero

/-- An unsigned E4M3 scale (R153), with what reading it counts. -/
def subScale (b : Nat) : Val × Mon :=
  let v := fpE4M3.decode (b % 128)
  (v, (if 128 ≤ b then Mon.ofEnc 1 else .zero).add (nanMon v))

/-- An FP16 group scale: an infinite one acts as a NaN (R153). -/
def groupScale (w : Nat) : Val × Mon :=
  match fpF16.decode w with
  | .fin n q => (.fin n q, .zero)
  | _ => (.nan, Mon.ofNonf 1)

/-- The scale of element i of a span, from its scale bytes, and what the scales that begin at i count. -/
def Fmt.scaleAt (f : Fmt) (n : Nat) (sc : List Byte) (i : Nat) : Val × Mon :=
  let byte := fun (k : Nat) => (nth sc 0 k).toNat
  match f.scale with
  | .none => (Val.one, .zero)
  | .e8m0 => let v := e8m0Val (byte (i / 32)); (v, if i % 32 = 0 then nanMon v else .zero)
  | .mz4n =>
    let x := e8m0Val (byte (i / 32))
    let (v, m) := subScale (byte (n / 32 + i / 8))
    (mulExact x v, ((if i % 32 = 0 then nanMon x else .zero)).add (if i % 8 = 0 then m else .zero))
  | .e4m3 => let (v, m) := subScale (byte (i / 16)); (v, if i % 16 = 0 then m else .zero)
  | .f16 =>
    let (v, m) := groupScale (byte (i / 64 * 2) + 256 * byte (i / 64 * 2 + 1))
    (v, if i % 64 = 0 then m else .zero)

/-- The scales of a span, one for each unit of 8 elements, with what each unit's scales count. -/
def Fmt.scales (f : Fmt) (n : Nat) (sc : List Byte) : List (Val × Mon) :=
  match f.scale with
  | .none => []
  | _ => (List.range ((n + 7) / 8)).map (fun j => f.scaleAt n sc (8 * j))

/-- An element under its scale; a NaN scale makes it NaN. -/
def scaled (s v : Val) : Val := if s.isNan then .nan else mulExact s v

/-- Scale element codes in units of 8. -/
def Fmt.applyScales (f : Fmt) : List (Val × Mon) → List Nat → List (Val × Mon)
  | [], _ => []
  | (s, m) :: ss, cs =>
    ((cs.take 8).zipIdx.map (fun ci =>
        (scaled s (f.elemVal ci.1), (if ci.2 = 0 then m else Mon.zero).add (f.elemMon ci.1))))
      ++ f.applyScales ss (cs.drop 8)

/-- The element values of a span, each with what reading it counts: from its element codes and its scale
bytes. -/
def Fmt.valuesOf (f : Fmt) (n : Nat) (codes : List Nat) (sc : List Byte) : List (Val × Mon) :=
  match f.scale with
  | .none => codes.map (fun c => (f.elemVal c, f.elemMon c))
  | _ => f.applyScales (f.scales n sc) codes

/-- Decode a span of n elements exactly (R156). -/
def Fmt.decodeSpan (f : Fmt) (n : Nat) (bs : List Byte) : List (Val × Mon) :=
  f.valuesOf n (unpackElems f.bits n bs) ((bs.drop (f.elemBytes n)).take (f.scaleBytes n))

/-- A decoded value rounded to FP32 (R157): beyond its range it is an infinity, counted as SCALE_HI. -/
def toFp32 (x : Val × Mon) : Val × Mon :=
  let v := f32 .near x.1
  (v, if x.1.finite && !v.finite then x.2.add (Mon.ofHi 1) else x.2)

/-- The values of a row, and their counts in the tiles of its columns. -/
def noteRow (t : Tally) (tile : Nat → Nat) (xs : List (Val × Mon)) : List Val × Tally :=
  (xs.map (·.1), xs.zipIdx.foldl (fun (t : Tally) xi => t.note (tile xi.2) xi.1.2) t)

/-! Conversion (R158 to R163) -/

/-- The rounding and scale parameters of a task (Table 8.1). -/
structure Conv where
  sr : Bool
  sat : Bool
  rule : Nat
  seed : Nat
  deriving DecidableEq, Repr

/-- Conversion with RN and SAT 1 (R159, Convoy combine). -/
def Conv.combine : Conv := ⟨false, true, 0, 0⟩

/-- r of R163 for the element with linear index c. -/
def srBits (seed c : Nat) : Nat :=
  let m := 2 ^ 64
  let z := (seed * 0x9E3779B97F4A7C15 + c * 0xD1B54A32D192ED03) % m
  let z := (z ^^^ (z >>> 30)) * 0xBF58476D1CE4E5B9 % m
  let z := (z ^^^ (z >>> 27)) * 0x94D049BB133111EB % m
  let z := z ^^^ (z >>> 31)
  z >>> 32

/-- The rounding of element c. -/
def Conv.rnd (k : Conv) (c : Nat) : Rnd := if k.sr then .sr (srBits k.seed c) else .near

/-- Encode a value in a floating-point format (R158 to R160). -/
def encodeFp (f : Fp) (sat : Bool) (m : Rnd) (v : Val) : Nat × Mon :=
  let wide := decide (f = fpF32)
  match v with
  | .nan => (f.nanCode, if wide then .zero else Mon.ofNonf 1)
  | .inf n =>
    let c := match f.special with
      | .ieee => f.withSign n (f.maxCode + 1)
      | .nanOnly => f.withSign n f.maxCode
      | .none => 0
    (c, if wide then .zero else Mon.ofNonf 1)
  | .fin n q =>
    let saturating := (decide (f.special ≠ .ieee) || sat) && !wide
    if saturating && f.maxMag.lt q.abs then (f.withSign n f.maxCode, Mon.ofSat 1)
    else
      let c := f.roundMag q.abs n m
      (f.withSign n (if c ≤ f.maxCode then c else f.maxCode + 1), .zero)

/-- Encode a value as an integer between bounds (R158 to R160), in two's complement of a width. -/
def encodeInt (bits : Nat) (lo hi : Int) (m : Rnd) (v : Val) : Nat × Mon :=
  match v with
  | .nan => (0, Mon.ofNonf 1)
  | .inf n => (twos bits (if n then lo else hi), Mon.ofNonf 1)
  | .fin n q =>
    if (Frac.ofInt hi).lt q then (twos bits hi, Mon.ofSat 1)
    else if q.lt (Frac.ofInt lo) then (twos bits lo, Mon.ofSat 1)
    else
      let r : Int := roundUnits q.abs n m
      (twos bits (if n then -r else r), .zero)

/-- Encode one element of a format, its scale factored out. -/
def Fmt.encodeElem (f : Fmt) (sat : Bool) (m : Rnd) (v : Val) : Nat × Mon :=
  match f.elem with
  | .fp p => encodeFp p sat m v
  | .int =>
    if f.scale = .f16 then encodeInt 4 (-7) 7 m v
    else encodeInt f.bits (-((2 ^ (f.bits - 1) : Nat) : Int)) (((2 ^ (f.bits - 1) : Nat) : Int) - 1) m v
  | .mxint => encodeInt 8 (-127) 127 m (mulExact v (Val.ofInt 64))
  | .mzt => (0, .zero)

/-- The largest magnitude of a list of finite values. -/
def maxAbs (vs : List Val) : Frac := vs.foldl (fun a v => if a.lt v.frac.abs then v.frac.abs else a) .zero

/-- A scale exponent clamped to −127 to 127 (R161), with what the clamp counts. -/
def clampExp (k : Int) : Int × Mon :=
  if 127 < k then (127, Mon.ofHi 1) else if k < -127 then (-127, Mon.ofLo 1) else (k, .zero)

/-- The scale exponent of an MX block (R161) whose largest magnitude is a. -/
def mxExp (f : Fmt) (rule : Nat) (a : Frac) : Int × Mon :=
  if a.isZero then (-127, .zero)
  else
    match f.elem with
    | .fp p => clampExp (if rule = 1 then a.ceilLog p.maxMag else a.log2 - p.emax)
    | _ => clampExp (if rule = 1 then a.ceilLog (Frac.of 127 64) else a.log2)

/-- An encoded block: element codes, scale bytes of each section, and counts. -/
structure EncBlock where
  codes : List Nat
  s1 : List Byte
  s2 : List Byte
  mon : Mon
  deriving DecidableEq, Repr

/-- A value divided by a positive scale. -/
def unscale (v : Val) (s : Frac) : Val :=
  match v with
  | .fin n q => .fin n (q.div s)
  | x => x

/-- Encode each element of a block under one scale. -/
def Fmt.encodeWith (f : Fmt) (k : Conv) (c0 : Nat) (s : Frac) (vs : List Val) : List Nat × Mon :=
  vs.zipIdx.foldr (fun vi (a : List Nat × Mon) =>
    let (c, m) := f.encodeElem k.sat (k.rnd (c0 + vi.2)) (unscale vi.1 s)
    (c :: a.1, m.add a.2)) ([], .zero)

/-- The bytes of a number as a list of one byte. -/
def b8 (n : Nat) : Byte := BitVec.ofNat 8 n

/-- Encode a block of an MX format (R161). -/
def Fmt.encodeMx (f : Fmt) (k : Conv) (c0 : Nat) (vs : List Val) : EncBlock :=
  let bad := (vs.filter (fun v => !v.finite)).length
  if 0 < bad then ⟨vs.map (fun _ => 0), [255], [], Mon.ofNonf bad⟩
  else
    let (e, m) := mxExp f k.rule (maxAbs vs)
    let (cs, m2) := f.encodeWith k c0 (Frac.pow2 e) vs
    ⟨cs, [b8 (e + 127).toNat], [], m.add m2⟩

/-- Encode a 32-block of MZ4N (R162). -/
def Fmt.encodeMz4 (f : Fmt) (k : Conv) (c0 : Nat) (vs : List Val) : EncBlock :=
  let bad := (vs.filter (fun v => !v.finite)).length
  if 0 < bad then ⟨vs.map (fun _ => 0), [255], List.replicate 4 0x38, Mon.ofNonf bad⟩
  else
    let a := maxAbs vs
    let (e, m) : Int × Mon := if a.isZero then (-127, .zero) else clampExp (a.ceilLog (Frac.ofInt 6))
    let x := Frac.pow2 e
    let subs := (List.range 4).map fun j =>
      let part := (vs.drop (8 * j)).take 8
      let a8 := maxAbs part
      let sc := if a8.isZero then 0x38
        else min (max 1 (fpE4M3.roundMag (a8.div (x.mul ⟨6, 1⟩)) false .up)) fpE4M3.maxCode
      let (cs, mm) := f.encodeWith k (c0 + 8 * j) (x.mul (fpE4M3.mag sc)) part
      (cs, sc, mm)
    ⟨subs.flatMap (·.1), [b8 (e + 127).toNat], subs.map (fun t => b8 t.2.1),
      subs.foldl (fun a t => a.add t.2.2) m⟩

/-- A magnitude rounded to nearest even to a saturating scale format: its code and what it counts. -/
def scaleCode (p : Fp) (q : Frac) : Nat × Mon :=
  if p.maxMag.lt q then (p.maxCode, Mon.ofSat 1) else (p.roundMag q false .near, .zero)

/-- Encode a 16-group of MZT (R162). -/
def encodeMzt (vs : List Val) : EncBlock :=
  let bad := (vs.filter (fun v => !v.finite)).length
  if 0 < bad then ⟨vs.map (fun _ => 0), [0x7F], [], Mon.ofNonf bad⟩
  else
    let sum := vs.foldl (fun a v => a.add v.frac.abs) Frac.zero
    let (sc, m) := scaleCode fpE4M3 (sum.mul ⟨1, 16⟩)
    let half := (fpE4M3.mag sc).mul ⟨1, 2⟩
    ⟨vs.map (fun v => if half.lt v.frac.abs then (if v.isNeg then 3 else 1) else 0), [b8 sc], [], m⟩

/-- Encode a 64-group of INT4G64 (R162). -/
def Fmt.encodeG64 (f : Fmt) (k : Conv) (c0 : Nat) (vs : List Val) : EncBlock :=
  let bad := (vs.filter (fun v => !v.finite)).length
  if 0 < bad then ⟨vs.map (fun _ => 0), [0x00, 0x7E], [], Mon.ofNonf bad⟩
  else
    let (sc, m) := scaleCode fpF16 ((maxAbs vs).mul ⟨1, 7⟩)
    if sc = 0 then ⟨vs.map (fun _ => 0), [0, 0], [], m⟩
    else
      let (cs, m2) := f.encodeWith k c0 (fpF16.mag sc) vs
      ⟨cs, toLE 2 sc, [], m.add m2⟩

/-- Encode one block of a format; c0 is the linear index of its first element. -/
def Fmt.encodeBlock (f : Fmt) (k : Conv) (c0 : Nat) (vs : List Val) : EncBlock :=
  match f.scale with
  | .none => let (cs, m) := f.encodeWith k c0 (Frac.ofInt 1) vs; ⟨cs, [], [], m⟩
  | .e8m0 => f.encodeMx k c0 vs
  | .mz4n => f.encodeMz4 k c0 vs
  | .e4m3 => encodeMzt vs
  | .f16 => f.encodeG64 k c0 vs

/-- Split a list into n parts of k elements. -/
def groupsOf {α : Type} (k : Nat) : Nat → List α → List (List α)
  | 0, _ => []
  | n + 1, l => l.take k :: groupsOf k n (l.drop k)

/-- The encoded blocks of a row whose first element has linear index c0. -/
def Fmt.encodeBlocks (f : Fmt) (k : Conv) (c0 : Nat) (vs : List Val) : List EncBlock :=
  (groupsOf f.block ((vs.length + f.block - 1) / f.block) vs).zipIdx.map
    (fun vi => f.encodeBlock k (c0 + f.block * vi.2) vi.1)

/-- The scale sections of encoded blocks (R155). -/
def scaleSections (bs : List EncBlock) : List Byte := bs.flatMap (·.s1) ++ bs.flatMap (·.s2)

/-- The counts of encoded blocks, in the tiles of their first columns. -/
def noteBlocks (f : Fmt) (t : Tally) (tile : Nat → Nat) (bs : List EncBlock) : Tally :=
  bs.zipIdx.foldl (fun (t : Tally) bi => t.note (tile (f.block * bi.2)) bi.1.mon) t

/-- Encode a row as a span (R154, R155). -/
def Fmt.encodeSpan (f : Fmt) (k : Conv) (c0 : Nat) (tile : Nat → Nat) (vs : List Val) (t : Tally) :
    List Byte × Tally :=
  let bs := f.encodeBlocks k c0 vs
  (packElems f.bits (bs.flatMap (·.codes)) ++ scaleSections bs, noteBlocks f t tile bs)

end Sys2Proof.Machine
end

