-- ==== Sys2Proof/Machine/Array.lean ====
section
/-! DEFINITION. The arithmetic of the MAC arrays: block terms, the compensated accumulation (R167), raw
integers (R169), outlier side terms (R172) and epilogues. An operand element that enters no product (a position
outside every mask, an unmatched entry, an outlier channel) is none. -/
namespace Sys2Proof.Machine

/-- The exact sum of the products of two block operands (R167 step 1). -/
def blockTerm (a w : List (Option Val)) : Val :=
  (a.zip w).foldl
    (fun s p =>
      match p with
      | (some x, some y) => addExact s (mulExact x y)
      | _ => s) Val.zero

/-- The block terms of a reduction, 32 elements each, in ascending order. -/
def blockTerms (a w : List (Option Val)) : List Val :=
  let n := (a.length + 31) / 32
  ((groupsOf 32 n a).zip (groupsOf 32 n w)).map (fun p => blockTerm p.1 p.2)

/-- The terms of a reduction with the side term of each 128-element tile behind the tile's blocks (R172). -/
def withSides (terms : List Val) (sides : List (Option Val)) : List Val :=
  ((groupsOf 4 ((terms.length + 3) / 4) terms).zipIdx.flatMap fun g =>
    g.1 ++ (match nth sides none g.2 with | some v => [v] | none => []))

/-- A running accumulation: s, c, and whether it has overflowed. -/
structure Acc where
  s : Val
  c : Val
  ovf : Bool
  deriving DecidableEq, Repr

/-- One exact term: rounded once to FP32 and added by the compensated step (R167 steps 2 and 3). -/
def Acc.add (a : Acc) (t : Val) : Acc :=
  let b := f32 .near t
  let (s, c) := compStep a.s a.c b
  { s := s, c := c, ovf := a.ovf || (t.finite && !b.finite) || (a.s.finite && b.finite && !s.finite) }

/-- The accumulation of a list of exact terms from a start value. -/
def accumulate (s0 : Val) (terms : List Val) : Acc := terms.foldl Acc.add ⟨s0, Val.zero, false⟩

/-- An FP32 result of an accumulation, with what it counts (R167 step 4, R168). -/
def Acc.out (a : Acc) : Val × Mon :=
  let v := addF a.s a.c
  let ovf := a.ovf || (a.s.finite && a.c.finite && !v.finite)
  (v, (if ovf then Mon.ofOvf 1 else .zero).add (nanMon v))

/-- The raw-integer accumulation (R169): saturates at the bounds of INT32. -/
def accumulateInt (terms : List Val) : Int × Bool :=
  terms.foldl
    (fun (a : Int × Bool) t =>
      let v := a.1 + t.frac.num
      if v < -(2 ^ 31 : Int) then (-(2 ^ 31 : Int), true)
      else if (2 ^ 31 : Int) ≤ v then ((2 ^ 31 : Int) - 1, true)
      else (v, a.2)) (0, false)

/-- The dot product of two operands as an FP32 value (R167). -/
def dot (a w : List (Option Val)) : Val × Mon := (accumulate Val.zero (blockTerms a w)).out

/-- The passes of R181 for m rows through a reduction of k and n columns. -/
def passCount (m k n : Nat) : Nat := (m + 15) / 16 * ((k + 127) / 128) * ((n + 127) / 128)

/-! Pairs of operand formats (R166) -/

/-- A class of Table 7.4 that computes in floating point. -/
def OpClass.fp : OpClass → Bool
  | .tern | .b4 | .b6 | .b8 | .b16 => true
  | _ => false

/-- W and A formats may be paired. -/
def pairOk (w a : Fmt) : Bool :=
  w.w && a.a && ((w.cls.fp && a.cls.fp) || (decide (w.cls = .int) && decide (a.cls = .int)))

/-- The pairing is of raw integers. -/
def pairInt (w : Fmt) : Bool := decide (w.cls = .int)

/-- The residue check covers the pairing (R187). -/
def pairCovered (w a : Fmt) : Bool := decide (w.cls ≠ .b16 ∧ a.cls ≠ .b16)

/-- Output formats from the FP32 accumulator, and from the INT32 accumulator (R166). -/
def fpOut (c : Nat) : Bool := [0x01, 0x02, 0x03, 0x04, 0x05].contains c
def intOut (c : Nat) : Bool := [0x06, 0x07].contains c

/-! Epilogues and activations (R194) -/

def geluF (a : Val) : Val :=
  mulF (mulF (ofF32 0x3F000000) a) (addF Val.one (erfF (mulF a (ofF32 0x3F3504F3))))
def siluF (a : Val) : Val := mulF a (sigmoidF a)

/-- Epilogue 0 none, 1 ReLU, 2 GELU, 3 SiLU. -/
def epilogue (e : Nat) (a : Val) : Val :=
  match e with
  | 1 => maxF a Val.zero
  | 2 => geluF a
  | 3 => siluF a
  | _ => a

end Sys2Proof.Machine
end

