-- ==== Sys2Proof/Machine/Packets.lean ====
section
/-! DEFINITION. Packets: the fields of the header (Table 11.1), coordinates and shapes (R255 to R257, R87),
and injection (R259, R261, R272). -/
namespace Sys2Proof
open Machine

/-! Header fields: bit 8 · k + i of hdr is bit i of byte k -/

/-- The field at bits [hi:lo] of the word at a byte offset. -/
def Packet.fld (p : Packet) (off hi lo : Nat) : Nat := Machine.fld p.hdr (8 * off + hi) (8 * off + lo)

/-- The packet with one field replaced. -/
def Packet.set (p : Packet) (off hi lo v : Nat) : Packet :=
  { p with hdr := setFld p.hdr (8 * off + hi) (8 * off + lo) v }

def Packet.type (p : Packet) : Nat := p.fld 0 3 0
def Packet.mcast (p : Packet) : Bool := decide (p.fld 0 4 4 = 1)
def Packet.epoch (p : Packet) : Bool := decide (p.fld 0 6 6 = 1)
def Packet.vc (p : Packet) : Nat := p.fld 0 10 8
def Packet.tag (p : Packet) : Nat := p.fld 0 23 12
def Packet.src (p : Packet) : Coord := BitVec.ofNat 16 (p.fld 4 15 0)
def Packet.dest (p : Packet) : Coord := BitVec.ofNat 16 (p.fld 4 31 16)
/-- The mask of axis 0 x, 1 y, 2 z, 3 w of BOX. -/
def Packet.box (p : Packet) (a : Nat) : Nat :=
  if a = 3 then p.fld 8 15 0 else p.fld 8 (16 * (a + 1) + 15) (16 * (a + 1))
/-- The payload bytes LEN gives, at 0x18 [21:8] (R258). -/
def Packet.len (p : Packet) : Nat := p.fld 0x18 21 8
/-- Whole flits of the packet (R258). -/
def Packet.flits (p : Packet) : Nat := 1 + (p.payload.length + 63) / 64

/-- The 64 header bytes. -/
def Packet.hdrBytes (p : Packet) : List Byte := toLE 64 p.hdr.toNat

/-- The CRC-32C of R117: header bytes 0x00–0x3B with EPOCH taken as 0, then the payload. -/
def Packet.crc (p : Packet) : W32 := crc32c (((p.set 0 6 6 0).hdrBytes.take 60) ++ p.payload)

/-- The CRC word at 0x3C. -/
def Packet.crcWord (p : Packet) : W32 := w32 (p.fld 0x3C 31 0)

/-- The payload bytes the packet carries: LEN, but none in a request whose LEN is the bytes asked for
(LOAD and GW_GET, Table 12.5; CK_READ, Table 15.6), and none in a router notice (R284). -/
def Packet.carried (p : Packet) : Nat :=
  if (p.vc = 4 ∧ (p.type = 0 ∨ p.type = 5)) ∨ (p.vc = 6 ∧ p.type = 12) ∨ p.vc = 7 then 0 else p.len

/-- The packet's CRC-32C holds, and its payload has its length. -/
def Packet.crcOk (p : Packet) : Bool := decide (p.crc = p.crcWord ∧ p.payload.length = p.carried)

/-- The packet with a fresh CRC-32C. -/
def Packet.seal (p : Packet) : Packet := p.set 0x3C 31 0 p.crc.toNat

/-! Bale fields (Tables 6.1) -/

def Packet.stepOf (p : Packet) : W32 := w32 (p.fld 0x10 31 0)
def Packet.layerOf (p : Packet) : Nat := p.fld 0 31 24
def Packet.tokenOf (p : Packet) : Nat := p.fld 0x14 15 0
def Packet.rankMask (p : Packet) : Nat := p.fld 0x14 31 16
def Packet.fmtCode (p : Packet) : Nat := p.fld 0x18 7 0
def Packet.engOf (p : Packet) : Nat := p.fld 0x18 24 22

end Sys2Proof

namespace Sys2Proof.Machine

/-- A packet from its class, header fields (offset, hi, lo, value) and a payload, sealed; LEN is the
payload's length unless the fields give it. -/
def mkPacket (vc type : Nat) (fields : List (Nat × Nat × Nat × Nat)) (payload : List Byte) : Packet :=
  let p : Packet := { hdr := 0, payload := payload }
  let p := ((p.set 0 3 0 type).set 0 10 8 vc).set 0x18 21 8 payload.length
  (fields.foldl (fun p f => p.set f.1 f.2.1 f.2.2.1 f.2.2.2) p).seal

/-! Coordinates: axes in dimension order, 0 x, 1 y, 2 z, 3 w (R255, R267) -/

/-- The bit position of an axis in a coordinate. -/
def axisLo (a : Nat) : Nat := if a = 0 then 8 else if a = 1 then 4 else if a = 2 then 0 else 12

/-- A coordinate's position on an axis. -/
def axisOf (c : Coord) (a : Nat) : Nat := Machine.fld c (axisLo a + 3) (axisLo a)

/-- A coordinate with its position on an axis replaced. -/
def setAxis (c : Coord) (a v : Nat) : Coord := setFld c (axisLo a + 3) (axisLo a) v

/-- A coordinate from its x, y, z and w. -/
def mkCoord (x y z w : Nat) : Coord := setAxis (setAxis (setAxis (setAxis 0 0 x) 1 y) 2 z) 3 w

/-- The shape index of a tag (RTE_TENT). -/
def State.tagShape (s : State) (tag : Nat) : Nat := nbits (s.rte.tags.get 0 tag) 7 4

/-- The tag is admitted (R272). -/
def State.tagAllowed (s : State) (tag : Nat) : Bool := (s.rte.tags.get 0 tag).testBit 0

/-- The origin of a shape (R256). -/
def State.shapeOrigin (s : State) (sh : Nat) : Coord := BitVec.ofNat 16 (s.rf Pg.rte (Reg.rteShape sh) 15 0)

/-- The extent of a shape on an axis, 1 to 16. -/
def State.extent (s : State) (sh a : Nat) : Nat :=
  axisOf (BitVec.ofNat 16 (s.rf Pg.rte (Reg.rteShape sh) 31 16)) a + 1

/-- The physical coordinate of a logical one under a shape (R87). -/
def State.toPhys (s : State) (sh : Nat) (c : Coord) : Coord :=
  let o := s.shapeOrigin sh
  mkCoord ((axisOf o 0 + axisOf c 0) % 16) ((axisOf o 1 + axisOf c 1) % 16) ((axisOf o 2 + axisOf c 2) % 16)
    ((axisOf o 3 + axisOf c 3) % 16)

/-- The logical coordinate of a physical one under a shape (R87). -/
def State.toLog (s : State) (sh : Nat) (c : Coord) : Coord :=
  let o := s.shapeOrigin sh
  let d := fun a => (axisOf c a + 16 - axisOf o a) % 16
  mkCoord (d 0) (d 1) (d 2) (d 3)

/-- A logical coordinate lies within the extents of a shape. -/
def State.inShape (s : State) (sh : Nat) (c : Coord) : Bool :=
  (List.range 4).all (fun a => decide (axisOf c a < s.extent sh a))

/-- The logical rank of a coordinate within a shape (R87). -/
def State.rankOf (s : State) (sh : Nat) (c : Coord) : Nat :=
  ((axisOf c 3 * s.extent sh 2 + axisOf c 2) * s.extent sh 1 + axisOf c 1) * s.extent sh 0 + axisOf c 0

/-- The logical coordinate of a rank within a shape. -/
def State.coordOf (s : State) (sh r : Nat) : Coord :=
  let x := s.extent sh 0
  let y := s.extent sh 1
  let z := s.extent sh 2
  mkCoord (r % x) (r / x % y) (r / x / y % z) (r / x / y / z)

/-- The devices of a shape. -/
def State.shapeSize (s : State) (sh : Nat) : Nat :=
  s.extent sh 0 * s.extent sh 1 * s.extent sh 2 * s.extent sh 3

/-- The injection tag of a partition, where it is valid (R257). -/
def State.ptag (s : State) (p : Nat) : Option Nat :=
  if s.rb Pg.rte (Reg.rtePtag p) 31 then some (s.rf Pg.rte (Reg.rtePtag p) 11 0) else none

/-- The partition whose injection tag is this tag. -/
def State.tagPart (s : State) (tag : Nat) : Option Nat :=
  (List.range 8).find? (fun p => decide (s.ptag p = some tag))

/-- This device's logical coordinate under a tag. -/
def State.selfLog (s : State) (tag : Nat) : Coord := s.toLog (s.tagShape tag) s.selfCoord

/-- The routing fields of a unicast packet of this device under a tag. -/
def State.toOne (s : State) (tag : Nat) (dest : Coord) : List (Nat × Nat × Nat × Nat) :=
  [(0, 23, 12, tag), (4, 15, 0, (s.selfLog tag).toNat), (4, 31, 16, dest.toNat)]

/-- The routing fields of a multicast packet of this device under a tag; box gives each axis mask. -/
def State.toBox (s : State) (tag : Nat) (box : Nat → Nat) : List (Nat × Nat × Nat × Nat) :=
  [(0, 4, 4, 1), (0, 23, 12, tag), (4, 15, 0, (s.selfLog tag).toNat), (8, 15, 0, box 3), (8, 31, 16, box 0),
   (8, 47, 32, box 1), (8, 63, 48, box 2)]

/-- The number of bits set in each axis mask of a box are its devices (R118). -/
def boxSize (m : Nat → Nat) : Nat := popcount 16 (m 0) * popcount 16 (m 1) * popcount 16 (m 2) * popcount 16 (m 3)

/-! Injection -/

/-- The packet classes of a VC (Table 11.2 and the chapters it names: Tables 6.1, 12.5, 13.1, 13.4, 15.6). -/
def vcClasses : Nat → List Nat
  | 0 => [0, 1, 2] | 1 => [0, 2] | 2 => [1, 3, 4] | 3 => [0, 1] | 4 => [0, 1, 2, 4, 5]
  | 5 => [0, 1, 2, 3, 4] | 6 => [2, 3, 8, 9, 10, 11, 12, 13] | 7 => [15] | _ => []

/-- A VC that may carry multicast (Table 11.2). -/
def vcMcast (p : Packet) : Bool :=
  decide (p.vc = 1 ∨ p.vc = 3 ∨ p.vc = 6 ∨ (p.vc = 2 ∧ p.type = 4))

/-- Put a packet at the end of an input buffer. -/
def State.bufPush (s : State) (input : Nat) (p : Packet) : State :=
  let k := input * 8 + p.vc
  let q := s.rte.bufs.get [] k
  { s with rte := { s.rte with bufs := s.rte.bufs.set [] k (q ++ [⟨p, s.now, false⟩]) } }

/-- Take the packet at the head of an input buffer away; the next becomes the head now. -/
def State.bufPop (s : State) (input vc : Nat) : State :=
  let k := input * 8 + vc
  let q := match s.rte.bufs.get [] k with
    | _ :: b :: r => { b with headAt := s.now } :: r
    | _ => []
  { s with rte := { s.rte with bufs := s.rte.bufs.set [] k q } }

/-- Drop a packet whose tag is not allowed (R272). -/
def State.tagDrop (s : State) (p : Packet) : State :=
  let s := s.bump Pg.rte Reg.rteCntTagdrop
  (s.setReg Pg.rte Reg.rteTaglast (w32 (at_ 31 1 + p.tag))).irq Pg.rte 16

/-- The tag check of R272: router notices are exempt, and tag 0x000 is otherwise never admitted. -/
def State.tagOk (s : State) (p : Packet) : Bool :=
  if p.tag = 0 then decide (p.vc = 7 ∧ p.type = 15) else s.tagAllowed p.tag

/-- The conditions of R261 and R259 on the packet itself under which an injection is refused. -/
def State.badPacket (s : State) (p : Packet) : Bool :=
  let sh := s.tagShape p.tag
  !s.isOn Pg.rte
    || (!p.mcast && !s.inShape sh p.dest)
    || (p.mcast && (List.range 4).any (fun a => decide (p.box a = 0 ∨ 2 ^ s.extent sh a ≤ p.box a)))
    || (p.mcast && !vcMcast p) || decide (8192 < p.payload.length)
    || !(vcClasses p.vc).contains p.type

/-- An injection by partition part is refused (R261, R259). -/
def State.injectRefused (s : State) (part : Nat) (p : Packet) : Bool := (s.ptag part).isNone || s.badPacket p

/-- An injection is refused (R261). -/
def State.refuseInject (s : State) (part : Nat) : State :=
  ((s.bump Pg.rte Reg.rteCntInjref).irq Pg.rte 17).errorOpen Pg.rte Cls.task part 0x10

/-- A packet that is not refused enters the local input buffer, unless its tag is not allowed (R272). The
router sets EPOCH to the current epoch (R280). -/
def State.injectGo (s : State) (p : Packet) : State :=
  let p := p.set 0 6 6 s.rte.active.toNat
  if s.tagOk p then s.bufPush 10 p else s.tagDrop p

/-- Inject a packet for a partition, or refuse it (R259, R261, R272). -/
def State.injectRaw (s : State) (part : Nat) (p : Packet) : State :=
  if s.injectRefused part p then s.refuseInject part else s.injectGo p

/-! The failure of a graph (R77, R360) -/

/-- The active live or background graph of a partition. -/
def State.graph (s : State) (p : Nat) (bg : Bool) : Option Graph :=
  if bg then (s.schPart p).bg else (s.schPart p).live

/-- The state with that graph replaced. -/
def State.setGraph (s : State) (p : Nat) (bg : Bool) (g : Option Graph) : State :=
  let x := s.schPart p
  s.setSchPart p (if bg then { x with bg := g } else { x with live := g })

/-- The box of every device of a tag's shape. -/
def State.wholeBox (s : State) (tag a : Nat) : Nat := 2 ^ s.extent (s.tagShape tag) a - 1

/-- Multicast an ABORT for a failed live graph where FLT_RCMPp.EN is 1 (R360, Table 15.6). -/
def State.abortSend (s : State) (p : Nat) (step : W32) : State :=
  match s.rb Pg.flt (Reg.fltRcmpp p) 31, s.ptag p with
  | true, some tag =>
    let pkt := mkPacket 6 9 (s.toBox tag (s.wholeBox tag) ++ [(0x10, 31, 0, step.toNat)]) []
    (s.injectRaw p pkt).bump Pg.flt Reg.fltCntAbortTx
  | _, _ => s

/-- Mark a graph FAILED: no further task of it is issued, and a live graph sends an ABORT. Nothing happens
where it has failed before. -/
def State.markFailed (s : State) (p : Nat) (bg : Bool) (task : Nat) (timeout : Bool) : State :=
  match s.graph p bg with
  | some g =>
    if g.failed then s
    else
      let g := { g with failed := true, timeout := timeout, failTask := task }
      let s := s.setGraph p bg (some g)
      if bg then s else s.abortSend p g.step
  | none => s

/-- The live graph of a partition is marked FAILED (Table 10.6, R261). -/
def State.failLive (s : State) (p : Nat) : State :=
  match (s.schPart p).live with
  | some _ => s.markFailed p false 0 false
  | none => s

/-- Inject a packet for a partition; where it is refused, the live graph of the partition is marked FAILED, since
no chapter defines another handling (R261). -/
def State.inject (s : State) (part : Nat) (p : Packet) : State :=
  if s.injectRefused part p then (s.refuseInject part).failLive part else s.injectGo p

/-- Take a packet that was delivered to the local port (R264); none where it was not. -/
def State.takeEjected (s : State) (p : Packet) : Option State :=
  if s.rte.ejected.contains p then
    some { s with rte := { s.rte with ejected := s.rte.ejected.erase p } }
  else none

end Sys2Proof.Machine
end

