-- ==== Sys2Proof/Machine/Router.lean ====
section
/-! DEFINITION. The router, its torus links and its spine ports (R255 to R287). Inputs are 0–7 the torus
ports, 8 and 9 the spine ports, 10 the local port. -/
namespace Sys2Proof.Machine

def State.spine (s : State) (n : Nat) : Spine := vget s.rte.spine n
def State.setSpine (s : State) (n : Nat) (t : Spine) : State :=
  { s with rte := { s.rte with spine := vset s.rte.spine n t } }

/-- The link of torus port n is UP. -/
def State.torusUp (s : State) (n : Nat) : Bool := decide ((s.torus n).link = .up)

/-- Flits of room in every input buffer of each VC (R262). -/
def bufFlits : Nat := 387

/-- Free credit at the buffer behind torus port n for a VC. -/
def State.creditOf (s : State) (n vc : Nat) : Nat := s.rte.credit.get bufFlits (n * 8 + vc)

/-- Use up credit of a port and VC. -/
def State.spend (s : State) (n vc k : Nat) : State :=
  { s with rte := { s.rte with credit := s.rte.credit.set bufFlits (n * 8 + vc) (s.creditOf n vc - k) } }

/-- Flits freed in the buffer of an input: owed to the far end as credit (R262). Spine and local inputs
owe none. -/
def State.owe (s : State) (input vc k : Nat) : State :=
  if input < 8 then
    { s with rte := { s.rte with owed := s.rte.owed.set 0 (input * 8 + vc) (s.rte.owed.get 0 (input * 8 + vc) + k) } }
  else s

/-! Fault set (R279) -/

/-- Enter a fault identifier with a reporter; false where the set is full. -/
def State.enterFault (s : State) (f : Nat) (rep : Coord) : Bool × State :=
  match findPos (fun (x : FaultSlot) => decide (x.fault = f)) s.rte.faults with
  | some i =>
    let x : FaultSlot := nth s.rte.faults (FaultSlot.mk 0 []) i
    let reps := if x.reporters.contains rep ∨ 2 ≤ x.reporters.length then x.reporters else x.reporters ++ [rep]
    (true, { s with rte := { s.rte with faults := setNth s.rte.faults i (FaultSlot.mk f reps) } })
  | none =>
    if s.rte.faults.length < 16 then
      (true, ({ s with rte := { s.rte with faults := s.rte.faults ++ [FaultSlot.mk f [rep]] } }).irq Pg.rte 19)
    else (false, (s.errorOpen Pg.rte Cls.recomputed 0 0x14).irq Pg.rte 23)

/-- The reporter is already recorded for the identifier. -/
def State.hasReporter (s : State) (f : Nat) (rep : Coord) : Bool :=
  s.rte.faults.any (fun x => decide (x.fault = f) && x.reporters.contains rep)

/-- The identifier is in the fault set. -/
def State.hasFault (s : State) (f : Nat) : Bool := s.rte.faults.any (fun x => decide (x.fault = f))

/-! Routes (R266 to R268, R278) -/

/-- The hops and direction (true: +) from one logical position to another on an axis (R266). -/
def axisHops (ext present dest : Nat) : Nat × Bool :=
  if ext = 16 then
    let d := (dest + 16 - present) % 16
    if d ≤ 8 then (d, true) else (16 - d, false)
  else if present < dest then (dest - present, true) else (present - dest, false)

/-- The torus port of a direction on an axis: +x, −x, +y, −y, +z, −z, +w, −w. -/
def portOf (a : Nat) (plus : Bool) : Nat := 2 * a + (if plus then 0 else 1)

/-- The productive ports of a packet, in dimension order. -/
def State.productive (s : State) (p : Packet) : List Nat :=
  let sh := s.tagShape p.tag
  let here := s.toLog sh s.selfCoord
  (List.range 4).filterMap fun a =>
    let (n, plus) := axisHops (s.extent sh a) (axisOf here a) (axisOf p.dest a)
    if n = 0 then none else some (portOf a plus)

/-- The packet's physical destination. -/
def State.physDest (s : State) (p : Packet) : Coord := s.toPhys (s.tagShape p.tag) p.dest

/-- The override entries of a bank that are listed, in index order. -/
def State.overrides (s : State) (bank : Bool) : List (BitVec 128) :=
  (s.rte.ovr.filter (fun e => decide (e.1 / 4096 = bank.toNat))).map (·.2)

/-- An override entry matches a packet (R278). -/
def State.overMatch (s : State) (e : BitVec 128) (p : Packet) : Bool :=
  bit e 63 && bit e (32 + p.vc)
    && decide ((((s.physDest p).toNat ^^^ fld e 15 0) &&& fld e 31 16) = 0)
    && (!bit e 60 || s.hasFault (fld e 59 48))

/-- Where a packet goes: its local port, a torus port, or a spine port with the physical address its
frame names. -/
inductive Route where
  | eject
  | torus (n : Nat)
  | spine (n : Nat) (dest : Coord)
  deriving DecidableEq, Repr

/-- The output of a unicast packet (R266 to R268, R278, R282); adaptive says whether it is an adaptive
move. Ports that are not UP are passed over in an adaptive choice while another productive port is UP
(log 16, DEDUCED). -/
def State.route (s : State) (p : Packet) (escape : Bool) : Route × Bool :=
  if s.physDest p = s.selfCoord then (.eject, false)
  else
    match (s.overrides p.epoch).find? (fun e => s.overMatch e p) with
    | some e =>
      if bit e 43 then
        (.spine (fld e 40 40) (if bit e 44 then BitVec.ofNat 16 (fld e 79 64) else s.physDest p), false)
      else (.torus (fld e 42 40), false)
    | none =>
      let ps := s.productive p
      let first := nth ps 0 0
      if (p.vc = 1 ∨ p.vc = 3) ∧ s.rb Pg.rte Reg.rteCtrl 12 ∧ !escape then
        let best := (ps.filter s.torusUp).foldl
          (fun (b : Option Nat) n =>
            match b with
            | none => some n
            | some m => if s.creditOf m p.vc < s.creditOf n p.vc then some n else some m) none
        (.torus (best.getD first), true)
      else (.torus first, false)

/-- The packet continues on the axis it is travelling: it came in on the port of the same axis opposite to
the one it leaves by (R263). -/
def continuesAxis (input out : Nat) : Bool := decide (input < 8 ∧ input / 2 = out / 2 ∧ input ≠ out)

/-- Credit a packet needs at its output (R263, R268): 258 flits on entering an axis or on an adaptive move,
its own length on continuing. -/
def needed (input out : Nat) (adaptive : Bool) (p : Packet) : Nat :=
  if adaptive ∨ !continuesAxis input out then 258 else p.flits

/-- The flits of a packet. -/
def packetFlits (p : Packet) : List Flit :=
  let n := p.flits
  let vc := BitVec.ofNat 3 p.vc
  ⟨vc, true, decide (n = 1), p.hdr⟩ ::
    (List.range (n - 1)).map (fun i =>
      ⟨vc, false, decide (i + 2 = n), BitVec.ofNat 512 (leNat ((p.payload.drop (64 * i)).take 64))⟩)

/-- Put a packet's flits on a torus port's output. -/
def State.toTorus (s : State) (n : Nat) (p : Packet) : State :=
  let k := n * 8 + p.vc
  let s := { s with rte := { s.rte with txq := s.rte.txq.set [] k (s.rte.txq.get [] k ++ packetFlits p) } }
  s.spend n p.vc p.flits

/-- Deliver a packet to the local port (R264): a frame-input packet is checked first (R260), and VC7
packets other than router notices are discarded (R391). -/
def State.deliver (s : State) (p : Packet) : State :=
  if p.vc = 6 ∧ p.type = 8 ∧ !p.crcOk then s.bump Pg.rte Reg.rteCntFrmcrc
  else if p.vc = 7 then s.bump Pg.sec Reg.secCntVc7
  else { s with rte := { s.rte with ejected := s.rte.ejected ++ [p] } }

/-! Spine frames (R283) -/

/-- The MAC of a spine port of a device. -/
def spineMac (pfx : Nat) (port : Nat) (c : Coord) : BitVec 48 :=
  BitVec.ofNat 48 (pfx * 2 ^ 24 + port * 2 ^ 16 + c.toNat)

/-- The frame that carries a packet from this device's spine port to the same port at a coordinate. -/
def State.spineFrame (s : State) (n : Nat) (dest : Coord) (p : Packet) : SpineFrame :=
  let pfx := s.rf (Pg.spn n) Reg.spnMacpfx 23 0
  { dst := spineMac pfx n dest, src := spineMac pfx n s.selfCoord,
    etype := BitVec.ofNat 16 (s.rf (Pg.spn n) Reg.spnEtype 15 0), vlan := false, bytes := 64 * p.flits,
    pkt := p, fcsOk := true }

/-- A spine port can send. -/
def State.spineReady (s : State) (n : Nat) : Bool :=
  s.isOn (Pg.spn n) && (s.spine n).up && s.rb (Pg.spn n) Reg.spnCtrl 0

/-! Epochs (R280, R281) -/

/-- Packets of the HELD epoch in the input buffers, output queues and retry buffers. -/
def State.drain (s : State) : Nat :=
  let old := !s.rte.active
  let ofQ := fun (f : Flit) => f.head && decide ((⟨f.bytes, []⟩ : Packet).epoch = old)
  (s.rte.bufs.map (fun kv => (kv.2.filter (fun b => decide (b.pkt.epoch = old))).length)).sum
    + (s.rte.txq.map (fun kv => (kv.2.filter ofQ).length)).sum
    + ((List.range 8).map (fun n => ((s.torus n).retry.map (fun g => (g.flits.filter ofQ).length)).sum)).sum

/-- When no packet of the HELD epoch is left, HELD is cleared and DRAINED is raised (R280). -/
def State.checkDrain (s : State) : State :=
  if s.rte.held ∧ s.drain = 0 then ({ s with rte := { s.rte with held := false } }).irq Pg.rte 21 else s

/-- Packets held here whose tag maps to a shape (RTE_SDRAIN, R287). -/
def State.shapeHeld (s : State) (sh : Nat) : Nat :=
  let mine := fun (p : Packet) => decide (s.tagShape p.tag = sh)
  let ofQ := fun (f : Flit) => f.head && mine ⟨f.bytes, []⟩
  (s.rte.bufs.map (fun kv => (kv.2.filter (fun b => mine b.pkt)).length)).sum
    + (s.rte.txq.map (fun kv => (kv.2.filter ofQ).length)).sum
    + ((List.range 8).map (fun n => ((s.torus n).retry.map (fun g => (g.flits.filter ofQ).length)).sum)).sum

/-! Multicast (R273, R274) -/

/-- One branch of a multicast packet at this router: ejected here, or sent on a torus port to the box
members it reaches. -/
inductive Branch where
  | here
  | out (port : Nat) (members : List Coord)
  deriving DecidableEq, Repr

/-- The coordinates of a product of position sets, x first. -/
def boxCoords (sets : Nat → List Nat) : List Coord :=
  (sets 3).flatMap fun w => (sets 2).flatMap fun z => (sets 1).flatMap fun y =>
    (sets 0).map fun x => mkCoord x y z w

/-- The branches from the phase of axis a on, at logical position here. dir is the direction of travel
where the packet came in on this axis. Axes before a are done. -/
def State.branches (s : State) (p : Packet) (here : Coord) : Nat → Nat → Option Bool → List Branch
  | 0, _, _ => []
  | fuel + 1, a, dir =>
    if a = 4 then [.here]
    else
      let ext := s.extent (s.tagShape p.tag) a
      let c := axisOf here a
      let src := axisOf p.src a
      let set := (bitsSet 16 (p.box a)).filter (· ≠ src)
      let far := fun plus =>
        set.filter fun q =>
          let (n, up) := axisHops ext src q
          decide (up = plus ∧ (axisHops ext src c).1 < n)
      let members := fun plus => boxCoords fun b =>
        if b < a then [axisOf here b] else if b = a then far plus else bitsSet 16 (p.box b)
      let turn := if (p.box a).testBit c then s.branches p here fuel (a + 1) none else []
      let go := fun plus => if (far plus).isEmpty then [] else [Branch.out (portOf a plus) (members plus)]
      match dir with
      | none => turn ++ go true ++ go false
      | some plus => turn ++ go plus

/-- The axis phase in which a packet reaches this router, from the input port (R273). -/
def mcastPhase (input : Nat) : Nat × Option Bool :=
  if input < 8 then (input / 2, some (decide (input % 2 = 1))) else (0, none)

/-- The unicast copies of a branch whose port is not UP (R274), in ascending logical rank; the copy's
CRC-32C holds (log 17, DEDUCED). -/
def State.uniCopies (s : State) (p : Packet) (members : List Coord) : List Packet :=
  let sh := s.tagShape p.tag
  let ranked := (List.range (s.shapeSize sh)).filterMap fun r =>
    members.find? (fun c => decide (s.rankOf sh c = r))
  ranked.map fun c =>
    (((((p.set 0 4 4 0).set 8 63 0 0).set 4 31 16 c.toNat).set 0 6 6 0).seal).set 0 6 6 s.rte.active.toNat

/-- Every branch of a multicast packet can go now: enough credit at each UP port. -/
def State.branchReady (s : State) (input : Nat) (p : Packet) : Branch → Bool
  | .here => true
  | .out n _ => !s.torusUp n || decide (needed input n false p ≤ s.creditOf n p.vc)

/-- Carry out one branch. -/
def State.doBranch (s : State) (p : Packet) : Branch → State
  | .here => s.deliver p
  | .out n ms =>
    if s.torusUp n then s.toTorus n p
    else (s.bump Pg.rte Reg.rteCntUconv) |> fun s => (s.uniCopies p ms).foldl (fun s c => s.bufPush 10 c) s

/-! Packet commands -/

/-- The router may move packets: its page is ON or still STOPPING, and no RTE code 0x15 has stopped it
(R353). -/
def State.routerRuns (s : State) : Bool :=
  !s.rte.dead && decide ((s.page Pg.rte).st = .on ∨ (s.page Pg.rte).st = .stopping)

/-- The packet at the head of an input buffer. -/
def State.headOf (s : State) (input vc : Nat) : Option Buffered := (s.rte.bufs.get [] (input * 8 + vc)).head?

/-- The head packet of an input could move now on a torus output. -/
def State.couldUse (s : State) (input vc out : Nat) : Bool :=
  match s.headOf input vc with
  | none => false
  | some b =>
    if b.pkt.mcast then false
    else
      match s.route b.pkt b.escape with
      | (.torus n, ad) => decide (n = out ∧ needed input n ad b.pkt ≤ s.creditOf n vc)
      | _ => false

/-- Within a VC the inputs of an output are served in rotation from the one after the last served (R265):
no other input that could use the output now comes before this one. -/
def State.isTurn (s : State) (input vc out : Nat) : Bool :=
  let last := s.rte.lastIn.get 10 (out * 8 + vc)
  let order := (List.range 11).map (fun i => (last + 1 + i) % 11)
  decide (order.find? (fun i => s.couldUse i vc out) = some input)

/-- A packet of an epoch whose bank is no longer HELD is re-epoched (R281). -/
def State.reepoch (s : State) (p : Packet) : Packet × State :=
  if p.epoch ≠ s.rte.active ∧ !s.rte.held then
    (p.set 0 6 6 s.rte.active.toNat, s.bump Pg.rte Reg.rteCntReepoch)
  else (p, s)

/-- PACKET_FORWARD: the head packet of an input buffer is forwarded, replicated or ejected once its output
has room (R262 to R274, R278). Where it must wait, nothing changes. -/
def State.forward (s : State) (input vc : Nat) : State :=
  if !s.routerRuns then s
  else
    match s.headOf input vc with
    | none => s
    | some b =>
      let (p, s1) := if b.pkt.mcast then (b.pkt, s) else s.reepoch b.pkt
      let done := fun (s : State) => ((s.bufPop input vc).owe input vc b.pkt.flits)
      if p.mcast then
        let (a, dir) := mcastPhase input
        let bs := s.branches p (s.toLog (s.tagShape p.tag) s.selfCoord) 5 a dir
        if bs.all (s.branchReady input p) then
          (bs.foldl (fun s x => s.doBranch p x) (done (s.bump Pg.rte Reg.rteCntFwd))).checkDrain
        else s
      else
        match s1.route p b.escape with
        | (.eject, _) => ((done (s1.bump Pg.rte Reg.rteCntFwd)).deliver p).checkDrain
        | (.spine n dest, _) =>
          if s1.spineReady n then
            (((done (s1.bump Pg.rte Reg.rteCntFwd)).bump (Pg.spn n) Reg.spnCntTxfrm).send
              (.spine n (s1.spineFrame n dest p))).checkDrain
          else s
        | (.torus n, ad) =>
          if !s1.torusUp n then
            (((done (s1.bump Pg.rte Reg.rteCntNoroute)).errorOpen Pg.rte Cls.task 0 0x11).irq
              Pg.rte 18).checkDrain
          else if needed input n ad p ≤ s.creditOf n vc ∧ s.isTurn input vc n then
            let s := done (s1.bump Pg.rte Reg.rteCntFwd)
            let s := if b.escape then s.bump Pg.rte Reg.rteCntEscape else s
            let s := { s with rte := { s.rte with lastIn := s.rte.lastIn.set 10 (n * 8 + vc) input } }
            (s.toTorus n p).checkDrain
          else s

/-- ESCAPE_TIMEOUT: a packet of VC 1 or 3 that has waited ESC_WAIT fabric cycles (two to a tick) without
an adaptive move becomes an escape packet (R268). -/
def State.escapeTimeout (s : State) (input vc : Nat) : State :=
  let k := input * 8 + vc
  match s.rte.bufs.get [] k with
  | b :: r =>
    if (vc = 1 ∨ vc = 3) ∧ !b.pkt.mcast ∧ !b.escape ∧ s.rb Pg.rte Reg.rteCtrl 12 ∧
        s.rf Pg.rte Reg.rteCtrl 11 0 ≤ 2 * (s.now - b.headAt) then
      { s with rte := { s.rte with bufs := s.rte.bufs.set [] k ({ b with escape := true } :: r) } }
    else s
  | [] => s

/-- STALL_WATCHDOG: the head packet that has not advanced for RTE_WDOG ticks is dropped (R278). -/
def State.stallDrop (s : State) (input vc : Nat) : State :=
  match s.headOf input vc with
  | some b =>
    if (s.reg Pg.rte Reg.rteWdog).toNat ≤ s.now - b.headAt then
      let s := (s.bufPop input vc).owe input vc b.pkt.flits
      (((s.bump Pg.rte Reg.rteCntStall).errorOpen Pg.rte Cls.task 0 0x12).irq
        Pg.rte 22).checkDrain
    else s
  | none => s

/-- PACKET_RECEIVE: a packet whose flits have all arrived passes the tag check and enters its input
buffer; a router notice waits for its own command (R272, R284). -/
def State.receive (s : State) (input : Nat) (p : Packet) : State :=
  if s.rte.arrived.contains (input, p) ∧ !(decide (p.vc = 7 ∧ p.type = 15 ∧ p.tag = 0)) then
    let s := { s with rte := { s.rte with arrived := s.rte.arrived.erase (input, p) } }
    if s.tagOk p then s.bufPush input p else (s.tagDrop p).owe input p.vc p.flits
  else s

/-! Flit groups (R275, R276) -/

/-- The bytes a group's CRC covers: the flits, then trailer bytes 0x00–0x0B (Table 11.3). -/
def groupBytes (g : FlitGroup) : List Byte :=
  let fvc := (List.range 8).map (fun i => at_ (3 * i) (match g.flits[i]? with | some f => f.vc.toNat | none => 0))
  g.flits.flatMap (fun f => toLE 64 f.bytes.toNat) ++ toLE 2 g.seq.toNat ++ toLE 2 g.ack.toNat
    ++ toLE 1 (g.flits.length + at_ 4 g.nak.toNat + at_ 5 g.cvc.toNat) ++ toLE 2 g.credit.toNat
    ++ toLE 3 fvc.sum ++ toLE 2 0

/-- The CRC word of a group's trailer. -/
def groupCrc (g : FlitGroup) : W32 := crc32 (groupBytes g)

/-- The flits of the packet at the head of an output queue, tail included. -/
def headFlits (q : List Flit) : Nat :=
  match findPos (·.tail) q with
  | some i => i + 1
  | none => q.length

/-- The weight of a VC in the deficit round robin: RTE_VCW, 0 acting as 1 (Table 11.5). -/
def State.vcWeight (s : State) (vc : Nat) : Nat := max 1 (s.rf Pg.rte Reg.rteVcw (4 * vc - 1) (4 * vc - 4))

/-- Choose the VC of the next packet on a port by deficit round robin over VCs 1 to 7 (R265); n bounds
the visits. -/
def State.pickVc (s : State) (port : Nat) : Nat → State
  | 0 => s
  | n + 1 =>
    let t := s.torus port
    if t.cur.isSome ∨ (List.range 7).all (fun v => (s.rte.txq.get [] (port * 8 + v + 1)).isEmpty) then s
    else
      let v := t.nextVc
      let q := s.rte.txq.get [] (port * 8 + v)
      let next := if v = 7 then 1 else v + 1
      if q.isEmpty then State.pickVc (s.setTorus port { t with nextVc := next, deficit := vset t.deficit v 0 }) port n
      else
        let d := vget t.deficit v + s.vcWeight v
        if headFlits q ≤ d then
          s.setTorus port { t with cur := some v, nextVc := next, deficit := vset t.deficit v (d - headFlits q) }
        else State.pickVc (s.setTorus port { t with nextVc := next, deficit := vset t.deficit v d }) port n

/-- Take up to n flits for a group: VC0 first, then the packet in progress, then the next (R265). -/
def State.takeFlits (s : State) (port : Nat) : Nat → List Flit × State
  | 0 => ([], s)
  | n + 1 =>
    match s.rte.txq.get [] (port * 8) with
    | f :: r =>
      let s := { s with rte := { s.rte with txq := s.rte.txq.set [] (port * 8) r } }
      let (fs, s) := State.takeFlits s port n
      (f :: fs, s)
    | [] =>
      let s := State.pickVc s port 2000
      match (s.torus port).cur with
      | none => ([], s)
      | some v =>
        match s.rte.txq.get [] (port * 8 + v) with
        | [] => ([], s)
        | f :: r =>
          let s := { s with rte := { s.rte with txq := s.rte.txq.set [] (port * 8 + v) r } }
          let s := if f.tail then s.setTorus port { s.torus port with cur := none } else s
          let (fs, s) := State.takeFlits s port n
          (f :: fs, s)

/-- The credit return of a group: the VC with most flits owed, and how many (Table 11.3). -/
def State.takeCredit (s : State) (port : Nat) : (Nat × Nat) × State :=
  let v := (List.range 8).foldl
    (fun b v => if s.rte.owed.get 0 (port * 8 + b) < s.rte.owed.get 0 (port * 8 + v) then v else b) 0
  let k := min (s.rte.owed.get 0 (port * 8 + v)) 4095
  ((v, k), { s with rte := { s.rte with
      owed := s.rte.owed.set 0 (port * 8 + v) (s.rte.owed.get 0 (port * 8 + v) - k) } })

/-- FLIT_GROUP_SEND: the next group leaves a torus port; one with flits stays in the retry buffer until it
is acknowledged (R275, R276). A group without flits reuses the last SEQ. -/
def State.sendGroup (s : State) (port : Nat) : State :=
  let t := s.torus port
  if t.link ≠ .up then s
  else
    let (fs, s) := if t.retry.length < 512 then s.takeFlits port 8 else ([], s)
    let ((v, k), s) := s.takeCredit port
    let t := s.torus port
    let g : FlitGroup :=
      { seq := if fs.isEmpty then t.txNext - 1 else t.txNext, ack := t.rxLast, nak := t.nak,
        cvc := BitVec.ofNat 3 v, credit := BitVec.ofNat 12 k, flits := fs, crcOk := true }
    let t := if fs.isEmpty then { t with nak := false }
      else { t with nak := false, txNext := t.txNext + 1, retry := t.retry ++ [g] }
    ((s.setTorus port t).bumpBy (Pg.trp port) Reg.trpCntTxflit fs.length).send (.group port g)

/-- Resend every group of the retry buffer (R276). -/
def State.resend (s : State) (port : Nat) : State :=
  let t := s.torus port
  let s := s.setTorus port { t with resends := t.resends + 1 }
  let s := if t.retry.isEmpty then s else s.irq (Pg.trp port) 18
  t.retry.foldl
    (fun s g => (s.bump (Pg.trp port) Reg.trpCntRetry).send (.group port { g with ack := t.rxLast })) s

/-- The packet whose flits these are; the payload's length is what LEN gives. -/
def assemble (fs : List Flit) : Option Packet :=
  match fs with
  | [] => none
  | h :: r =>
    let p : Packet := ⟨h.bytes, []⟩
    some { p with payload := ((r.flatMap (fun (f : Flit) => toLE 64 f.bytes.toNat)) ++ List.replicate (p.carried) 0).take p.carried }

/-- Take one flit in on a VC; a packet whose tail has arrived is handed on. -/
def State.takeIn (s : State) (port : Nat) (f : Flit) : State :=
  let k := port * 8 + f.vc.toNat
  let fs := (if f.head then [] else s.rte.rx.get [] k) ++ [f]
  if f.tail then
    let s := { s with rte := { s.rte with rx := s.rte.rx.set [] k [] } }
    match assemble fs with
    | some p => { s with rte := { s.rte with arrived := s.rte.arrived ++ [(port, p)] } }
    | none => s
  else { s with rte := { s.rte with rx := s.rte.rx.set [] k fs } }

/-- The groups a cumulative acknowledgement leaves in the retry buffer. -/
def unacked (ack : W16) (l : List FlitGroup) : List FlitGroup :=
  l.filter (fun g => decide (0 < (g.seq - ack).toNat ∧ (g.seq - ack).toNat < 32768))

/-- The SEQ expected next: RX_LAST + 1, or 0 while no group has been accepted since the link came UP
(log 18, DEDUCED). -/
def expectSeq (t : Torus) : W16 := if t.rxValid then t.rxLast + 1 else 0

/-- FLIT_GROUP_RECEIVE: a group arrives at a torus port (R276). A group whose CRC fails, or out of order,
is discarded and answered with NAK; a good one acknowledges, returns credit and delivers its flits. -/
def State.recvGroup (s : State) (port : Nat) (g : FlitGroup) : State :=
  let t := s.torus port
  if t.link ≠ .up then s
  else if !g.crcOk then
    (s.setTorus port { t with nak := true }).bump (Pg.trp port) Reg.trpCntCrcerr
  else if ¬g.flits.isEmpty ∧ g.seq ≠ expectSeq t then
    s.setTorus port { t with nak := decide (g.seq ≠ t.rxLast) || !t.rxValid, lastGroup := s.now }
  else
    let left := unacked g.ack t.retry
    let t := { t with retry := left, lastGroup := s.now,
                      resends := if left.length < t.retry.length then 0 else t.resends }
    let t := if g.flits.isEmpty then t else { t with rxLast := g.seq, rxValid := true }
    let s := s.setTorus port t
    let cv := g.cvc.toNat
    let s := { s with rte := { s.rte with
        credit := s.rte.credit.set bufFlits (port * 8 + cv) (min bufFlits (s.creditOf port cv + g.credit.toNat)) } }
    let s := s.bumpBy (Pg.trp port) Reg.trpCntRxflit g.flits.length
    let s := g.flits.foldl (fun s f => s.takeIn port f) s
    (if g.nak then s.resend port else s).checkDrain

/-! Link loss, notices and re-injection (R284 to R286) -/

/-- A router notice (R284). -/
def noticePacket (fault ttl : Nat) (rep : Coord) (port : Nat) (valid : Bool) (last : Nat) : Packet :=
  mkPacket 7 15 [(0x10, 11, 0, fault), (0x10, 23, 16, ttl), (0x14, 15, 0, rep.toNat), (0x14, 18, 16, port),
    (0x14, 19, 19, valid.toNat), (0x18, 15, 0, last)] []

/-- Send a notice on every UP torus port but one. -/
def State.sendNotice (s : State) (p : Packet) (but : Option Nat) : State :=
  ((List.range 8).filter (fun n => s.torusUp n && decide (some n ≠ but))).foldl (fun s n => s.toTorus n p) s

/-- What is left of a packet's arrival when its link is lost: it is completed with zero flits (R285). -/
def State.flushRx (s : State) (port : Nat) : State :=
  (List.range 8).foldl
    (fun s v =>
      match s.rte.rx.get [] (port * 8 + v) with
      | [] => s
      | fs =>
        let s := { s with rte := { s.rte with rx := s.rte.rx.set [] (port * 8 + v) [] } }
        match assemble fs with
        | some p => { s with rte := { s.rte with arrived := s.rte.arrived ++ [(port, p)] } }
        | none => s) s

/-- Declare a torus port's link lost (R284, R286). -/
def State.loseLink (s : State) (port : Nat) : State :=
  let t := s.torus port
  let pg := Pg.trp port
  let recent := (t.losses.filter (fun x => decide (s.now - x < 1000000000))) ++ [s.now]
  let fid := s.rf pg Reg.trpFault 11 0
  let s := s.flushRx port
  let s := s.setTorus port { t with link := .lost, losses := recent, waitNotice := some (s.now + 20000) }
  let s := ((s.bump pg Reg.trpCntLoss).irq pg 17).errorOpen pg Cls.recomputed 0 0x12
  let s := s.suspect t.nbr Cause.link
  let s := (s.enterFault fid s.selfCoord).2
  let s := if s.rb pg Reg.trpFault 31 then
      s.sendNotice (noticePacket fid (s.rf pg Reg.trpFault 23 16) s.selfCoord port t.rxValid
        (if t.rxValid then t.rxLast.toNat else 0)) none
    else s
  if 3 ≤ recent.length then (s.quarantine pg).errorOpen pg Cls.recomputed 0 0x14 else s

/-- LINK_LOST: a port in ON with its link UP meets one of the loss conditions of R284; while a lane swap
of the port is in progress, gaps and resends do not count (R336). -/
def State.linkLost (s : State) (port : Nat) (cause : LossCause) : State :=
  let pg := Pg.trp port
  let t := s.torus port
  let swapping := !(s.engine port).swaps.isEmpty
  let due : Bool := match cause with
    | .noGroup => decide (min 9000 (s.rf pg Reg.trpLoss 15 0) ≤ s.now - t.lastGroup) && !swapping
    | .retries => decide (max 1 (min 8 (s.rf pg Reg.trpLoss 23 16)) ≤ t.resends) && !swapping
    | .lanes => true
  if s.isOn pg ∧ t.link = .up ∧ due then s.loseLink port else s

/-- Re-inject the packets of a list of flits that hold a whole packet's head (R285): routed afresh. -/
def State.reinject (s : State) (port : Nat) (fs : List Flit) (risk : Bool) : State :=
  let groups := (List.range 8).flatMap fun v =>
    let l := fs.filter (fun f => decide (f.vc.toNat = v))
    (l.foldl (fun (a : List (List Flit) × List Flit) f =>
        if f.tail then (a.1 ++ [a.2 ++ [f]], []) else (a.1, a.2 ++ [f])) ([], [])).1
  (groups.filterMap assemble).foldl
    (fun s p =>
      let s := (s.bump (Pg.trp port) Reg.trpCntReinj).bufPush 10 p
      if risk then s.bump Pg.rte Reg.rteCntDuprisk else s) s

/-- The flits of whole packets with a flit in an unacknowledged group: those of the retry buffer and those
still waiting behind them. -/
def State.unsent (s : State) (port : Nat) (groups : List FlitGroup) : List Flit :=
  groups.flatMap (·.flits) ++ (List.range 8).flatMap (fun v => s.rte.txq.get [] (port * 8 + v))

/-- Empty a lost port's retry buffer and output queues. -/
def State.emptyPort (s : State) (port : Nat) : State :=
  let s := s.setTorus port { s.torus port with retry := [], waitNotice := none, cur := none }
  (List.range 8).foldl
    (fun s v => { s with rte := { s.rte with txq := s.rte.txq.set [] (port * 8 + v) [] } }) s

/-- Resolve a lost port's retry buffer with the far end's notice (R285). -/
def State.resolve (s : State) (port : Nat) (valid : Bool) (last : Nat) : State :=
  let t := s.torus port
  let gs := if valid then unacked (BitVec.ofNat 16 last) t.retry else t.retry
  let fs := s.unsent port gs
  ((s.emptyPort port).reinject port fs false).checkDrain

/-- ROUTER_NOTICE: a notice that arrived on a torus port (R279, R284, R285). -/
def State.notice (s : State) (input : Nat) (p : Packet) : State :=
  if s.rte.arrived.contains (input, p) ∧ p.vc = 7 ∧ p.type = 15 ∧ p.tag = 0 then
    let s := ({ s with rte := { s.rte with arrived := s.rte.arrived.erase (input, p) } }).owe input 7 1
    let f := p.fld 0x10 11 0
    let ttl := p.fld 0x10 23 16
    let rep := BitVec.ofNat 16 (p.fld 0x14 15 0)
    let known := s.hasReporter f rep
    let fresh := !s.hasFault f
    let full := fresh && decide (16 ≤ s.rte.faults.length)
    let s := if full then (s.enterFault f rep).2
      else
        let s := if 1 < ttl ∧ !known then s.sendNotice (p.set 0x10 23 16 (ttl - 1)).seal (some input) else s
        (s.enterFault f rep).2
    -- the far end of a lost port of this device
    match (List.range 8).find? (fun n => decide ((s.torus n).waitNotice.isSome ∧ (s.torus n).nbr = rep ∧
        s.rf (Pg.trp n) Reg.trpFault 11 0 = f ∧ (s.torus n).nbrPort = p.fld 0x14 18 16)) with
    | some n => s.resolve n (decide (p.fld 0x14 19 19 = 1)) (p.fld 0x18 15 0)
    | none => s
  else s

/-- REINJECT_WAIT_TIMEOUT: no far-end notice came within 20,000 ticks (R285). -/
def State.reinjectTimeout (s : State) (port : Nat) : State :=
  let t := s.torus port
  match t.waitNotice with
  | some d =>
    if d ≤ s.now then
      let fs := s.unsent port t.retry
      ((s.emptyPort port).reinject port fs true).checkDrain
    else s
  | none => s

/-! Epochs -/

/-- An ARM of RTE_EPCMD (R280): true where it returns STATE. -/
def State.epochArm (s : State) (fclr : Bool) : Bool × State :=
  let at' := s.reg64 Pg.rte Reg.rteEpswLo Reg.rteEpswHi
  if at' < s.count + 10000 ∨ s.rte.held ∨ s.rte.armed then (true, s)
  else (false, { s with rte := { s.rte with armed := true, armFclr := fclr } })

/-- A DISARM of RTE_EPCMD (R280). -/
def State.epochDisarm (s : State) : State := { s with rte := { s.rte with armed := false, armFclr := false } }

/-- EPOCH_SWITCH: at the armed count the other bank becomes active, the former one is HELD, and the fault
set is cleared where FCLR was armed (R280). -/
def State.epochSwitch (s : State) : State :=
  if s.rte.armed ∧ s.reg64 Pg.rte Reg.rteEpswLo Reg.rteEpswHi ≤ s.count then
    let s := { s with rte := { s.rte with active := !s.rte.active, held := true, armed := false, armFclr := false,
                                          faults := if s.rte.armFclr then [] else s.rte.faults } }
    (s.irq Pg.rte 20).checkDrain
  else s

/-- Write an override entry (RTE_OENT3 applies all four words): true where it returns STATE (R280). -/
def State.overrideWrite (s : State) (bank : Bool) (entry : Nat) (words : Nat) : Bool × State :=
  if bank = s.rte.active ∨ s.rte.held ∨ s.rte.armed then (true, s)
  else (false, { s with rte := { s.rte with
      ovr := s.rte.ovr.set 0 (bank.toNat * 4096 + entry) (BitVec.ofNat 128 words) } })

/-- Remove a fault, or every fault (RTE_FCLR, R279). -/
def State.faultClear (s : State) (data : W32) : State :=
  if bit data 31 then
    { s with rte := { s.rte with
        faults := if bit data 12 then [] else s.rte.faults.filter (fun x => decide (x.fault ≠ fld data 11 0)) } }
  else s

/-! Spine ports -/

/-- SPINE_FRAME_RECEIVE: a frame arrives at a spine port (R282, R283). -/
def State.spineReceive (s : State) (n : Nat) (f : SpineFrame) : State :=
  let pg := Pg.spn n
  if !(s.isOn pg && (s.spine n).up && s.rb pg Reg.spnCtrl 1) then s
  else if !f.fcsOk then (s.bump pg Reg.spnCntFcserr).irq pg 18
  else if f.dst ≠ spineMac (s.rf pg Reg.spnMacpfx 23 0) n s.selfCoord then (s.bump pg Reg.spnCntDadrop).irq pg 18
  else if f.vlan then (s.bump pg Reg.spnCntFmtdrop).irq pg 18
  else if f.etype.toNat ≠ s.rf pg Reg.spnEtype 15 0 then (s.bump pg Reg.spnCntEtdrop).irq pg 18
  else if f.bytes ≠ 64 + (f.pkt.carried + 63) / 64 * 64 then (s.bump pg Reg.spnCntFmtdrop).irq pg 18
  else
    let s := s.bump pg Reg.spnCntRxfrm
    if s.tagOk f.pkt then s.bufPush (8 + n) f.pkt else s.tagDrop f.pkt

/-- SPINE_LINK_DOWN: a spine port's link goes down, for the third time within 1,000,000,000 ticks with
quarantine (R286, R340). -/
def State.spineDown (s : State) (n : Nat) : State :=
  let t := s.spine n
  let pg := Pg.spn n
  if !t.up then s
  else
    let recent := (t.losses.filter (fun x => decide (s.now - x < 1000000000))) ++ [s.now]
    let s := (s.setSpine n ⟨false, recent⟩).irq pg 17
    if 3 ≤ recent.length then (s.quarantine pg).errorOpen pg Cls.recomputed 0 0x14 else s

/-- SPINE_LINK_UP: a spine port that is ON has its link up again (R340). -/
def State.spineUp (s : State) (n : Nat) : State :=
  let t := s.spine n
  if (s.isOn (Pg.spn n) ∨ (s.page (Pg.spn n)).st = .starting) ∧ !t.up ∧ s.isOn (Pg.ope 8) then (s.setSpine n { t with up := true }).irq (Pg.spn n) 16
  else s

/-- ROUTER_PARITY: a buffer or table parity error of the router, fatal to the device; the router stops
forwarding (R353, Table 11.5). -/
def State.routerParity (s : State) : State :=
  ({ s with rte := { s.rte with dead := true } }).errorOpen Pg.rte Cls.device 0 0x15

end Sys2Proof.Machine
end

