-- ==== Sys2Proof/Machine/Memory.lean ====
section
/-! DEFINITION. Device memory as every block reaches it (R231 to R241, R247, R251, R396): ranges, blocks
and poison, frames, the CXL window, encryption, and the copy a running snapshot takes before a write
(R373). -/
namespace Sys2Proof.Machine

/-- Why an access to memory does not return or take data. -/
inductive MemErr where
  | range | poison | wprot
  deriving DecidableEq, Repr

def State.gmc (s : State) (n : Nat) : Gmc := vget s.tier.gmc n
def State.setGmc (s : State) (n : Nat) (g : Gmc) : State :=
  { s with tier := { s.tier with gmc := vset s.tier.gmc n g } }
def State.cxlPort (s : State) (n : Nat) : CxlPort := vget s.tier.cxl n
def State.setCxlPort (s : State) (n : Nat) (c : CxlPort) : State :=
  { s with tier := { s.tier with cxl := vset s.tier.cxl n c } }
def State.mig (s : State) (p : Nat) : Mig := vget s.tier.migs p
def State.setMig (s : State) (p : Nat) (m : Mig) : State :=
  { s with tier := { s.tier with migs := vset s.tier.migs p m } }
def State.ckpt (s : State) (p : Nat) : Ckp := vget s.ckp p
def State.setCkpt (s : State) (p : Nat) (c : Ckp) : State := { s with ckp := vset s.ckp p c }

/-! The GDDR7 window (R232, R233) -/

/-- The half behind which a block of the data region sits (R233). -/
def State.halfOf (s : State) (a : Nat) : Nat :=
  let b := a / 512
  if s.halves = 64 then nbits b 5 0 ^^^ nbits b 11 6 ^^^ nbits b 17 12
  else nth (bitsSet 64 s.tier.inUse.toNat) 0 (b % max 1 s.halves)

/-- The page of the controller of a block. -/
def State.gmcPage (s : State) (a : Nat) : Nat := Pg.gmc (s.halfOf a / 2)

/-- The bounds of the serai SRAM, pool P0 (Table 10.1). -/
def sramBase : Nat := 0x40000000000
def sramEnd : Nat := 0x40004000000
/-- The bounds of the CXL window (Table 10.1). -/
def cxlBase : Nat := 0x80000000000
def cxlEnd : Nat := 0x100000000000

/-- The 512-byte blocks of a range. -/
def blocksOf (a n : Nat) : List Nat :=
  if n = 0 then [] else (List.range ((a + n - 1) / 512 - a / 512 + 1)).map (a / 512 + ·)

/-- The controller of an address has failed: its page is in QUARANTINED or FAULT, so that its blocks cannot be
read (R238; log 52, DEDUCED for FAULT). -/
def State.gmcFailed (s : State) (a : Nat) : Bool :=
  match (s.page (s.gmcPage a)).st with
  | .quarantined => true
  | .fault => true
  | _ => false

/-- A block of the GDDR7 window reads as poisoned: marked so, or behind a controller that has failed (R238,
R251). -/
def State.poisoned (s : State) (b : Nat) : Bool := s.poison.get false b || s.gmcFailed (b * 512)

/-- Mark a block poisoned: it holds zeros (R251). -/
def State.poisonBlock (s : State) (b : Nat) : State :=
  let s := s.store (b * 512) (List.replicate 512 0)
  ({ s with poison := s.poison.set false b true }).bump (s.gmcPage (b * 512)) Reg.gmcCntPoison

/-! The CXL window (R240, R247) -/

/-- The port and host physical address of a CXL-window address (R247). -/
def State.cxlMap (s : State) (a : Nat) : Nat × Nat :=
  let o := a - cxlBase
  if s.rb Pg.tir Reg.tirCtrl 0 then (nbits a 12 12, (o / 2 ^ 13) * 2 ^ 12 + o % 2 ^ 12)
  else (o / 2 ^ 42, o % 2 ^ 42)

/-- Where a CXL-window byte is held among the masters: the window counted port by port. -/
def State.cxlLoc (s : State) (a : Nat) : Nat :=
  let (port, hpa) := s.cxlMap a
  cxlBase + port * 2 ^ 42 + hpa

/-- A CXL port serves reads: its page is ON and its link up (R249). -/
def State.cxlServes (s : State) (n : Nat) : Bool := s.isOn (Pg.cxl n) && (s.cxlPort n).up

/-- The frame that holds the CXL page of an address for a partition, in a given state. -/
def State.frameOf (s : State) (p a : Nat) (st : FrameState) : Option Nat :=
  (s.tier.frames.find? (fun kv => decide (kv.2 = some ⟨st, p, (a - cxlBase) / 2 ^ 21⟩))).map (·.1)

/-- The address in memory of the stored byte of a device address, for partition p: in its frame while the
page is RESIDENT, else in the CXL tier (R240). -/
def State.place (s : State) (p a : Nat) : Nat :=
  if cxlBase ≤ a then
    match s.frameOf p a .resident with
    | some f => f * 2 ^ 21 + a % 2 ^ 21
    | none => s.cxlLoc a
  else a

/-- The stored bytes of a range, as held. -/
def State.storedBytes (s : State) (p a n : Nat) : List Byte :=
  (List.range n).map (fun i => Memory.read s.mem (s.place p (a + i)))

/-! Encryption (R396) -/

/-- The key pair that covers an address for partition p, with the address its data units count from. -/
def State.keyFor (s : State) (p a : Nat) : Option (BitVec 512 × Nat) :=
  let x := s.partSec p
  if cxlBase ≤ a then x.kc.map (·, s.cxlLo p)
  else x.kg.map (·, 0)

/-- Encrypt or decrypt whole 16-byte blocks from an aligned address on. -/
def cryptFrom (enc : Bool) (key : BitVec 512) (loc : Nat) (n : Nat) (bs : List Byte) : List Byte :=
  (chunks 16 n bs).zipIdx.flatMap fun (b, i) =>
    xtsBlock enc (toLE 64 key.toNat) ((loc + 16 * i) / 512) ((loc + 16 * i) % 512 / 16) b

/-- The bytes partition p sees at an address: decrypted where a key covers it. -/
def State.seenBytes (s : State) (p a n : Nat) : List Byte :=
  match s.keyFor p a with
  | none => s.storedBytes p a n
  | some (k, base) =>
    let lo := a / 16 * 16
    let m := (a + n + 15) / 16 - a / 16
    ((cryptFrom false k (lo - base) m (s.storedBytes p lo (16 * m))).drop (a - lo)).take n

/-- The bytes to store at an aligned range so that partition p sees the given bytes at a, in GDDR7. -/
def State.sealBytes (s : State) (p a : Nat) (bs : List Byte) : Nat × List Byte :=
  match s.keyFor p a with
  | none => (a, bs)
  | some (k, base) =>
    let lo := a / 16 * 16
    let m := (a + bs.length + 15) / 16 - a / 16
    let old := s.seenBytes p lo (16 * m)
    let new := old.take (a - lo) ++ bs ++ old.drop (a - lo + bs.length)
    (lo, cryptFrom true k (lo - base) m new)

/-! Reads -/

/-- Whether partition p may read a range and would get data: none where it would. -/
def State.readErr (s : State) (p a n : Nat) : Option MemErr :=
  if s.inGdr p a n then
    if (blocksOf a n).any s.poisoned then some .poison else none
  else if s.inCxl p a n then
    let pages := (List.range ((a + n + 4095) / 4096 - a / 4096)).map (fun i => (a / 4096 + i) * 4096)
    if pages.all (fun q => (s.frameOf p q .resident).isSome || s.cxlServes (s.cxlMap q).1) then none
    else some .poison
  else some .range

/-- Count what a read does: poisoned blocks read, and 64-byte lines served from the CXL tier. -/
def State.noteRead (s : State) (p a n : Nat) : State :=
  if s.inGdr p a n then
    ((blocksOf a n).filter s.poisoned).foldl
      (fun s b => (s.bump (s.gmcPage (b * 512)) Reg.gmcCntPoison).irq (s.gmcPage (b * 512)) 17) s
  else if s.inCxl p a n ∧ 0 < n then
    (List.range ((a + n - 1) / 64 - a / 64 + 1)).foldl
      (fun s i =>
        let q := (a / 64 + i) * 64
        if (s.frameOf p q .resident).isSome then s
        else
          let (port, hpa) := s.cxlMap q
          ((s.bump Pg.tir Reg.tirCntCxlrd).bump (Pg.cxl port) Reg.cxlCntRd).send (.cxl port hpa false)) s
  else s

/-- A read by partition p: the bytes it sees, or why it gets none. -/
def State.read (s : State) (p a n : Nat) : Except MemErr (List Byte) × State :=
  match s.readErr p a n with
  | none => (.ok (s.seenBytes p a n), s.noteRead p a n)
  | some e => (.error e, if e = .poison then s.noteRead p a n else s)

/-- A read by an internal block (R231): a range it may not reach is recorded under TIR code 0x14. -/
def State.blockRead (s : State) (p a n detail : Nat) : Option (List Byte) × State :=
  match s.read p a n with
  | (.ok bs, s) => (some bs, s)
  | (.error .range, s) => (none, s.error Pg.tir Cls.task p 0x14 detail)
  | (.error _, s) => (none, s)

/-! Writes -/

/-- A GDDR7 range touches a frame in FILLING or RESIDENT state (R241). -/
def State.touchesFrame (s : State) (a n : Nat) : Bool :=
  s.tier.frames.any fun kv =>
    match kv.2 with
    | some f => decide (f.st ≠ .draining ∧ kv.1 * 2 ^ 21 < a + n ∧ a < (kv.1 + 1) * 2 ^ 21)
    | none => false

/-- Whether partition p may write a range: GDDR7 only, and no frame in use (R231, R241). -/
def State.writeErr (s : State) (p a n : Nat) : Option MemErr :=
  if cxlBase ≤ a ∧ a < cxlEnd then some .wprot
  else if !s.inGdr p a n then some .range
  else if s.touchesFrame a n then some .wprot
  else none

/-- Store bytes in GDDR7 with the block rules of R234 and R251: a whole-block write clears poison, a part of
a poisoned block stays poisoned. Answers whether a poisoned block was met. -/
def State.storeBlocks (s : State) (a : Nat) (bs : List Byte) : Bool × State :=
  let n := bs.length
  (blocksOf a n).foldl
    (fun (r : Bool × State) b =>
      let s := r.2
      let lo := max a (b * 512)
      let hi := min (a + n) ((b + 1) * 512)
      let part := (bs.drop (lo - a)).take (hi - lo)
      if hi - lo = 512 then
        (r.1, { (s.store lo part) with poison := s.poison.set false b false })
      else
        let s := s.bump (s.gmcPage (b * 512)) Reg.gmcCntRmw
        if s.poisoned b then (true, s.poisonBlock b) else (r.1, s.store lo part)) (false, s)

/-- Store what partition p writes, encrypted where a key covers it. -/
def State.put (s : State) (p a : Nat) (bs : List Byte) : Bool × State :=
  let (lo, cs) := s.sealBytes p a bs
  s.storeBlocks lo cs

/-- Record a refused write (R241). -/
def State.noteWprot (s : State) (p detail : Nat) : State :=
  ((s.bump Pg.tir Reg.tirCntWprot).irq Pg.tir 18).error Pg.tir Cls.task p 0x11 detail

/-! The snapshot's copy (R371 to R373) -/

/-- The size of one slot of partition p's checkpoint region (R370). -/
def State.ckpSlot (s : State) (p : Nat) : Nat := s.rf (Pg.ckp) (Reg.ckpRegpSize p) 14 0 * 2 ^ 21 / 4

/-- The base of partition p's checkpoint region. -/
def State.ckpBase (s : State) (p : Nat) : Nat := s.reg64 Pg.ckp (Reg.ckpRegpLo p) (Reg.ckpRegpHi p)

/-- The 4 KiB blocks of a slot: the commit header's, then each shard's header and blocks (R371). -/
def slotBlocks (shards : List (Nat × Nat × Nat)) : Nat := 1 + (shards.map (fun x => 1 + x.2.1)).sum

/-- A header's 64 bytes with its CRC (Table 15.4), padded to 4 KiB. -/
def hdrBlock (words : List Nat) : List Byte :=
  let h := words.flatMap (toLE 4)
  let h := h ++ List.replicate (60 - h.length) 0
  h ++ toLE 4 (crc32c h).toNat ++ List.replicate 4032 0

/-- The commit header (Table 15.4). -/
def State.commitHdr (s : State) (x : Snapshot) (valid : Bool) (seq : Nat) : List Byte :=
  hdrBlock [0x4B435A4D, valid.toNat, x.step.toNat, x.shards.length, slotBlocks x.shards, s.selfCoord.toNat, seq]

/-- The shard header of the i-th shard (Table 15.4). -/
def State.shardHdr (s : State) (p : Nat) (x : Snapshot) (i len id : Nat) : List Byte :=
  let tag := (s.ptag p).getD 0
  let sh := s.tagShape tag
  hdrBlock [0x48535A4D, x.step.toNat, (s.selfLog tag).toNat + s.rf Pg.rte (Reg.rteShape sh) 31 16 * 2 ^ 16, id, len, i, 0]

/-- What stands at block k of a slot: the shard's index, and none for its header or the block of its range. -/
def shardAt : Nat → Nat → List (Nat × Nat × Nat) → Option (Nat × Option Nat)
  | _, _, [] => none
  | k, i, (_, len, _) :: r =>
    if k = 0 then some (i, none)
    else if k ≤ len then some (i, some (k - 1))
    else shardAt (k - 1 - len) (i + 1) r

/-- The bytes of block k of the slot of a snapshot, k ≥ 1; none where the shard range is not readable. -/
def State.slotBlock (s : State) (p : Nat) (x : Snapshot) (k : Nat) : Option (List Byte) × State :=
  match shardAt (k - 1) 0 x.shards with
  | none => (some (List.replicate 4096 0), s)
  | some (i, none) => let (_, len, id) := nth x.shards (0, 0, 0) i; (some (s.shardHdr p x i len id), s)
  | some (i, some j) => let (a, _, _) := nth x.shards (0, 0, 0) i; s.blockRead p (a + 4096 * j) 4096 k

/-- A CK_WRITE packet of partition p to its buddy (Table 15.6). -/
def State.ckWritePkt (s : State) (p : Nat) (x : Snapshot) (off : Nat) (bs : List Byte) : Packet :=
  let tag := s.rf Pg.ckp (Reg.ckpBuddyp p) 27 16
  let dest := BitVec.ofNat 16 (s.rf Pg.ckp (Reg.ckpBuddyp p) 15 0)
  mkPacket 6 10 (s.toOne tag dest ++ [(0x10, 31, 0, x.step.toNat), (0x14, 0, 0, x.letter), (0x20, 63, 0, off)]) bs

/-- A snapshot fails as a whole: its source or its HOME copy cannot be read or written (Table 15.8). -/
def State.snapFail (s : State) (p : Nat) : State :=
  let s := s.setCkpt p { s.ckpt p with snap := none, sstat := 3 }
  ((s.bump Pg.ckp Reg.ckpCntFail).errorOpen Pg.ckp Cls.recomputed p 0x10).irq Pg.ckp 17

/-- Write block k of a slot to both copies: HOME in p's own region, GUEST in the buddy's, which answers
with CK_ACK. A HOME write that memory refuses fails the snapshot. -/
def State.copyBlock (s : State) (p k : Nat) (bs : List Byte) : State :=
  let c := s.ckpt p
  match c.snap with
  | none => s
  | some x =>
    let slot := s.ckpSlot p
    let home := s.ckpBase p + x.letter * slot + 4096 * k
    match s.writeErr p home 4096 with
    | some .wprot => (s.noteWprot p k).snapFail p
    | some _ => (s.errorOpen Pg.tir Cls.task p 0x14).snapFail p
    | none =>
      let s := (s.put p home bs).2
      let off := 2 * slot + x.letter * slot + 4096 * k
      let s := if x.guest then s.inject p (s.ckWritePkt p x off bs) else s
      let acks := if x.guest then x.acks ++ [(off, s.now)] else x.acks
      let total := c.bytes + 4096
      let s := if total / 2 ^ 20 > c.bytes / 2 ^ 20 then s.bump Pg.ckp Reg.ckpCntMib else s
      s.setCkpt p { c with snap := some { x with acks := acks }, bytes := total }

/-- Blocks of the slot that hold the bytes of a range and are not copied yet. -/
def uncopied (x : Snapshot) (a n : Nat) : List Nat :=
  if n = 0 then []
  else
    (x.shards.foldl
      (fun (r : List Nat × Nat) sh =>
        let (b, len, _) := sh
        let first := if b ≤ a then (a - b) / 4096 else 0
        let last := (a + n - 1 - b) / 4096
        let hit := if a + n ≤ b ∨ b + 4096 * len ≤ a then []
          else (List.range (min last (len - 1) + 1 - first)).map (fun i => r.2 + 1 + first + i)
        (r.1 ++ hit, r.2 + 1 + len)) ([], 1)).1.filter
      (fun k => decide (x.next ≤ k) && !x.ahead.get false k)

/-- Before partition p writes a range: copy every block of it that a running snapshot has not copied
(R373). -/
def State.cow (s : State) (p a n : Nat) : State :=
  match (s.ckpt p).snap with
  | none => s
  | some x =>
    (uncopied x a n).foldl
      (fun s k =>
        if (s.ckpt p).snap.isNone then s
        else
          match s.slotBlock p x k with
          | (none, s) => s.snapFail p
          | (some bs, s) =>
            let s := (s.copyBlock p k bs).bump Pg.ckp Reg.ckpCntCow
            match (s.ckpt p).snap with
            | some y => s.setCkpt p { s.ckpt p with snap := some { y with ahead := y.ahead.set false k true } }
            | none => s) s

/-- A write by partition p: refused, or stored; a poisoned block met is reported (R234, R241). -/
def State.write (s : State) (p a : Nat) (bs : List Byte) (detail : Nat) : Option MemErr × State :=
  match s.writeErr p a bs.length with
  | some .wprot => (some .wprot, s.noteWprot p detail)
  | some e => (some e, s)
  | none =>
    let (bad, s) := (s.cow p a bs.length).put p a bs
    (if bad then some .poison else none, s)

/-- A write by an internal block: false where it does not take effect or met a poisoned block (R231). -/
def State.blockWrite (s : State) (p a : Nat) (bs : List Byte) (detail : Nat) : Bool × State :=
  match s.write p a bs detail with
  | (none, s) => (true, s)
  | (some .range, s) => (false, s.error Pg.tir Cls.task p 0x14 detail)
  | (some _, s) => (false, s)

/-! The Serai SRAM (Table 10.1): bytes of pool P0 -/

/-- Read P0. -/
def State.sramBytes (s : State) (a n : Nat) : List Byte := s.memBytes a n

end Sys2Proof.Machine
end

