-- ==== Sys2Proof/Machine/Sched.lean ====
section
/-! DEFINITION. The scheduler's own operations (R68 to R86): counters and signals, graphs and their failure,
contexts, and the next task to issue. -/
namespace Sys2Proof.Machine

/-! Descriptors -/

/-- The field at bits [hi:lo] of the word at a byte offset of a 64-byte structure. -/
def dfld {n : Nat} (d : BitVec n) (off hi lo : Nat) : Nat := fld d (8 * off + hi) (8 * off + lo)

/-- A structure of n bits from its bytes. -/
def wordsOf (n : Nat) (bs : List Byte) : BitVec n := BitVec.ofNat n (leNat bs)

/-- The operator codes of Table 8.4. -/
def opCodes : List Nat :=
  [0x01, 0x02, 0x03, 0x04, 0x05, 0x10, 0x11, 0x12, 0x13, 0x20, 0x21, 0x22, 0x23, 0x24, 0x25, 0x26, 0x30, 0x31,
   0x32, 0x33, 0x34, 0x35, 0x36, 0x37, 0x40, 0x41, 0x50, 0x51]

/-! Steps (R74) -/

/-- The base of a STEP. -/
def stepBase (x : W32) : Nat := fld x 29 0
/-- The attempt of a STEP. -/
def stepTry (x : W32) : Nat := fld x 31 30

/-- Step x is later than step y. -/
def stepLater (x y : W32) : Bool :=
  let d := (stepBase x + 2 ^ 30 - stepBase y) % 2 ^ 30
  decide ((1 ≤ d ∧ d ≤ 2 ^ 29 - 1) ∨ (d = 0 ∧ stepTry y < stepTry x))

/-! Graphs -/

/-- The partition has an active graph; a live graph whose vote is out, or whose recomputation is to come, counts as
active (R361, R362). -/
def State.partActive (s : State) (p : Nat) : Bool :=
  let x := s.schPart p
  x.live.isSome || x.bg.isSome || x.voting.isSome || x.rcmp.isSome

/-- The next live launch waits: a live graph is active, its vote is out, or its recomputation is to come
(R82, R361, R362). -/
def State.liveBusy (s : State) (p : Nat) : Bool :=
  let x := s.schPart p
  x.live.isSome || x.voting.isSome || x.rcmp.isSome

/-- Where task i of a graph stands. -/
def Graph.task (g : Graph) (i : Nat) : TaskSt := g.tasks.get .waiting i

/-- The graph with the state of task i replaced. -/
def Graph.setTask (g : Graph) (i : Nat) (t : TaskSt) : Graph := { g with tasks := g.tasks.set .waiting i t }

/-- The descriptor of task i, as read at the launch. -/
def Graph.desc (g : Graph) (i : Nat) : BitVec 512 := g.descs.get 0 i

/-- A task of the graph is running. -/
def Graph.busy (g : Graph) : Bool :=
  g.tasks.any (fun kv => match kv.2 with | .running _ => true | _ => false)

/-- Tasks completed or skipped (Table 4.7 DONE). -/
def Graph.doneCount (g : Graph) : Nat :=
  (g.tasks.filter (fun kv => decide (kv.2 = .done ∨ kv.2 = .skipped))).length

/-- The next background task to issue (Table 4.7 NEXT). -/
def Graph.nextTask (g : Graph) : Nat := g.tasks.foldl (fun a kv => max a (kv.1 + 1)) 0

/-- The run time so far (R81, R84). -/
def State.runTime (s : State) (g : Graph) : Nat :=
  match g.since with
  | some t => g.run + (s.now - t)
  | none => g.run

/-- The graph paused, with its run time kept (R84). -/
def State.pause (s : State) (g : Graph) : Graph := { g with run := s.runTime g, since := none }

/-- The graph running again. -/
def State.unpause (s : State) (g : Graph) : Graph := if g.since.isNone then { g with since := some s.now } else g

/-- R84 fill mode of a partition. -/
def State.bgFill (s : State) (p : Nat) : Bool := s.rb Pg.sch Reg.schCtrl p

/-! Failure of a graph (R77, R360) -/

/-- A failure of a graph that the scheduler records: the first under its code, with class 0b011 (R77; log 20, DESIGN CHOICE
for the class of codes 0x11 to 0x14). -/
def State.failGraph (s : State) (p : Nat) (bg : Bool) (code detail task : Nat) : State :=
  match s.graph p bg with
  | some g =>
    if g.failed then s
    else
      let s := s.error Pg.sch Cls.task p code detail
      s.markFailed p bg task (decide (code = 0x11))
  | none => s

/-- The step a later step is compared with (R73): the active live graph's, else SCH_LASTp_STEP. -/
def State.refStep (s : State) (p : Nat) : W32 :=
  match (s.schPart p).live with
  | some g => g.step
  | none => (s.schPart p).last.step

/-- Mark the live graph of a step FAILED for an error another block has recorded; where that graph is not
yet active, it is marked at its launch (R128). -/
def State.failStep (s : State) (p : Nat) (step : W32) : State :=
  let x := s.schPart p
  if (x.live.map (·.step)) = some step then s.markFailed p false 0 false
  else if stepLater step (s.refStep p) && !x.prefail.contains step then
    s.setSchPart p { x with prefail := x.prefail ++ [step] }
  else s

/-! Counters and signals (R70 to R73) -/

/-- The value of a scoreboard counter, and its SCB_OVF. -/
def State.ctr (s : State) (c : Nat) : Nat := s.sch.ctrs.get 0 c % 2 ^ 16
def State.ctrOvf (s : State) (c : Nat) : Bool := (s.sch.ctrs.get 0 c).testBit 16

/-- The state with a counter replaced. -/
def State.setCtr (s : State) (c v : Nat) : State := { s with sch := { s.sch with ctrs := s.sch.ctrs.set 0 c v } }

/-- Clear the counters of a range, and SCB_OVF with them (R70, R80). -/
def State.clearCtrs (s : State) (base n : Nat) : State :=
  { s with sch := { s.sch with ctrs := s.sch.ctrs.dropRange base (base + n) } }

/-- The graph's range holds the counter. -/
def Graph.hasCtr (g : Graph) (c : Nat) : Bool := decide (g.scbBase ≤ c ∧ c < g.scbBase + g.scbCount)

/-- Fail the graph of partition p that owns a counter, if one does (R70). -/
def State.failOwner (s : State) (p c : Nat) (bg : Bool) : State :=
  match s.graph p bg with
  | some g => if g.hasCtr c then s.failGraph p bg 0x13 g.index 0 else s
  | none => s

/-- Add to a counter of partition p; past 0xFFFF it saturates, and the graph that owns it fails (R70). -/
def State.addCtr (s : State) (p c n : Nat) : State :=
  if n = 0 then s
  else
    let v := s.ctr c + n
    if v < 2 ^ 16 then s.setCtr c (v + at_ 16 (s.ctrOvf c).toNat)
    else
      let s := s.setCtr c 0x1FFFF
      let s := ((s.bump Pg.scb Reg.scbCntOvf).irq Pg.scb 16).error Pg.scb Cls.task p 0x10 c
      (s.failOwner p c false).failOwner p c true

/-- A signal of a block that carries a step (R73): applied, held for a later step, or discarded. -/
def State.signal (s : State) (p : Nat) (step : W32) (c n : Nat) : State :=
  let x := s.schPart p
  if (x.live.map (·.step)) = some step ∨ (x.bg.map (·.step)) = some step then s.addCtr p c n
  else if stepLater step (s.refStep p) then s.setSchPart p { x with held := x.held ++ [⟨step, c, n⟩] }
  else s.bump Pg.scb Reg.scbCntStale

/-- The signals of a task that has completed or been skipped (R72, R75). -/
def State.taskSignals (s : State) (p : Nat) (d : BitVec 512) : State :=
  (List.range 2).foldl
    (fun s j =>
      if dfld d (0x18 + 4 * j) 31 31 = 1 then s.addCtr p (dfld d (0x18 + 4 * j) 30 16) (dfld d (0x18 + 4 * j) 15 0)
      else s) s

/-- Every wait in force of a task is met (R71). -/
def State.waitsMet (s : State) (d : BitVec 512) : Bool :=
  (List.range 4).all fun i =>
    decide (dfld d (8 + 4 * i) 31 31 = 0 ∨ dfld d (8 + 4 * i) 15 0 ≤ s.ctr (dfld d (8 + 4 * i) 30 16))

/-! Cores as the scheduler sees them -/

def State.core (s : State) (c : Nat) : CoreSt := vget s.cor c
def State.setCore (s : State) (c : Nat) (x : CoreSt) : State := { s with cor := vset s.cor c x }

/-- The physical cores of a partition, ascending: logical core n is the (n + 1)th (R69). -/
def State.coresOf (s : State) (p : Nat) : List Nat := (List.range 64).filter (fun c => s.owns p (Pg.cor c))

/-- The die of a core: 0 east, 1 west (R176). -/
def dieOf (c : Nat) : Nat := c / 32

def State.coreQuar (s : State) (c : Nat) : Bool := decide ((s.page (Pg.cor c)).st = .quarantined)

/-- A core that can take a task now: ON, not HALTED and without a task (R76, R189). -/
def State.coreIdle (s : State) (c : Nat) : Bool :=
  s.isOn (Pg.cor c) && !(s.page (Pg.cor c)).halt && (s.core c).run.isNone

/-- The cores eligible for a task under PLACE and not quarantined (R76, R77). -/
def State.eligible (s : State) (p : Nat) (d : BitVec 512) : List Nat :=
  let mine := s.coresOf p
  let live := mine.filter (fun c => !s.coreQuar c)
  match dfld d 0 9 8 with
  | 0 => live
  | 1 => live.filter (fun c => decide (dieOf c = 0))
  | 2 => live.filter (fun c => decide (dieOf c = 1))
  | _ =>
    match mine[dfld d 0 21 16]? with
    | none => []
    | some c => if s.coreQuar c then live.filter (fun x => decide (dieOf x = dieOf c)) else [c]

/-- The queue of a Q_VALID task completed with a total of zero for this step (R75). -/
def State.queueEmpty (s : State) (p : Nat) (d : BitVec 512) (step : W32) : Bool :=
  decide (dfld d 0 28 28 = 1) && (s.schPart p).emptyQ.contains (dfld d 4 11 0, step)

/-! Which task comes next (R76, R84) -/

/-- What becomes of a task the scheduler considers. -/
inductive Pick where
  | wait | skip | noCore | issue (core : Nat)
  deriving DecidableEq, Repr

/-- Consider task i of a graph: avoid names the cores it may not take. -/
def State.consider (s : State) (p : Nat) (g : Graph) (i : Nat) (avoid : List Nat) : Pick :=
  let d := g.desc i
  if g.task i ≠ .waiting ∨ !s.waitsMet d then .wait
  else if s.queueEmpty p d g.step then .skip
  else
    let el := s.eligible p d
    if el.isEmpty then .noCore
    else
      match el.find? (fun c => s.coreIdle c && !avoid.contains c) with
      | some c => .issue c
      | none => .wait

/-- The tasks of a live graph in the order of R76: PRIO descending, then index ascending. -/
def Graph.order (g : Graph) : List Nat :=
  (List.range 16).flatMap fun k =>
    (List.range g.count).filter (fun i => decide (dfld (g.desc i) 0 27 24 = 15 - k))

/-- The first task of a list that does not wait. -/
def State.firstPick (s : State) (p : Nat) (g : Graph) (avoid : List Nat) : List Nat → Option (Nat × Pick)
  | [] => none
  | i :: r =>
    match s.consider p g i avoid with
    | .wait => s.firstPick p g avoid r
    | k => some (i, k)

/-- The next live task to act on. -/
def State.pickLive (s : State) (p : Nat) : Option (Nat × Pick) :=
  match (s.schPart p).live with
  | some g => if g.failed then none else s.firstPick p g [] g.order
  | none => none

/-- Cores that a ready, unissued live task could take (R84 fill mode). -/
def State.liveWants (s : State) (p : Nat) : List Nat :=
  match (s.schPart p).live with
  | some g =>
    if g.failed then []
    else
      (List.range g.count).flatMap fun i =>
        if g.task i = .waiting ∧ s.waitsMet (g.desc i) ∧ !s.queueEmpty p (g.desc i) g.step
        then s.eligible p (g.desc i) else []
  | none => []

/-- The next background task to act on: strictly in index order (R84); a reissued task first. -/
def State.pickBg (s : State) (p : Nat) : Option (Nat × Pick) :=
  match (s.schPart p).bg with
  | some g =>
    if g.failed ∨ ((s.schPart p).live.isSome ∧ !s.bgFill p) then none
    else
      let n := g.nextTask
      let again := (List.range n).filter (fun i => decide (g.task i = .waiting))
      s.firstPick p g (if (s.schPart p).live.isSome then s.liveWants p else []) (again ++ (if n < g.count then [n] else []))
  | none => none

/-! Contexts (Table 4.7) -/

/-- Word w of the context of a graph. -/
def State.ctxWord (s : State) (g : Graph) (bg : Bool) (w : Nat) : Nat :=
  match w with
  | 0 => g.index + at_ 12 1 + at_ 13 (bg && g.since.isNone).toNat
  | 1 => g.step.toNat
  | 2 => if bg then g.nextTask else 0
  | 3 => g.doneCount
  | 4 => g.launch % 2 ^ 32
  | 5 => g.launch / 2 ^ 32
  | 6 => g.taskBase % 2 ^ 32
  | 7 => g.taskBase / 2 ^ 32
  | 8 => g.count
  | 9 => g.scbBase + at_ 16 g.scbCount
  | 10 => g.limit
  | 11 => s.runTime g
  | _ => 0

/-! A task ends (R72, R77) -/

/-- The graph of a running task, where it is still that launch's. -/
def State.graphOf (s : State) (r : Run) : Option Graph :=
  match s.graph r.part r.bg with
  | some g => if g.gid = r.gid then some g else none
  | none => none

/-- Free a core of its task, and write what became of the task into its graph. -/
def State.dropRun (s : State) (c : Nat) (t : TaskSt) : State :=
  match (s.core c).run with
  | some r =>
    let s := s.setCore c { s.core c with run := none }
    match s.graphOf r with
    | some g => s.setGraph r.part r.bg (some (g.setTask r.index t))
    | none => s
  | none => s

/-- A Drover lane loses its task; its quota set is kept (R114). -/
def State.freeLane (s : State) (c : Nat) (r : Run) : State :=
  match r.gate with
  | some g =>
    let u := vget s.drv g.unit
    let l := vget u.lanes g.lane
    if l.core = some c then
      { s with drv := vset s.drv g.unit { u with lanes := vset u.lanes g.lane { l with core := none } } }
    else s
  | none => s

/-- The running task of a core ends as an error of the class "detected and fatal to a task" with a code of
the COR page; its signals are not raised and its graph fails under SCH code 0x10 (R77). -/
def State.taskError (s : State) (c code detail : Nat) : State :=
  match (s.core c).run with
  | some r =>
    let s := (s.freeLane c r).error (Pg.cor c) Cls.task r.part code detail
    let s := s.dropRun c .failed
    match s.graphOf r with
    | some _ => s.failGraph r.part r.bg 0x10 r.index r.index
    | none => s
  | none => s

/-- The running task of a core ends as an error that another block has recorded (R93, R108, R113). -/
def State.taskEnd (s : State) (c : Nat) : State :=
  match (s.core c).run with
  | some r =>
    let s := (s.freeLane c r).dropRun c .failed
    match s.graphOf r with
    | some _ => s.failGraph r.part r.bg 0x10 r.index r.index
    | none => s
  | none => s

/-- A task whose core left ON before its once-only effect goes back to its graph (R189). -/
def State.reissue (s : State) (c : Nat) : State :=
  match (s.core c).run with
  | some r => (((s.freeLane c r).dropRun c .waiting).bump (Pg.cor c) Reg.corCntReissue).irq (Pg.cor c) 19
  | none => s

/-- A core leaves ON with a task in progress (R189). -/
def State.coreLeaves (s : State) (c : Nat) : State :=
  match (s.core c).run with
  | some r => if r.once then s.taskError c 0x15 r.index else s.reissue c
  | none => s

end Sys2Proof.Machine
end

