-- ==== Sys2Proof/Machine/Ledger.lean ====
section
/-! DEFINITION. The Ledger (R143 to R148): pools, requests, chains and their bytes, frees, and the requests
of the control ports. -/
namespace Sys2Proof.Machine

/-! Pools (Table 6.6) -/

/-- The bytes of a cell of a pool. -/
def cellSize : Nat → Nat | 0 => 256 | 1 => 4096 | _ => 65536

/-- The base address of a pool. -/
def State.poolBase (s : State) : Nat → Nat | 0 => sramBase | 1 => s.ldg.p1.1 | _ => s.ldg.p2.1

/-- The cells of a pool. -/
def State.poolCells (s : State) : Nat → Nat | 0 => 262144 | 1 => s.ldg.p1.2 | _ => s.ldg.p2.2

/-- Every chain that is allocated. -/
def State.chains (s : State) : List Chain := s.ldg.chains.filterMap (·.2)

/-- The cells allocated in a pool. -/
def State.poolUsed (s : State) (q : Nat) : List Nat := (s.chains.filter (fun c => decide (c.pool = q))).flatMap (·.cells)

/-- LDG_FREEq: free cells of a pool. -/
def State.poolFree (s : State) (q : Nat) : Nat := s.poolCells q - (s.poolUsed q).length

/-- LDG_USED: cells of a pool held by a requester. -/
def State.ldgUsed (s : State) (p c q : Nat) : Nat :=
  (s.chains.map (fun x => if x.part = p ∧ x.cls = c ∧ x.pool = q then x.cells.length else 0)).sum

/-- The chain whose first cell is at an address. -/
def State.chainAt (s : State) (a : Nat) : Option Chain := s.ldg.chains.get none a

/-- The state with the chain of an address replaced. -/
def State.setChain (s : State) (a : Nat) (c : Option Chain) : State :=
  { s with ldg := { s.ldg with chains := s.ldg.chains.set none a c } }

/-- Requester classes (R145). -/
def Cl.serai : Nat := 0
def Cl.convoy : Nat := 1
def Cl.host : Nat := 2

/-! Requests (R145) -/

/-- The first free cell of a pool at or after a cell number, cyclically; k bounds the search. -/
def freeCellFrom (base size cells : Nat) (used : List Nat) : Nat → Nat → Nat
  | 0, i => base + i * size
  | k + 1, i =>
    if used.contains (base + i * size) then freeCellFrom base size cells used k ((i + 1) % cells)
    else base + i * size

/-- Take n free cells of a pool, one after another: which of the free cells each is, is open (log 2, DESIGN CHOICE, log 40, DESIGN CHOICE). -/
def State.takeCells (s : State) (q : Nat) (used : List Nat) : Nat → List Nat × State
  | 0 => ([], s)
  | n + 1 =>
    let (v, s) := s.freeBits 24
    let a := freeCellFrom (s.poolBase q) (cellSize q) (s.poolCells q) used used.length (v % max 1 (s.poolCells q))
    let (r, s) := State.takeCells s q (a :: used) n
    (a :: r, s)

/-- Cells of a pool that n bytes take. -/
def cellsFor (q n : Nat) : Nat := (n + cellSize q - 1) / cellSize q

/-- Pool q serves a request of a requester for n bytes. -/
def State.poolServes (s : State) (p c n q : Nat) : Bool :=
  decide (cellsFor q n ≤ s.poolFree q) &&
    decide (s.ldgUsed p c q + cellsFor q n ≤ s.rf Pg.ldg (Reg.ldgQuota p c q) 23 0)

/-- The pool that serves a request: the preferred one or the next larger that does; none where none does, or
where the LDG page is not ON (R439). -/
def State.servingPool (s : State) (p c pref n : Nat) : Option Nat :=
  if s.isOn Pg.ldg then ([0, 1, 2].filter (fun q => decide (pref ≤ q))).find? (s.poolServes p c n) else none

/-- A grant from pool q: the head of the chain. -/
def State.grant (s : State) (p c pref n q : Nat) : Nat × State :=
  let low := s.rf Pg.ldg Reg.ldgLow 23 0
  let before := s.poolFree 0
  let (cells, s) := s.takeCells q (s.poolUsed q) (cellsFor q n)
  let head := nth cells 0 0
  let s := (s.setChain head (some ⟨p, c, q, cells⟩)).bump Pg.ldg Reg.ldgCntAlloc
  let s := if q ≠ pref then s.bump Pg.ldg Reg.ldgCntFallback else s
  let s := if low ≤ before ∧ s.poolFree 0 < low then s.irq Pg.ldg 18 else s
  (head, s)

/-- A request of an internal block for n bytes: the chain's head and pool, or a recorded failure. A request
for no bytes takes no cell, and its pointer is 0 (log 41, DESIGN CHOICE). -/
def State.alloc (s : State) (p c pref n : Nat) : Option (Nat × Nat) × State :=
  if n = 0 then (some (0, pref), s)
  else
    match s.servingPool p c pref n with
    | some q => let (h, s) := s.grant p c pref n q; (some (h, q), s)
    | none => (none, ((s.bump Pg.ldg Reg.ldgCntFail).irq Pg.ldg 16).errorOpen Pg.ldg Cls.task p 0x11)

/-! Frees (R146) -/

/-- A chain may be freed by a requester: its head is a cell allocated to it as a chain's first. -/
def State.freeOk (s : State) (p c a : Nat) : Bool :=
  match s.chainAt a with
  | some x => decide (x.part = p ∧ x.cls = c)
  | none => false

/-- A free by an internal block; a bad pointer is fatal to the partition. -/
def State.freeChain (s : State) (p c a : Nat) : State :=
  if a = 0 then s
  else if s.freeOk p c a then s.setChain a none
  else ((s.bump Pg.ldg Reg.ldgCntBadptr).irq Pg.ldg 17).errorOpen Pg.ldg Cls.partition p 0x10

/-- Free every cell of a partition's requesters (R148). -/
def State.freePart (s : State) (p : Nat) : State :=
  { s with ldg := { s.ldg with chains := s.ldg.chains.filter (fun kv => kv.2.all (fun c => decide (c.part ≠ p))) } }

/-! The bytes of a chain run through its cells in order (R144) -/

/-- Write one cell's bytes; a GDDR7 cell in the partition's own range is encrypted as that range is (R396).
Answers whether a poisoned block was met. -/
def State.cellWrite (s : State) (p a : Nat) (bs : List Byte) : Bool × State :=
  if sramBase ≤ a then (false, s.store a bs)
  else if s.inGdr p a bs.length then s.put p a bs
  else s.storeBlocks a bs

/-- Read n bytes of one cell; none where a block is poisoned. -/
def State.cellRead (s : State) (p a n : Nat) : Option (List Byte) × State :=
  if sramBase ≤ a then (some (s.memBytes a n), s)
  else if (blocksOf a n).any s.poisoned then
    (none, ((blocksOf a n).filter s.poisoned).foldl
      (fun s b => (s.bump (s.gmcPage (b * 512)) Reg.gmcCntPoison).irq (s.gmcPage (b * 512)) 17) s)
  else (some (if s.inGdr p a n then s.seenBytes p a n else s.memBytes a n), s)

/-- Write bytes through the cells of a chain. -/
def State.cellsWrite (s : State) (p size : Nat) (bs : List Byte) : List Nat → Bool × State
  | [] => (false, s)
  | a :: r =>
    if bs.isEmpty then (false, s)
    else
      let (b1, s) := s.cellWrite p a (bs.take size)
      let (b2, s) := State.cellsWrite s p size (bs.drop size) r
      (b1 || b2, s)

/-- Read n bytes through the cells of a chain. -/
def State.cellsRead (s : State) (p size : Nat) (n : Nat) : List Nat → Option (List Byte) × State
  | [] => (some [], s)
  | a :: r =>
    if n = 0 then (some [], s)
    else
      match s.cellRead p a (min n size) with
      | (none, s) => (none, s)
      | (some bs, s) =>
        match State.cellsRead s p size (n - size) r with
        | (some cs, s) => (some (bs ++ cs), s)
        | (none, s) => (none, s)

/-- Write a chain from its start; a poisoned block met fails the step (R234, R250). -/
def State.chainWrite (s : State) (step : W32) (a : Nat) (bs : List Byte) : State :=
  match s.chainAt a with
  | some c =>
    match s.cellsWrite c.part (cellSize c.pool) bs c.cells with
    | (true, s) => s.failStep c.part step
    | (false, s) => s
  | none => s

/-- Read n bytes of a chain from its start; none where a block is poisoned, or there is no chain. -/
def State.chainRead (s : State) (a n : Nat) : Option (List Byte) × State :=
  if n = 0 then (some [], s)
  else
    match s.chainAt a with
    | some c => s.cellsRead c.part (cellSize c.pool) n c.cells
    | none => (none, s)

/-! The control ports' requests (R147) -/

/-- LDG_ASTAT of a port with one field replaced. -/
def State.setAstat (s : State) (port hi lo v : Nat) : State :=
  s.setPortReg port Pg.ldg Reg.ldgAstat (setFld (s.portReg port Pg.ldg Reg.ldgAstat) hi lo v)

/-- A write of LDG_AREQ by a port that may name the partition of its PART field, or may not. -/
def State.portAlloc (s : State) (port : Nat) (v : W32) (may : Bool) : State :=
  let p := fld v 14 12
  let pool := fld v 11 10
  let n := (fld v 9 0 + 1) * cellSize pool
  if !may then s.setAstat port 1 0 2
  else if pool = 3 then (s.bump Pg.ldg Reg.ldgCntFail).setAstat port 1 0 1
  else
    match s.servingPool p Cl.host pool n with
    | none => (s.bump Pg.ldg Reg.ldgCntFail).setAstat port 1 0 1
    | some q =>
      let (h, s) := s.grant p Cl.host pool n q
      let s := (s.setAstat port 1 0 0).setAstat port 3 2 q
      (s.setPortReg port Pg.ldg Reg.ldgAresLo (w32 (h % 2 ^ 32))).setPortReg port Pg.ldg Reg.ldgAresHi (w32 (h / 2 ^ 32))

/-- A write of LDG_FREE_HI: free the chain at a pointer. may says whether the port may free chains of a
partition. -/
def State.portFree (s : State) (port a : Nat) (may : Nat → Bool) : State :=
  match s.chainAt a with
  | none => (s.bump Pg.ldg Reg.ldgCntBadptr).setAstat port 5 4 1
  | some c =>
    if !may c.part then (s.bump Pg.ldg Reg.ldgCntBadptr).setAstat port 5 4 2
    else if c.cls ≠ Cl.host then (s.bump Pg.ldg Reg.ldgCntBadptr).setAstat port 5 4 1
    else (s.setChain a none).setAstat port 5 4 0

/-! Start of the LDG page (R143) -/

/-- The range the registers give to P1 or P2. -/
def State.ldgRange (s : State) (q : Nat) : Nat × Nat :=
  if q = 1 then (s.reg64 Pg.ldg Reg.ldgP1BaseLo Reg.ldgP1BaseHi, s.rf Pg.ldg Reg.ldgP1Cells 23 0)
  else (s.reg64 Pg.ldg Reg.ldgP2BaseLo Reg.ldgP2BaseHi, s.rf Pg.ldg Reg.ldgP2Cells 23 0)

/-- A pool's range is sound: within the GDDR7 window in use and aligned to its cells. -/
def State.ldgSound (s : State) (q : Nat) : Bool :=
  let (b, n) := s.ldgRange q
  decide (n = 0 ∨ (b % cellSize q = 0 ∧ b + n * cellSize q ≤ 0x2000000000))

/-- The configuration of the LDG page passes its start. -/
def State.ldgStartOk (s : State) : Bool :=
  let (b1, n1) := s.ldgRange 1
  let (b2, n2) := s.ldgRange 2
  let e1 := b1 + n1 * 4096
  let e2 := b2 + n2 * 65536
  s.ldgSound 1 && s.ldgSound 2 && decide (n1 = 0 ∨ n2 = 0 ∨ e1 ≤ b2 ∨ e2 ≤ b1)
    && ((s.poolUsed 1).isEmpty || decide (s.ldgRange 1 = s.ldg.p1))
    && ((s.poolUsed 2).isEmpty || decide (s.ldgRange 2 = s.ldg.p2))

/-- The pools take their ranges at the start. -/
def State.ldgTake (s : State) : State := { s with ldg := { s.ldg with p1 := s.ldgRange 1, p2 := s.ldgRange 2 } }

/-- LEDGER_PARITY: link SRAM (R149). -/
def State.doLedgerParity (s : State) : State := (s.irq Pg.ldg 19).errorOpen Pg.ldg Cls.device 0 0x12

end Sys2Proof.Machine
end

