-- ==== Sys2Proof/Machine/Serai.lean ====
section
/-! DEFINITION. The layer plan (R120, R121), acknowledgements (R140) and Serai queues (R125 to R134). -/
namespace Sys2Proof.Machine

/-! The layer plan -/

/-- Field of a layer plan entry (Table 6.3). -/
def planCloseList (d : BitVec 512) : Nat := dfld d 0 63 0
def planCloseCnt (d : BitVec 512) : Nat := dfld d 8 15 0
def planQbase (d : BitVec 512) : Nat := dfld d 8 27 16
def planQcnt (d : BitVec 512) : Nat := dfld d 0xC 12 0
def planInList (d : BitVec 512) : Nat := dfld d 0x10 63 0
def planOutBase (d : BitVec 512) : Nat := dfld d 0x18 63 0
def planOutStride (d : BitVec 512) : Nat := dfld d 0x20 31 0
def planOutLen (d : BitVec 512) : Nat := dfld d 0x24 13 0
def planOutFmt (d : BitVec 512) : Nat := dfld d 0x24 23 16

/-- An address field of a plan: bits [63:44] and [5:0] are 0. -/
def planAddrOk (a : Nat) : Bool := decide (a < 2 ^ 44 ∧ a % 64 = 0)

/-- The formats of an output: FP32, BF16 and FP8 E4M3. -/
def outFmts : List Nat := [0x01, 0x02, 0x04]

/-- Every field of a plan entry is in range (Table 6.3; log 42, DEDUCED for IN_QBASE + IN_QCNT). -/
def planOk (d : BitVec 512) : Bool :=
  planAddrOk (planCloseList d) && planAddrOk (planInList d) && planAddrOk (planOutBase d)
    && decide (planCloseCnt d ≤ 32768 ∧ planQcnt d ≤ 4096 ∧ planQbase d + planQcnt d ≤ 4096
      ∧ planOutStride d % 64 = 0 ∧ 1 ≤ planOutLen d ∧ planOutLen d ≤ 8192
      ∧ dfld d 8 31 28 = 0 ∧ dfld d 0xC 31 13 = 0 ∧ dfld d 0x24 15 14 = 0 ∧ dfld d 0x24 31 24 = 0
      ∧ dfld d 0x2C 159 0 = 0)
    && outFmts.contains (planOutFmt d)

/-- Read a range of the partition's GDDR7 for the plan; none where it lies outside it or fails. -/
def State.planBytes (s : State) (p a n detail : Nat) : Option (List Byte) × State :=
  if n = 0 then (some [], s)
  else if s.inCxl p a n then (none, s)
  else s.blockRead p a n detail

/-- The items of a close list are in range: bits [31:28] are 0. -/
def closeItems (bs : List Byte) : List Nat := (chunks 4 (bs.length / 4) bs).map leNat
/-- The entries of an inbound list. -/
def inboundItems (bs : List Byte) : List Nat := (chunks 8 (bs.length / 8) bs).map leNat

/-- Read and check the plan entry of a layer and its lists (R121). -/
def State.planRead (s : State) (p layer detail : Nat) : Option (BitVec 512) × State :=
  if s.rf Pg.sri (Reg.sriLplanpCnt p) 8 0 ≤ layer then (none, s)
  else
    match s.planBytes p (s.reg64 Pg.sri (Reg.sriLplanpLo p) (Reg.sriLplanpHi p) + 64 * layer) 64 detail with
    | (none, s) => (none, s)
    | (some bs, s) =>
      let d := wordsOf 512 bs
      if !planOk d then (none, s)
      else
        match s.planBytes p (planCloseList d) (4 * planCloseCnt d) detail with
        | (none, s) => (none, s)
        | (some cl, s) =>
          match s.planBytes p (planInList d) (8 * planQcnt d) detail with
          | (none, s) => (none, s)
          | (some il, s) =>
            if (closeItems cl).all (fun w => decide (w < 2 ^ 28)) &&
                (inboundItems il).all (fun w => decide (nbits w 16 0 ≤ 65536))
            then (some d, s) else (none, s)

/-- The plan entry of a (STEP, LAYER): as it was read at first need, and whether this is that need. -/
def State.planFor (s : State) (p : Nat) (step : W32) (layer detail : Nat) : (Option (BitVec 512) × Bool) × State :=
  match s.sri.plans.find? (fun x => decide (x.part = p ∧ x.step = step ∧ x.layer = layer)) with
  | some x => ((x.words, false), s)
  | none =>
    let (w, s) := s.planRead p layer detail
    ((w, true), { s with sri := { s.sri with plans := s.sri.plans ++ [⟨p, step, layer, w⟩] } })

/-! Acknowledgements (R140) -/

/-- A packet of a partition under its injection tag, to one device. -/
def State.sendOne (s : State) (p vc type : Nat) (dest : Coord) (fields : List (Nat × Nat × Nat × Nat))
    (payload : List Byte) : State :=
  s.inject p (mkPacket vc type (s.toOne ((s.ptag p).getD 0) dest ++ fields) payload)

/-- Send the ACK bale of a pending acknowledgement. -/
def State.sendAck (s : State) (a : Ack) : State :=
  let s := { s with sri := { s.sri with acks := s.sri.acks.erase a } }
  s.sendOne a.part 2 3 a.coord [(0x18, 24, 22, a.eng), (0x18, 31, 25, a.man), (0x1C, 15, 0, a.count)] []

/-- Queue an acknowledgement; the 32nd pending sends the ACK bale. -/
def State.noteAck (s : State) (p : Nat) (coord : Coord) (eng man : Nat) : State :=
  let same := fun (a : Ack) => decide (a.part = p ∧ a.coord = coord ∧ a.eng = eng ∧ a.man = man)
  match s.sri.acks.find? same with
  | none => { s with sri := { s.sri with acks := s.sri.acks ++ [⟨p, coord, eng, man, 1, s.now⟩] } }
  | some a =>
    let b := { a with count := a.count + 1 }
    let s := { s with sri := { s.sri with acks := s.sri.acks.map (fun x => if same x then b else x) } }
    if 32 ≤ b.count then s.sendAck b else s

/-- Acknowledge a bale. -/
def State.ackBale (s : State) (p : Nat) (pkt : Packet) : State :=
  s.noteAck p pkt.src (pkt.fld 0x18 24 22) (pkt.fld 0x18 31 25)

/-- ACK_SEND: 500 ticks after the first became pending, for every partition's acknowledgements to that sender,
engine and manifest. -/
def State.doAckSend (s : State) (coord : Coord) (eng man : Nat) : State :=
  (s.sri.acks.filter (fun a => decide (a.coord = coord ∧ a.eng = eng ∧ a.man = man ∧ a.since + 500 ≤ s.now))).foldl
    (fun s a => s.sendAck a) s

/-- Send every acknowledgement a partition still owes (R86 step 3). -/
def State.flushAcks (s : State) (p : Nat) : State :=
  (s.sri.acks.filter (fun a => decide (a.part = p))).foldl (fun s a => s.sendAck a) s

/-! Bales -/

/-- A bale that fails its CRC or has a reserved TYPE (R117, R133). -/
def State.baleCrc (s : State) : State :=
  ((s.bump Pg.sri Reg.sriCntCrc).irq Pg.sri 18).errorOpen Pg.sri Cls.recomputed 0 0x16

/-- The step is the one its partition has retired (R125). -/
def State.retiredStep (s : State) (p : Nat) (step : W32) : Bool := decide ((s.schPart p).retired = some step)

/-- The members of a box in ascending logical rank (R87). -/
def boxMembers (box : Nat → Nat) : List Coord :=
  (bitsSet 16 (box 3)).flatMap fun w => (bitsSet 16 (box 2)).flatMap fun z =>
    (bitsSet 16 (box 1)).flatMap fun y => (bitsSet 16 (box 0)).map fun x => mkCoord x y z w

/-- This device's position among the members of a bale's box (Table 6.2 BOXIDX). -/
def State.boxPos (s : State) (pkt : Packet) : Option Nat :=
  findPos (fun c => decide (c = s.selfLog pkt.tag)) (boxMembers pkt.box)

/-- What a bale asks of a queue here: the queue, its rank or COUNT, and the expert it names (R126 step 2). -/
structure Target where
  queue : Nat
  val : Nat
  expert : Option Nat
  deriving DecidableEq, Repr

/-- The targets of a DISPATCH bale. -/
def State.dispatchTargets (s : State) (pkt : Packet) : List Target :=
  if pkt.fld 0 5 5 = 0 then [⟨pkt.fld 0x1C 11 0, pkt.fld 0x1C 15 12, some (pkt.fld 0x1C 29 16)⟩]
  else
    ((bitsSet 16 pkt.rankMask).filter
      (fun r => !pkt.mcast || decide (s.boxPos pkt = some (pkt.fld (0x1C + 2 * r) 15 12)))).map
      (fun r => ⟨pkt.fld (0x1C + 2 * r) 11 0, r, none⟩)

/-- The targets of a CLOSE bale: its entries, as far as its payload holds them. -/
def closeTargets (pkt : Packet) : List Target :=
  ((chunks 8 (min (pkt.fld 0x1C 15 0) (pkt.payload.length / 8)) pkt.payload).map leNat).map
    (fun w => ⟨nbits w 11 0, nbits w 63 32, none⟩)

/-! Queues and generations (R125) -/

def State.queue (s : State) (q : Nat) : Queue := s.sri.queues.get ⟨none, none⟩ q
def State.setQueue (s : State) (q : Nat) (x : Queue) : State :=
  { s with sri := { s.sri with queues := s.sri.queues.set ⟨none, none⟩ q x } }

/-- The generation is that of a partition's (STEP, LAYER). -/
def Gen.is (g : Gen) (p : Nat) (step : W32) (layer : Nat) : Bool :=
  decide (g.part = p ∧ g.step = step ∧ g.layer = layer)

/-- The generation of a (STEP, LAYER) in a queue, with whether it is the next one. -/
def Queue.find (x : Queue) (p : Nat) (step : W32) (layer : Nat) : Option (Bool × Gen) :=
  match x.cur, x.nxt with
  | some g, n =>
    if g.is p step layer then some (false, g)
    else match n with
      | some h => if h.is p step layer then some (true, h) else none
      | none => none
  | none, some h => if h.is p step layer then some (true, h) else none
  | none, none => none

/-- The queue with the generation of its key replaced. -/
def Queue.put (x : Queue) (g : Gen) : Queue :=
  match x.cur with
  | some c => if c.is g.part g.step g.layer then { x with cur := some g } else { x with nxt := some g }
  | none => { x with cur := some g }

/-- The state with a generation of a queue replaced. -/
def State.putGen (s : State) (q : Nat) (g : Gen) : State := s.setQueue q ((s.queue q).put g)

/-- The payload chains of a partition's entries that any generation refers to. -/
def State.seraiRefs (s : State) : List Nat :=
  s.sri.queues.flatMap fun kv =>
    (kv.2.cur.toList ++ kv.2.nxt.toList).flatMap (fun g => g.entries.map (fun e => fld e 43 0))

/-- Free those payload chains of a list that no generation refers to (R131). -/
def State.freeUnused (s : State) (p : Nat) (heads : List Nat) : State :=
  heads.eraseDups.foldl (fun s a => if s.seraiRefs.contains a then s else s.freeChain p Cl.serai a) s

/-- Release a generation (R129): its cells go back, and the next one becomes current. -/
def State.releaseGen (s : State) (q : Nat) (g : Gen) : State :=
  let x := s.queue q
  let x := match x.cur with
    | some c => if c.is g.part g.step g.layer then ⟨x.nxt, none⟩ else { x with nxt := none }
    | none => { x with nxt := none }
  let s := s.setQueue q x
  let s := g.cells.foldl (fun s a => s.freeChain g.part Cl.serai a) s
  s.freeUnused g.part (g.entries.map (fun e => fld e 43 0))

/-- Every generation a test picks, with its queue. -/
def State.gensWhere (s : State) (f : Gen → Bool) : List (Nat × Gen) :=
  s.sri.queues.flatMap fun kv => ((kv.2.cur.toList ++ kv.2.nxt.toList).filter f).map (kv.1, ·)

/-- The live graph of a step has completed: its generations are released and its plan reads dropped (R129). -/
def State.seraiStepDone (s : State) (p : Nat) (step : W32) : State :=
  let s := (s.gensWhere (fun g => decide (g.part = p ∧ g.step = step))).foldl (fun s x => s.releaseGen x.1 x.2) s
  { s with sri := { s.sri with plans := s.sri.plans.filter (fun x => decide (x.part ≠ p ∨ x.step ≠ step)) } }

/-- A partition reset discards what its queues hold (R86 step 3). -/
def State.seraiClear (s : State) (p : Nat) : State :=
  let s := (s.gensWhere (fun g => decide (g.part = p))).foldl (fun s x => s.releaseGen x.1 x.2) s
  { s with sri := { s.sri with plans := s.sri.plans.filter (fun x => decide (x.part ≠ p)) } }

/-! Errors (R128) -/

/-- An error of a queue: recorded, and the live graph of the bale's step fails. -/
def State.seraiErr (s : State) (p q code : Nat) (step : W32) : State :=
  ((s.irq Pg.sri (if code = 0x15 then 17 else 16)).error Pg.sri Cls.task p code q).failStep p step

/-- An error of a generation, which becomes BROKEN. -/
def State.genErr (s : State) (q : Nat) (g : Gen) (code : Nat) : State :=
  (s.putGen q { g with st := .broken }).seraiErr g.part q code g.step

/-! Load hints (R134) -/

/-- The generation sends load hints. -/
def State.hints (s : State) (g : Gen) : Bool :=
  g.hint && s.rb Pg.sri Reg.sriCtrl 0 && decide (s.rf Pg.sri (Reg.sriHintp g.part) 15 0 ≠ 0)

/-- The axis masks of the hint box of a partition. -/
def State.hintBox (s : State) (p a : Nat) : Nat :=
  if a = 3 then s.rf Pg.sri (Reg.sriHboxpLo p) 15 0
  else if a = 0 then s.rf Pg.sri (Reg.sriHboxpLo p) 31 16
  else if a = 1 then s.rf Pg.sri (Reg.sriHboxpHi p) 15 0
  else s.rf Pg.sri (Reg.sriHboxpHi p) 31 16

/-- Multicast a HINT bale. -/
def State.sendHint (s : State) (g : Gen) (hot : Bool) : State :=
  let pkt := mkPacket 2 4 (s.toBox ((s.ptag g.part).getD 0) (s.hintBox g.part)
    ++ [(0, 31, 24, g.layer), (0x10, 31, 0, g.step.toNat), (0x1C, 13, 0, g.expert), (0x1C, 15, 15, hot.toNat)]) []
  s.inject g.part pkt

/-! Opening and completing -/

/-- The inbound entry of a queue under a plan: 0 where the queue is outside it. -/
def State.inboundOf (s : State) (p q : Nat) (d : BitVec 512) : Nat × State :=
  if planQbase d ≤ q ∧ q < planQbase d + planQcnt d then
    match s.planBytes p (planInList d + 8 * (q - planQbase d)) 8 q with
    | (some bs, s) => (leNat bs, s)
    | (none, s) => (0, s)
  else (0, s)

/-- A generation as it opens. -/
def Gen.fresh (p : Nat) (step : W32) (layer now w : Nat) : Gen :=
  { part := p, step := step, layer := layer, st := .opened, senders := nbits w 16 0, expert := nbits w 31 18,
    sig := nbits w 46 32, sigAdd := nbits w 63 48, hint := nbits w 17 17 = 1, hot := false, closes := 0,
    expected := 0, received := 0, openedAt := now, entries := [], cells := [] }

/-- Take the generation of (STEP, LAYER) of a queue, or open it (R126 steps 4.1 and 4.2): none where the bale
does nothing more at it. -/
def State.takeGen (s : State) (p q : Nat) (step : W32) (layer : Nat) : Option Gen × State :=
  if !s.inSri p q then (none, s.seraiErr p q 0x10 step)
  else
    match (s.queue q).find p step layer with
    | some (_, g) =>
      if g.senders = 0 then
        match (s.planFor p step layer q).1.1 with
        | some _ => (none, s.genErr q g 0x10)
        | none => (none, s)
      else if g.st = .broken then (none, s)
      else (some g, s)
    | none =>
      if (s.queue q).cur.isSome && (s.queue q).nxt.isSome then (none, s.seraiErr p q 0x12 step)
      else
        let ((w, first), s) := s.planFor p step layer q
        match w with
        | none =>
          let s := s.putGen q { Gen.fresh p step layer s.now 0 with st := .broken }
          (none, if first then s.seraiErr p q 0x17 step else s.failStep p step)
        | some d =>
          let (w, s) := s.inboundOf p q d
          let g := Gen.fresh p step layer s.now w
          let s := s.putGen q g
          if g.senders = 0 then (none, s.genErr q g 0x10) else (some g, s)

/-- R127: complete a generation whose counts agree, or break one that has received too much. -/
def State.checkGen (s : State) (p q : Nat) (step : W32) (layer : Nat) : State :=
  match (s.queue q).find p step layer with
  | some (_, g) =>
    if g.st = .opened ∧ g.closes = g.senders then
      if g.expected < g.received then s.genErr q g 0x11
      else if g.received = g.expected then
        let g := { g with st := .complete }
        let s := ((s.putGen q g).bump Pg.sri Reg.sriCntDone).signal p step g.sig g.sigAdd
        let s := if s.hints g then s.sendHint g false else s
        if g.received = 0 then
          let s := (s.bump Pg.sri Reg.sriCntZero).releaseGen q g
          let x := s.schPart p
          s.setSchPart p { x with emptyQ := x.emptyQ ++ [(q, step)] }
        else s
      else s
    else s
  | none => s

/-- Count a grant outside P0. -/
def State.noteSpill (s : State) (pool : Nat) : State :=
  if pool = 0 then s else (s.bump Pg.sri Reg.sriCntSpill).irq Pg.sri 19

/-- Room for one more entry of a generation: a further cell each 16 entries (R130). -/
def State.entryRoom (s : State) (g : Gen) : Option Gen × State :=
  if g.entries.length % 16 = 0 then
    match s.alloc g.part Cl.serai 0 256 with
    | (some (a, pool), s) => (some { g with cells := g.cells ++ [a] }, s.noteSpill pool)
    | (none, s) => (none, s)
  else (some g, s)

/-- The queue entry of a rank (Table 6.5). -/
def queueEntry (pkt : Packet) (cell rank : Nat) (shared : Bool) : BitVec 128 :=
  BitVec.ofNat 128 (cell + at_ 48 rank + at_ 52 pkt.engOf + at_ 55 shared.toNat + at_ 64 pkt.tokenOf
    + at_ 80 pkt.src.toNat + at_ 96 pkt.fmtCode + at_ 104 pkt.len)

/-- A rank of a DISPATCH bale at its queue (R126 step 4.4). -/
def State.takeRank (s : State) (p : Nat) (pkt : Packet) (cell : Option Nat) (shared : Bool) (t : Target) : State :=
  match s.takeGen p t.queue pkt.stepOf pkt.layerOf with
  | (none, s) => s
  | (some g, s) =>
    match cell with
    | none => s.genErr t.queue g 0x14
    | some a =>
      if g.st = .complete then s.genErr t.queue g 0x11
      else if t.expert.any (fun e => decide (e ≠ g.expert)) then s.genErr t.queue g 0x13
      else
        match s.entryRoom g with
        | (none, s) => s.genErr t.queue g 0x14
        | (some g, s) =>
          let e := queueEntry pkt a t.val shared
          let n := g.entries.length
          let g := { g with entries := g.entries ++ [e], received := g.received + 1 }
          let s := s.putGen t.queue g
          let s := match s.chainAt (nth g.cells 0 (n / 16)) with
            | some c =>
              let (bad, s) := s.cellWrite p (nth c.cells 0 0 + 16 * (n % 16)) (toLE 16 e.toNat)
              if bad then s.failStep p g.step else s
            | none => s
          let s := s.bump Pg.sri Reg.sriCntEntries
          if s.hints g ∧ !g.hot ∧ s.rf Pg.sri (Reg.sriHintp p) 15 0 ≤ g.received then
            (s.putGen t.queue { g with hot := true }).sendHint g true
          else s

/-- A close entry at its queue (R126 step 4.5). -/
def State.takeClose (s : State) (p : Nat) (pkt : Packet) (t : Target) : State :=
  match s.takeGen p t.queue pkt.stepOf pkt.layerOf with
  | (none, s) => s
  | (some g, s) =>
    if g.senders < g.closes + 1 then s.genErr t.queue g 0x11
    else
      (s.putGen t.queue { g with closes := g.closes + 1, expected := g.expected + t.val }).bump Pg.sri Reg.sriCntClose

/-- The completion checks of a bale's queues, at the edge after it is counted (R127). -/
def State.checkTargets (s : State) (p : Nat) (pkt : Packet) (ts : List Target) : State :=
  ((ts.map (·.queue)).eraseDups.filter (s.inSri p)).foldl
    (fun s q => s.checkGen p q pkt.stepOf pkt.layerOf) s

/-! Arrivals (R126, R439) -/

/-- The partition of a bale of this device, where it is neither stopped nor absent. -/
def State.balePart (s : State) (pkt : Packet) : Option Nat :=
  match s.tagPart pkt.tag with
  | some p => if bit s.stopped p then none else some p
  | none => none

/-- The steps every DISPATCH and CLOSE bale takes around its own. -/
def State.baleArrive (s : State) (pkt : Packet) (targets : List Target)
    (body : State → Nat → List Target → State) : State :=
  if !s.isOn Pg.sri then s
  else if !pkt.crcOk then s.baleCrc
  else
    match s.balePart pkt with
    | none => s
    | some p =>
      if s.retiredStep p pkt.stepOf then (s.bump Pg.sri Reg.sriCntStale).ackBale p pkt
      else if pkt.mcast ∧ targets.isEmpty then (s.bump Pg.sri Reg.sriCntExcess).ackBale p pkt
      else ((body s p targets).checkTargets p pkt targets).ackBale p pkt

/-- SERAI_DISPATCH_BALE: a bale of VC1 that is no CLOSE bale; a reserved TYPE fails as its CRC would. -/
def State.doDispatchBale (s : State) (pkt : Packet) : State :=
  if pkt.vc ≠ 1 ∨ pkt.type = 2 then s
  else
    match s.takeEjected pkt with
    | none => s
    | some s =>
      if pkt.type ≠ 0 then (if s.isOn Pg.sri then s.baleCrc else s)
      else
        s.baleArrive pkt (s.dispatchTargets pkt) fun s p ts =>
          match s.alloc p Cl.serai 0 pkt.len with
          | (none, s) => ts.foldl (fun s t => s.takeRank p pkt none false t) s
          | (some (a, pool), s) =>
            let s := ((if pkt.len = 0 then s else s.noteSpill pool).bump Pg.sri Reg.sriCntBales).chainWrite
              pkt.stepOf a pkt.payload
            let s := ts.foldl (fun s t => s.takeRank p pkt (some a) (1 < ts.length) t) s
            s.freeUnused p [a]

/-- SERAI_CLOSE_BALE. -/
def State.doCloseBale (s : State) (pkt : Packet) : State :=
  if pkt.vc ≠ 1 ∨ pkt.type ≠ 2 then s
  else
    match s.takeEjected pkt with
    | none => s
    | some s => s.baleArrive pkt (closeTargets pkt) fun s p ts => ts.foldl (fun s t => s.takeClose p pkt t) s

/-- QUEUE_TIMEOUT: a generation still OPEN SRI_QTMO ticks after it opened (R132); its senders are suspects
only through their own manifests, so the cause is a bit without a coordinate. -/
def State.doQueueTimeout (s : State) (q : Nat) (next : Bool) : State :=
  match if next then (s.queue q).nxt else (s.queue q).cur with
  | some g =>
    if g.st = .opened ∧ g.openedAt + (s.reg Pg.sri Reg.sriQtmo).toNat ≤ s.now then
      (s.genErr q g 0x15).suspectBit Cause.other
    else s
  | none => s

/-- SERAI_PARITY: queue state (R149); fatal to the partition that owns the queue. -/
def State.doSeraiParity (s : State) (q : Nat) : State :=
  match (List.range 8).find? (fun p => s.inSri p q) with
  | some p => (s.irq Pg.sri 20).errorOpen Pg.sri Cls.partition p 0x18
  | none => s

end Sys2Proof.Machine
end

