-- ==== Sys2Proof/Machine/Convoy.lean ====
section
/-! DEFINITION. Convoy engines and the close unit (R118 to R124, R135 to R142, R149): scatter, close contexts,
return and combine, and manifests. -/
namespace Sys2Proof.Machine

def State.cnvEng (s : State) (n : Nat) : CnvEng := vget s.cnv n
def State.setCnv (s : State) (n : Nat) (e : CnvEng) : State := { s with cnv := vset s.cnv n e }

/-! Records (Table 5.3) -/

def recType (w : BitVec 256) : Nat := dfld w 0 3 0
def recRank (w : BitVec 256) : Nat := dfld w 0 7 4
def recLane (w : BitVec 256) : Nat := dfld w 0 9 8
def recToken (w : BitVec 256) : Nat := dfld w 0 31 16
def recStep (w : BitVec 256) : W32 := w32 (dfld w 4 31 0)
def recExpert (w : BitVec 256) : Nat := dfld w 8 13 0
def recMask (w : BitVec 256) : Nat := dfld w 8 15 0
def recLayer (w : BitVec 256) : Nat := dfld w 8 23 16
def recDest (w : BitVec 256) : Nat := dfld w 0xC 15 0
def recQueue (w : BitVec 256) : Nat := dfld w 0xC 27 16
def recEndExpect (w : BitVec 256) : Nat := dfld w 0xC 23 16
def recWeight (w : BitVec 256) : W32 := w32 (dfld w 0x10 31 0)
def recFmt (w : BitVec 256) : Nat := dfld w 0x18 7 0

/-! Errors (Table 6.8, R128) -/

/-- The event of a code: COMBINE_ERR, CLOSE_ERR, MANIFEST_TIMEOUT or PARITY. -/
def cnvEvent : Nat → Option Nat
  | 0x10 => some 17 | 0x16 => some 17 | 0x18 => some 17 | 0x11 => some 18 | 0x12 => some 18
  | 0x15 => some 16 | 0x14 => some 19 | _ => none

/-- An error of an engine: recorded, and the live graph of the step fails; detail none is open. -/
def State.cnvErr (s : State) (eng p code : Nat) (detail : Option Nat) (step : W32) : State :=
  let s := match cnvEvent code with
    | some b => s.irq (Pg.cnv eng) b
    | none => s
  let s := match detail with
    | some d => s.error (Pg.cnv eng) Cls.task p code d
    | none => s.errorOpen (Pg.cnv eng) Cls.task p code
  s.failStep p step

/-- The plan of a (STEP, LAYER) as an engine needs it; an invalid one is its error 0x17. -/
def State.cnvPlan (s : State) (eng p : Nat) (step : W32) (layer : Nat) (detail : Option Nat) :
    Option (BitVec 512) × State :=
  let ((w, first), s) := s.planFor p step layer (detail.getD 0)
  match w with
  | some d => (some d, s)
  | none => (none, if first then s.cnvErr eng p 0x17 detail step else s.failStep p step)

/-! Close contexts (R122) -/

/-- The number of the close context of a key. -/
def State.ctxOf (s : State) (p : Nat) (step : W32) (layer : Nat) : Option Nat :=
  (List.range 8).find? fun i =>
    (vget s.sri.ctxs i).any (fun c => decide (c.part = p ∧ c.step = step ∧ c.layer = layer))

/-- The lowest-numbered free close context. -/
def State.ctxFree (s : State) : Option Nat := (List.range 8).find? (fun i => (vget s.sri.ctxs i).isNone)

def State.setCtx (s : State) (i : Nat) (c : Option CloseCtx) : State :=
  { s with sri := { s.sri with ctxs := vset s.sri.ctxs i c } }

/-- The close context of a key, opened at its first record: none while no context is free. -/
def State.ctxFor (s : State) (eng p : Nat) (step : W32) (layer : Nat) (detail : Option Nat) : Option Nat × State :=
  match s.ctxOf p step layer with
  | some i => (some i, s)
  | none =>
    match s.ctxFree with
    | none => (none, s)
    | some i =>
      let c : CloseCtx := { part := p, step := step, layer := layer, bad := true, entries := [], ends := 0,
                            expect := 0, due := false, fence := none }
      let (w, s) := s.cnvPlan eng p step layer detail
      match w with
      | none => (some i, s.setCtx i (some c))
      | some d =>
        match s.planBytes p (planCloseList d) (4 * planCloseCnt d) (detail.getD 0) with
        | (none, s) => (some i, (s.setCtx i (some c)).cnvErr eng p 0x17 detail step)
        | (some bs, s) =>
          (some i, s.setCtx i (some { c with
            bad := false, entries := (closeItems bs).map (fun w => (nbits w 15 0, nbits w 27 16, 0)),
            fence := if dfld d 0x28 31 31 = 1 then some (dfld d 0x28 30 16) else none }))

/-- Count a rank in its close entry: none where no entry names its destination and queue. -/
def countRank (dest q : Nat) : List (Nat × Nat × Nat) → Option (List (Nat × Nat × Nat))
  | [] => none
  | (d, k, n) :: r => if d = dest ∧ k = q then some ((d, k, n + 1) :: r) else (countRank dest q r).map ((d, k, n) :: ·)

/-! Manifests (R141) -/

/-- The manifest of a key on an engine. -/
def State.manOf (s : State) (eng p : Nat) (ret : Bool) (step : W32) (layer : Nat) : Option Nat :=
  (List.range 128).find? fun i =>
    (vget (s.cnvEng eng).mans i).any
      (fun m => decide (m.part = p ∧ m.ret = ret ∧ m.step = step ∧ m.layer = layer))

def State.man (s : State) (eng i : Nat) : Option Man := vget (s.cnvEng eng).mans i
def State.setMan (s : State) (eng i : Nat) (m : Option Man) : State :=
  let e := s.cnvEng eng
  s.setCnv eng { e with mans := vset e.mans i m }

/-- A manifest of a key can be had: it is open, or one of the 128 is free. -/
def State.manRoom (s : State) (eng p : Nat) (ret : Bool) (step : W32) (layer : Nat) : Bool :=
  (s.manOf eng p ret step layer).isSome || (List.range 128).any (fun i => (s.man eng i).isNone)

/-- The manifest of a key, opened at its first bale; which free one is taken is open (log 40, DESIGN CHOICE). -/
def State.manFor (s : State) (eng p : Nat) (ret : Bool) (step : W32) (layer : Nat) (fence : Option Nat) :
    Nat × State :=
  match s.manOf eng p ret step layer with
  | some i => (i, s)
  | none =>
    let (v, s) := s.freeBits 7
    let i := ((List.range 128).map (fun k => (v + k) % 128)).find? (fun i => (s.man eng i).isNone)
    let i := i.getD v
    (i, s.setMan eng i (some { part := p, ret := ret, step := step, layer := layer, dests := [], other := 0,
                               sealedAt := none, fence := fence }))

/-- Count one bale to a destination: at most 64 destinations have their own count (log 43, DEDUCED). -/
def Man.add (m : Man) (dest : Nat) : Man :=
  if m.dests.any (fun kv => kv.1 = dest) ∨ m.dests.length < 64 then
    { m with dests := m.dests.set 0 dest (m.dests.get 0 dest + 1) }
  else { m with other := m.other + 1 }

/-- Subtract acknowledgements of a device: from its own count, then from OTHER. -/
def Man.sub (m : Man) (dest n : Nat) : Man :=
  let h := m.dests.get 0 dest
  { m with dests := m.dests.set 0 dest (h - n), other := m.other - (n - h) }

/-- The total outstanding. -/
def Man.total (m : Man) : Nat := (m.dests.map (·.2)).sum + m.other

/-- Count a bale in a manifest, once for each destination. -/
def State.manAdd (s : State) (eng i : Nat) (dests : List Nat) : State :=
  match s.man eng i with
  | some m => s.setMan eng i (some (dests.foldl Man.add m))
  | none => s

/-- A sealed manifest with a total of 0 completes and is freed; a dispatch manifest signals FENCE_SIG. -/
def State.checkMan (s : State) (eng i : Nat) : State :=
  match s.man eng i with
  | some m =>
    if m.sealedAt.isSome ∧ m.total = 0 then
      let s := s.setMan eng i none
      match m.fence with
      | some c => s.signal m.part m.step c 1
      | none => s
    else s
  | none => s

/-- Seal the manifest of a key on every engine. -/
def State.sealMans (s : State) (p : Nat) (ret : Bool) (step : W32) (layer : Nat) : State :=
  (List.range 8).foldl
    (fun s eng =>
      match s.manOf eng p ret step layer with
      | some i =>
        match s.man eng i with
        | some m =>
          (s.setMan eng i (some (if m.sealedAt.isNone then { m with sealedAt := some s.now } else m))).checkMan eng i
        | none => s
      | none => s) s

/-! Scatter (R118) -/

/-- Group the records of a token by destination, in ascending order of the lowest rank each carries. -/
def groupByDest : List (BitVec 256) → List (Nat × List (BitVec 256))
  | [] => []
  | w :: r =>
    match groupByDest r with
    | gs =>
      match gs.find? (fun g => decide (g.1 = recDest w)) with
      | some g => (g.1, w :: g.2) :: gs.filter (fun h => decide (h.1 ≠ g.1))
      | none => (recDest w, [w]) :: gs

/-- The box of a set of destinations: the product of their positions on each axis. -/
def boxOf (dests : List Nat) (a : Nat) : Nat :=
  dests.foldl (fun m d => m ||| 2 ^ axisOf (BitVec.ofNat 16 d) a) 0

/-- The fields a DISPATCH bale has beside its routing. -/
def dispatchFields (eng man : Nat) (recs : List (BitVec 256)) : List (Nat × Nat × Nat × Nat) :=
  let w := nth recs 0 0
  [(0, 31, 24, recLayer w), (0x10, 31, 0, (recStep w).toNat), (0x14, 15, 0, recToken w),
   (0x14, 31, 16, recs.foldl (fun m x => m ||| 2 ^ recRank x) 0), (0x18, 7, 0, recFmt w), (0x18, 24, 22, eng),
   (0x18, 31, 25, man)]

/-- The queues of a MULTI bale (Table 6.2). -/
def multiFields (recs : List (BitVec 256)) (pos : Nat → Nat) : List (Nat × Nat × Nat × Nat) :=
  (0, 5, 5, 1) :: recs.flatMap fun w =>
    [(0x1C + 2 * recRank w, 11, 0, recQueue w), (0x1C + 2 * recRank w, 15, 12, pos (recDest w))]

/-- The fields of a bale that carries one rank (Table 6.2). -/
def singleFields (w : BitVec 256) : List (Nat × Nat × Nat × Nat) :=
  [(0x1C, 11, 0, recQueue w), (0x1C, 15, 12, recRank w), (0x1C, 29, 16, recExpert w), (0x1C, 30, 30, dfld w 0 10 10),
   (0x20, 31, 0, (recWeight w).toNat)]

/-- Send one DISPATCH bale to one device. -/
def State.scatterOne (s : State) (eng p man : Nat) (g : Nat × List (BitVec 256)) (vec : List Byte) : State :=
  let kind := match g.2 with
    | [w] => singleFields w
    | ws => multiFields ws (fun _ => 0)
  let s := (s.manAdd eng man [g.1]).bump (Pg.cnv eng) Reg.cnvCntBales
  s.sendOne p 1 0 (BitVec.ofNat 16 g.1) (dispatchFields eng man g.2 ++ kind) vec

/-- Send one MCAST bale to the box of every destination. -/
def State.scatterBox (s : State) (eng p man : Nat) (recs : List (BitVec 256)) (vec : List Byte) : State :=
  let box := boxOf (recs.map recDest)
  let members := boxMembers box
  let pos := fun d => (findPos (fun c => decide (c.toNat = d)) members).getD 0
  let s := ((s.manAdd eng man (members.map (·.toNat))).bump (Pg.cnv eng) Reg.cnvCntBales).bump (Pg.cnv eng) Reg.cnvCntMcast
  let pkt := mkPacket 1 0 (s.toBox ((s.ptag p).getD 0) box ++ dispatchFields eng man recs ++ multiFields recs pos) vec
  s.inject p pkt

/-- Inject the bales of a token. -/
def State.scatter (s : State) (eng p man : Nat) (recs : List (BitVec 256)) (vec : List Byte) : State :=
  let gs := groupByDest recs
  let n := boxSize (boxOf (recs.map recDest))
  if 2 ≤ gs.length ∧ s.rb (Pg.cnv eng) Reg.cnvCtrl 0 ∧ n ≤ 16 ∧ n ≤ 2 * gs.length then s.scatterBox eng p man recs vec
  else gs.foldl (fun s g => s.scatterOne eng p man g vec) s

/-! GATE_SCORE tasks as Convoy counts them (R139) -/

/-- Replace a task's entry. -/
def State.mapGateTask (s : State) (eng id : Nat) (f : GateTask → GateTask) : State :=
  let e := s.cnvEng eng
  s.setCnv eng { e with tasks := e.tasks.map (fun t => if t.id = id then f t else t) }

/-- Signal COMB_SIG for a task whose tokens have all been written. -/
def State.checkGateTask (s : State) (eng id : Nat) : State :=
  match (s.cnvEng eng).tasks.find? (fun t => decide (t.id = id)) with
  | some t =>
    if t.ended ∧ t.unwritten = 0 then
      let e := s.cnvEng eng
      let s := s.setCnv eng { e with tasks := e.tasks.filter (fun t => decide (t.id ≠ id)) }
      match s.cnvPlan eng t.part t.step t.layer none with
      | (some d, s) => if dfld d 0x28 15 15 = 1 then s.signal t.part t.step (dfld d 0x28 14 0) 1 else s
      | (none, s) => s
    else s
  | none => s

/-- One token of a task has been written. -/
def State.tokenWritten (s : State) (eng id : Nat) : State :=
  (s.mapGateTask eng id (fun t => { t with unwritten := t.unwritten - 1 })).checkGateTask eng id

/-- The task whose tokens a lane's records are: a new one after an END, or where STEP or LAYER changes. -/
def State.laneTaskFor (s : State) (eng lane p : Nat) (step : W32) (layer : Nat) : Nat × State :=
  let e := s.cnvEng eng
  match (vget e.laneTask lane).bind (fun id => e.tasks.find? (fun t => decide (t.id = id ∧ t.part = p ∧ t.step = step ∧ t.layer = layer))) with
  | some t => (t.id, s)
  | none =>
    let id := e.nextTask
    (id, s.setCnv eng { e with nextTask := id + 1, laneTask := vset e.laneTask lane (some id),
                               tasks := e.tasks ++ [⟨id, p, step, layer, 0, false⟩] })

/-! Combine (R136 to R139) -/

/-- The values of a return's payload, widened exactly. -/
def retValues (code n : Nat) (bs : List Byte) : List Val :=
  match fmtOf code with
  | some f => (f.decodeSpan n bs).map (·.1)
  | none => []

/-- One output element (R138): the compensated sum of the weighted elements, ranks ascending. -/
def combineElem (ws : List Val) (ys : List (List Val)) (i : Nat) : Val :=
  compSum ((ws.zip ys).map (fun wy => mulF wy.1 (nth wy.2 Val.zero i)))

/-- The bytes of an output in OUT_FMT. -/
def outBytes (d : BitVec 512) (vs : List Val) : List Byte :=
  match fmtOf (planOutFmt d) with
  | some f => (f.encodeSpan Conv.combine 0 (fun _ => 0) vs []).1
  | none => []

/-- Write a token's output. One that does not take effect fails the step, and the token counts as not written
(R139, R250). -/
def State.combWrite (s : State) (eng id p token : Nat) (step : W32) (d : BitVec 512) (vs : List Val) : State :=
  match s.blockWrite p (planOutBase d + token * planOutStride d) (outBytes d vs) token with
  | (true, s) => s.tokenWritten eng id
  | (false, s) => s.failStep p step

/-- The key of a combine entry. -/
def Comb.is (c : Comb) (p : Nat) (step : W32) (layer token : Nat) : Bool :=
  decide (c.part = p ∧ c.step = step ∧ c.layer = layer ∧ c.token = token)

/-- Read every stored return of a combine entry, ranks ascending: none where one is poisoned. -/
def State.combRows (s : State) (n : Nat) : List (Nat × Nat × Nat × Nat) → Option (List (List Val)) × State
  | [] => (some [], s)
  | (_, chain, code, len) :: r =>
    match s.chainRead chain len with
    | (none, s) => (none, s)
    | (some bs, s) =>
      match State.combRows s n r with
      | (some ys, s) => (some (retValues code n bs :: ys), s)
      | (none, s) => (none, s)

/-- Take a combine entry out of its engine's table and free its cells. -/
def State.combDrop (s : State) (eng : Nat) (c : Comb) : State :=
  let e := s.cnvEng eng
  let s := s.setCnv eng { e with comb := e.comb.filter (fun x => !x.is c.part c.step c.layer c.token) }
  c.rets.foldl (fun s r => s.freeChain c.part Cl.convoy r.2.1) s

/-- Combine an entry whose arrived mask equals its expected mask. -/
def State.combine (s : State) (eng : Nat) (c : Comb) : State :=
  match s.cnvPlan eng c.part c.step c.layer (some c.token) with
  | (none, s) => s.combDrop eng c
  | (some d, s) =>
    let rets := (List.range 16).flatMap (fun r => c.rets.filter (fun x => decide (x.1 = r)))
    match s.combRows (planOutLen d) rets with
    | (none, s) => (s.failStep c.part c.step).combDrop eng c
    | (some ys, s) =>
      let ws := rets.map (fun x => ofF32 (c.weights.get 0 x.1).toNat)
      let out := (List.range (planOutLen d)).map (combineElem ws ys)
      ((s.bump (Pg.cnv eng) Reg.cnvCntComb).combDrop eng c).combWrite eng c.task c.part c.token c.step d out

/-- Combine every entry whose returns are all in, as HALT is cleared (R150). -/
def State.cnvResume (s : State) (eng : Nat) : State :=
  ((s.cnvEng eng).comb.filter (fun c => decide (c.arrived = c.expect))).foldl (fun s c => s.combine eng c) s

/-! Taking records (R107, R118, R122, R136) -/

/-- The record an engine would take next. -/
def State.cnvHead (s : State) (eng : Nat) : Option CnvRec := (s.cnvEng eng).fifo.head?

/-- A combine entry of the record's key is open. -/
def State.combOpen (s : State) (eng : Nat) (r : CnvRec) : Bool :=
  (s.cnvEng eng).comb.any (fun c => c.is r.part (recStep r.word) (recLayer r.word) (recToken r.word))

/-- The engine's tables have room for its next record (R122, R136, R141). -/
def State.cnvRoom (s : State) (eng : Nat) (r : CnvRec) : Bool :=
  let w := r.word
  match recType w with
  | 1 =>
    decide (recMask w = 0) ||
      ((s.combOpen eng r || decide ((s.cnvEng eng).comb.length < 4096)) &&
        s.manRoom eng r.part false (recStep w) (recLayer w))
  | _ => (s.ctxOf r.part (recStep w) (recLayer w)).isSome || s.ctxFree.isSome

/-- The engine accepts records: ON and not HALTED. -/
def State.cnvAccepts (s : State) (eng : Nat) : Bool := s.isOn (Pg.cnv eng) && !(s.page (Pg.cnv eng)).halt

/-- The engine holds its intake: CNV_STAT.HOLD. -/
def State.cnvHold (s : State) (eng : Nat) : Bool :=
  match s.cnvHead eng with
  | some r => !s.cnvRoom eng r
  | none => false

/-- The paired Drover unit is held by a record that is not accepted (R107). -/
def State.drvHeld (s : State) (unit : Nat) : Bool :=
  match s.cnvHead unit with
  | some r => !s.cnvAccepts unit || !s.cnvRoom unit r
  | none => false

/-- A lane is released once its task has sent its last token and the paired engine has accepted every record of
that token: a held record counts as not issued (R90, R107; log 53, DEDUCED). -/
def State.laneDone (s : State) (unit : Nat) (x : CnvRec) : State :=
  match (s.core x.core).run with
  | some r =>
    match r.gate with
    | some g =>
      if r.gid = x.gid ∧ r.index = x.task ∧ g.unit = unit ∧ g.issued ∧
          !(s.cnvEng unit).fifo.any (fun y => decide (y.core = x.core ∧ y.gid = x.gid ∧ y.task = x.task ∧ recType y.word ≠ 2))
      then s.freeLane x.core r else s
    | none => s
  | none => s

/-- Take the next record where it has a type and can be accepted. -/
def State.takeRecord (s : State) (eng type : Nat) : Option (CnvRec × State) :=
  let e := s.cnvEng eng
  match e.fifo with
  | [] => none
  | r :: rest =>
    if recType r.word = type ∧ s.cnvAccepts eng ∧ s.cnvRoom eng r then
      some (r, (s.setCnv eng { e with fifo := rest }).laneDone eng r)
    else none

/-- CONVOY_DISPATCH_RECORD. -/
def State.doDispatchRecord (s : State) (eng : Nat) : State :=
  match s.takeRecord eng 0 with
  | none => s
  | some (r, s) =>
    let w := r.word
    let e := s.cnvEng eng
    let s := s.setCnv eng { e with kept := vset e.kept (recLane w) (vget e.kept (recLane w) ++ [w]) }
    match s.ctxFor eng r.part (recStep w) (recLayer w) (some (recToken w)) with
    | (none, s) => s
    | (some i, s) =>
      match vget s.sri.ctxs i with
      | none => s
      | some c =>
        if c.bad then s
        else
          match countRank (recDest w) (recQueue w) c.entries with
          | some es => s.setCtx i (some { c with entries := es })
          | none => s.cnvErr eng r.part 0x11 (some (recQueue w)) (recStep w)

/-- A token vector has been read or released (R119): its place in the core's window is free. -/
def State.vectorDone (s : State) (r : CnvRec) : State :=
  let c := s.core r.core
  match c.run with
  | some x =>
    match x.gate with
    | some g =>
      if x.gid = r.gid ∧ x.index = r.task then
        s.setCore r.core { c with run := some { x with gate := some { g with unread := g.unread - 1 } } }
      else s
    | none => s
  | none => s

/-- Open the combine entry of a token (R136). -/
def State.combEnter (s : State) (eng : Nat) (r : CnvRec) (id : Nat) (recs : List (BitVec 256)) : State :=
  let w := r.word
  if s.combOpen eng r then s.cnvErr eng r.part 0x16 (some (recToken w)) (recStep w)
  else
    let e := s.cnvEng eng
    let ws := recs.foldl (fun (m : SMap W32) x => m.set 0 (recRank x) (recWeight x)) []
    let c : Comb := { task := id, part := r.part, step := recStep w, layer := recLayer w, token := recToken w,
                      expect := recMask w, arrived := 0, weights := ws, rets := [] }
    s.setCnv eng { e with comb := e.comb ++ [c] }

/-- The output of a token without ranks: OUT_LEN elements of +0 (R139). -/
def State.zeroToken (s : State) (eng : Nat) (r : CnvRec) (id : Nat) : State :=
  let w := r.word
  let s := s.bump (Pg.cnv eng) Reg.cnvCntZero
  match s.cnvPlan eng r.part (recStep w) (recLayer w) (some (recToken w)) with
  | (none, s) => s
  | (some d, s) =>
    s.combWrite eng id r.part (recToken w) (recStep w) d (List.replicate (planOutLen d) Val.zero)

/-- CONVOY_TOKEN_RECORD. -/
def State.doTokenRecord (s : State) (eng : Nat) : State :=
  match s.takeRecord eng 1 with
  | none => s
  | some (r, s) =>
    let w := r.word
    let e := s.cnvEng eng
    let recs := (vget e.kept (recLane w)).filter (fun x => decide (recToken x = recToken w ∧ recStep x = recStep w))
    let s := s.setCnv eng { e with kept := vset e.kept (recLane w) [] }
    let (id, s) := s.laneTaskFor eng (recLane w) r.part (recStep w) (recLayer w)
    let s := s.mapGateTask eng id (fun t => { t with unwritten := t.unwritten + 1 })
    let s := s.vectorDone r
    if recMask w = 0 then s.zeroToken eng r id
    else
      let s := s.combEnter eng r id recs
      let fence := (s.ctxOf r.part (recStep w) (recLayer w)).bind (fun i => (vget s.sri.ctxs i).bind (·.fence))
      let (man, s) := s.manFor eng r.part false (recStep w) (recLayer w) fence
      s.scatter eng r.part man recs r.vec

/-- The END record w ends the GATE_SCORE task of its lane (R119). -/
def State.laneEnd (s : State) (eng : Nat) (w : BitVec 256) : State :=
  let e := s.cnvEng eng
  let s := s.setCnv eng { e with laneTask := vset e.laneTask (recLane w) none }
  match vget e.laneTask (recLane w) with
  | some id =>
    (s.mapGateTask eng id
      (fun t => if t.step = recStep w ∧ t.layer = recLayer w then { t with ended := true } else t)).checkGateTask eng id
  | none => s

/-- CONVOY_END_RECORD (R123, R124). -/
def State.doEndRecord (s : State) (eng : Nat) : State :=
  match s.takeRecord eng 2 with
  | none => s
  | some (r, s) =>
    let w := r.word
    match (s.laneEnd eng w).ctxFor eng r.part (recStep w) (recLayer w) none with
    | (none, s) => s
    | (some i, s) =>
      match vget s.sri.ctxs i with
      | none => s
      | some c =>
        let n := max 1 (recEndExpect w)
        if c.due then s.cnvErr eng r.part 0x12 none (recStep w)
        else
          let expect := if c.ends = 0 then n else c.expect
          let s := s.setCtx i (some { c with ends := c.ends + 1, expect := expect, due := expect ≤ c.ends + 1 })
          if n ≠ expect then s.cnvErr eng r.part 0x12 none (recStep w) else s

/-! CLOSE bales (R123) -/

/-- A record or kept rank of a context has still to be sent as a bale. -/
def State.ctxBusy (s : State) (c : CloseCtx) : Bool :=
  (List.range 8).any fun n =>
    let e := s.cnvEng n
    e.fifo.any (fun r => decide (r.part = c.part ∧ recType r.word ≠ 2 ∧ recStep r.word = c.step ∧ recLayer r.word = c.layer)) ||
      (List.range 4).any (fun l => (vget e.kept l).any
        (fun w => decide (s.ownerOf (Pg.cnv n) = some (Fin.ofNat 8 c.part) ∧ recStep w = c.step ∧ recLayer w = c.layer)))

/-- The entries of a close list by destination, in list order. -/
def closeByDest : List (Nat × Nat × Nat) → List (Nat × List (Nat × Nat × Nat))
  | [] => []
  | x :: r =>
    match closeByDest r with
    | (d, es) :: gs => if d = x.1 then (d, x :: es) :: gs else (x.1, [x]) :: (d, es) :: gs
    | [] => [(x.1, [x])]

/-- The CLOSE bales of a close list: each destination's entries, up to 1,024 a bale. -/
def closeBales (es : List (Nat × Nat × Nat)) : List (Nat × List (Nat × Nat × Nat)) :=
  (closeByDest es).flatMap (fun g => (chunks 1024 ((g.2.length + 1023) / 1024) g.2).map (g.1, ·))

/-- The lowest-numbered ON engine of a partition. -/
def State.firstEng (s : State) (p : Nat) : Option Nat :=
  (List.range 8).find? (fun n => s.owns p (Pg.cnv n) && s.isOn (Pg.cnv n))

/-- Free a context, which seals the dispatch manifests of its key (R141). -/
def State.ctxDone (s : State) (i : Nat) (c : CloseCtx) : State :=
  (s.setCtx i none).sealMans c.part false c.step c.layer

/-- CLOSE_SEND. -/
def State.doCloseSend (s : State) (i : Nat) : State :=
  match vget s.sri.ctxs i with
  | none => s
  | some c =>
    if !c.due ∨ s.ctxBusy c then s
    else if c.entries.isEmpty then s.ctxDone i c
    else
      match s.firstEng c.part with
      | none => s
      | some eng =>
        if !s.manRoom eng c.part false c.step c.layer then s
        else
          let (man, s) := s.manFor eng c.part false c.step c.layer c.fence
          let s := (closeBales c.entries).foldl
            (fun s g =>
              (s.manAdd eng man [g.1]).sendOne c.part 1 2 (BitVec.ofNat 16 g.1)
                [(0, 31, 24, c.layer), (0x10, 31, 0, c.step.toNat), (0x18, 24, 22, eng), (0x18, 31, 25, man),
                 (0x1C, 15, 0, g.2.length)]
                (g.2.flatMap (fun e => toLE 8 (e.2.1 + at_ 32 e.2.2)))) s
          s.ctxDone i c

/-! Returns (R135, R137) -/

/-- Send one RETURN bale for a queue entry, counted in the return manifest of the step. -/
def State.sendReturn (s : State) (eng p : Nat) (g : Gen) (e : BitVec 128) (fmt : Nat) (row : List Byte) : State :=
  let (man, s) := s.manFor eng p true g.step 0 none
  let dest := fld e 95 80
  let s := (s.manAdd eng man [dest]).bump (Pg.cnv eng) Reg.cnvCntRet
  s.sendOne p 2 1 (BitVec.ofNat 16 dest)
    [(0, 31, 24, g.layer), (0x10, 31, 0, g.step.toNat), (0x14, 15, 0, fld e 79 64), (0x14, 31, 16, 2 ^ fld e 51 48),
     (0x18, 7, 0, fmt), (0x18, 24, 22, fld e 54 52), (0x18, 31, 25, man), (0x1C, 15, 12, fld e 51 48)] row

/-- Store a return that matches its entry, and combine when it is the last. -/
def State.takeReturn (s : State) (eng p : Nat) (c : Comb) (pkt : Packet) (rank : Nat) : State :=
  match s.alloc p Cl.convoy 0 pkt.len with
  | (none, s) => s.cnvErr eng p 0x18 (some pkt.tokenOf) pkt.stepOf
  | (some (a, _), s) =>
    let s := s.chainWrite pkt.stepOf a pkt.payload
    let c := { c with arrived := c.arrived ||| 2 ^ rank, rets := c.rets ++ [(rank, a, pkt.fmtCode, pkt.len)] }
    let e := s.cnvEng eng
    let s := s.setCnv eng { e with comb := e.comb.map (fun x => if x.is c.part c.step c.layer c.token then c else x) }
    if c.arrived = c.expect ∧ !(s.page (Pg.cnv eng)).halt then s.combine eng c else s

/-- A return that has passed its CRC, at its engine (R137). -/
def State.matchReturn (s : State) (eng p : Nat) (pkt : Packet) : State :=
  let bad := fun (s : State) => s.cnvErr eng p 0x10 (some pkt.tokenOf) pkt.stepOf
  let rank := pkt.fld 0x1C 15 12
  match (s.cnvEng eng).comb.find? (fun c => c.is p pkt.stepOf pkt.layerOf pkt.tokenOf) with
  | none => bad s
  | some c =>
    if !c.expect.testBit rank ∨ c.arrived.testBit rank ∨ !outFmts.contains pkt.fmtCode then bad s
    else
      match s.cnvPlan eng p pkt.stepOf pkt.layerOf (some pkt.tokenOf) with
      | (none, s) => s
      | (some d, s) =>
        let size := match fmtOf pkt.fmtCode with
          | some f => f.spanSize (planOutLen d)
          | none => 0
        if pkt.len ≠ size then bad s else s.takeReturn eng p c pkt rank

/-- RETURN_BALE: a bale of VC2 that is no ACK and no HINT bale. -/
def State.doReturnBale (s : State) (pkt : Packet) : State :=
  if pkt.vc ≠ 2 ∨ pkt.type = 3 ∨ pkt.type = 4 then s
  else
    match s.takeEjected pkt with
    | none => s
    | some s =>
      let eng := pkt.engOf
      if !s.isOn (Pg.cnv eng) then s
      else if !pkt.crcOk ∨ pkt.type ≠ 1 then s.baleCrc
      else
        match s.balePart pkt with
        | none => s
        | some p =>
          let s := s.bump (Pg.cnv eng) Reg.cnvCntRetin
          if s.retiredStep p pkt.stepOf then (s.bump (Pg.cnv eng) Reg.cnvCntStale).ackBale p pkt
          else (s.matchReturn eng p pkt).ackBale p pkt

/-! Acknowledgements (R140, R141) -/

/-- The manifest an ACK names: that of engine ENG; a RETURN bale carries its home engine, so else the lowest
engine of the device whose manifest of that number is a return manifest (log 44, DESIGN CHOICE). -/
def State.ackedEng (s : State) (eng man : Nat) : Option Nat :=
  if (s.man eng man).isSome then some eng
  else (List.range 8).find? (fun n => (s.man n man).any (·.ret))

/-- ACK_BALE. -/
def State.doAckBale (s : State) (pkt : Packet) : State :=
  if pkt.vc ≠ 2 ∨ pkt.type ≠ 3 then s
  else
    match s.takeEjected pkt with
    | none => s
    | some s =>
      if !pkt.crcOk then s.baleCrc
      else
        let man := pkt.fld 0x18 31 25
        match s.balePart pkt, s.ackedEng pkt.engOf man with
        | some p, some eng =>
          match s.man eng man with
          | some m =>
            let s := s.bump (Pg.cnv eng) Reg.cnvCntAck
            if m.part = p then (s.setMan eng man (some (m.sub pkt.src.toNat (pkt.fld 0x1C 15 0)))).checkMan eng man
            else s
          | none => s
        | _, _ => s

/-- MANIFEST_TIMEOUT (R142): the destinations outstanding become suspects. -/
def State.doManifestTimeout (s : State) (eng i : Nat) : State :=
  match s.man eng i with
  | some m =>
    match m.sealedAt with
    | some t =>
      if t + (s.reg (Pg.cnv eng) Reg.cnvMtmo).toNat ≤ s.now then
        let s := s.setMan eng i none
        let sh := s.tagShape ((s.ptag m.part).getD 0)
        let s := m.dests.foldl (fun s kv => s.suspect (s.toPhys sh (BitVec.ofNat 16 kv.1)) Cause.manifest) s
        let s := if 0 < m.other then s.suspectBit Cause.other else s
        s.cnvErr eng m.part 0x15 (some i) m.step
      else s
    | none => s
  | none => s

/-! Ends: step completion, parity, stopping (R129, R141, R148, R149) -/

/-- A live graph has completed: its return manifests are sealed; combine entries, task counts and close
contexts of the step that are not due are discarded (log 45, DESIGN CHOICE). -/
def State.cnvStepDone (s : State) (p : Nat) (step : W32) : State :=
  let s := s.sealMans p true step 0
  let s := (List.range 8).foldl
    (fun s eng =>
      let e := s.cnvEng eng
      let s := (e.comb.filter (fun c => decide (c.part = p ∧ c.step = step))).foldl (fun s c => s.combDrop eng c) s
      let e := s.cnvEng eng
      s.setCnv eng { e with tasks := e.tasks.filter (fun t => decide (t.part ≠ p ∨ t.step ≠ step)) }) s
  (List.range 8).foldl
    (fun s i =>
      match vget s.sri.ctxs i with
      | some c => if c.part = p ∧ c.step = step ∧ !c.due then s.ctxDone i c else s
      | none => s) s

/-- An engine that leaves ON discards its open combine entries, frees their cells and frees its manifests. -/
def State.cnvDiscard (s : State) (eng : Nat) : State :=
  let s := (s.cnvEng eng).comb.foldl (fun s c => s.combDrop eng c) s
  let e := s.cnvEng eng
  s.setCnv eng { e with kept := Vector.replicate 4 [], laneTask := Vector.replicate 4 none, tasks := [], comb := [],
                        mans := Vector.replicate 128 none }

/-- A partition reset clears its close contexts, combine entries and manifests (R148). -/
def State.cnvClear (s : State) (p : Nat) : State :=
  let s := (List.range 8).foldl
    (fun s i => if (vget s.sri.ctxs i).any (fun c => decide (c.part = p)) then s.setCtx i none else s) s
  (List.range 8).foldl
    (fun s eng =>
      let e := s.cnvEng eng
      s.setCnv eng { e with
        fifo := e.fifo.filter (fun r => decide (r.part ≠ p)),
        comb := e.comb.filter (fun c => decide (c.part ≠ p)),
        tasks := e.tasks.filter (fun t => decide (t.part ≠ p)),
        kept := if s.owns p (Pg.cnv eng) then Vector.replicate 4 [] else e.kept,
        laneTask := if s.owns p (Pg.cnv eng) then Vector.replicate 4 none else e.laneTask,
        mans := e.mans.map (fun m => if m.any (fun x => decide (x.part = p)) then none else m) }) s

/-- CONVOY_PARITY (R149): the engine's partition's live graph fails; a second within 10^9 ticks quarantines. -/
def State.doConvoyParity (s : State) (eng : Nat) : State :=
  let p := s.partOf (Pg.cnv eng)
  let e := s.cnvEng eng
  let twice := e.parityAt.any (fun t => decide (s.now ≤ t + 1000000000))
  let s := s.setCnv eng { e with parityAt := some s.now }
  let s := (s.irq (Pg.cnv eng) 19).errorOpen (Pg.cnv eng) Cls.task p 0x14
  let s := match (s.schPart p).live with
    | some g => if s.owns p (Pg.cnv eng) then s.failStep p g.step else s
    | none => s
  if twice then s.quarantine (Pg.cnv eng) else s

end Sys2Proof.Machine
end

