-- ==== Sys2Proof/Machine/Streams.lean ====
section
/-! DEFINITION. Streams (R50 to R66): descriptors, events, the replay ring, frames and their acceptance,
ticks, bindings, deadlines and replay. -/
namespace Sys2Proof.Machine

/-! Descriptors (Table 3.3) -/

/-- Word w of the descriptor of stream n. -/
def State.sw (s : State) (n w : Nat) : W32 := s.str.desc.get 0 (32 * n + w)

/-- The state with one descriptor word replaced. -/
def State.setSw (s : State) (n w : Nat) (v : W32) : State :=
  { s with str := { s.str with desc := s.str.desc.set 0 (32 * n + w) v } }

/-- A field of a descriptor word, at its byte offset. -/
def State.sf (s : State) (n off hi lo : Nat) : Nat := fld (s.sw n (off / 4)) hi lo

/-- The state with a field of a descriptor word replaced. -/
def State.setSf (s : State) (n off hi lo v : Nat) : State := s.setSw n (off / 4) (setFld (s.sw n (off / 4)) hi lo v)

/-- A 64-bit field of a descriptor. -/
def State.sf64 (s : State) (n off : Nat) : Nat := (s.sw n (off / 4)).toNat + 2 ^ 32 * (s.sw n (off / 4 + 1)).toNat

/-- The state with a 64-bit field of a descriptor replaced. -/
def State.setSf64 (s : State) (n off v : Nat) : State :=
  (s.setSw n (off / 4) (w32 (v % 2 ^ 32))).setSw n (off / 4 + 1) (w32 (v / 2 ^ 32))

/-- Add one to a 32-bit or 16-bit descriptor counter, which saturates. -/
def State.sBump (s : State) (n off hi lo : Nat) : State :=
  s.setSf n off hi lo (min (s.sf n off hi lo + 1) (2 ^ (hi + 1 - lo) - 1))

/-- Stream states (Table 3.3). -/
def Str.free : Nat := 0
def Str.armed : Nat := 1
def Str.running : Nat := 2
def Str.idle : Nat := 3
def Str.replay : Nat := 4
def Str.closing : Nat := 5

def State.strState (s : State) (n : Nat) : Nat := s.sf n 0 2 0
def State.strPart (s : State) (n : Nat) : Nat := s.sf n 0 6 4
def State.strDerived (s : State) (n : Nat) : Bool := decide (s.sf n 0 8 8 = 1)
def State.strAux (s : State) (n : Nat) : StreamAux := s.str.aux.get StreamAux.init n
def State.setStrAux (s : State) (n : Nat) (a : StreamAux) : State :=
  { s with str := { s.str with aux := s.str.aux.set StreamAux.init n a } }

/-- The streams with a descriptor that is not all zero. -/
def State.strNums (s : State) : List Nat := (s.str.desc.map (fun kv => kv.1 / 32)).eraseDups

/-- The streams of a partition that are not FREE. -/
def State.strOf (s : State) (p : Nat) : List Nat :=
  s.strNums.filter (fun n => decide (s.strState n ≠ Str.free ∧ s.strPart n = p))

/-- The derived streams of a stream that are not FREE. -/
def State.children (s : State) (n : Nat) : List Nat :=
  s.strNums.filter (fun m => s.strDerived m && decide (s.sf m 0x20 12 0 = n ∧ s.strState m ≠ Str.free ∧ m ≠ n))

/-! Events (Table 3.8) -/

/-- Queue an event of a stream: at most one of a code in 1,000,000 ticks, 256 in a partition's queue. -/
def State.strEvent (s : State) (n code : Nat) : State :=
  let p := s.strPart n
  let a := s.strAux n
  let last := a.evTimes.get 0 code
  if last ≠ 0 ∧ s.now + 1 < last + 1000000 then s
  else
    let s := s.setStrAux n { a with evTimes := a.evTimes.set 0 code (s.now + 1) }
    let s := s.trace 5 p Pg.str n code 0
    let q := vget s.str.evq p
    if q.length < 256 then
      ({ s with str := { s.str with evq := vset s.str.evq p (q ++ [(code, n)]) } }).irq Pg.str (16 + p)
    else ({ s with str := { s.str with evOvf := setBit s.str.evOvf p true } }).irq Pg.str 24

/-- A stream enters a state with an event, and its derived streams with it (R52). -/
def State.strEnter (s : State) (n st : Nat) (code : Option Nat) : State :=
  let go := fun (s : State) (m : Nat) =>
    let s := s.setSf m 0 2 0 st
    match code with
    | some c => s.strEvent m c
    | none => s
  (s.children n).foldl
    (fun s m => if s.strState m = Str.closing ∨ s.strState m = st then s else go s m) (go s n)

/-! Periods (R54) -/

/-- A quotient rounded to nearest, ties to even. -/
def divEven (a b : Nat) : Nat :=
  let q := a / b
  let r := a % b
  if b < 2 * r ∨ (2 * r = b ∧ q % 2 = 1) then q + 1 else q

/-- PERIOD_NOM, in 2^-32 tick. -/
def State.periodNom (s : State) (n : Nat) : Nat :=
  if s.sf n 8 31 0 = 0 then 0 else divEven (s.sf n 4 23 0 * s.sf n 0xC 31 0 * 2 ^ 32) (s.sf n 8 31 0)

/-- TRIM, in 2^-32 tick. -/
def State.trim (s : State) (n : Nat) : Int := signed 64 (s.sf64 n 0x58)

/-- NEXT_TICK with TICK_FRAC, in 2^-32 tick. -/
def State.nextAcc (s : State) (n : Nat) : Nat := s.sf64 n 0x48 * 2 ^ 32 + s.sf n 0x50 31 0

/-- The state with NEXT_TICK and TICK_FRAC replaced. -/
def State.setNextAcc (s : State) (n : Nat) (v : Int) : State :=
  let v := twos 96 v
  (s.setSf64 n 0x48 (v / 2 ^ 32)).setSf n 0x50 31 0 (v % 2 ^ 32)

/-- NEXT_SEQ. -/
def State.nextSeq (s : State) (n : Nat) : W32 := s.sw n 0x15

/-! The ring (R65, Table 3.7) -/

def State.ringBase (s : State) (n : Nat) : Nat := s.sf64 n 0x28
def State.ringSize (s : State) (n : Nat) : Nat := s.sf n 0x30 31 0 * 4096

/-- A number rounded up to a multiple of 64. -/
def up64 (n : Nat) : Nat := (n + 63) / 64 * 64

/-- The fields of a record header that the ring rules read. -/
structure RecHdr where
  typ : Nat
  seq : W32
  tick : Nat
  bind : Nat
  len : Nat
  crc : W32
  deriving DecidableEq, Repr

/-- Read a record header at a device address; none where memory refuses it. -/
def State.recHdr (s : State) (p a : Nat) : Option RecHdr :=
  match s.read p a 64 with
  | (.ok bs, _) =>
    let d := wordsOf 512 bs
    some ⟨dfld d 0 2 0, w32 (dfld d 4 31 0), dfld d 8 63 0, dfld d 0x28 63 0, dfld d 0x30 31 0, w32 (dfld d 0x34 31 0)⟩
  | (.error _, _) => none

/-- The 64 bytes of a record header. -/
def recBytes (typ fragCnt : Nat) (seq : W32) (tick arrival ingest media bind len : Nat) (crc : W32) : List Byte :=
  toLE 4 (typ + at_ 8 fragCnt) ++ toLE 4 seq.toNat ++ toLE 8 tick ++ toLE 8 arrival ++ toLE 8 ingest
    ++ toLE 8 media ++ toLE 8 bind ++ toLE 4 len ++ toLE 4 crc.toNat ++ toLE 8 0

/-- A write of the STR block for a partition: where it meets a block that cannot be read, what it would
have written is discarded and the live graph fails (R250). -/
def State.strWrite (s : State) (p a : Nat) (bs : List Byte) (detail : Nat) : State :=
  match s.write p a bs detail with
  | (none, s) => s
  | (some .range, s) => s.error Pg.tir Cls.task p 0x14 detail
  | (some .wprot, s) => s
  | (some .poison, s) => s.markFailed p false 0 false

/-- Write a record header at a ring offset, counting a record (R65). -/
def State.recWrite (s : State) (n off : Nat) (hdr : List Byte) : State :=
  (s.strWrite (s.strPart n) (s.ringBase n + off) hdr n).bump Pg.rpl Reg.rplCntRec

/-- Rewrite TYPE and BIND of a record at a device address. -/
def State.recRewrite (s : State) (n a typ bind : Nat) : State :=
  match s.read (s.strPart n) a 64 with
  | (.ok bs, s) =>
    let d := wordsOf 512 bs
    let d := setFld (setFld d 2 0 typ) (8 * 0x28 + 63) (8 * 0x28) bind
    s.strWrite (s.strPart n) a (toLE 64 d.toNat) n
  | (.error _, s) => s.markFailed (s.strPart n) false 0 false

/-- Rewrite TICK of a record at a device address: the entry is created at its tick (R61, R65). -/
def State.recTick (s : State) (n a tick : Nat) : State :=
  match s.read (s.strPart n) a 64 with
  | (.ok bs, s) =>
    s.strWrite (s.strPart n) a (toLE 64 (setFld (wordsOf 512 bs) (8 * 0x08 + 63) (8 * 0x08) tick).toNat) n
  | (.error _, s) => s.markFailed (s.strPart n) false 0 false

/-- The oldest record may be overwritten: it is PAD, unbound LATE or SLIPPED, or bound to a completed step. -/
def State.recFree (s : State) (n off : Nat) (h : RecHdr) : Bool :=
  let a := s.strAux n
  !(a.reasm.any (fun f => !f.full && decide (f.roff = off)))
    && (decide (h.typ = 5)
      || (decide (h.bind = 0) && decide (h.typ = 3 ∨ h.typ = 4))
      || (decide (h.bind ≠ 0) && !(a.bound.any (fun b => !b.done && decide (b.launch = h.bind)))))

/-- Where a record of need bytes goes, with the ring offsets after: start, new RING_OLD, and whether a PAD
record fills the space before the end. -/
def State.ringPlace (s : State) (n need : Nat) : Nat → Nat → Nat → Bool → Option (Nat × Nat × Bool)
  | 0, _, _, _ => none
  | fuel + 1, old, wr, padded =>
    let size := s.ringSize n
    let evict := fun (_ : Unit) =>
      if old = wr then none
      else
        match s.recHdr (s.strPart n) (s.ringBase n + old) with
        | none => none
        | some h =>
          if s.recFree n old h then
            s.ringPlace n need fuel ((old + 64 + up64 h.len) % size) wr padded
          else none
    if old ≤ wr then
      if wr + need < size ∨ (wr + need = size ∧ old ≠ 0) then some (wr, old, padded)
      else if padded then none
      else if old = wr then if need < size then s.ringPlace n need fuel 0 0 true else none
      else if old = 0 then evict ()
      else s.ringPlace n need fuel old 0 true
    else if wr + need < old then some (wr, old, padded)
    else evict ()

/-- Reserve ring space for a record with len payload bytes: its offset, or none where the ring is full. -/
def State.ringReserve (s : State) (n len : Nat) : Option Nat × State :=
  let size := s.ringSize n
  let wr := s.sf n 0x34 31 0
  let need := 64 + up64 len
  match (if size = 0 ∨ size < need then none
         else s.ringPlace n need (2 * (size / 64) + 4) (s.sf n 0x38 31 0) wr false) with
  | none => (none, (s.irq Pg.rpl 16).strEvent n 0x0E)
  | some (start, old, padded) =>
    let s := if padded then s.recWrite n wr (recBytes 5 0 0 0 0 0 0 0 (size - wr - 64) 0) else s
    (some start, (s.setSf n 0x34 31 0 ((start + need) % size)).setSf n 0x38 31 0 old)

/-- Make a record without payload (ABSENT or EMPTY): its offset where space was found. -/
def State.recEmpty (s : State) (n typ : Nat) (seq : W32) (tick bind : Nat) : Option Nat × State :=
  match s.ringReserve n 0 with
  | (none, s) => (none, s)
  | (some off, s) => (some off, s.recWrite n off (recBytes typ 0 seq tick 0 0 0 bind 0 0))

/-! Frames (R55 to R60) -/

/-- Write the header of a frame's record with the CRC of its payload. -/
def State.frameRecord (s : State) (n : Nat) (f : Reasm) (typ tick arrival : Nat) : State :=
  let p := s.strPart n
  match s.read p (s.ringBase n + f.roff + 64) f.len with
  | (.ok bs, s) =>
    s.recWrite n f.roff (recBytes typ f.fragCnt f.seq tick arrival f.ingest f.media 0 f.len (crc32c bs))
  | (.error _, s) => s.markFailed p false 0 false

/-- The record of a discarded or refused frame becomes PAD: FRAG_CNT and the fields of the frame's header stay,
TICK and ARRIVAL are 0 (R56, Table 3.7). -/
def State.framePad (s : State) (n : Nat) (f : Reasm) : State := s.frameRecord n f 5 0 0

/-- Count a fragment or frame discarded in reassembly; a reserved record becomes PAD (R56). -/
def State.frameDiscard (s : State) (n : Nat) (f : Reasm) : State :=
  let a := s.strAux n
  let s := s.setStrAux n { a with reasm := a.reasm.filter (fun g => decide (g.seq ≠ f.seq)) }
  if f.full then s
  else (s.framePad n f).bump Pg.str Reg.strCntFrag

/-- A refusal of R59: STUCK_RUN rises, and STUCK is raised when it reaches its limit. -/
def State.stuck (s : State) (n : Nat) : State :=
  let s := s.sBump n 0x64 31 16
  if s.sf n 0 31 24 ≠ 0 ∧ s.sf n 0x64 31 16 = s.sf n 0 31 24 then s.strEvent n 0x06 else s

/-- The completed frame is refused: its record becomes PAD. -/
def State.frameRefuse (s : State) (n : Nat) (f : Reasm) : State :=
  (s.framePad n f).stuck n

/-- The bucket at a count: 1.5 tokens per nominal period since the last refill, up to BURST (R59). -/
def State.refill (s : State) (n at_ : Nat) : State :=
  let a := s.strAux n
  let pn := s.periodNom n
  if at_ ≤ a.bucketAt ∨ pn = 0 then s
  else
    let v := s.sf n 0x60 31 0 * pn + a.bucketRem + (at_ - a.bucketAt) * (3 * 2 ^ 47)
    let top := s.sf n 4 27 24 * 2 ^ 16
    let (b, r) := if top ≤ v / pn then (top, 0) else (v / pn, v % pn)
    (s.setSf n 0x60 31 0 b).setStrAux n { a with bucketAt := at_, bucketRem := r }

/-- The tracking loop for an accepted frame with offset e (R57): the new TRIM, and P. -/
def State.track (s : State) (n : Nat) (e : Int) : Int × State :=
  let trim := s.trim n + e * 2 ^ 32 / ((2 ^ s.sf n 0x20 23 20 : Nat) : Int)
  let lim : Int := ((s.periodNom n * s.sf n 0x20 31 24 / 100000 : Nat) : Int)
  let ovr := decide (lim < trim ∨ trim < -lim)
  let trim := if lim < trim then lim else if trim < -lim then -lim else trim
  let s := s.setSf64 n 0x58 (twos 64 trim)
  (e * 2 ^ 32 / ((2 ^ s.sf n 0x20 19 16 : Nat) : Int), if ovr then s.strEvent n 0x0A else s)

/-- A re-anchor falls due for a frame (R57, R52). -/
def State.anchorDue (s : State) (n : Nat) (f : Reasm) (e : Int) : Bool :=
  decide ((s.sf n 0x24 31 0 : Int) < e ∨ e < -(s.sf n 0x24 31 0 : Int)) || f.discont || (s.strAux n).resync

/-- The difference of two sequence numbers as a signed 32-bit number. -/
def seqDiff (a b : W32) : Int := (a - b).toInt

/-- Re-anchor to a frame whose tick is given (R58). -/
def State.reanchor (s : State) (n : Nat) (seq : W32) (tick : Nat) : State :=
  let a := s.strAux n
  let old := a.slots.filter (fun e => decide (seqDiff e.seq seq < 0))
  let s := old.foldl (fun s e =>
    match e.roff with
    | some off => s.recRewrite n (s.ringBase n + off) 3 0
    | none => s) s
  let s := s.setStrAux n { s.strAux n with slots := a.slots.filter (fun e => decide (0 ≤ seqDiff e.seq seq)), resync := false }
  let s := (s.setNextAcc n ((tick : Int) * 2 ^ 32)).setSw n 0x15 seq
  (s.sBump n 0x7C 15 0).strEvent n 0x07

/-- The stream leaves IDLE when a frame is accepted (R52). -/
def State.leaveIdle (s : State) (n : Nat) : State :=
  if s.strState n = Str.idle then (s.setSf n 0x64 15 0 0).strEnter n Str.running (some 0x01) else s

/-- A frame in time by INGEST whose tick has made an ABSENT entry that is not bound takes that entry
(R60; log 22, DEDUCED). -/
def State.upgrade (s : State) (n : Nat) (f : Reasm) (a arrival : Nat) (x : Entry) : State :=
  let e : Int := (a : Int) - ((x.tick : Int) - (s.sf n 0x18 31 0 : Int))
  let s := s.frameRecord n f 0 x.tick arrival
  let s := match x.roff with
    | some off => s.recRewrite n (s.ringBase n + off) 5 0
    | none => s
  let (ph, s) := s.track n e
  let y : Entry := { x with absent := false, roff := some f.roff, phase := ph }
  let aux := s.strAux n
  let s := s.setStrAux n { aux with entries := aux.entries.map (fun z => if z.seq = x.seq then y else z) }
  let s := if x.seq = s.nextSeq n - 1 then s.setNextAcc n ((s.nextAcc n : Int) + ph) else s
  (((s.setSf n 0x64 15 0 0).setSf n 0x64 31 16 0)).leaveIdle n

/-- Step 4 of R59: the tick has passed. Under TWIN_STAMP a frame in time by INGEST fills an ABSENT entry
that is not yet bound, or marks one bound with LATE_PHYS (R60). -/
def State.frameLate (s : State) (n : Nat) (f : Reasm) (a arrival : Nat) (guess : Nat) : State :=
  let twin := decide (s.sf n 0 10 10 = 1)
  let aux := s.strAux n
  let found := aux.entries.find? (fun x => x.absent && decide (x.seq = f.seq))
  let inTime := match found with
    | some x => twin && decide (a ≤ x.tick) &&
        !s.anchorDue n f ((a : Int) - ((x.tick : Int) - (s.sf n 0x18 31 0 : Int)))
    | none => false
  match found, inTime with
  | some x, true => s.upgrade n f a arrival x
  | _, _ =>
    let mark := fun (b : Bound) =>
      if twin ∧ b.typ = 1 ∧ b.seq = f.seq ∧ !b.written ∧ b.launch < arrival then { b with latePhys := true } else b
    let s := ((n :: s.children n)).foldl
      (fun s m => s.setStrAux m { s.strAux m with bound := (s.strAux m).bound.map mark }) s
    let tick := match found with | some x => x.tick | none => guess
    ((s.frameRecord n f 4 tick arrival).sBump n 0x74 31 0).stuck n

/-- Steps 2 to 5 of R59 for a completed frame. -/
def State.frameTest (s : State) (n : Nat) (f : Reasm) : State :=
  let arrival := s.count
  let a := if s.sf n 0 10 10 = 1 then f.ingest else arrival
  let s := s.refill n a
  if s.sf n 0x60 31 0 < 2 ^ 16 then ((s.sBump n 0x70 31 0).strEvent n 0x05).frameRefuse n f
  else
    let s := s.setSf n 0x60 31 0 (s.sf n 0x60 31 0 - 2 ^ 16)
    let d := seqDiff f.seq (s.nextSeq n)
    if 8 ≤ d ∨ (s.strAux n).slots.any (fun e => decide (e.seq = f.seq)) then
      (s.sBump n 0x7C 31 16).frameRefuse n f
    else
      let acc : Int := (s.nextAcc n : Int) + d * ((s.periodNom n : Int) + s.trim n)
      let tick := (acc / 2 ^ 32).toNat
      if d < 0 then s.frameLate n f a arrival tick
      else
        let e : Int := (a : Int) - ((tick : Int) - (s.sf n 0x18 31 0 : Int))
        let (x, s) :=
          if s.anchorDue n f e then
            let t := a + s.sf n 0x18 31 0
            let s := (s.frameRecord n f 0 t arrival).reanchor n f.seq t
            ((⟨f.seq, t, false, some f.roff, 0⟩ : Entry), s)
          else
            let (ph, s) := (s.frameRecord n f 0 tick arrival).track n e
            ((⟨f.seq, tick, false, some f.roff, ph⟩ : Entry), s)
        let s := s.setStrAux n { s.strAux n with slots := (s.strAux n).slots ++ [x] }
        (s.setSf n 0x64 31 16 0).leaveIdle n

/-- Step 1 of R59: the stream may take frames of a tag. -/
def State.frameAllowed (s : State) (n tag : Nat) : Bool :=
  let st := s.strState n
  let far := decide (st = Str.armed ∧ s.count * 2 ^ 32 + 8 * s.periodNom n < s.sf64 n 0x10 * 2 ^ 32)
  s.isOn Pg.str && decide (s.pwr.dev ≠ .stopped) && !bit s.stopped (s.strPart n) && !s.gdrAsleep
    && decide (st ≠ Str.free ∧ st ≠ Str.closing) && !far && !s.strDerived n
    && decide (s.ptag (s.strPart n) = some tag)

/-- The fields of Table 3.5. -/
structure FragHdr where
  stream : Nat
  discont : Bool
  idx : Nat
  cnt : Nat
  seq : W32
  media : Nat
  ingest : Nat
  len : Nat
  deriving DecidableEq, Repr

def fragHdr (bs : List Byte) : FragHdr :=
  let d := wordsOf 256 (bs.take 32)
  ⟨dfld d 0 12 0, decide (dfld d 0 13 13 = 1), dfld d 2 7 0, dfld d 3 7 0, w32 (dfld d 4 31 0), dfld d 8 63 0,
   dfld d 0x10 63 0, dfld d 0x18 31 0⟩

/-- Open a frame at its first fragment: reserve its record, or mark it refused (R56, R65). -/
def State.frameOpen (s : State) (n : Nat) (h : FragHdr) : State :=
  let s := match (s.strAux n).reasm.filter (fun f => !f.full) with
    | f :: _ :: _ => s.frameDiscard n f
    | _ => s
  let (off, s) := s.ringReserve n h.len
  let s := if off.isNone then s.bump Pg.rpl Reg.rplCntFull else s
  let f : Reasm := ⟨h.seq, h.cnt, h.len, [], off.getD 0, off.isNone, s.now, h.media, h.ingest, h.discont⟩
  s.setStrAux n { s.strAux n with reasm := (s.strAux n).reasm ++ [f] }

/-- Take a fragment into its frame; a frame that completes is tested (R56, R59). -/
def State.fragTake (s : State) (n : Nat) (f : Reasm) (h : FragHdr) (bs : List Byte) : State :=
  if f.got.contains h.idx then s.bump Pg.str Reg.strCntFrag
  else if h.cnt ≠ f.fragCnt ∨ h.len ≠ f.len ∨ f.fragCnt ≤ h.idx ∨ f.len < h.idx * 8160 + bs.length then
    s.frameDiscard n f
  else
    let s := if f.full then s
      else s.strWrite (s.strPart n) (s.ringBase n + f.roff + 64 + h.idx * 8160) bs n
    let g := { f with got := h.idx :: f.got }
    let a := s.strAux n
    if g.got.length = g.fragCnt then
      let s := s.setStrAux n { a with reasm := a.reasm.filter (fun x => decide (x.seq ≠ f.seq)) }
      if f.full then s else s.frameTest n g
    else s.setStrAux n { a with reasm := a.reasm.map (fun x => if x.seq = f.seq then g else x) }

/-- FRAME_FRAGMENT: a frame-input packet delivered to the local port. -/
def State.doFragment (s : State) (pkt : Packet) : State :=
  match s.takeEjected pkt with
  | none => s
  | some s =>
    let h := fragHdr pkt.payload
    let bs := pkt.payload.drop 32
    let n := h.stream
    if !s.frameAllowed n pkt.tag then s.bump Pg.str Reg.strCntNostream
    else
      match (s.strAux n).reasm.find? (fun f => decide (f.seq = h.seq)) with
      | some f => s.fragTake n f h bs
      | none =>
        if h.cnt < 1 ∨ 64 < h.cnt ∨ h.len ≤ (h.cnt - 1) * 8160 ∨ h.cnt * 8160 < h.len ∨ 522240 < h.len
            ∨ h.cnt ≤ h.idx then s.bump Pg.str Reg.strCntFrag
        else
          let s := s.frameOpen n h
          match (s.strAux n).reasm.find? (fun f => decide (f.seq = h.seq)) with
          | some f => s.fragTake n f h bs
          | none => s

/-- FRAME_REASSEMBLY_TIMEOUT: one nominal period after its first fragment a frame is discarded (R56). -/
def State.doReassemblyTimeout (s : State) (n : Nat) (seq : W32) : State :=
  match (s.strAux n).reasm.find? (fun f => decide (f.seq = seq)) with
  | some f => if f.started * 2 ^ 32 + s.periodNom n ≤ s.now * 2 ^ 32 then s.frameDiscard n f else s
  | none => s

/-! Ticks (R54, R61) -/

/-- STREAM_ORIGIN: the count reaches ORIGIN (Table 3.4). -/
def State.doOrigin (s : State) (n : Nat) : State :=
  if s.strState n = Str.armed ∧ !s.strDerived n ∧ s.sf64 n 0x10 ≤ s.count then s.strEnter n Str.running (some 0x01)
  else s

/-- The ABSENT entry of a tick, and IDLE where ABSENT_RUN reaches its limit (R61). -/
def State.tickAbsent (s : State) (n : Nat) (seq : W32) (tick : Nat) : State :=
  let (off, s) := s.recEmpty n 1 seq tick 0
  let a := s.strAux n
  let s := s.setStrAux n { a with entries := a.entries ++ [⟨seq, tick, true, off, 0⟩] }
  if s.strState n = Str.running then
    let s := s.sBump n 0x64 15 0
    if s.sf n 0 23 16 ≠ 0 ∧ s.sf n 0 23 16 ≤ s.sf n 0x64 15 0 then s.strEnter n Str.idle (some 0x02) else s
  else s

/-- STREAM_TICK: a tick falls; the stream gains its entry, and the next tick is set (R54, R61; log 23, DESIGN CHOICE for
REPLAY). -/
def State.doTick (s : State) (n : Nat) : State :=
  let st := s.strState n
  if s.strDerived n ∨ !(st = Str.running ∨ st = Str.idle ∨ st = Str.replay) ∨ s.count < s.sf64 n 0x48 then s
  else
    let seq := s.nextSeq n
    let tick := s.sf64 n 0x48
    let a := s.strAux n
    let (ph, s) :=
      match a.slots.find? (fun e => decide (e.seq = seq)) with
      | some e =>
        let s := s.setStrAux n { a with slots := a.slots.filter (fun x => decide (x.seq ≠ seq)),
                                        entries := a.entries ++ [{ e with tick := tick }] }
        let s := match e.roff with
          | some off => if e.tick = tick then s else s.recTick n (s.ringBase n + off) tick
          | none => s
        (e.phase, s.setSf n 0x64 15 0 0)
      | none => (0, if st = Str.replay then s else s.tickAbsent n seq tick)
    let s := s.setSw n 0x15 (seq + 1)
    let step : Int := (s.periodNom n : Int) + s.trim n + (if st = Str.idle then 0 else ph)
    s.setNextAcc n ((s.nextAcc n : Int) + step)

/-! Replay (R66) -/

/-- The next record that a replay presents, from an offset: its offset and header; none at an unbound record
or at RING_WR. -/
def State.nextReplay (s : State) (n : Nat) : Nat → Nat → Option (Nat × RecHdr)
  | 0, _ => none
  | fuel + 1, off =>
    if off = s.sf n 0x34 31 0 then none
    else
      match s.recHdr (s.strPart n) (s.ringBase n + off) with
      | none => none
      | some h =>
        if h.typ = 3 ∨ h.typ = 4 ∨ h.typ = 5 then
          s.nextReplay n fuel ((off + 64 + up64 h.len) % max 1 (s.ringSize n))
        else if h.bind = 0 then none
        else some (off, h)

/-- The end of a replay, where nothing presented waits and no record is left (R66). -/
def State.replayCheck (s : State) (n : Nat) : State :=
  let a := s.strAux n
  match a.replay with
  | some r =>
    if s.strState n = Str.replay ∧ r.presented = [] ∧ s.nextReplay n (s.ringSize n / 64 + 1) r.ptr = none then
      (s.setStrAux n { a with replay := none }).strEnter n Str.running (some 0x0B)
    else s
  | none => s

/-- REPLAY of an accepted command (Table 3.4). -/
def State.startReplay (s : State) (n : Nat) : State :=
  let s := s.setStrAux n { s.strAux n with replay := some ⟨s.count, none, s.sf n 0x3C 31 0, []⟩ }
  (s.strEnter n Str.replay none).replayCheck n

/-- A record's payload was read, and its CRC-32C is the header's. -/
def crcGood {ε : Type} (bs : Except ε (List Byte)) (crc : W32) : Bool :=
  match bs with
  | .ok b => decide (crc32c b = crc)
  | .error _ => false

/-- REPLAY_PRESENT: a record is presented at its scaled time, and its CRC is checked (R66). -/
def State.doPresent (s : State) (n : Nat) : State :=
  let a := s.strAux n
  match a.replay with
  | none => s
  | some r =>
    match s.nextReplay n (s.ringSize n / 64 + 1) r.ptr with
    | none => s.replayCheck n
    | some (off, h) =>
      let b0 := r.first.getD h.bind
      if s.strState n ≠ Str.replay ∨ s.count < r.start + (h.bind - b0) / 2 ^ s.sf n 0 15 12 then s
      else
        let base := s.ringBase n
        let (bs, s) := s.read (s.strPart n) (base + off + 64) h.len
        if crcGood bs h.crc then
          let nxt := (off + 64 + up64 h.len) % max 1 (s.ringSize n)
          let shown := r.presented ++ [⟨base + off, h.typ, h.seq, h.tick⟩]
          s.setStrAux n { a with replay := some { r with first := some b0, ptr := nxt, presented := shown } }
        else
          let s := (s.bump Pg.rpl Reg.rplCntCrc).irq Pg.rpl 17
          let s := s.error Pg.rpl Cls.task (s.strPart n) 0x10 n
          (s.setStrAux n { a with replay := none }).strEnter n Str.idle (some 0x0C)

/-! Binding (R62 to R64) -/

/-- What one launch binds to an input stream: record address, type, SEQ and reference tick. -/
structure Choice where
  record : Nat
  typ : Nat
  seq : W32
  ref : Nat
  deriving DecidableEq, Repr

/-- The EMPTY binding of R63. -/
def State.bindEmpty (s : State) (n L : Nat) : Choice × State :=
  let seq := s.nextSeq n - 1
  let (off, s) := s.recEmpty n 2 seq L L
  (⟨match off with | some o => s.ringBase n + o | none => 0, 2, seq, L⟩, (s.sBump n 0x78 31 16).strEvent n 0x09)

/-- The live binding rule of R63. -/
def State.bindLive (s : State) (n L : Nat) : Choice × State :=
  let a := s.strAux n
  let cand := a.entries.filter (fun e => decide (e.tick ≤ L))
  match cand.reverse with
  | [] => s.bindEmpty n L
  | x :: older =>
    let s := older.reverse.foldl (fun s e =>
      let s := match e.roff with
        | some off => s.recRewrite n (s.ringBase n + off) 3 0
        | none => s
      s.sBump n 0x78 15 0) s
    let s := if older.isEmpty then s else s.strEvent n 0x08
    let s := s.setStrAux n { s.strAux n with entries := a.entries.filter (fun e => decide (L < e.tick)) }
    let typ := if x.absent then 1 else 0
    match x.roff with
    | some off => (⟨s.ringBase n + off, typ, x.seq, x.tick⟩, s.recRewrite n (s.ringBase n + off) typ L)
    | none => (⟨0, typ, x.seq, x.tick⟩, s)

/-- What a launch binds to an input stream in REPLAY: the oldest presented record (R66; log 24, DESIGN CHOICE where none is
presented). -/
def State.bindReplay (s : State) (n L : Nat) : Choice × State :=
  let a := s.strAux n
  match a.replay with
  | some r =>
    match r.presented with
    | x :: rest =>
      let s := s.setStrAux n { a with replay := some { r with presented := rest } }
      (⟨x.record, x.typ, x.seq, if x.typ = 2 then L else x.tick⟩, s.replayCheck n)
    | [] => (⟨0, 2, s.nextSeq n - 1, L⟩, s)
  | none => (⟨0, 2, s.nextSeq n - 1, L⟩, s)

/-- Keep a binding of stream n until its entry is written and its step completes (R62, R64). -/
def State.keepBound (s : State) (p n L : Nat) (step : W32) (c : Choice) : State :=
  let ref := if s.sf n 0 11 11 = 1 then L else c.ref
  let base := s.reg64 Pg.str (Reg.strBindpLo p) (Reg.strBindpHi p)
  let b : Bound :=
    { step := step, launch := L, deadline := ref + s.sf n 0x1C 31 0,
      addr := base + 16 * (n - s.rf (Pg.par p) Reg.parStr 12 0), record := c.record, typ := c.typ, seq := c.seq,
      idle := decide (s.strState n = Str.idle), latePhys := false, dropped := false, written := false,
      passed := false, done := false }
  s.setStrAux n { s.strAux n with bound := (s.strAux n).bound ++ [b] }

/-- Bind the streams of a partition at a launch with count L (R62): each input stream in RUNNING, IDLE or
REPLAY, and then its derived streams, which copy its binding. -/
def State.bindAll (s : State) (p L : Nat) (step : W32) : State :=
  let ins := (s.strOf p).filter (fun n => !s.strDerived n &&
    decide (s.strState n = Str.running ∨ s.strState n = Str.idle ∨ s.strState n = Str.replay))
  ins.foldl
    (fun s n =>
      let kids := (s.children n).filter (fun m => decide (s.strState m = Str.running ∨
        s.strState m = Str.idle ∨ s.strState m = Str.replay))
      let idles := (n :: kids).map (fun m => (m, s.strState m))
      let (c, s) := if s.strState n = Str.replay then s.bindReplay n L else s.bindLive n L
      idles.foldl (fun s x => s.keepBound p x.1 L step c) s) s

/-- The 16 bytes of a binding entry (Table 3.6). -/
def bindBytes (b : Bound) : List Byte :=
  toLE 8 b.record ++ toLE 4 (b.typ + at_ 3 b.latePhys.toNat + at_ 4 b.idle.toNat + at_ 5 b.dropped.toNat)
    ++ toLE 4 b.seq.toNat

/-- Change the bindings of one stream. -/
def State.mapBound (s : State) (n : Nat) (f : Bound → Bound) : State :=
  s.setStrAux n { s.strAux n with bound := (s.strAux n).bound.map f }

/-- BINDING_COMPLETE: the entries of the oldest step that waits are written, and STR_BINDp_SIG is signalled
with the step (R62, R60); the step may be over by then. -/
def State.doBindingComplete (s : State) (p : Nat) : State :=
  match (s.schPart p).binds with
  | [] => s
  | step :: rest =>
    let s := s.setSchPart p { s.schPart p with binds := rest }
    let s := ((s.str.aux.map (·.1)).filter (fun n => decide (s.strPart n = p))).foldl
      (fun s n =>
        ((s.strAux n).bound.filter (fun b => !b.written && decide (b.step = step))).foldl
          (fun s b =>
            let s := s.strWrite p b.addr (bindBytes b) n
            let s := s.mapBound n (fun x => if x.step = b.step then { x with written := true } else x)
            let s := s.setStrAux n { s.strAux n with bound := (s.strAux n).bound.filter (fun x => !(x.written && x.done)) }
            if b.latePhys then s.strEvent n 0x0F else s) s) s
    s.signal p step (s.rf Pg.str (Reg.strBindpSig p) 14 0) 1

/-- The same step, whatever its attempt (R362). -/
def sameBase (a b : W32) : Bool := decide (stepBase a = stepBase b)

/-- The step of a binding has not completed at its deadline (R64). -/
def State.deadlineMiss (s : State) (n : Nat) (b : Bound) : State :=
  if b.passed then s
  else if s.sf n 0 9 9 = 1 then
    let s := s.mapBound n (fun x => if x.launch = b.launch then { x with passed := true, dropped := true } else x)
    let s := (s.sBump n 0x6C 31 0).strEvent n 0x04
    if b.written then s.strWrite (s.strPart n) b.addr (bindBytes { b with dropped := true }) n else s
  else
    let s := s.mapBound n (fun x => if x.launch = b.launch then { x with passed := true } else x)
    (s.sBump n 0x68 31 0).strEvent n 0x03

/-- STREAM_DEADLINE: the deadline of a stream's binding for a step. -/
def State.doDeadline (s : State) (n : Nat) (step : W32) : State :=
  if (s.schPart (s.strPart n)).voting.any (fun g => sameBase g.step step) then s
  else
    match (s.strAux n).bound.find? (fun b => sameBase b.step step && !b.passed && !b.done) with
    | some b => if b.deadline ≤ s.count then s.deadlineMiss n b else s
    | none => s

/-- The step of base STEP completes at count c: its bindings whose deadline came before are late (R64). -/
def State.stepMissed (s : State) (p : Nat) (step : W32) (c : Nat) : State :=
  (s.strOf p).foldl
    (fun s n =>
      ((s.strAux n).bound.filter (fun b => sameBase b.step step && !b.done && decide (b.deadline < c))).foldl
        (fun s b => s.deadlineMiss n b) s) s

/-- The bindings of a step that is over are dropped, but for those whose entries are still to be written. -/
def State.dropBound (s : State) (p : Nat) (step : W32) : State :=
  (s.strOf p).foldl
    (fun s n =>
      let (ovr, live) := (s.strAux n).bound.partition (fun b => sameBase b.step step)
      let ovr := (ovr.filter (fun b => !b.written)).map (fun b => { b with done := true })
      s.setStrAux n { s.strAux n with bound := live ++ ovr }) s

/-- The present count is at or beyond the deadline of a stream's binding for a step (R201). -/
def State.pastDeadline (s : State) (n : Nat) (step : W32) : Bool :=
  (s.strAux n).bound.any (fun b => sameBase b.step step && decide (b.deadline ≤ s.count))

/-! Commands (R52) -/

/-- The stream number lies in its partition's stream range and the checks of an ARM pass (R52). -/
def State.armOk (s : State) (n : Nat) : Bool :=
  let p := s.strPart n
  let pn := s.periodNom n
  let kv := s.sf64 n 0x40
  let size := s.ringSize n
  decide (s.pwr.state < 2) && !s.parOff p && s.inStr p n && decide (s.sf n 4 23 0 ≠ 0 ∧ s.sf n 8 31 0 ≠ 0 ∧ s.sf n 0xC 31 0 ≠ 0)
    && decide (1000000 * 2 ^ 32 ≤ pn ∧ pn ≤ 1000000000 * 2 ^ 32)
    && decide (s.count + 10000 ≤ s.sf64 n 0x10)
    && (decide (kv = 0) || s.inGdr p kv 64)
    && (if s.strDerived n then
          let m := s.sf n 0x20 12 0
          decide (m ≠ n ∧ s.strPart m = p ∧ s.strState m ≠ Str.free ∧ s.strState m ≠ Str.closing) && !s.strDerived m
        else
          decide (size ≠ 0) && s.inGdr p (s.ringBase n) size
            && decide (s.sf n 0x34 31 0 % 64 = 0 ∧ s.sf n 0x38 31 0 % 64 = 0 ∧ s.sf n 0x34 31 0 < size ∧
                 s.sf n 0x38 31 0 < size))

/-- ARM of an accepted command (Table 3.4). -/
def State.startArm (s : State) (n : Nat) : State :=
  let s := s.setStrAux n { StreamAux.init with
    evTimes := (s.strAux n).evTimes, bound := (s.strAux n).bound, bucketAt := s.count }
  let s := s.setSf n 0x60 31 0 (s.sf n 4 27 24 * 2 ^ 16)
  let s := (s.setSf64 n 0x48 (s.sf64 n 0x10)).setSf n 0x50 31 0 0
  let s := s.setSf n 0 2 0 Str.armed
  if s.strDerived n then
    let ps := s.strState (s.sf n 0x20 12 0)
    if ps = Str.running then (s.setSf n 0 2 0 ps).strEvent n 0x01
    else if ps = Str.idle ∨ ps = Str.replay then s.setSf n 0 2 0 ps
    else s
  else s

/-- A stream becomes FREE; the ring offsets stay (R52, R65). -/
def State.strFree (s : State) (n : Nat) : State :=
  let s := s.setStrAux n { StreamAux.init with evTimes := (s.strAux n).evTimes, bound := (s.strAux n).bound }
  (s.setSf n 0 2 0 Str.free).strEvent n 0x0D

/-- CLOSE of one stream; frames in reassembly are discarded (log 25, DESIGN CHOICE). -/
def State.closeOne (s : State) (n : Nat) : State :=
  let s := ((s.strAux n).reasm).foldl (fun s f => s.frameDiscard n f) s
  if s.strState n = Str.armed then s.strFree n
  else if s.strState n = Str.free then s
  else (s.setStrAux n { s.strAux n with replay := none }).setSf n 0 2 0 Str.closing

/-- CLOSE of an accepted command: the derived streams go with it. -/
def State.startClose (s : State) (n : Nat) : State :=
  (s.children n).foldl (fun s m => s.closeOne m) (s.closeOne n)

/-- STREAM_CLOSE_COMPLETE: every bound step has completed. -/
def State.doCloseComplete (s : State) (n : Nat) : State :=
  if s.strState n = Str.closing ∧ (s.strAux n).bound.all (·.done) then s.strFree n else s

/-- The command OP of STR_CMD is listed for the stream's present state (Table 3.4), and an ARM passes its
checks. -/
def State.strCmdOk (s : State) (op n : Nat) : Bool :=
  let st := s.strState n
  match op with
  | 1 => decide (st = Str.free) && s.armOk n
  | 2 => decide (st = Str.armed ∨ st = Str.running ∨ st = Str.idle ∨ st = Str.replay)
  | 3 => decide (st = Str.armed ∨ st = Str.running ∨ st = Str.idle) && !s.strDerived n
  | 4 => decide (st = Str.running ∨ st = Str.idle)
  | _ => false

/-- An accepted stream command. -/
def State.strCmd (s : State) (op n : Nat) : State :=
  match op with
  | 1 => s.startArm n
  | 2 => s.startClose n
  | 3 => s.startReplay n
  | 4 => s.setStrAux n { s.strAux n with resync := true }
  | _ => s

/-- The streams of a partition are cleared: every descriptor of its range (R50, R86 step 4). -/
def State.clearStreams (s : State) (p : Nat) : State :=
  let lo := s.rf (Pg.par p) Reg.parStr 12 0
  let hi := lo + s.rf (Pg.par p) Reg.parStr 29 16
  { s with str := { s.str with desc := s.str.desc.dropRange (32 * lo) (32 * hi), aux := s.str.aux.dropRange lo hi,
                               evq := vset s.str.evq p [], evOvf := setBit s.str.evOvf p false } }

/-- A stream of the device is ARMED, RUNNING, IDLE or REPLAY (R49). -/
def State.anyStream (s : State) : Bool :=
  s.strNums.any (fun n => decide (1 ≤ s.strState n ∧ s.strState n ≤ 4))

end Sys2Proof.Machine
end

