-- ==== Sys2Proof/Machine/Operands.lean ====
section
/-! DEFINITION. The operands of a task (R178 to R180, R206 to R219): tensor descriptors, dense, structured and
SG4 rows, outlier data, and the reading of them by a core. -/
namespace Sys2Proof.Machine

/-! What an operator's evaluation carries -/

/-- Why a task ends in an error: a code of the COR page with its DETAIL, or a read that memory refused. -/
inductive Stop where
  | code (c detail : Nat)
  | mem (cxl : Bool)
  deriving DecidableEq, Repr

/-- The evaluation of a task: the state, whose reads it counts, the task's index and partition, LENIENT, the
monitor counts, what it writes (newest first), its passes (all, sparse, and those the residue check covers),
and its dropped sparse elements (R219). -/
structure Ev where
  s : State
  part : Nat
  task : Nat
  lenient : Bool
  tally : Tally
  writes : List (Nat × List Byte)
  passes : Nat
  spPasses : Nat
  checked : Nat
  drops : Nat
  oobs : Nat
  kind : Option Nat
  deriving DecidableEq, Repr

/-- An evaluation step. -/
abbrev Op (α : Type) := ExceptT Stop (StateM Ev) α

/-- End the task under a code, with the task index as DETAIL. -/
def Op.fail {α : Type} (code : Nat) : Op α := do
  let e ← get
  throw (.code code e.task)

/-- End the task under a code where a condition fails. -/
def Op.need (ok : Bool) (code : Nat) : Op Unit := if ok then pure () else Op.fail code

/-- Read memory for the task (R231, R249 to R251). -/
def Op.rd (a n : Nat) : Op (List Byte) := do
  let e ← get
  match e.s.read e.part a n with
  | (.ok bs, s) => set { e with s := s }; pure bs
  | (.error .range, _) => throw (.code 0x11 e.task)
  | (.error _, s) => set { e with s := s }; throw (.mem (decide (cxlBase ≤ a)))

/-- Read a number of n bytes. -/
def Op.rdNat (a n : Nat) : Op Nat := do let bs ← Op.rd a n; pure (leNat bs)

/-- Count in a monitor tile (R173). -/
def Op.note (tile : Nat) (m : Mon) : Op Unit := modify fun e => { e with tally := e.tally.note tile m }

/-- Write bytes when the task completes. -/
def Op.wr (a : Nat) (bs : List Byte) : Op Unit := modify fun e => { e with writes := (a, bs) :: e.writes }

/-- The next n bits the spec leaves open (log 2, DESIGN CHOICE). -/
def Op.free (n : Nat) : Op Nat := do
  let e ← get
  let (v, s) := e.s.freeBits n
  set { e with s := s }
  pure v

/-- Run passes, of a pairing the residue check covers or not (R187). -/
def Op.pass (n : Nat) (sparse covered : Bool) : Op Unit :=
  modify fun e => { e with passes := e.passes + n, spPasses := e.spPasses + (if sparse then n else 0),
                           checked := e.checked + (if covered then n else 0) }

/-- A sparse fault that LENIENT may let pass (Table 9.7): kind 0 and 1 drop, 2 is beyond the operand. -/
def Op.lenient (kind n code : Nat) : Op Unit := do
  if n = 0 then pure ()
  else
    let e ← get
    if e.lenient then
      let k := match e.kind with | some k => some k | none => some kind
      if kind = 2 then set { e with oobs := e.oobs + n, kind := k }
      else set { e with drops := e.drops + n, kind := k }
    else Op.fail code

/-! Tensor descriptors (Table 8.2) -/

/-- A tensor descriptor that is present. -/
structure TD where
  addr : Nat
  code : Nat
  fmt : Fmt
  outl : Bool
  rows : Nat
  cols : Nat
  stride : Nat
  deriving DecidableEq, Repr

/-- A slot of the operand block: absent, invalid, or a descriptor (R151, R179, R180). -/
inductive Slot where
  | absent
  | bad
  | td (t : TD)
  deriving DecidableEq, Repr

/-- The descriptor in 16 bytes. -/
def slotOf (d : BitVec 128) : Slot :=
  let code := fld d 51 44
  if code = 0 then .absent
  else
    match fmtOf code with
    | none => .bad
    | some f =>
      let t : TD := { addr := fld d 43 0, code := code, fmt := f, outl := bit d 52, rows := fld d 79 64 + 1,
                      cols := fld d 95 80 + 1, stride := fld d 127 96 }
      if fld d 63 53 ≠ 0 ∨ t.addr % 4 ≠ 0 ∨ t.stride % 4 ≠ 0 ∨ t.cols % f.block ≠ 0 then .bad else .td t

/-! Sparse patterns (R206, R208) -/

/-- N and M of a structured pattern. -/
def patternOf : Nat → Nat × Nat
  | 1 => (2, 4) | 2 => (1, 4) | 3 => (2, 8) | _ => (1, 1)

/-- The bytes of a structured span of n dense elements. -/
def structSize (f : Fmt) (sp n : Nat) : Nat :=
  let (k, m) := patternOf sp
  f.elemBytes (n * k / m) + (n / m * m + 7) / 8 + f.scaleBytes n

/-- The bytes of an SG4 entry: header, 4 elements, padding to 2 bytes. -/
def sg4Entry (f : Fmt) : Nat := 2 + (f.bits * 4 / 8 + 1) / 2 * 2

/-- The bytes of an SG4 span of e entries. -/
def sg4Size (f : Fmt) (n e : Nat) : Nat := (4 + e * sg4Entry f + 3) / 4 * 4 + f.scaleBytes n

/-- The bytes the first row of an operand may take, for a mode: 0 dense, 1 to 3 structured, 4 SG4. -/
def TD.rowSize (t : TD) (sp : Nat) : Nat :=
  if sp = 0 then t.fmt.spanSize t.cols else if sp = 4 then t.stride else structSize t.fmt sp t.cols

/-- The device addresses an operand covers from its first row to the end of its last. -/
def TD.extent (t : TD) (sp : Nat) : Nat := (t.rows - 1) * t.stride + t.rowSize sp

/-- The rows of an operand fit their stride. -/
def TD.fits (t : TD) (sp : Nat) : Bool :=
  (decide (sp = 0) || decide (t.cols % 32 = 0)) && if sp = 4 then decide (sg4Size t.fmt t.cols 0 ≤ t.stride) else decide (t.rowSize sp ≤ t.stride)

/-- The address of row i. -/
def TD.rowAt (t : TD) (i : Nat) : Nat := t.addr + i * t.stride

/-- The address behind the last row (R197, R216). -/
def TD.behind (t : TD) : Nat := t.addr + t.rows * t.stride

/-! Rows -/

/-- A dense row decoded exactly; counts go to the tiles of its columns. -/
def rowExact (t : TD) (i : Nat) (tile : Nat → Nat) : Op (List Val) := do
  let bs ← Op.rd (t.rowAt i) (t.fmt.spanSize t.cols)
  let e ← get
  let (vs, tl) := noteRow e.tally tile (t.fmt.decodeSpan t.cols bs)
  set { e with tally := tl }
  pure vs

/-- A dense row decoded to FP32 (R157, R193). -/
def rowF32 (t : TD) (i : Nat) (tile : Nat → Nat) : Op (List Val) := do
  let bs ← Op.rd (t.rowAt i) (t.fmt.spanSize t.cols)
  let e ← get
  let (vs, tl) := noteRow e.tally tile ((t.fmt.decodeSpan t.cols bs).map toFp32)
  set { e with tally := tl }
  pure vs

/-- Row i of an operand that repeats its only row (R194). -/
def rowBcast (t : TD) (i : Nat) (tile : Nat → Nat) : Op (List Val) := rowF32 t (if t.rows = 1 then 0 else i) tile

/-- Encode a row and write it; c0 is its first linear index. -/
def Op.rowOut (t : TD) (k : Conv) (i : Nat) (tile : Nat → Nat) (vs : List Val) : Op Unit := do
  let e ← get
  let (bs, tl) := t.fmt.encodeSpan k (i * t.cols) tile vs e.tally
  set { e with tally := tl }
  Op.wr (t.rowAt i) bs

/-! Structured rows (R208, R210) -/

/-- The positions a mask holds, ascending, at most the first k. -/
def maskPos (m k mask : Nat) : List Nat := ((List.range m).filter (fun p => mask.testBit p)).take k

/-- The masks of a structured row. -/
def masksOf (m n : Nat) (bs : List Byte) : List Nat := unpackElems m (n / m) bs

/-- Set bits beyond the pattern's N, over all masks. -/
def excess (k m : Nat) (masks : List Nat) : Nat := (masks.map (fun x => popcount m x - k)).sum

/-- A structured row with its masks: the element of each position held, and none elsewhere. -/
def structRow (t : TD) (sp i : Nat) (tile : Nat → Nat) : Op (List (Option Val) × List Nat) := do
  let (k, m) := patternOf sp
  let n := t.cols
  let bs ← Op.rd (t.rowAt i) (structSize t.fmt sp n)
  let eb := t.fmt.elemBytes (n * k / m)
  let mb := (n + 7) / 8
  let codes := unpackElems t.fmt.bits (n * k / m) bs
  let masks := masksOf m n (bs.drop eb)
  let sc := t.fmt.scales n ((bs.drop (eb + mb)).take (t.fmt.scaleBytes n))
  Op.lenient 0 (excess k m masks) 0x22
  let held := masks.zipIdx.map (fun x => (maskPos m k x.1, x.2))
  let cells := held.flatMap fun h => (List.range m).map fun p =>
    match findPos (fun q => decide (q = p)) h.1 with
    | some slot =>
      let c := nth codes 0 (k * h.2 + slot)
      let s := (nth sc (Val.one, Mon.zero) ((m * h.2 + p) / 8)).1
      some (scaled s (t.fmt.elemVal c), t.fmt.elemMon c)
    | none => none
  let e ← get
  let tl := cells.zipIdx.foldl
    (fun (tl : Tally) c => match c.1 with | some x => tl.note (tile c.2) x.2 | none => tl) e.tally
  let tl := sc.zipIdx.foldl (fun (tl : Tally) x => tl.note (tile (8 * x.2)) x.1.2) tl
  set { e with tally := tl }
  pure (cells.map (·.map (·.1)), masks)

/-- A W whose rows' masks are given is transposable (R212). -/
def transposable (sp : Nat) (masks : List (List Nat)) : Bool :=
  let (k, m) := patternOf sp
  (groupsOf m (masks.length / m) masks).all fun sq =>
    (List.range ((nth sq [] 0).length)).all fun j =>
      (List.range m).all fun p =>
        decide ((sq.filter (fun r => (nth r 0 j).testBit p)).length ≤ k)

/-! SG4 rows (R213) -/

/-- The entries of an SG4 row: group index and the element codes. -/
def sg4Entries (f : Fmt) : Nat → List Byte → List (Nat × List Nat)
  | 0, _ => []
  | e + 1, bs =>
    (leNat (bs.take 2) % 2 ^ 14, unpackElems f.bits 4 (bs.drop 2)) :: sg4Entries f e (bs.drop (sg4Entry f))

/-- The groups of a row, checked (R219): those beyond the operand are ignored under LENIENT; they rise. -/
def sg4Check (n : Nat) : List (Nat × List Nat) → Option Nat → Op (List (Nat × List Nat))
  | [], _ => pure []
  | g :: r, last => do
    Op.need (match last with | some x => decide (x < g.1) | none => true) 0x24
    if g.1 < n / 4 then
      let rest ← sg4Check n r (some g.1)
      pure (g :: rest)
    else
      Op.lenient 2 1 0x23
      sg4Check n r (some g.1)

/-- An SG4 row as groups of 4 values by group index. bound is the most entries it may hold. -/
def sg4Row (t : TD) (i : Nat) (bound : Option Nat) (tile : Nat → Nat) : Op (SMap (List Val)) := do
  let n := t.cols
  let w ← Op.rdNat (t.rowAt i) 4
  let e0 := w % 2 ^ 16
  -- the entries whose span stays within STRIDE
  let room := (t.stride - t.fmt.scaleBytes n - 4) / sg4Entry t.fmt
  let room := if sg4Size t.fmt n room ≤ t.stride then room else room - 1
  Op.lenient 2 (e0 - room) 0x23
  let e1 := min e0 room
  let bs ← Op.rd (t.rowAt i) (sg4Size t.fmt n e1)
  let gs ← sg4Check n (sg4Entries t.fmt e1 (bs.drop 4)) none
  let keep := match bound with | some b => b | none => gs.length
  Op.lenient 1 (gs.length - keep) 0x22
  let gs := gs.take keep
  let sc := t.fmt.scales n (bs.drop ((4 + e1 * sg4Entry t.fmt + 3) / 4 * 4))
  let e ← get
  let tl := gs.foldl (fun (tl : Tally) g =>
    g.2.foldl (fun (tl : Tally) c => tl.note (tile (4 * g.1)) (t.fmt.elemMon c)) tl) e.tally
  let tl := sc.zipIdx.foldl (fun (tl : Tally) x => tl.note (tile (8 * x.2)) x.1.2) tl
  set { e with tally := tl }
  pure (gs.map fun g =>
    (g.1, g.2.map (fun c => scaled (nth sc (Val.one, Mon.zero) (g.1 / 2)).1 (t.fmt.elemVal c))))

/-- An SG4 row of A as an operand: none where its group is absent. -/
def sg4A (n : Nat) (gs : SMap (List Val)) : List (Option Val) :=
  (List.range (n / 4)).flatMap fun g =>
    match SMap.get (gs.map (fun x => (x.1, some x.2))) none g with
    | some vs => vs.map some
    | none => List.replicate 4 none

/-- An SG4 row of W as an operand, for the union of the groups of its tile's rows (R214): a group of the
union that the row lacks holds +0. -/
def sg4W (n : Nat) (union : Nat → Bool) (gs : SMap (List Val)) : List (Option Val) :=
  (List.range (n / 4)).flatMap fun g =>
    match SMap.get (gs.map (fun x => (x.1, some x.2))) none g with
    | some vs => vs.map some
    | none => List.replicate 4 (if union g then some Val.zero else none)

/-! Row groups (R216) -/

/-- A row group: first row, rows, and bound. -/
structure RowGroup where
  first : Nat
  count : Nat
  bound : Nat
  deriving DecidableEq, Repr

/-- The groups follow each other from row r to the last row. -/
def groupsOk (last : Nat) : Nat → List RowGroup → Bool
  | r, [] => decide (r = last)
  | r, g :: gs => decide (g.first = r) && groupsOk last (r + g.count) gs

/-- Read and check the grouping descriptor of a merge-mode A operand. -/
def readGroups (t : TD) : Op (List RowGroup) := do
  let h ← Op.rdNat t.behind 8
  let g := h % 2 ^ 13
  Op.need (decide (h / 2 ^ 13 = 0 ∧ 1 ≤ g ∧ g ≤ 4096)) 0x26
  let ws ← (List.range g).mapM (fun i => Op.rdNat (t.behind + 8 + 8 * i) 8)
  let gs := ws.map (fun w => RowGroup.mk (nbits w 15 0) (nbits w 31 16 + 1) (nbits w 45 32))
  Op.need (ws.all (fun w => decide (w / 2 ^ 46 = 0)) && groupsOk t.rows 0 gs) 0x26
  pure gs

/-! Outlier data (R170, R171, R197) -/

/-- An outlier word is valid; its channels. -/
def outlierChannels (w : Nat) : Option (List Nat) :=
  let n := w % 8
  let idx := (List.range 4).map (fun i => nbits w (9 + 7 * i) (3 + 7 * i))
  let used := idx.take n
  if 4 < n ∨ w.testBit 31 ∨ (idx.drop n).any (fun x => decide (x ≠ 0)) then none
  else if (used.zip (used.drop 1)).all (fun p => decide (p.1 < p.2)) then some used
  else none

/-- The outlier word of each tile, in the order of R197: ascending K tile, then ascending N tile. -/
def readOutliers (a nk nn : Nat) : Op (List (List Nat)) := do
  let ws ← (List.range (nk * nn)).mapM (fun i => Op.rdNat (a + 4 * i) 4)
  ws.mapM fun w =>
    match outlierChannels w with
    | some cs => pure cs
    | none => Op.fail 0x21

/-- The MXFP8 E4M3 format of the side data. -/
def sideFmt : Fmt := ⟨.fp fpE4M3, 8, 32, .e8m0, true, true, .b8⟩

/-- The weight side spans of each tile, behind the words of all tiles: 132 bytes for each channel. -/
def readSides (a : Nat) (chans : List (List Nat)) : Op (List (List (List Val))) :=
  let offs := chans.foldl (fun (x : List Nat × Nat) c => (x.1 ++ [x.2], x.2 + c.length)) ([], 0)
  (chans.zip offs.1).mapM fun co =>
    (List.range co.1.length).mapM fun i => do
      let bs ← Op.rd (a + 4 * chans.length + 132 * (co.2 + i)) 132
      let vs := sideFmt.decodeSpan 128 bs
      Op.note 0 (vs.foldl (fun m v => m.add v.2) Mon.zero)
      pure (vs.map (·.1))

/-- The activation side data of a row: the four values of each K tile. -/
def readActSide (t : TD) (nk i : Nat) : Op (List (List Val)) :=
  (List.range nk).mapM fun j => do
    let bs ← Op.rd (t.behind + 8 * (i * nk + j)) 8
    let s := e8m0Val (nth bs 0 4).toNat
    Op.note 0 (nanMon s)
    pure ((bs.take 4).map (fun b => scaled s (fpE4M3.decode b.toNat)))

end Sys2Proof.Machine
end

