-- ==== Sys2Proof/Machine/OpCheck.lean ====
section
/-! DEFINITION. The catalogue of operators (Table 8.4) as the checks of R180 read it: which tensor descriptors
and inline fields an operator has, and the parts of a task descriptor every operator shares (Table 8.1). -/
namespace Sys2Proof.Machine

/-- What Table 8.4 says of a TD: required, optional, absent, required for GATED only. -/
inductive TdRole where
  | req | opt | abs | gated
  deriving DecidableEq, Repr

/-- The TD columns of Table 8.4. -/
def tdRoles : Nat → List TdRole
  | 0x01 => [.req, .req, .req, .opt] | 0x02 => [.opt, .req, .gated, .req] | 0x03 => [.req, .req, .opt, .abs]
  | 0x04 => [.req, .req, .req, .abs] | 0x05 => [.req, .req, .abs, .abs]
  | 0x10 => [.req, .req, .abs, .abs] | 0x11 => [.req, .req, .req, .abs] | 0x12 => [.req, .opt, .abs, .abs]
  | 0x13 => [.req, .req, .req, .abs] | 0x20 => [.req, .req, .opt, .opt] | 0x21 => [.req, .opt, .opt, .req]
  | 0x22 => [.req, .req, .opt, .abs] | 0x23 => [.req, .req, .opt, .abs] | 0x24 => [.req, .req, .abs, .abs]
  | 0x25 => [.req, .req, .req, .opt] | 0x26 => [.req, .req, .req, .req] | 0x30 => [.req, .req, .abs, .abs]
  | 0x31 => [.req, .req, .opt, .abs] | 0x32 => [.req, .req, .req, .abs] | 0x33 => [.req, .req, .req, .abs]
  | 0x34 => [.req, .req, .abs, .abs] | 0x35 => [.req, .abs, .abs, .abs] | 0x36 => [.req, .req, .abs, .abs]
  | 0x37 => [.req, .req, .abs, .abs] | 0x40 => [.req, .req, .req, .opt] | 0x41 => [.req, .req, .opt, .req]
  | _ => [.abs, .abs, .abs, .abs]

/-- The inline bytes an operator uses, from byte 0x30: (offset, bytes) of each field of Table 8.4. -/
def inlineUse : Nat → List (Nat × Nat)
  | 0x01 => [(0, 2), (2, 4), (8, 4)] | 0x02 => [(0, 7)] | 0x03 => [(0, 12)] | 0x04 => [(0, 1)]
  | 0x05 => [(0, 1), (4, 8)] | 0x10 => [(0, 11), (12, 4)] | 0x11 => [(0, 10), (12, 4)] | 0x12 => [(0, 6)]
  | 0x13 => [(0, 5), (8, 4)] | 0x20 => [(0, 1), (4, 4)] | 0x21 => [(0, 16)] | 0x22 => [(0, 4)]
  | 0x23 => [(0, 2)] | 0x24 => [(0, 2), (4, 4)] | 0x25 => [(0, 8)] | 0x31 => [(0, 8)] | 0x32 => [(0, 1)]
  | 0x33 => [(0, 2)] | 0x35 => [(0, 4)] | 0x37 => [(0, 4)] | 0x40 => [(0, 13)] | 0x41 => [(0, 16)]
  | 0x51 => [(0, 8)] | _ => []

/-- The bits of the inline area an operator uses. -/
def inlineMask (op : Nat) : Nat :=
  (inlineUse op).foldl (fun m u => m ||| (2 ^ (8 * u.2) - 1) * 2 ^ (8 * u.1)) 0

/-- The operand block of an operator is 128 bytes long (Table 8.4). -/
def opbLong (op : Nat) : Bool := decide (op = 0x02 ∨ op = 0x21 ∨ op = 0x26)

/-- A task as its descriptor gives it: operator, PARAMS and operand block. -/
structure Task where
  op : Nat
  desc : BitVec 512
  blk : BitVec 1024
  deriving DecidableEq, Repr

/-- The field of n bytes at a byte offset of the inline area. -/
def Task.inl (t : Task) (off n : Nat) : Nat := fld t.desc (8 * (0x30 + off) + 8 * n - 1) (8 * (0x30 + off))
/-- An inline field in FP32. -/
def Task.inlF (t : Task) (off : Nat) : Val := ofF32 (t.inl off 4)
/-- The 32-bit word at a byte offset of the operand block. -/
def Task.blkW (t : Task) (off : Nat) : Nat := fld t.blk (8 * off + 31) (8 * off)
def Task.opb (t : Task) : Nat := dfld t.desc 0x20 63 0
def Task.sparse (t : Task) : Nat := dfld t.desc 0x2C 5 3
def Task.sage (t : Task) : Nat := dfld t.desc 0x2C 7 6
/-- The conversion parameters of Table 8.1. -/
def Task.conv (t : Task) : Conv :=
  { sr := decide (dfld t.desc 0x2C 0 0 = 1), sat := decide (dfld t.desc 0x2C 1 1 = 1), rule := dfld t.desc 0x2C 2 2,
    seed := dfld t.desc 0x28 31 0 }
/-- TD i. -/
def Task.slot (t : Task) (i : Nat) : Slot := slotOf (BitVec.ofNat 128 (fld t.blk (128 * i + 127) (128 * i)))

/-- TD i where it is present and valid. -/
def Task.td? (t : Task) (i : Nat) : Option TD :=
  match t.slot i with
  | .td x => some x
  | _ => none

/-- TD i, for an operator that requires it. -/
def Task.td (t : Task) (i : Nat) : Op TD :=
  match t.slot i with
  | .td x => pure x
  | _ => Op.fail 0x10

/-- The mode that TD i is stored in: the sparse operands of Table 9.1. -/
def Task.mode (t : Task) (i : Nat) : Nat :=
  match t.op, i with
  | 0x01, 0 => if t.sparse = 4 then 4 else 0
  | 0x01, 1 => t.sparse
  | 0x02, 0 => 0
  | 0x02, _ => t.sparse
  | 0x40, 1 => t.sparse
  | 0x30, 1 => t.sparse
  | 0x31, 1 => t.sparse
  | _, _ => 0

/-- The checks of the descriptor alone: reserved and unused bits, OP, SPARSE and SAGE (R178, R195, R206, R222). -/
def Task.headOk (t : Task) : Bool :=
  let inl := fld t.desc 511 384
  let common := fld t.desc 383 256
  opCodes.contains t.op
    && decide (dfld t.desc 0 15 10 = 0 ∧ dfld t.desc 0 23 22 = 0 ∧ dfld t.desc 0 31 29 = 0 ∧ dfld t.desc 4 31 12 = 0)
    && decide (inl % 2 ^ 128 &&& (2 ^ 128 - 1 - inlineMask t.op) = 0)
    && decide (dfld t.desc 0x2C 31 8 = 0)
    && (if t.op = 0x50 ∨ t.op = 0x51 then decide (common = 0)
        else decide (t.opb ≠ 0 ∧ t.opb < 2 ^ 44 ∧ t.opb % 64 = 0))
    && decide (t.sparse ≤ 4 ∧ t.sage ≤ 2) && (decide (t.sage = 0) || decide (t.op = 0x02))
    && (decide (t.sparse = 0) || decide (t.op = 0x01 ∨ t.op = 0x30 ∨ t.op = 0x31)
        || (decide (t.sparse ≤ 3) && decide (t.op = 0x02 ∨ t.op = 0x40)))

/-- Outlier data may follow TD i (R170, R197, R203, R207). -/
def Task.outlOk (t : Task) (i : Nat) (d : TD) : Bool :=
  !d.outl || (decide (t.sparse = 0) && ((decide (t.op = 0x01) && decide (i ≤ 1)) || (decide (t.op = 0x31) && decide (i = 1))))

/-- TD i is present or absent as Table 8.4 says, and its descriptor is valid. -/
def Task.slotOk (t : Task) (i : Nat) (r : TdRole) : Bool :=
  match t.slot i with
  | .bad => false
  | .absent => decide (r = .opt ∨ r = .abs ∨ (r = .gated ∧ t.inl 2 1 / 4 % 2 = 0))
  | .td d => (decide (r = .req ∨ r = .opt) || (decide (r = .gated) && decide (t.inl 2 1 / 4 % 2 = 1)))
      && d.fits (t.mode i) && t.outlOk i d

/-- The checks of the TDs (R180). -/
def Task.slotsOk (t : Task) : Bool := (tdRoles t.op).zipIdx.all (fun r => t.slotOk r.2 r.1)

/-- A range a task may read: in its partition's GDDR7 or CXL range. -/
def Op.mayRead (a n : Nat) : Op Unit := do
  let e ← get
  Op.need (e.s.inGdr e.part a n || e.s.inCxl e.part a n) 0x11

/-- A range a task may write: in its partition's GDDR7 range (R180). -/
def Op.mayWrite (a n : Nat) : Op Unit := do
  let e ← get
  Op.need (e.s.inGdr e.part a n) 0x11

/-- TD i lies where the task may read it. -/
def Task.readable (t : Task) (i extra : Nat) : Op Unit :=
  match t.td? i with
  | some d => Op.mayRead d.addr (d.extent (t.mode i) + extra)
  | none => pure ()

/-- TD i lies where the task may write it. -/
def Task.writable (t : Task) (i extra : Nat) : Op Unit :=
  match t.td? i with
  | some d => Op.mayWrite d.addr (d.extent (t.mode i) + extra)
  | none => pure ()

/-- Read the task's operand block. -/
def readTask (desc : BitVec 512) : Op Task := do
  let op := dfld desc 0 7 0
  let t : Task := { op := op, desc := desc, blk := 0 }
  Op.need t.headOk 0x10
  if op = 0x50 ∨ op = 0x51 then pure t
  else
    let n := if opbLong op then 128 else 64
    Op.mayRead t.opb n
    let bs ← Op.rd t.opb n
    let t := { t with blk := wordsOf 1024 bs }
    Op.need t.slotsOk 0x10
    pure t

end Sys2Proof.Machine
end

