-- ==== Sys2Proof/Machine/MatOps.lean ====
section
/-! DEFINITION. The matrix operators: GEMM, WGRAD, SPLIT_COMBINE and CONV2D (R191, R197), dense, structured
(R206 to R212) and merged (R213 to R217). -/
namespace Sys2Proof.Machine

/-- The monitor tile of an array output: 16 tokens by 128 columns (R173). -/
def arrTile (r c : Nat) : Nat := r / 16 * 2 ^ 12 + c / 128

/-! W operands -/

/-- The rows of W as operands, with the masks of a structured one; row n counts in the tile of column n. -/
def wRows (t : TD) (sp : Nat) : Op (List (List (Option Val)) × List (List Nat)) := do
  if sp = 0 then
    let rs ← (List.range t.rows).mapM (fun n => rowExact t n (fun _ => arrTile 0 n))
    pure (rs.map (fun r => r.map some), [])
  else
    let rs ← (List.range t.rows).mapM (fun n => structRow t sp n (fun _ => arrTile 0 n))
    pure (rs.map (·.1), rs.map (·.2))

/-- The rows of a dense A. -/
def aRows (t : TD) : Op (List (List (Option Val))) := do
  let rs ← (List.range t.rows).mapM (fun r => rowExact t r (fun _ => arrTile r 0))
  pure (rs.map (fun r => r.map some))

/-- The columns of a matrix of n columns, as rows. -/
def transposeRows {α : Type} (d : α) (n : Nat) (rows : List (List α)) : List (List α) :=
  (List.range n).map (fun k => rows.map (fun r => nth r d k))

/-- The elements [k0, k1) of each row. -/
def clip {α : Type} (k0 k1 : Nat) (rows : List (List α)) : List (List α) :=
  rows.map (fun r => (r.drop k0).take (k1 - k0))

/-! Products -/

/-- The accumulations of one row against every W row; side n gives the side terms of column n. -/
def rowAcc (a : List (Option Val)) (ws : List (List (Option Val))) (start : List Val)
    (side : Nat → List (Option Val)) : List Acc :=
  ws.zipIdx.map (fun w => accumulate (nth start Val.zero w.2) (withSides (blockTerms a w.1) (side w.2)))

/-- FP32 results of a row of accumulations, counted in their tiles. -/
def finish (r : Nat) (accs : List Acc) : Op (List Val) :=
  accs.zipIdx.mapM fun x => do
    let (v, m) := x.1.out
    Op.note (arrTile r x.2) m
    pure v

/-- A whole FP32 product A · Wᵀ, row by row (R167). -/
def product (as ws : List (List (Option Val))) : Op (List (List Val)) :=
  as.zipIdx.mapM (fun a => finish a.2 (rowAcc a.1 ws [] (fun _ => [])))

/-- The structured or dense passes of a product (R181, R209). -/
def countPasses (m k n sp : Nat) (covered : Bool) : Op Unit :=
  let (x, y) := patternOf sp
  Op.pass (passCount m (k * x / y) n) (decide (sp ≠ 0)) covered

/-! GEMM -/

/-- The inline fields of GEMM. -/
structure Gemm where
  epi : Nat
  trans : Bool
  acc : Bool
  part : Bool
  kOff : Nat
  kLen : Nat
  plane : Nat
  deriving DecidableEq, Repr

def Task.gemm (t : Task) : Gemm :=
  let f := t.inl 1 1
  { epi := t.inl 0 1, trans := f.testBit 0, acc := f.testBit 1, part := f.testBit 2, kOff := t.inl 2 2,
    kLen := t.inl 4 2, plane := t.inl 8 4 }

/-- The range of the reduction a GEMM covers (R191). -/
def Gemm.range (g : Gemm) (red : Nat) : Nat × Nat :=
  (128 * g.kOff, if g.kLen = 0 then red else 128 * g.kOff + 128 * g.kLen)

/-- The class allows outlier columns: 4-bit or ternary W (R170). -/
def outlClass (f : Fmt) : Bool := decide (f.cls = .b4 ∨ f.cls = .tern)

/-- W may be structured (R207). -/
def structClass (f : Fmt) (code : Nat) : Bool :=
  decide (f.cls = .b4 ∨ f.cls = .b6 ∨ f.cls = .b8 ∨ f.cls = .b16) && decide (code ≠ 0x1A)

/-- The checks of GEMM (R166, R180, R191, R195, R197, R207, R212). -/
def gemmOk (t : Task) (g : Gemm) (a w o : TD) (b : Option TD) : Bool :=
  let sp := t.sparse
  let red := if g.trans then w.rows else w.cols
  let outs := if g.trans then w.cols else w.rows
  let (k0, k1) := g.range red
  let int := pairInt w.fmt
  decide (t.inl 1 1 < 8) && pairOk w.fmt a.fmt && decide (a.cols = red ∧ red % 32 = 0)
    && decide (o.rows = a.rows ∧ o.cols = outs) && (if int then intOut o.code else fpOut o.code)
    && decide (g.epi ≤ 3) && (!int || (decide (g.epi = 0) && b.isNone))
    && (match b with
        | some b => decide ((b.code = 0x01 ∨ b.code = 0x02) ∧ b.rows = 1 ∧ b.cols = outs)
        | none => true)
    && (!(g.acc || g.part) || decide (o.code = 0x01))
    && (!g.part || (decide (g.epi = 0) && b.isNone)) && decide (k0 < k1 ∧ k1 ≤ red)
    && (match sp with
        | 0 => true
        | 4 => decide (0x10 ≤ w.code ∧ w.code ≤ 0x15 ∧ 0x10 ≤ a.code ∧ a.code ≤ 0x15) && !g.trans
        | _ => structClass w.fmt w.code && (!g.trans || decide (w.rows % (patternOf sp).2 = 0)))
    && decide (a.outl = w.outl) && (!w.outl || (outlClass w.fmt && !g.trans))

/-- The bytes behind the last row of an operand with outlier data: the words of its tiles, or the side data of
A. -/
def outlBytes (isW : Bool) (d : TD) (n : Nat) : Nat :=
  if !d.outl then 0
  else if isW then d.stride - d.rowSize 0 + 4 * ((d.cols + 127) / 128) * ((d.rows + 127) / 128)
  else d.stride - d.rowSize 0 + 8 * d.rows * n

/-- The outlier data of a product: side terms by token row and column, and the listed channels. -/
structure Outl where
  chans : List (List Nat)
  sides : List (List (List Val))
  acts : List (List (List Val))
  deriving DecidableEq, Repr

/-- Read the outlier data of a GEMM. -/
def readOutl (a w : TD) : Op Outl := do
  if !w.outl then pure ⟨[], [], []⟩
  else
    let nk := (w.cols + 127) / 128
    let nn := (w.rows + 127) / 128
    let chans ← readOutliers w.behind nk nn
    Op.mayRead w.behind (4 * nk * nn + 132 * (chans.map List.length).sum)
    let sides ← readSides w.behind chans
    let acts ← (List.range a.rows).mapM (fun r => readActSide a nk r)
    pure ⟨chans, sides, acts⟩

/-- The side terms of column n for token row r, one for each K tile (R172). -/
def Outl.side (x : Outl) (nk nn r n : Nat) : List (Option Val) :=
  if x.chans.isEmpty then []
  else (List.range nk).map fun j =>
    let i := j * nn + n / 128
    let ws := nth x.sides [] i
    if ws.isEmpty then none
    else
      let act := nth (nth x.acts [] r) [] j
      some ((ws.zip act).foldl (fun s p => addExact s (mulExact p.2 (nth p.1 Val.zero (n % 128)))) Val.zero)

/-- A W row without its outlier channels, and how many of them hold a non-zero weight (R171). -/
def Outl.mask (x : Outl) (nn n : Nat) (w : List (Option Val)) : List (Option Val) × Nat :=
  if x.chans.isEmpty then (w, 0)
  else
    let listed := fun k => (nth x.chans [] (k / 128 * nn + n / 128)).contains (k % 128)
    (w.zipIdx.map (fun v => if listed v.2 then none else v.1),
     (w.zipIdx.filter (fun v => listed v.2 && (match v.1 with | some u => !u.isZero | none => false))).length)

/-- Merge-mode operands: A rows by group, W rows against the union of their tile's groups (R214). -/
def mergeRows (a w : TD) : Op (List RowGroup × List (List (Option Val)) × List (List (Option Val))) := do
  let gs ← readGroups a
  let as ← (gs.flatMap (fun g => (List.range g.count).map (fun i => (g.first + i, g.bound)))).mapM
    (fun x => sg4Row a x.1 (some x.2) (fun _ => arrTile x.1 0))
  let ws ← (List.range w.rows).mapM (fun n => sg4Row w n none (fun _ => arrTile 0 n))
  let full := (groupsOf 128 ((w.rows + 127) / 128) ws).flatMap fun tile =>
    let keys := (tile.flatMap (fun r => r.map (·.1))).eraseDups
    tile.map (sg4W w.cols (fun g => keys.contains g))
  pure (gs, as.map (sg4A a.cols), full)

/-- The bias of a row, as FP32. -/
def biasRow : Option TD → Op (Option (List Val))
  | none => pure none
  | some b => do let v ← rowF32 b 0 (fun _ => 0); pure (some v)

/-- The result of one output element before conversion: bias and epilogue (R197). -/
def withBias (bias : Option (List Val)) (epi c : Nat) (v : Val) : Val :=
  epilogue epi (match bias with | some b => addF v (nth b Val.zero c) | none => v)

/-- Run GEMM. -/
def runGemm (t : Task) : Op Unit := do
  let g := t.gemm
  let a ← t.td 0
  let w ← t.td 1
  let o ← t.td 2
  let b := t.td? 3
  let k := t.conv
  Op.need (gemmOk t g a w o b) 0x10
  let nk := (w.cols + 127) / 128
  let nn := (w.rows + 127) / 128
  t.readable 0 (outlBytes false a nk + if t.sparse = 4 then 8 else 0)
  t.readable 1 (outlBytes true w nn)
  t.readable 3 0
  t.writable 2 (if g.part then g.plane else 0)
  let red := if g.trans then w.rows else w.cols
  let (k0, k1) := g.range red
  let (as, ws) ←
    if t.sparse = 4 then do
      let (gs, as, ws) ← mergeRows a w
      Op.pass ((gs.map (fun x => passCount x.count (k1 - k0) w.rows)).sum) true (pairCovered w.fmt a.fmt)
      pure (as, ws)
    else do
      let as ← aRows a
      let (ws, masks) ← wRows w t.sparse
      Op.need (!(g.trans && decide (t.sparse ≠ 0)) || transposable t.sparse masks) 0x25
      countPasses a.rows (k1 - k0) o.cols t.sparse (pairCovered w.fmt a.fmt && !g.trans)
      pure (as, if g.trans then transposeRows none w.cols ws else ws)
  let x ← readOutl a w
  let ws ← ws.zipIdx.mapM fun r => do
    let (m, n) := x.mask nn r.2 r.1
    Op.note (arrTile 0 r.2) (Mon.ofEnc n)
    pure m
  let as := clip k0 k1 as
  let ws := clip k0 k1 ws
  let bias ← biasRow b
  as.zipIdx.forM fun ar => do
    let r := ar.2
    if pairInt w.fmt then
      let vs ← ws.zipIdx.mapM fun wr => do
        let (v, sat) := accumulateInt (blockTerms ar.1 wr.1)
        Op.note (arrTile r wr.2) (if sat then Mon.ofOvf 1 else .zero)
        pure (Val.ofInt v)
      Op.rowOut o k r (arrTile r) vs
    else
      let start ← if g.acc then rowF32 o r (arrTile r) else pure []
      let accs := rowAcc ar.1 ws start (fun n => ((x.side nk nn r n).drop g.kOff).take ((k1 - k0 + 127) / 128))
      if g.part then
        accs.zipIdx.forM fun y =>
          Op.note (arrTile r y.2) ((if y.1.ovf then Mon.ofOvf 1 else .zero).add (nanMon y.1.s))
        Op.rowOut o k r (arrTile r) (accs.map (·.s))
        Op.rowOut { o with addr := o.addr + g.plane } k r (arrTile r) (accs.map (·.c))
      else
        let vs ← finish r accs
        Op.rowOut o k r (arrTile r) (vs.zipIdx.map (fun v => withBias bias g.epi v.2 v.1))

/-! WGRAD -/

/-- The operand formats WGRAD accepts (R197). -/
def wgradFmt (c : Nat) : Bool := [0x02, 0x03, 0x04, 0x05].contains c

/-- Run WGRAD: dW = dYᵀ · X over the tokens, whose rows beyond T are +0 (R197, R182). -/
def runWgrad (t : Task) : Op Unit := do
  let x ← t.td 0
  let y ← t.td 1
  let o ← t.td 2
  let f := t.inl 0 1
  Op.need (decide (f < 2 ∧ x.rows = y.rows ∧ o.rows = y.cols ∧ o.cols = x.cols ∧ o.code = 0x01)
    && wgradFmt x.code && wgradFmt y.code) 0x10
  t.readable 0 0
  t.readable 1 0
  t.writable 2 0
  let xs ← (List.range x.rows).mapM (fun r => rowExact x r (fun c => arrTile 0 c))
  let ys ← (List.range y.rows).mapM (fun r => rowExact y r (fun c => arrTile c 0))
  let xc := (transposeRows Val.zero x.cols xs).map (fun c => c.map some)
  let yc := (transposeRows Val.zero y.cols ys).map (fun c => c.map some)
  countPasses y.cols x.rows x.cols 0 (pairCovered x.fmt y.fmt)
  yc.zipIdx.forM fun n => do
    let start ← if f = 1 then rowF32 o n.2 (arrTile n.2) else pure []
    let vs ← finish n.2 (rowAcc n.1 xc start (fun _ => []))
    Op.rowOut o t.conv n.2 (arrTile n.2) vs

/-! SPLIT_COMBINE -/

/-- The monitor tile of a vector operator's output element (R173). -/
def vecTile (cols r c : Nat) : Nat := (r * cols + c) / 4096

/-- Run SPLIT_COMBINE (R191). -/
def runSplit (t : Task) : Op Unit := do
  let a ← t.td 0
  let o ← t.td 1
  let p := t.inl 0 1
  let ps := t.inl 4 4
  let plane := t.inl 8 4
  Op.need (decide (a.code = 0x01 ∧ o.rows = a.rows ∧ o.cols = a.cols ∧ 2 ≤ p ∧ p ≤ 64) && fpOut o.code) 0x10
  t.readable 0 ((p - 1) * ps + plane)
  t.writable 1 0
  (List.range a.rows).forM fun r => do
    let tile := vecTile a.cols r
    let terms ← (List.range p).mapM fun j => do
      let s ← rowF32 { a with addr := a.addr + j * ps } r tile
      let c ← rowF32 { a with addr := a.addr + j * ps + plane } r tile
      pure [s, c]
    let terms := terms.flatten
    let vs ← (List.range a.cols).mapM fun c => do
      let acc := (terms.map (fun x => nth x Val.zero c)).foldl Acc.add ⟨Val.zero, Val.zero, false⟩
      let (v, m) := acc.out
      Op.note (tile c) m
      pure v
    Op.rowOut o t.conv r tile vs

/-! CONV2D -/

/-- The output size of a convolution along one axis (R197); none where the kernel does not fit. -/
def convOut (n k st pad dil : Nat) : Option Nat :=
  if st = 0 ∨ n + 2 * pad < dil * (k - 1) + 1 then none else some ((n + 2 * pad - dil * (k - 1) - 1) / st + 1)

/-- The patch row of output position (h, w): element (kh, kw, c) in the order of W's columns. -/
def patch (rows : List (List Val)) (hIn wIn cIn kh kw sh sw ph pw dh dw h w : Nat) : List (Option Val) :=
  (List.range kh).flatMap fun i => (List.range kw).flatMap fun j =>
    let y := h * sh + i * dh
    let x := w * sw + j * dw
    if ph ≤ y ∧ y < hIn + ph ∧ pw ≤ x ∧ x < wIn + pw
    then (nth rows [] ((y - ph) * wIn + (x - pw))).map some
    else List.replicate cIn (some Val.zero)

/-- Run CONV2D: GEMM over the implicit patch matrix (R197). -/
def runConv (t : Task) : Op Unit := do
  let a ← t.td 0
  let w ← t.td 1
  let o ← t.td 2
  let b := t.td? 3
  let hIn := t.inl 0 2
  let wIn := t.inl 2 2
  let kh := t.inl 4 1
  let kw := t.inl 5 1
  let epi := t.inl 12 1
  let ho := convOut hIn kh (t.inl 6 1) (t.inl 8 1) (t.inl 10 1)
  let wo := convOut wIn kw (t.inl 7 1) (t.inl 9 1) (t.inl 11 1)
  let hOut := ho.getD 0
  let wOut := wo.getD 0
  let int := pairInt w.fmt
  Op.need (ho.isSome && wo.isSome && decide (1 ≤ kh ∧ 1 ≤ kw) && pairOk w.fmt a.fmt
    && decide (a.rows = hIn * wIn ∧ w.cols = kh * kw * a.cols ∧ w.cols % 128 = 0 ∧ o.rows = hOut * wOut
      ∧ o.cols = w.rows ∧ epi ≤ 3)
    && (if int then intOut o.code && decide (epi = 0) && b.isNone else fpOut o.code)
    && (match b with
        | some b => decide ((b.code = 0x01 ∨ b.code = 0x02) ∧ b.rows = 1 ∧ b.cols = o.cols)
        | none => true)
    && (decide (t.sparse = 0) || structClass w.fmt w.code)) 0x10
  t.readable 0 0
  t.readable 1 0
  t.readable 3 0
  t.writable 2 0
  let rows ← (List.range a.rows).mapM (fun r => rowExact a r (fun _ => arrTile 0 0))
  let (ws, _) ← wRows w t.sparse
  countPasses o.rows w.cols w.rows t.sparse (pairCovered w.fmt a.fmt)
  let bias ← biasRow b
  (List.range o.rows).forM fun r => do
    let p := patch rows hIn wIn a.cols kh kw (t.inl 6 1) (t.inl 7 1) (t.inl 8 1) (t.inl 9 1) (t.inl 10 1)
      (t.inl 11 1) (r / wOut) (r % wOut)
    if int then
      let vs ← ws.zipIdx.mapM fun wr => do
        let (v, sat) := accumulateInt (blockTerms p wr.1)
        Op.note (arrTile r wr.2) (if sat then Mon.ofOvf 1 else .zero)
        pure (Val.ofInt v)
      Op.rowOut o t.conv r (arrTile r) vs
    else
      let vs ← finish r (rowAcc p ws [] (fun _ => []))
      Op.rowOut o t.conv r (arrTile r) (vs.zipIdx.map (fun v => withBias bias epi v.2 v.1))

end Sys2Proof.Machine
end

