-- ==== Sys2Proof/Machine/VecOps.lean ====
section
/-! DEFINITION. The vector, training and data operators (R192 to R194, R203, R204, R218). -/
namespace Sys2Proof.Machine

/-- Formats a vector operator writes: Table 7.1 restricts only the operands and outputs of the arrays
(log 30, DEDUCED). -/
def outFmt (c : Nat) : Bool := (fmtOf c).isSome

/-- Same rows and columns. -/
def sameShape (a b : TD) : Bool := decide (a.rows = b.rows ∧ a.cols = b.cols)

/-- Write a row of results, each NaN counted (R168). -/
def Op.vecOut (o : TD) (k : Conv) (r : Nat) (vs : List Val) : Op Unit := do
  let tile := vecTile o.cols r
  vs.zipIdx.forM (fun v => Op.note (tile v.2) (nanMon v.1))
  Op.rowOut o k r tile vs

/-- A row of an operand decoded to FP32, counted in vector tiles. -/
def vecRow (t : TD) (r : Nat) : Op (List Val) := rowF32 t r (vecTile t.cols r)

/-- The n of a size, as FP32. -/
def sizeF (n : Nat) : Val := f32 .near (Val.ofInt n)

/-! NORM, SOFTMAX -/

/-- Run NORM (R203). -/
def runNorm (t : Task) : Op Unit := do
  let a ← t.td 0
  let o ← t.td 1
  let mode := t.inl 0 1
  let rowOk := fun (i : Nat) => match t.td? i with
    | some d => decide (d.rows = 1 ∧ d.cols = a.cols)
    | none => true
  Op.need (sameShape a o && outFmt o.code && decide (mode ≤ 1) && rowOk 2 && rowOk 3) 0x10
  t.readable 0 0
  t.readable 2 0
  t.readable 3 0
  t.writable 1 0
  let gain ← match t.td? 2 with | some d => vecRow d 0 | none => pure (List.replicate a.cols Val.one)
  let bias ← match t.td? 3 with | some d => vecRow d 0 | none => pure (List.replicate a.cols Val.zero)
  let n := sizeF a.cols
  (List.range a.rows).forM fun r => do
    let xs ← vecRow a r
    let mean := divF (compSum xs) n
    let ds := if mode = 1 then xs.map (fun x => subF x mean) else xs
    let v := addF (divF (compSum (ds.map (fun d => mulF d d))) n) (t.inlF 4)
    let root := sqrtF v
    let inv := rsqrtF v
    let ys := ds.map (fun d => if mode = 1 then divF d root else mulF d inv)
    Op.vecOut o t.conv r (((ys.zip gain).zip bias).map (fun y => addF (mulF y.1.1 y.1.2) y.2))

/-- The softmax of a row, with its maximum subtracted (R203). -/
def softmax (zs : List Val) : List Val :=
  if zs.all (fun z => decide (z = .inf true)) then zs.map (fun _ => Val.zero)
  else
    let m := zs.foldl maxF (.inf true)
    let es := zs.map (fun z => expF (subF z m))
    let s := compSum es
    es.map (fun e => divF e s)

/-- Run SOFTMAX. -/
def runSoftmax (t : Task) : Op Unit := do
  let a ← t.td 0
  let o ← t.td 1
  Op.need (sameShape a o && outFmt o.code && (match t.td? 2 with | some m => sameShape a m | none => true)) 0x10
  t.readable 0 0
  t.readable 2 0
  t.writable 1 0
  (List.range a.rows).forM fun r => do
    let xs ← vecRow a r
    let zs := xs.map (fun x => mulF x (t.inlF 0))
    let zs ← match t.td? 2 with
      | some m => do let ms ← vecRow m r; pure ((zs.zip ms).map (fun z => addF z.1 z.2))
      | none => pure zs
    Op.vecOut o t.conv r (softmax zs)

/-! VCHAIN -/

/-- The sources an operation of Table 8.3 reads: 1, 2 or 3. -/
def vArity (op : Nat) : Nat :=
  if [5, 21, 22].contains op then 3 else if [1, 2, 3, 4, 6, 7, 23].contains op then 2 else 1

/-- One step of Table 8.3. -/
def vStep (op : Nat) (a b c : Val) : Val :=
  match op with
  | 1 => addF a b | 2 => subF a b | 3 => mulF a b | 4 => divF a b | 5 => fmaF a b c
  | 6 => maxF a b | 7 => minF a b | 8 => a.abs | 9 => a.neg | 10 => expF a | 11 => logF a
  | 12 => sqrtF a | 13 => rsqrtF a | 14 => rcpF a | 15 => sigmoidF a | 16 => tanhF a | 17 => erfF a
  | 18 => geluF a | 19 => siluF a | 20 => mulF a a | 21 => minF (maxF a b) c
  | 22 => if Val.zero.lt a then b else c
  | 23 => if b.lt a then Val.one else Val.zero
  | 24 => floorF a
  | _ => rintF a

/-- The steps of a chain, up to the first END. -/
def chainSteps (t : Task) : List Nat :=
  ((List.range 16).map (fun i => t.blkW (0x40 + 4 * i))).takeWhile (fun w => decide (w % 64 ≠ 0))

/-- A step is valid: its OP, its reserved bits, and the sources it reads. -/
def chainOk (t : Task) (w : Nat) : Bool :=
  let op := w % 64
  let srcOk := fun (i : Nat) =>
    let c := nbits w (11 + 4 * i) (8 + 4 * i)
    decide (c ≠ 15) && (decide (c ≠ 5) || (t.td? 1).isSome) && (decide (c ≠ 6) || (t.td? 2).isSome)
  decide (op ≤ 25 ∧ nbits w 31 20 = 0) && (List.range (vArity op)).all srcOk

/-- The value of a source code (R194). -/
def chainSrc (t : Task) (temps tds : List Val) (r c code : Nat) : Val :=
  if code < 4 then nth temps Val.zero code
  else if code < 7 then nth tds Val.zero (code - 4)
  else if code < 11 then t.inlF (4 * (code - 7))
  else if code = 11 then Val.ofInt r
  else if code = 12 then Val.ofInt c
  else if code = 14 then Val.one
  else Val.zero

/-- T0 after the last step for one element. -/
def chainElem (t : Task) (steps : List Nat) (tds : List Val) (r c : Nat) : Val :=
  let temps := steps.foldl
    (fun (ts : List Val) w =>
      let src := fun (i : Nat) => chainSrc t ts tds r c (nbits w (11 + 4 * i) (8 + 4 * i))
      setNth ts (nbits w 7 6) (vStep (w % 64) (src 0) (src 1) (src 2))) (List.replicate 4 Val.zero)
  nth temps Val.zero 0

/-- Run VCHAIN (R194). -/
def runVchain (t : Task) : Op Unit := do
  let o ← t.td 3
  let steps := chainSteps t
  let shapeOk := fun (i : Nat) => match t.td? i with
    | some d => decide ((d.rows = 1 ∨ d.rows = o.rows) ∧ (d.cols = 1 ∨ d.cols = o.cols))
    | none => true
  Op.need (outFmt o.code && (List.range 3).all shapeOk && steps.all (chainOk t)) 0x10
  (List.range 3).forM (fun i => t.readable i 0)
  t.writable 3 0
  (List.range o.rows).forM fun r => do
    let ins ← (List.range 3).mapM fun i =>
      match t.td? i with
      | some d => do
        let v ← rowBcast d r (vecTile o.cols r)
        pure (if d.cols = 1 then List.replicate o.cols (nth v Val.zero 0) else v)
      | none => pure []
    let tds := fun (c : Nat) => ins.map (fun v => nth v Val.zero c)
    Op.vecOut o t.conv r ((List.range o.cols).map (fun c => chainElem t steps (tds c) r c))

/-! REDUCE, SAMPLE, LOSS_XENT -/

/-- The winner of a MAX or MIN and its index (R192): the first NaN where there is one. -/
def winner (isMax : Bool) (xs : List Val) : Val × Nat :=
  match findPos (fun (v : Val) => v.isNan) xs with
  | some i => (.nan, i)
  | none =>
    match xs with
    | [] => (.nan, 0)
    | x :: r =>
      (r.zipIdx).foldl
        (fun (b : Val × Nat) y =>
          let w := if isMax then maxF b.1 y.1 else minF b.1 y.1
          if w = b.1 then b else (w, y.2 + 1)) (x, 0)

/-- One reduction: value, index, and what it counts. -/
def reduce (op : Nat) (xs : List Val) : Val × Nat × Mon :=
  match op with
  | 0 => let v := compSum xs; (v, 0, nanMon v)
  | 5 => let v := compSum (xs.map (fun x => mulF x x)); (v, 0, nanMon v)
  | _ => let (v, i) := winner (decide (op = 1 ∨ op = 3)) xs; (v, i, nanMon v)

/-- Write single values, one a row or all in one row, of the shape of o. -/
def Op.column (o : TD) (k : Conv) (vs : List Val) : Op Unit :=
  if o.rows = 1 ∧ vs.length ≠ 1 then Op.rowOut o k 0 (vecTile o.cols 0) vs
  else vs.zipIdx.forM (fun v => Op.rowOut o k v.2 (vecTile 1 v.2) [v.1])

/-- Run REDUCE (R192). ARGMAX and ARGMIN write TD2 alone (log 31, DEDUCED). -/
def runReduce (t : Task) : Op Unit := do
  let a ← t.td 0
  let o ← t.td 1
  let op := t.inl 0 1
  let axis := t.inl 1 1
  let n := if axis = 0 then a.rows else a.cols
  let shape := fun (d : TD) => if axis = 0 then decide (d.rows = n ∧ d.cols = 1) else decide (d.rows = 1 ∧ d.cols = n)
  let arg := decide (op = 3 ∨ op = 4)
  Op.need (decide (op ≤ 5 ∧ axis ≤ 1) && shape o && outFmt o.code
    && (match t.td? 2 with
        | some d => shape d && decide (d.code = 0x06) && decide (op ≠ 0 ∧ op ≠ 5)
        | none => !arg)) 0x10
  t.readable 0 0
  if arg then pure () else t.writable 1 0
  t.writable 2 0
  let rows ← (List.range a.rows).mapM (vecRow a)
  let lines := if axis = 0 then rows else transposeRows Val.zero a.cols rows
  let rs := lines.map (reduce op)
  rs.zipIdx.forM (fun r => Op.note (vecTile 1 r.2 0) r.1.2.2)
  if arg then pure () else Op.column o t.conv (rs.map (·.1))
  match t.td? 2 with
  | some d => Op.column d t.conv (rs.map (fun r => Val.ofInt r.2.1))
  | none => pure ()

/-- Insert an index into a list ranked by value, ties to the lower index. -/
def rankInsert (x : Val × Nat) : List (Val × Nat) → List (Val × Nat)
  | [] => [x]
  | y :: r => if y.1.lt x.1 ∨ (x.1.isZero && y.1.isZero && !x.1.isNeg && y.1.isNeg) then x :: y :: r
    else y :: rankInsert x r

/-- The k largest of a row in rank order. -/
def topK (k : Nat) (xs : List Val) : List (Val × Nat) :=
  (xs.zipIdx.foldl (fun l x => (rankInsert x l).take k) [])

/-- The rank that a running sum of weights first carries past u. -/
def pickRank (u : Val) : List Val → Val × Val → Nat → Option Nat
  | [], _, _ => none
  | p :: r, sc, i =>
    let sc := compStep sc.1 sc.2 p
    if u.lt (addF sc.1 sc.2) then some i else pickRank u r sc (i + 1)

/-- Run SAMPLE (R203). Where no running sum exceeds u the spec states no result: a free value (log 32, DESIGN CHOICE). -/
def runSample (t : Task) : Op Unit := do
  let a ← t.td 0
  let o ← t.td 1
  let k := t.inl 0 2
  Op.need (decide (o.rows = a.rows ∧ o.cols = 1 ∧ o.code = 0x06 ∧ k ≤ 1024)) 0x10
  t.readable 0 0
  t.writable 1 0
  (List.range a.rows).forM fun r => do
    let xs ← vecRow a r
    if k = 0 then
      let (v, i) := winner true xs
      Op.note (vecTile a.cols r 0) (nanMon v)
      Op.rowOut o t.conv r (vecTile 1 r) [Val.ofInt i]
    else
      let top := topK k xs
      let ps := softmax (top.map (fun x => divF x.1 (t.inlF 4)))
      let u := mulF (mulF (f32 .near (Val.ofInt (srBits t.conv.seed r))) (Val.ofFrac (Frac.pow2 (-32)))) (compSum ps)
      match pickRank u ps (Val.zero, Val.zero) 0 with
      | some i => Op.rowOut o t.conv r (vecTile 1 r) [Val.ofInt (nth top (Val.zero, 0) i).2]
      | none => do
        let f ← Op.free 32
        Op.wr (o.rowAt r) (toLE 4 f)

/-- The 32-bit integer a row of one INT32 element holds. -/
def intAt (t : TD) (r : Nat) : Op Int := do
  let n ← Op.rdNat (t.rowAt r) 4
  pure (signed 32 n)

/-- Run LOSS_XENT (R203). -/
def runLoss (t : Task) : Op Unit := do
  let a ← t.td 0
  let y ← t.td 1
  let o ← t.td 2
  let ignore := signed 32 (t.inl 0 4)
  Op.need (decide (y.rows = a.rows ∧ y.cols = 1 ∧ y.code = 0x06 ∧ o.rows = a.rows ∧ o.cols = 1 ∧ o.code = 0x01)
    && (match t.td? 3 with | some g => sameShape a g && outFmt g.code | none => true)) 0x10
  t.readable 0 0
  t.readable 1 0
  t.writable 2 0
  t.writable 3 0
  (List.range a.rows).forM fun r => do
    let zs ← vecRow a r
    let target ← intAt y r
    if target = ignore then
      Op.vecOut o t.conv r [Val.zero]
      match t.td? 3 with
      | some g => Op.vecOut g t.conv r (zs.map (fun _ => Val.zero))
      | none => pure ()
    else if target < 0 ∨ (a.cols : Int) ≤ target then throw (.code 0x16 r)
    else
      let k := target.toNat
      let loss := subF (logF (compSum (zs.map expF))) (nth zs Val.zero k)
      Op.vecOut o t.conv r [loss]
      match t.td? 3 with
      | some g =>
        let ps := softmax zs
        Op.vecOut g t.conv r (ps.zipIdx.map (fun p =>
          mulF (subF p.1 (if p.2 = k then Val.one else Val.zero)) (t.inlF 4)))
      | none => pure ()

/-! ADAMW -/

/-- Run ADAMW (R203). -/
def runAdamw (t : Task) : Op Unit := do
  let p ← t.td 0
  let g ← t.td 1
  let m ← t.td 2
  let v ← t.td 3
  Op.need (sameShape p g && sameShape p m && sameShape p v && outFmt p.code
    && decide (g.code = 0x01 ∧ m.code = 0x01 ∧ v.code = 0x01)) 0x10
  t.readable 1 0
  t.writable 0 0
  t.writable 2 0
  t.writable 3 0
  let f := fun (i : Nat) => ofF32 (t.blkW (0x40 + 4 * i))
  let step := fun (x : (Val × Val) × (Val × Val)) =>
    let ((pv, gv), (mv, vv)) := x
    let m1 := addF (mulF (f 1) mv) (mulF (subF Val.one (f 1)) gv)
    let v1 := addF (mulF (f 2) vv) (mulF (subF Val.one (f 2)) (mulF gv gv))
    let d := divF (mulF m1 (f 5)) (addF (sqrtF (mulF v1 (f 6))) (f 3))
    -- the last subtraction is the value that is rounded to the parameter's format
    (subF pv (mulF (f 0) (addF d (mulF (f 4) pv))), m1, v1)
  (List.range p.rows).forM fun r => do
    let ps ← vecRow p r
    let gs ← vecRow g r
    let ms ← vecRow m r
    let vs ← vecRow v r
    let out := ((ps.zip gs).zip (ms.zip vs)).map step
    let plain : Conv := { t.conv with sr := false }
    Op.vecOut p t.conv r (out.map (·.1))
    Op.vecOut m plain r (out.map (·.2.1))
    Op.vecOut v plain r (out.map (·.2.2))

/-! CONVERT, QUANTIZE -/

/-- The N positions of a group to keep: the lowest non-zero ones, or the largest (QUANTIZE, R218). -/
def keepPos (prune : Bool) (k : Nat) (vs : List Val) : List Nat :=
  let nz := vs.zipIdx.filter (fun v => !v.1.isZero)
  if prune then
    let ranked := nz.foldl (fun l v => rankInsert (if v.1.isNan then .inf false else v.1.abs, v.2) l) []
    (List.range vs.length).filter (fun p => ((ranked.take k).map (·.2)).contains p)
  else (nz.take k).map (·.2)

/-- Write a structured span (R208, R218). -/
def structOut (o : TD) (sp : Nat) (prune : Bool) (k : Conv) (r : Nat) (vs : List Val) : Op Unit := do
  let (n, m) := patternOf sp
  let tile := vecTile o.cols r
  let blocks := o.fmt.encodeBlocks k (r * o.cols) vs
  let codes := blocks.flatMap (·.codes)
  let groups := groupsOf m (o.cols / m) vs
  let ovr := (groups.map (fun g => (g.filter (fun v => !v.isZero)).length - n)).sum
  Op.lenient 0 (if prune then 0 else ovr) 0x22
  let kept := groups.map (keepPos prune n)
  let slots := kept.zipIdx.flatMap fun x =>
    (x.1.map (fun p => nth codes 0 (m * x.2 + p))) ++ List.replicate (n - x.1.length) 0
  let masks := kept.map (fun ps => (ps.map (fun p => 2 ^ p)).sum)
  modify fun e => { e with tally := noteBlocks o.fmt e.tally tile blocks }
  Op.wr (o.rowAt r) (packElems o.fmt.bits slots ++ packElems m masks ++ scaleSections blocks)

/-- Write an SG4 span (R213, R218). Entries that would pass STRIDE fall under R219. -/
def sg4Out (o : TD) (k : Conv) (r : Nat) (vs : List Val) : Op Unit := do
  let tile := vecTile o.cols r
  let blocks := o.fmt.encodeBlocks k (r * o.cols) vs
  let codes := groupsOf 4 (o.cols / 4) (blocks.flatMap (·.codes))
  let live := ((groupsOf 4 (o.cols / 4) vs).zipIdx.filter (fun g => g.1.any (fun v => !v.isZero))).map (·.2)
  let room := (o.stride - o.fmt.scaleBytes o.cols - 4) / sg4Entry o.fmt
  let room := if sg4Size o.fmt o.cols room ≤ o.stride then room else room - 1
  Op.lenient 2 (live.length - room) 0x23
  let live := live.take room
  let entry := fun (g : Nat) =>
    let es := packElems o.fmt.bits (nth codes [] g)
    toLE 2 g ++ es ++ List.replicate (sg4Entry o.fmt - 2 - es.length) 0
  let body := toLE 4 live.length ++ live.flatMap entry
  modify fun e => { e with tally := noteBlocks o.fmt e.tally tile blocks }
  Op.wr (o.rowAt r) (body ++ List.replicate ((4 - body.length % 4) % 4) 0 ++ scaleSections blocks)

/-- Write a row in the mode of the output (R218). -/
def convOutRow (o : TD) (sp : Nat) (prune : Bool) (k : Conv) (r : Nat) (vs : List Val) : Op Unit :=
  if sp = 0 then Op.rowOut o k r (vecTile o.cols r) vs
  else if sp = 4 then sg4Out o k r vs
  else structOut o sp prune k r vs

/-- The output format allows the sparse mode (R207). -/
def sparseFmt (sp : Nat) (o : TD) : Bool :=
  match sp with
  | 0 => true
  | 4 => decide (0x10 ≤ o.code ∧ o.code ≤ 0x15)
  | _ => structClass o.fmt o.code

/-- Run CONVERT (R203). -/
def runConvert (t : Task) : Op Unit := do
  let a ← t.td 0
  let o ← t.td 1
  Op.need (sameShape a o && sparseFmt t.sparse o) 0x10
  t.readable 0 0
  t.writable 1 0
  (List.range a.rows).forM fun r => do
    let vs ← vecRow a r
    convOutRow o t.sparse false t.conv r vs

/-- The 8 bytes of activation side data of one K tile of a row (R171). -/
def actSide (k : Conv) (c0 : Nat) (vs : List Val) (chans : List Nat) : List Byte × Mon :=
  let xs := chans.map (fun c => nth vs Val.zero c)
  let bad := (xs.filter (fun v => !v.finite)).length
  if 0 < bad then (List.replicate 4 0 ++ [255, 0, 0, 0], Mon.ofNonf bad)
  else
    let (e, m) := mxExp sideFmt 1 (maxAbs xs)
    let cs := (xs.zip chans).map (fun x => encodeFp fpE4M3 k.sat (k.rnd (c0 + x.2)) (unscale x.1 (Frac.pow2 e)))
    let codes := cs.map (fun c => b8 c.1) ++ List.replicate (4 - cs.length) (0 : Byte)
    (codes ++ [b8 (e + 127).toNat, 0, 0, 0], cs.foldl (fun a c => a.add c.2) m)

/-- Run QUANTIZE (R203): outlier channels leave the main span for side data, and TD2 takes each row's largest
magnitude. -/
def runQuantize (t : Task) : Op Unit := do
  let a ← t.td 0
  let o ← t.td 1
  let ol := t.inl 0 8
  let nk := (a.cols + 127) / 128
  Op.need (sameShape a o && sparseFmt t.sparse o
    && (match t.td? 2 with | some d => decide (d.rows = a.rows ∧ d.cols = 1 ∧ d.code = 0x01) | none => true)
    && decide (ol < 2 ^ 44 ∧ ol % 4 = 0) && (decide (ol = 0) || decide (t.sparse = 0))) 0x10
  t.readable 0 0
  t.writable 1 (if ol = 0 then 0 else o.stride - o.rowSize 0 + 8 * o.rows * nk)
  t.writable 2 0
  if ol = 0 then pure () else Op.mayRead ol (4 * nk)
  let chans ← if ol = 0 then pure [] else readOutliers ol nk 1
  (List.range a.rows).forM fun r => do
    let vs ← vecRow a r
    match t.td? 2 with
    | some d => Op.rowOut d t.conv r (vecTile 1 r) [vs.foldl (fun m v => maxF m v.abs) Val.zero]
    | none => pure ()
    let main := vs.zipIdx.map (fun v => if (nth chans [] (v.2 / 128)).contains (v.2 % 128) then Val.zero else v.1)
    convOutRow o t.sparse true t.conv r main
    chans.zipIdx.forM fun c => do
      let (bs, m) := actSide t.conv (r * a.cols + 128 * c.2) (vs.drop (128 * c.2)) c.1
      Op.note (vecTile o.cols r (128 * c.2)) m
      Op.wr (o.behind + 8 * (r * nk + c.2)) bs

/-! Data operators -/

/-- The bytes of row r of an operand. -/
def rowBytes (t : TD) (r : Nat) : Op (List Byte) := Op.rd (t.rowAt r) (t.fmt.spanSize t.cols)

/-- The index of a row, within its table; one outside is code 0x16 under OOB 0, and counted as ENC under
OOB 1 (R204). -/
def rowIndex (ix : TD) (r n oob : Nat) : Op (Option Nat) := do
  let i ← intAt ix r
  if 0 ≤ i ∧ i < n then pure (some i.toNat)
  else if oob = 0 then throw (.code 0x16 r)
  else do
    Op.note (vecTile 1 r 0) (Mon.ofEnc 1)
    pure none

/-- Run GATHER (R203, R204). -/
def runGather (t : Task) : Op Unit := do
  let a ← t.td 0
  let ix ← t.td 1
  let o ← t.td 2
  let oob := t.inl 0 1
  Op.need (decide (ix.cols = 1 ∧ ix.code = 0x06 ∧ o.rows = ix.rows ∧ o.cols = a.cols ∧ o.code = a.code ∧ oob ≤ 1)) 0x10
  t.readable 0 0
  t.readable 1 0
  t.writable 2 0
  (List.range o.rows).forM fun r => do
    let i ← rowIndex ix r a.rows oob
    match i with
    | some i => do let bs ← rowBytes a i; Op.wr (o.rowAt r) bs
    | none => Op.rowOut o t.conv r (fun _ => vecTile 1 r 0) (List.replicate o.cols Val.zero)

/-- Run SCATTER (R203, R204): rows in ascending order; MODE 1 adds to FP32 rows. -/
def runScatter (t : Task) : Op Unit := do
  let a ← t.td 0
  let ix ← t.td 1
  let o ← t.td 2
  let mode := t.inl 0 1
  let oob := t.inl 1 1
  Op.need (decide (ix.cols = 1 ∧ ix.code = 0x06 ∧ ix.rows = a.rows ∧ o.cols = a.cols ∧ mode ≤ 1 ∧ oob ≤ 1)
    && (if mode = 1 then decide (o.code = 0x01) else decide (o.code = a.code) || outFmt o.code)) 0x10
  t.readable 0 0
  t.readable 1 0
  t.writable 2 0
  let sums ← (List.range a.rows).foldlM
    (fun (m : SMap (List Val)) r => do
      let i ← rowIndex ix r o.rows oob
      match i with
      | none => pure m
      | some i =>
        if mode = 1 then do
          let xs ← vecRow a r
          let old ← match SMap.get (m.map (fun x => (x.1, some x.2))) none i with
            | some v => pure v
            | none => vecRow o i
          pure (SMap.insert m i ((old.zip xs).map (fun x => addF x.1 x.2)))
        else if o.code = a.code then do
          let bs ← rowBytes a r
          Op.wr (o.rowAt i) bs
          pure m
        else do
          let xs ← vecRow a r
          Op.rowOut o t.conv i (vecTile o.cols i) xs
          pure m) []
  sums.forM (fun x => Op.vecOut o t.conv x.1 x.2)

/-- Run COPY. -/
def runCopy (t : Task) : Op Unit := do
  let a ← t.td 0
  let o ← t.td 1
  Op.need (sameShape a o && decide (a.code = o.code)) 0x10
  t.readable 0 0
  t.writable 1 0
  (List.range a.rows).forM fun r => do
    let bs ← rowBytes a r
    Op.wr (o.rowAt r) bs

/-- Run FILL. -/
def runFill (t : Task) : Op Unit := do
  let o ← t.td 0
  Op.need (outFmt o.code) 0x10
  t.writable 0 0
  (List.range o.rows).forM fun r =>
    Op.rowOut o t.conv r (vecTile o.cols r) (List.replicate o.cols (t.inlF 0))

/-- Run TRANSPOSE: formats with a block size of 1. -/
def runTranspose (t : Task) : Op Unit := do
  let a ← t.td 0
  let o ← t.td 1
  Op.need (decide (o.rows = a.cols ∧ o.cols = a.rows ∧ a.fmt.block = 1 ∧ o.fmt.block = 1)
    && (decide (o.code = a.code) || outFmt o.code)) 0x10
  t.readable 0 0
  t.writable 1 0
  if o.code = a.code then
    let rows ← (List.range a.rows).mapM fun r => do
      let bs ← rowBytes a r
      pure (unpackElems a.fmt.bits a.cols bs)
    (transposeRows 0 a.cols rows).zipIdx.forM (fun r => Op.wr (o.rowAt r.2) (packElems o.fmt.bits r.1))
  else
    let rows ← (List.range a.rows).mapM (vecRow a)
    (transposeRows Val.zero a.cols rows).zipIdx.forM (fun r => Op.rowOut o t.conv r.2 (vecTile o.cols r.2) r.1)

/-! ROTARY -/

/-- Run ROTARY (R200). -/
def runRotary (t : Task) : Op Unit := do
  let a ← t.td 0
  let o ← t.td 1
  let ps ← t.td 2
  let off := t.inl 0 2
  let dim := t.inl 2 2
  let mode := t.inl 4 1
  Op.need (sameShape a o && outFmt o.code && decide (ps.rows = a.rows ∧ ps.cols = 1 ∧ ps.code = 0x06)
    && decide (dim % 2 = 0 ∧ off + dim ≤ a.cols ∧ mode ≤ 1)) 0x10
  t.readable 0 0
  t.readable 2 0
  t.writable 1 0
  let freqs := (List.range (dim / 2)).map (fun i => rotFreq (t.inlF 8) (2 * i) dim)
  (List.range a.rows).forM fun r => do
    let xs ← vecRow a r
    let pos ← intAt ps r
    let p := f32 .near (Val.ofInt pos)
    let turned := freqs.zipIdx.foldl
      (fun (l : List Val) f =>
        let i := off + (if mode = 0 then 2 * f.2 else f.2)
        let j := if mode = 0 then i + 1 else i + dim / 2
        let ang := mulF p f.1
        let co := trigF 0 ang
        let si := trigF 1 ang
        let x := nth xs Val.zero i
        let y := nth xs Val.zero j
        setNth (setNth l i (subF (mulF x co) (mulF y si))) j (addF (mulF x si) (mulF y co))) xs
    Op.vecOut o t.conv r turned

end Sys2Proof.Machine
end

