-- ==== Sys2Proof/Machine/StreamOps.lean ====
section
/-! DEFINITION. Attention over KV page tables (R200, R252, R253) and the operators that serve streams: KV_WRITE,
STREAM_EMIT (R201, R321) and FRAME_FEATURES (R202). -/
namespace Sys2Proof.Machine

/-! KV page tables (Table 10.7) -/

/-- A KV root with one of its layer entries. -/
structure KvInfo where
  root : Nat
  entry : Nat
  pagePos : Nat
  pfx : Nat
  wrap : Bool
  lost : Bool
  cap : Nat
  dir : Nat
  len : Nat
  head : Nat
  rowBytes : Nat
  deriving DecidableEq, Repr

/-- The KV block of a stream could not be read: its root is marked LOST (R250, R253). -/
def State.markLost (s : State) (p n root : Nat) : State :=
  let w := s.seenBytes p (root + 4) 4
  let s := (s.put p (root + 4) (toLE 4 (leNat w ||| 2 ^ 17))).2
  let s := (s.bump Pg.tir Reg.tirCntKvlost).setReg Pg.tir Reg.tirKvlost (w32 (2 ^ 31 + n))
  (s.irq Pg.tir 17).error Pg.tir Cls.recomputed p 0x13 n

/-- The rows of a stream are written: it has a KV root and is not FREE or ARMED (R200). -/
def State.kvServed (s : State) (n : Nat) : Bool :=
  decide (s.sf64 n 0x40 ≠ 0 ∧ s.strState n ≠ Str.free ∧ s.strState n ≠ Str.armed)

/-- A range in the partition's GDDR7 range, else code 0x11. -/
def Op.inGdr (a n : Nat) : Op Unit := Op.mayWrite a n

/-- Read the root and a layer entry of a stream's KV table. -/
def kvOpen (n layer code rowBytes : Nat) : Op KvInfo := do
  let e ← get
  let root := e.s.sf64 n 0x40
  Op.inGdr root 64
  let r ← Op.rdNat root 64
  let nl := nbits r 8 0
  let pagePos := nbits r 31 16
  Op.need (decide (layer < nl ∧ nbits r 111 96 = rowBytes ∧ nbits r 119 112 = code ∧ 1 ≤ pagePos)) 0x10
  let entry := root + 64 + 16 * layer
  Op.inGdr entry 16
  let l ← Op.rdNat entry 16
  pure { root := root, entry := entry, pagePos := pagePos, pfx := nbits r 47 32, wrap := r.testBit 48,
         lost := r.testBit 49, cap := nbits r 95 64, dir := nbits l 43 0, len := nbits l 95 64,
         head := nbits l 127 96, rowBytes := rowBytes }

/-- The address of a slot's row (R252). -/
def KvInfo.rowAt (k : KvInfo) (j : Nat) : Op Nat := do
  let d := k.dir + 8 * (j / k.pagePos)
  Op.inGdr d 8
  let w ← Op.rdNat d 8
  let a := nbits w 43 0 + j % k.pagePos * k.rowBytes
  Op.inGdr a k.rowBytes
  pure a

/-- The slots of a stream from oldest to newest (R253). -/
def KvInfo.order (k : KvInfo) : List Nat :=
  let n := k.len - k.pfx
  List.range (min k.pfx k.len) ++
    (if k.len < k.cap then (List.range n).map (k.pfx + ·)
     else (List.range n).map (fun i => k.pfx + (k.head + i) % max 1 n))

/-- Read the KV rows of a stream; none where a block of them cannot be read. -/
def kvRows (k : KvInfo) : List Nat → Op (Option (List (List Byte)))
  | [] => pure (some [])
  | j :: r => do
    let a ← k.rowAt j
    let e ← get
    match e.s.read e.part a k.rowBytes with
    | (.ok bs, s) =>
      set { e with s := s }
      let rest ← kvRows k r
      pure (rest.map (bs :: ·))
    | (.error _, s) => set { e with s := s }; pure none

/-! Attention (R200) -/

/-- One head of one query row over the KV rows: scores, their exponentials, and the weighted sum. -/
def attendHead (scale : Val) (dl : Nat) (q : List Val) (kv : List (List Val)) : List Val × Mon :=
  let zs := kv.map fun row =>
    let (v, m) := dot (q.map some) (row.map some)
    (mulF scale v, m)
  let mon := zs.foldl (fun m z => m.add z.2) Mon.zero
  let m := (zs.map (·.1)).foldl maxF (.inf true)
  let es := zs.map (fun z => expF (subF z.1 m))
  let s := compSum es
  ((List.range dl).map fun i =>
    divF (compSum ((es.zip kv).map (fun x => mulF x.1 (f32 .near (nth x.2 Val.zero i))))) s, mon)

/-- All heads of one query row. -/
def attendRow (scale : Val) (heads dl dr : Nat) (q : List Val) (kv : List (List Val)) : List Val × Mon :=
  (groupsOf (dl + dr) heads q).foldl
    (fun (a : List Val × Mon) h =>
      let (v, m) := attendHead scale dl h kv
      (a.1 ++ v, a.2.add m)) ([], .zero)

/-- The shape rules of attention (R195, R200). -/
def attnOk (q o : TD) (kvFmt : Option Fmt) (heads dl dr : Nat) : Bool :=
  decide (1 ≤ heads ∧ heads ≤ 128 ∧ dl + dr ≤ 1024 ∧ dl % 32 = 0 ∧ dr % 32 = 0 ∧ 0 < dl)
    && decide (q.cols = heads * (dl + dr) ∧ o.cols = heads * dl ∧ o.rows = q.rows) && fpOut o.code
    && (match kvFmt with | some f => pairOk f q.fmt && f.cls.fp && decide ((dl + dr) % f.block = 0) | none => false)

/-- The streams of a range lie in the partition's stream range. -/
def Op.streams (base n : Nat) : Op Unit := do
  let e ← get
  Op.need ((List.range n).all (fun i => e.s.inStr e.part (base + i))) 0x11

/-- Run ATTENTION_DECODE. -/
def runDecode (t : Task) : Op Unit := do
  let q ← t.td 0
  let o ← t.td 1
  let base := t.inl 0 2
  let ns := t.inl 2 2
  let layer := t.inl 4 1
  let heads := t.inl 5 1
  let dl := t.inl 6 2
  let dr := t.inl 8 2
  let code := t.inl 10 1
  let f? := fmtOf code
  Op.need (attnOk q o f? heads dl dr && decide (q.rows = ns)) 0x10
  t.readable 0 0
  t.writable 1 0
  Op.streams base ns
  let f := f?.getD fmtF32
  (List.range ns).forM fun r => do
    let e ← get
    if !e.s.kvServed (base + r) then pure ()
    else
      let k ← kvOpen (base + r) layer code (f.spanSize (dl + dr))
      let rows ← if k.lost then pure none else kvRows k k.order
      match rows with
      | none => do
        if k.lost then pure ()
        else modify fun e => { e with s := e.s.markLost e.part (base + r) k.root }
        Op.rowOut o t.conv r (arrTile r) (List.replicate o.cols Val.zero)
      | some rows => do
        let qs ← rowExact q r (arrTile r)
        let kv := rows.map (fun b => f.decodeSpan (dl + dr) b)
        kv.forM (fun row => row.forM (fun x => Op.note (arrTile r 0) x.2))
        let (vs, m) := attendRow (t.inlF 12) heads dl dr qs (kv.map (fun row => row.map (·.1)))
        Op.note (arrTile r 0) m
        vs.zipIdx.forM (fun v => Op.note (arrTile r v.2) (nanMon v.1))
        Op.pass (passCount 1 (dl + dr) rows.length) false (pairCovered f q.fmt)
        Op.rowOut o t.conv r (arrTile r) vs

/-- Run ATTENTION_PREFILL. -/
def runPrefill (t : Task) : Op Unit := do
  let q ← t.td 0
  let k ← t.td 1
  let o ← t.td 2
  let pos0 := t.inl 0 4
  let heads := t.inl 4 1
  let causal := t.inl 5 1
  let dl := t.inl 6 2
  let dr := t.inl 8 2
  Op.need (attnOk q o (some k.fmt) heads dl dr && decide (k.cols = dl + dr ∧ causal ≤ 1)) 0x10
  t.readable 0 0
  t.readable 1 0
  t.writable 2 0
  let kv ← (List.range k.rows).mapM (fun j => rowExact k j (fun _ => arrTile 0 0))
  (List.range q.rows).forM fun r => do
    let qs ← rowExact q r (arrTile r)
    let seen := if causal = 1 then kv.take (pos0 + r + 1) else kv
    let (vs, m) := attendRow (t.inlF 12) heads dl dr qs seen
    Op.note (arrTile r 0) m
    vs.zipIdx.forM (fun v => Op.note (arrTile r v.2) (nanMon v.1))
    Op.rowOut o t.conv r (arrTile r) vs
  Op.pass (passCount (q.rows * heads) (dl + dr) k.rows) false (pairCovered k.fmt q.fmt)

/-! KV_WRITE (R200, R253, R363) -/

/-- Log a layer entry before the first KV_WRITE of a live graph to it (R363). -/
def State.kvLog (s : State) (p : Nat) (k : KvInfo) : State :=
  let x := s.schPart p
  if x.kvSeen.contains k.entry ∨ !s.rb Pg.flt (Reg.fltRcmpp p) 31 then s
  else
    let cnt := s.reg Pg.flt (Reg.fltRlogpCnt p)
    let used := fld cnt 30 16
    let s := s.setSchPart p { x with kvSeen := k.entry :: x.kvSeen }
    if used < fld cnt 15 0 then
      let base := s.reg64 Pg.flt (Reg.fltRlogpLo p) (Reg.fltRlogpHi p)
      let (_, s) := s.blockWrite p (base + 16 * used) (toLE 8 k.entry ++ toLE 4 k.len ++ toLE 4 k.head) used
      s.setRf Pg.flt (Reg.fltRlogpCnt p) 30 16 (used + 1)
    else
      let s := s.setSchPart p { s.schPart p with kvLost := k.root :: (s.schPart p).kvLost }
      if fld cnt 31 31 = 1 then s
      else (s.setRf Pg.flt (Reg.fltRlogpCnt p) 31 31 1).irq Pg.flt 22

/-- Append one row to a stream (R253). -/
def kvAppend (t : Task) (live : Bool) (r : Nat) (k : KvInfo) (f : Fmt) (vs : List Val) : Op Unit := do
  Op.need (k.len < k.cap || k.wrap) 0x19
  let slot := if k.len < k.cap then k.len else k.pfx + k.head
  let a ← k.rowAt slot
  let e ← get
  let (bs, tl) := f.encodeSpan t.conv (r * vs.length) (vecTile vs.length r) vs e.tally
  set { e with tally := tl }
  modify fun e => if live then { e with s := e.s.kvLog e.part k } else e
  Op.wr a (bs ++ List.replicate (k.rowBytes - bs.length) 0)
  if k.len < k.cap then Op.wr (k.entry + 8) (toLE 4 (k.len + 1))
  else Op.wr (k.entry + 12) (toLE 4 ((k.head + 1) % max 1 (k.cap - k.pfx)))

/-- Run KV_WRITE. -/
def runKvWrite (t : Task) (live : Bool) : Op Unit := do
  let a ← t.td 0
  let base := t.inl 0 2
  let ns := t.inl 2 2
  let layer := t.inl 4 1
  let code := t.inl 5 1
  let f? := fmtOf code
  Op.need (decide (a.rows = ns)
    && (match f? with | some f => decide (a.cols % f.block = 0) | none => false)
    && (match t.td? 1 with | some m => decide (m.rows = a.rows ∧ m.cols = 1 ∧ m.code = 0x07) | none => true)) 0x10
  t.readable 0 0
  t.readable 1 0
  Op.streams base ns
  let f := f?.getD fmtF32
  (List.range ns).forM fun r => do
    let m ← match t.td? 1 with
      | some d => Op.rdNat (d.rowAt r) 1
      | none => pure 1
    let e ← get
    if m = 0 ∨ !e.s.kvServed (base + r) then pure ()
    else
      let k ← kvOpen (base + r) layer code (f.spanSize a.cols)
      if k.lost then pure ()
      else
        let vs ← vecRow a r
        kvAppend t live r k f vs

/-! STREAM_EMIT (R201, R321) -/

/-- The z of R163 before its final shift. -/
def mixWord (seed c : Nat) : Nat :=
  let m := 2 ^ 64
  let z := (seed * 0x9E3779B97F4A7C15 + c * 0xD1B54A32D192ED03) % m
  let z := (z ^^^ (z >>> 30)) * 0xBF58476D1CE4E5B9 % m
  let z := (z ^^^ (z >>> 27)) * 0x94D049BB133111EB % m
  z ^^^ (z >>> 31)

/-- A row enters the digest of its live step (R321). -/
def State.digestRow (s : State) (p n : Nat) (step : W32) (bs : List Byte) : State :=
  if !s.rb Pg.tol (Reg.tolTwinp p) 31 then s
  else
    match (s.schPart p).live with
    | some g =>
      let z := mixWord (crc32c bs).toNat (n * 2 ^ 32 + step.toNat)
      s.setGraph p false (some { g with digest := g.digest + BitVec.ofNat 64 z })
    | none => s

/-- Run STREAM_EMIT for a graph of a step. -/
def runEmit (t : Task) (live : Bool) (step : W32) : Op Unit := do
  let a ← t.td 0
  let o ← t.td 1
  let base := t.inl 0 2
  let ns := t.inl 2 2
  Op.need (sameShape a o && decide (a.code = o.code ∧ a.rows = ns)) 0x10
  t.readable 0 0
  t.writable 1 0
  Op.streams base ns
  let rows ← (List.range ns).mapM (rowBytes a)
  rows.zipIdx.forM fun r => do
    let n := base + r.2
    let e ← get
    let held := decide (e.s.sf n 0 9 9 = 1) && e.s.pastDeadline n step
    modify fun e => if live then { e with s := e.s.digestRow e.part n step r.1 } else e
    if held then pure () else Op.wr (o.rowAt r.2) r.1

/-! FRAME_FEATURES (R202) -/

/-- A radix-2 decimation-in-time transform of 2^n points, each butterfly in FP32 (log 33, DEDUCED: the twiddles are
the correctly rounded cosine and sine). -/
def fft : Nat → List (Val × Val) → List (Val × Val)
  | 0, x => x
  | n + 1, x =>
    let ev := fft n ((x.zipIdx.filter (fun v => decide (v.2 % 2 = 0))).map (·.1))
    let od := fft n ((x.zipIdx.filter (fun v => decide (v.2 % 2 = 1))).map (·.1))
    let ts := (ev.zip od).zipIdx.map fun p =>
      let q := Frac.of (p.2 : Int) (2 ^ (n + 1))
      let c := turnF 0 q
      let s := (turnF 1 q).neg
      let (br, bi) := p.1.2
      let tr := subF (mulF br c) (mulF bi s)
      let ti := addF (mulF br s) (mulF bi c)
      (p.1.1, (tr, ti))
    ts.map (fun p => (addF p.1.1 p.2.1, addF p.1.2 p.2.2)) ++ ts.map (fun p => (subF p.1.1 p.2.1, subF p.1.2 p.2.2))

/-- What a stream's binding entry of the present step shows: flag, and the payload where a record is read. -/
def boundFrame (n : Nat) : Op (Nat × Option (List Byte)) := do
  let e ← get
  let base := e.s.reg64 Pg.str (Reg.strBindpLo e.part) (Reg.strBindpHi e.part)
  let a := base + 16 * (n - e.s.rf (Pg.par e.part) Reg.parStr 12 0)
  Op.inGdr a 16
  let w ← Op.rdNat a 16
  let rec_ := nbits w 63 0
  let typ := nbits w 66 64
  let flag := if w.testBit 68 then 3 else typ
  if typ = 0 ∧ rec_ ≠ 0 then
    Op.inGdr rec_ 64
    let h ← Op.rdNat rec_ 64
    let len := nbits h (8 * 0x30 + 31) (8 * 0x30)
    Op.inGdr (rec_ + 64) len
    let bs ← Op.rd (rec_ + 64) len
    pure (flag, some bs)
  else pure (flag, none)

/-- The samples of one channel, or the mean of all, of interleaved 16-bit PCM (R202; log 34, DESIGN CHOICE for the number of
channels). -/
def pcmSamples (bs : List Byte) (frameLen ch : Nat) : Option (List Val) :=
  let all := (unpackElems 16 (bs.length / 2) bs).map (fun x => Val.ofInt (signed 16 x))
  let nch := max 1 (all.length / max 1 frameLen)
  let frames := groupsOf nch (all.length / nch) all
  if nch < ch then none
  else some (frames.map (fun f => if ch = 0 then divF (compSum f) (sizeF nch) else nth f Val.zero (ch - 1)))

/-- The features of one window. -/
def melFeatures (n : Nat) (win : List Val) (bank : List (List Val)) (eps : Val) (xs : List Val) : List Val :=
  let spec := fft n ((xs.zip win).map (fun x => (mulF x.1 x.2, Val.zero)))
  let pow := (spec.take (2 ^ n / 2 + 1)).map (fun z => addF (mulF z.1 z.1) (mulF z.2 z.2))
  bank.map (fun b => logF (maxF (compSum ((b.zip pow).map (fun x => mulF x.1 x.2))) eps))

/-- Run FRAME_FEATURES. -/
def runFeatures (t : Task) : Op Unit := do
  let o ← t.td 0
  let mel ← t.td 1
  let win ← t.td 3
  let base := t.inl 0 2
  let ns := t.inl 2 2
  let kind := t.inl 4 1
  let ch := t.inl 5 1
  let nfft := t.inl 6 2
  let hop := t.inl 8 2
  let nmel := t.inl 10 2
  let lg := Nat.log2 (max 1 nfft)
  Op.need (decide (o.rows = ns ∧ kind ≤ 1 ∧ ch ≤ 8) && outFmt o.code
    && (match t.td? 2 with | some d => decide (d.rows = ns ∧ d.cols = 1 ∧ d.code = 0x07) | none => true)
    && (decide (kind = 1) || decide (2 ^ lg = nfft ∧ 64 ≤ nfft ∧ nfft ≤ 4096 ∧ 1 ≤ hop ∧ 1 ≤ nmel
          ∧ mel.rows = nmel ∧ mel.cols = nfft / 2 + 1 ∧ mel.code = 0x01 ∧ win.rows = 1 ∧ win.cols = nfft
          ∧ win.code = 0x01 ∧ o.cols % nmel = 0))) 0x10
  if kind = 0 then t.readable 1 0 else pure ()
  if kind = 0 then t.readable 3 0 else pure ()
  t.writable 0 0
  t.writable 2 0
  Op.streams base ns
  let bank ← if kind = 0 then (List.range nmel).mapM (vecRow mel) else pure []
  let w ← if kind = 0 then vecRow win 0 else pure []
  (List.range ns).forM fun r => do
    let (flag, frame) ← boundFrame (base + r)
    let e ← get
    let vs ←
      if kind = 1 then
        match frame with
        | some bs => do
          Op.need (decide (bs.length = o.cols)) 0x10
          pure (bs.map (fun b => divF (Val.ofInt b.toNat) (Val.ofInt 255)))
        | none => pure (List.replicate o.cols Val.zero)
      else
        match frame with
        | some bs => do
          let some xs := pcmSamples bs (e.s.sf (base + r) 4 23 0) ch | Op.fail 0x10
          Op.need (decide (nfft ≤ xs.length ∧ o.cols = ((xs.length - nfft) / hop + 1) * nmel)) 0x10
          pure ((List.range ((xs.length - nfft) / hop + 1)).flatMap
            (fun i => melFeatures lg w bank (t.inlF 12) ((xs.drop (i * hop)).take nfft)))
        | none =>
          let z := melFeatures lg w bank (t.inlF 12) (List.replicate nfft Val.zero)
          pure ((List.range (o.cols / nmel)).flatMap (fun _ => z))
    Op.vecOut o t.conv r vs
    match t.td? 2 with
    | some d => Op.wr (d.rowAt r) [b8 flag]
    | none => pure ()

end Sys2Proof.Machine
end

