-- ==== Sys2Proof/Machine/Tier.lean ====
section
/-! DEFINITION. GDDR7 and its errors (R235 to R238, R250, R251), migration (R242 to R245), and the CXL ports
(R249, R387). -/
namespace Sys2Proof.Machine

/-! GDDR7 controllers -/

/-- The halves in use of a controller, bit k for half 2n + k. -/
def State.gmcHalves (s : State) (n : Nat) : Nat := fld s.tier.inUse (2 * n + 1) (2 * n)

/-- The halves the removal registers leave in use (R235). -/
def State.halvesLeft (s : State) : BitVec 64 :=
  ~~~(BitVec.ofNat 64 (s.reg64 Pg.tir Reg.tirHremoveLo Reg.tirHremoveHi))

/-- Every GMC page is OFF. -/
def State.gmcAllOff (s : State) : Bool := (List.range 32).all (fun n => decide ((s.page (Pg.gmc n)).st = .off))

/-- A removal takes effect: the window takes its new layout, and the contents of GDDR7 are lost. -/
def State.takeHalves (s : State) : State :=
  if s.halvesLeft = s.tier.inUse then s
  else
    { s with mem := SMap.dropRange s.mem 0 0x2000000000, poison := [],
             tier := { s.tier with inUse := s.halvesLeft, frames := [] } }

/-- The start sequence writes every data block behind a controller with zeros (R238). -/
def State.gmcZero (s : State) (n : Nat) : State :=
  let mine := fun (a : Nat) => decide (a < 0x2000000000) && decide (s.halfOf a / 2 = n)
  { s with mem := SMap.dropIf s.mem mine, poison := s.poison.dropIf (fun b => mine (b * 512)) }

/-- EDC_ERROR (R236, R238): a retried burst is a corrected error (log 46, DEDUCED); a burst that still fails after the
retrain is code 0x12, and the second within 10^9 ticks quarantines the page and stops the device. -/
def State.doEdc (s : State) (n : Nat) (out : EdcOutcome) : State :=
  let pg := Pg.gmc n
  if !s.isOn pg then s
  else
    let s := s.bump pg Reg.gmcCntEdc
    match out with
    | .retried _ => s.error pg Cls.corrected 0 0 0
    | .retrained => ((s.bump pg Reg.gmcCntRetrain).irq pg 18).error pg Cls.corrected 0 0 0
    | .exhausted =>
      let s := (s.bump pg Reg.gmcCntRetrain).irq pg 18
      let (p, s) := s.freeBits 3
      let s := s.errorOpen pg Cls.task p 0x12
      let g := s.gmc n
      let twice := g.edcAt.any (fun t => decide (s.now ≤ t + 1000000000))
      let s := s.setGmc n { g with edcAt := [s.now] }
      if twice then (s.quarantine pg).errorOpen pg Cls.device 0 0x15 else s

/-- GDDR7_HOT (R237): the device temperature, and HOT from 85 °C. -/
def State.doHot (s : State) (n : Nat) (temp : Int) : State :=
  let g := s.gmc n
  let hot := decide (85 ≤ temp)
  let s := s.setGmc n { g with temp := twos 8 temp, hot := hot }
  if hot ∧ !g.hot then s.irq (Pg.gmc n) 19 else s

/-! Blocks that fail their detection code (R250) -/

/-- The partition whose access met a block. -/
def State.readerPart (s : State) : Reader → Nat
  | .core c => match (s.core c.val).run with
    | some r => r.part
    | none => (s.core c.val).lastPart
  | .kv n => s.strPart n.toNat
  | .block p => p.val
  | .port n => (nth (s.portParts n.val) 0 0)

/-- A block that fails twice at a GDDR7 address of its own (Table 10.6). -/
def State.blockFails (s : State) (a : Nat) (r : Reader) : State :=
  let p := s.readerPart r
  let pg := s.gmcPage a
  if s.inFirmware (a / 512 * 512) 512 then s.errorOpen pg Cls.device 0 0x14
  else
    let s := (s.poisonBlock (a / 512)).irq pg 17
    match r with
    | .kv n => (s.errorOpen pg Cls.recomputed p 0x11).markLost p n.toNat (s.sf64 n.toNat 0x40)
    | .core c => (s.errorOpen pg Cls.task p 0x11).taskEnd c.val
    | .block _ => (s.errorOpen pg Cls.task p 0x11).failLive p
    | .port _ => s.errorOpen pg Cls.task p 0x11

/-- DETECTION_FAILURE. -/
def State.doDetection (s : State) (a : Nat) (second : Bool) (r : Reader) : State :=
  let p := s.readerPart r
  let held : Option Nat := if cxlBase ≤ a then s.frameOf p a .resident else none
  let place : Option Nat := if cxlBase ≤ a then held.map (fun f => f * 2 ^ 21 + a % 2 ^ 21)
    else if a < s.dataEnd then some a else none
  match place with
  | none => s
  | some g =>
    let pg := s.gmcPage g
    let s := (((s.bump pg Reg.gmcCntDet).irq pg 16).setReg64 pg Reg.gmcErraddrLo Reg.gmcErraddrHi (g / 512 * 512))
    if !second then (s.bump pg Reg.gmcCntTransient).errorOpen pg Cls.recomputed p 0x16
    else
      match held with
      | some f =>
        let s := ((s.bump Pg.tir Reg.tirCntRefetch).irq Pg.tir 19).errorOpen pg Cls.recomputed p 0x16
        { s with tier := { s.tier with refetch := s.tier.refetch ++ [⟨a / 4096 * 4096, f, r⟩] } }
      | none => s.blockFails a r

/-! CXL reads that return poison or fail their integrity check (R249) -/

/-- The error of a CXL port whose read returned poison or failed IDE. -/
def State.cxlBad (s : State) (a p : Nat) (out : CxlResult) : State :=
  let pg := Pg.cxl (s.cxlMap a).1
  match out with
  | .data => s
  | .poison => ((s.bump pg Reg.cxlCntPoison).irq pg 17).errorOpen pg Cls.task p 0x11
  | .ideFail => ((s.bump pg Reg.cxlCntIdefail).irq pg 18).errorOpen pg Cls.task p 0x12

/-- A core whose CXL read is not served: its task ends under TIR code 0x12. -/
def State.cxlTaskEnd (s : State) (c : Nat) : State :=
  match (s.core c).run with
  | some r => (s.error Pg.tir Cls.task r.part 0x12 r.index).taskEnd c
  | none => s

/-- CXL lines moved between a range and the CXL tier. -/
def State.cxlLines (s : State) (a n : Nat) (write : Bool) : State :=
  (List.range (n / 64)).foldl
    (fun s i =>
      let (port, hpa) := s.cxlMap (a + 64 * i)
      (s.bump (Pg.cxl port) (if write then Reg.cxlCntWr else Reg.cxlCntRd)).send (.cxl port hpa write)) s

/-- Copy bytes of the CXL tier, as stored there, to a GDDR7 address. -/
def State.cxlCopyIn (s : State) (a g n : Nat) : State :=
  (s.storeBlocks g ((List.range n).map (fun i => Memory.read s.mem (s.cxlLoc (a + i))))).2

/-- REFETCH_COMPLETE: the 4 KiB come back into their frame, unless it was evicted meanwhile; a failed read
follows R249. -/
def State.doRefetch (s : State) (a : Nat) (out : CxlResult) : State :=
  match s.tier.refetch.find? (fun x => decide (x.addr = a / 4096 * 4096)) with
  | none => s
  | some x =>
    let s := { s with tier := { s.tier with refetch := s.tier.refetch.erase x } }
    let p := s.readerPart x.reader
    if s.frameOf p x.addr .resident ≠ some x.frame then s
    else
      match out with
      | .data => (s.cxlLines x.addr 4096 false).cxlCopyIn x.addr (x.frame * 2 ^ 21 + x.addr % 2 ^ 21) 4096
      | _ =>
        let s := s.cxlBad x.addr p out
        match x.reader with
        | .core c => s.cxlTaskEnd c.val
        | .port _ => s
        | _ => (s.errorOpen Pg.tir Cls.task p 0x12).failLive p

/-! Migration (R242 to R245) -/

def State.setFrame (s : State) (f : Nat) (x : Option Frame) : State :=
  { s with tier := { s.tier with frames := s.tier.frames.set none f x } }
def State.frame (s : State) (f : Nat) : Option Frame := s.tier.frames.get none f

/-- Release a frame, counted as an eviction. -/
def State.evictFrame (s : State) (f : Nat) : State :=
  if (s.frame f).isSome then (s.setFrame f none).bump Pg.tir Reg.tirCntEvict else s

/-- The frame that holds a CXL page, in any state. -/
def State.frameHolding (s : State) (p cpage : Nat) : Option Nat :=
  (s.tier.frames.find? (fun kv => kv.2.any (fun f => decide (f.part = p ∧ f.cpage = cpage)))).map (·.1)

/-- Fields of a migration entry (Table 10.4). -/
def migOp (d : BitVec 256) : Nat := dfld d 0 3 0
def migPages (d : BitVec 256) : Nat := dfld d 0 31 16
def migCxl (d : BitVec 256) : Nat := dfld d 8 63 0
def migGdr (d : BitVec 256) : Nat := dfld d 0x10 63 0

/-- The wait of a list entry at a word offset: in force, its counter and its threshold. -/
def listWait (d : BitVec 512) (off : Nat) : Bool × Nat × Nat :=
  (decide (dfld d off 31 31 = 1), dfld d off 30 16, dfld d off 15 0)

/-- A list entry's wait is met against the active live graph (R243, R290). -/
def State.listWaitMet (s : State) (p : Nat) (w : Bool × Nat × Nat) : Bool :=
  !w.1 || ((s.schPart p).live.isSome && decide (w.2.2 ≤ s.ctr w.2.1))

/-- A list entry's wait counter lies outside the active live graph's range. -/
def State.listWaitBad (s : State) (p : Nat) (w : Bool × Nat × Nat) : Bool :=
  w.1 && (match (s.schPart p).live with
    | some g => !g.hasCtr w.2.1
    | none => false)

/-- An entry is valid (R244, R245). -/
def State.migOk (s : State) (p : Nat) (d : BitVec 256) : Bool :=
  let n := migPages d * 2 ^ 21
  decide (1 ≤ migOp d ∧ migOp d ≤ 3 ∧ 1 ≤ migPages d) && decide (dfld d 0 15 4 = 0 ∧ dfld d 0x18 63 0 = 0)
    && decide (migCxl d % 2 ^ 21 = 0) && s.inCxl p (migCxl d) n
    && (if migOp d = 2 then decide (migGdr d = 0)
        else decide (migGdr d % 2 ^ 21 = 0) && s.inGdr p (migGdr d) n)
    && (decide (migOp d ≠ 3) ||
        (bit (s.reg Pg.tir Reg.tirCtrl) (8 + p)
          && (List.range (migPages d)).all (fun i => (s.frameHolding p ((migCxl d - cxlBase) / 2 ^ 21 + i)).isNone)))

/-- Halt a partition's list under code 0x10 (R245). -/
def State.migHalt (s : State) (p entry : Nat) : State :=
  ((s.setMig p { s.mig p with halted := true }).irq Pg.tir 16).error Pg.tir Cls.task p 0x10 entry

/-- Set up the next page of a FILL: evict what its frame holds and set it FILLING; a page already in that
frame needs nothing. Answers the run with its position; k bounds the pages. -/
def State.fillSetup (s : State) (p : Nat) : Nat → MigRun → Option MigRun × State
  | 0, _ => (none, s)
  | k + 1, r =>
    if r.npage ≤ r.done then (none, s)
    else
      let f := r.gdr / 2 ^ 21 + r.done
      let c := (r.cxl - cxlBase) / 2 ^ 21 + r.done
      if s.frame f = some ⟨.resident, p, c⟩ then State.fillSetup s p k { r with done := r.done + 1 }
      else (some r, (s.evictFrame f).setFrame f (some ⟨.filling, p, c⟩))

/-- Replace the run of an entry, or end it. -/
def State.setMigRun (s : State) (p entry : Nat) (r : Option MigRun) : State :=
  let m := s.mig p
  let rest := m.running.filter (fun x => decide (x.entry ≠ entry))
  s.setMig p { m with running := match r with | some x => rest ++ [x] | none => rest }

/-- Start an entry that is valid. -/
def State.migBegin (s : State) (p entry : Nat) (d : BitVec 256) : State :=
  let r : MigRun := { entry := entry, op := migOp d, npage := migPages d, cxl := migCxl d, gdr := migGdr d, done := 0 }
  match migOp d with
  | 1 =>
    match s.fillSetup p (r.npage + 1) r with
    | (some r, s) => s.setMigRun p entry (some r)
    | (none, s) => s
  | 2 =>
    (List.range r.npage).foldl
      (fun s i =>
        match s.frameHolding p ((r.cxl - cxlBase) / 2 ^ 21 + i) with
        | some f => s.evictFrame f
        | none => s) s
  | _ => s.setMigRun p entry (some r)

/-- MIGRATION_START: the next entry of a partition's list, at most 8 in progress. -/
def State.doMigration (s : State) (p : Nat) : State :=
  let m := s.mig p
  let count := s.rf Pg.tir (Reg.tirMigpCnt p) 15 0
  if !s.isOn Pg.tir ∨ m.halted ∨ count ≤ m.pos ∨ 8 ≤ m.running.length ∨ s.parOff p ∨ bit s.stopped p then s
  else
    match s.blockRead p (s.reg64 Pg.tir (Reg.tirMigpLo p) (Reg.tirMigpHi p) + 32 * m.pos) 32 m.pos with
    | (none, s) => (s.setMig p { s.mig p with halted := true }).failLive p
    | (some bs, s) =>
      let d := wordsOf 256 bs
      let w := listWait (d.truncate 512) 4
      if s.listWaitBad p w ∨ !s.migOk p d then s.migHalt p m.pos
      else if !s.listWaitMet p w then s
      else (s.setMig p { m with pos := m.pos + 1 }).migBegin p m.pos d

/-- The list restarts at a live launch (R243). -/
def State.migRestart (s : State) (p : Nat) : State :=
  if s.rb Pg.tir (Reg.tirMigpCnt p) 16 then
    let m := s.mig p
    let left := s.rf Pg.tir (Reg.tirMigpCnt p) 15 0 - m.pos
    (s.bumpBy Pg.tir Reg.tirCntAbandon left).setMig p { m with pos := 0, halted := false }
  else s

/-- The page of a FILL whose frame is FILLING is in its frame now: RESIDENT at one edge. -/
def State.fillDone (s : State) (p : Nat) (r : MigRun) : State :=
  let f := r.gdr / 2 ^ 21 + r.done
  let c := (r.cxl - cxlBase) / 2 ^ 21 + r.done
  let a := cxlBase + c * 2 ^ 21
  let old := (s.tier.frames.filter (fun kv => decide (kv.1 ≠ f ∧ kv.2 = some ⟨.resident, p, c⟩))).map (·.1)
  let s := old.foldl (fun s g => s.evictFrame g) s
  let s := (((s.cow p (f * 2 ^ 21) (2 ^ 21)).cxlLines a (2 ^ 21) false).cxlCopyIn a (f * 2 ^ 21) (2 ^ 21))
  (s.setFrame f (some ⟨.resident, p, c⟩)).bump Pg.tir Reg.tirCntFill

/-- FILL_PAGE_COMPLETE: the page in hand of a FILL; a poisoned read leaves its frame free (R249). -/
def State.doFillPage (s : State) (p entry : Nat) (out : CxlResult) : State :=
  match (s.mig p).running.find? (fun r => decide (r.entry = entry ∧ r.op = 1)) with
  | none => s
  | some r =>
    let f := r.gdr / 2 ^ 21 + r.done
    let s := match out with
      | .data => s.fillDone p r
      | _ => ((s.setFrame f none).cxlBad (r.cxl + r.done * 2 ^ 21) p out).error Pg.tir Cls.task p 0x12 entry
    match s.fillSetup p (r.npage + 1) { r with done := r.done + 1 } with
    | (some r, s) => s.setMigRun p entry (some r)
    | (none, s) => s.setMigRun p entry none

/-- Store bytes that partition p sees at a CXL address, as the CXL tier holds them: under KC where it holds one
(R396). -/
def State.cxlPut (s : State) (p a : Nat) (bs : List Byte) : State :=
  let cs := match (s.partSec p).kc with
    | some k => cryptFrom true k (a - s.cxlLo p) (bs.length / 16) bs
    | none => bs
  (List.range cs.length).foldl (fun s i => s.store (s.cxlLoc (a + i)) [nth cs 0 i]) s

/-- STORE_PAGE_COMPLETE: the page in hand of a STORE is in the CXL tier; a source that cannot be read fails the
live graph, and the page is left out (R231, Table 10.6). -/
def State.doStorePage (s : State) (p entry : Nat) : State :=
  match (s.mig p).running.find? (fun r => decide (r.entry = entry ∧ r.op = 3)) with
  | none => s
  | some r =>
    let a := r.cxl + r.done * 2 ^ 21
    let s := match s.blockRead p (r.gdr + r.done * 2 ^ 21) (2 ^ 21) entry with
      | (some bs, s) => (s.cxlPut p a bs).cxlLines a (2 ^ 21) true
      | (none, s) => s.failLive p
    s.setMigRun p entry (if r.done + 1 < r.npage then some { r with done := r.done + 1 } else none)

/-! CXL ports -/

/-- CXL_READ_COMPLETE: data was delivered with the read; poison or an IDE failure goes to who asked (R249). -/
def State.doCxlRead (s : State) (a : Nat) (r : CxlReader) (out : CxlResult) : State :=
  match out with
  | .data => s
  | _ =>
    match r with
    | .core c =>
      match (s.core c.val).run with
      | some x => (s.cxlBad a x.part out).cxlTaskEnd c.val
      | none => s
    | .fill p e => s.doFillPage p.val e.toNat out
    | .refetch _ => s.doRefetch a out
    | .other p => (s.cxlBad a p.val out).failLive p.val

/-- CXL_LINK_LOSS: a port ON enters QUARANTINED with code 0x14 (log 47, DESIGN CHOICE for its class). -/
def State.doCxlLoss (s : State) (n : Nat) : State :=
  if s.isOn (Pg.cxl n) then
    let s := s.setCxlPort n { s.cxlPort n with up := false, ide := false }
    ((s.irq (Pg.cxl n) 16).errorOpen (Pg.cxl n) Cls.recomputed 0 0x14).quarantine (Pg.cxl n)
  else s

/-- IDE_ACTIVE_LOST (R387): while a Confidential partition with a CXL range is not OFF, a port ON that loses it
enters QUARANTINED with code 0x12. -/
def State.doIdeLost (s : State) (n : Nat) : State :=
  if s.isOn (Pg.cxl n) ∧ (s.cxlPort n).ide then
    let s := s.setCxlPort n { s.cxlPort n with ide := false }
    let who := (List.range 8).find? (fun p => !s.parOff p && s.parConf p && decide (s.cxlLo p < s.cxlHi p))
    match who with
    | some p => ((s.irq (Pg.cxl n) 18).errorOpen (Pg.cxl n) Cls.task p 0x12).quarantine (Pg.cxl n)
    | none => s
  else s

end Sys2Proof.Machine
end

