-- ==== Sys2Proof/Machine/Control.lean ====
section
/-! DEFINITION. Control ports: the flit link layer, the order and protection of requests, and the messages that
need no register or key (R343 to R349, R394). -/
namespace Sys2Proof.Machine

/-! Flits (Table 14.4, R343 to R345) -/

/-- A field of a flit, at a byte offset. -/
def flitFld (f : BitVec 512) (off hi lo : Nat) : Nat := fld f (8 * off + hi) (8 * off + lo)

/-- The flit's CRC holds. -/
def flitOk (f : BitVec 512) : Bool := decide (crc32c (toLE 60 f.toNat) = w32 (flitFld f 0x3C 31 0))

/-- The sequence number of a flit. -/
def flitSeq (f : BitVec 512) : W16 := BitVec.ofNat 16 (flitFld f 2 15 0)

/-- The flits after the one acknowledged; all of them where none carries that number. -/
def afterAck (fack : W16) (l : List (BitVec 512)) : List (BitVec 512) :=
  match findPos (fun f => decide (flitSeq f = fack)) l with
  | some i => l.drop (i + 1)
  | none => l

/-- The message a list of assembled bytes spells (Table 14.5). -/
def msgOf (bs : List Byte) : Msg :=
  let w := leNat (bs.take 4)
  { type := nbits w 7 0, resp := w.testBit 8, last := w.testBit 9, prot := w.testBit 10,
    mseq := w32 (leNat ((bs.drop 4).take 4)), status := nbits (leNat ((bs.drop 8).take 4)) 3 0,
    rseq := w32 (leNat ((bs.drop 12).take 4)), payload := (bs.drop 16).take (nbits w 29 16) }

/-- A swap of the control port's lane is in progress: neither end counts resends or gaps (R336). -/
def State.ctlSwapping (s : State) (port : Nat) : Bool :=
  (s.engine 11).swaps.any (fun x => decide (x.logical = port))

/-- Resend the retry buffer of a port (R344). -/
def State.resendFlits (s : State) (port : Nat) : State :=
  let c := s.ctlPort port
  c.retry.foldl (fun s f => (s.bump (Pg.ctp port) Reg.ctpCntRetry).send (.flit port f)) s

/-- What a flit in sequence acknowledges and frees, and the resend it asks for (R344). -/
def State.flitLink (s : State) (port : Nat) (f : BitVec 512) : State :=
  let c := s.ctlPort port
  let left := afterAck (BitVec.ofNat 16 (flitFld f 4 15 0)) c.retry
  let nak := flitFld f 6 15 15 = 1
  let resends :=
    if left.length < c.retry.length then (if nak then 1 else 0) else if nak ∧ !s.ctlSwapping port then c.resends + 1 else c.resends
  let s := s.setCtlPort port { c with retry := left, resends := resends, credit := c.credit + flitFld f 6 11 0 }
  if nak then s.resendFlits port else s

/-- A HEAD or BODY flit delivers its content to message assembly (R345). -/
def State.flitContent (s : State) (port : Nat) (f : BitVec 512) : State :=
  let c := s.ctlPort port
  let content := (toLE 64 f.toNat).drop 8 |>.take 52
  let asm := if flitFld f 0 1 0 = 1 then content else if c.asm.isEmpty then [] else c.asm ++ content
  let need := if flitFld f 0 1 0 = 1 then 16 + nbits (leNat (content.take 4)) 29 16 else c.asmLen
  let c := { c with freed := c.freed + 1, nodeAt := s.now, silent := false }
  if asm.isEmpty then s.setCtlPort port c
  else if need ≤ asm.length then
    (s.setCtlPort port { c with asm := [], asmLen := 0, arrived := c.arrived ++ [msgOf (asm.take need)] }).bump
      (Pg.ctp port) Reg.ctpCntRxmsg
  else s.setCtlPort port { c with asm := asm, asmLen := need }

/-- The control port can carry messages: its page is ON, engine 11 runs and its link is UP. -/
def State.ctlUp (s : State) (port : Nat) : Bool :=
  s.isOn (Pg.ctp port) && s.isOn (Pg.ope 11) && decide ((s.ctlPort port).link = .up)

/-- CONTROL_FLIT: a flit arrives (R344). An IDLE flit repeats the last FSEQ its sender sent. -/
def State.doControlFlit (s : State) (port : Nat) (f : BitVec 512) : State :=
  if !s.ctlUp port then s
  else if !flitOk f then (s.bump (Pg.ctp port) Reg.ctpCntCrcerr).idleFlit port true
  else
    let c := s.ctlPort port
    let s := s.setCtlPort port { c with lastFlit := s.now }
    let kind := flitFld f 0 1 0
    if kind = 3 then s
    else if kind = 0 then
      if flitSeq f = c.fseqRx then State.pump (s.flitLink port f) port 256 else s.idleFlit port true
    else if flitSeq f ≠ c.fseqRx + 1 then s.idleFlit port true
    else
      let s := s.setCtlPort port { s.ctlPort port with fseqRx := flitSeq f }
      let s := (s.flitLink port f).flitContent port f
      (State.pump s port 256).idleFlit port false

/-- A control port's link is lost (R338, R344). -/
def State.ctlLost (s : State) (port : Nat) : State :=
  let s := s.setCtlPort port { s.ctlPort port with link := .lost, resends := 0 }
  ((s.errorOpen (Pg.ctp port) Cls.recomputed 0 0x12).bump (Pg.ctp port) Reg.ctpCntLoss).irq (Pg.ctp port) 17

/-- RETRY_MAX as it acts (Table 14.9). -/
def State.retryMax (s : State) (port : Nat) : Nat :=
  let v := s.rf (Pg.ctp port) Reg.ctpLoss 23 16
  if v = 0 then 1 else min v 8

/-- CONTROL_LINK_LOSS: RETRY_MAX consecutive resends, or NOFLIT ticks with no valid flit (R344). -/
def State.doControlLoss (s : State) (port : Nat) : State :=
  let c := s.ctlPort port
  if s.ctlUp port ∧ !s.ctlSwapping port ∧
      (s.retryMax port ≤ c.resends ∨ c.lastFlit + s.rf (Pg.ctp port) Reg.ctpLoss 15 0 ≤ s.now) then
    s.ctlLost port
  else s

/-! Requests (R346 to R348, R394) -/

/-- How a duplicate of a request is answered (R348). -/
inductive ReqKind where
  /-- carried out again -/
  | redo
  /-- answered with its first status -/
  | keep
  /-- answered with its first response, whole -/
  | whole
  deriving DecidableEq, Repr

/-- An answer: STATUS and payload. -/
structure Resp where
  status : Nat
  data : List Byte
  deriving DecidableEq, Repr

/-- What becomes of a request before it is carried out. -/
inductive Admit where
  | refused (status : Nat)
  | fresh
  | again
  | first (status : Nat) (data : List Byte)
  deriving DecidableEq, Repr

/-- An answer without payload. -/
def Resp.of (status : Nat) : Resp := ⟨status, []⟩

/-- The message statuses of Table 14.6. -/
def St.poison : Nat := 6
def St.seq : Nat := 7
def St.type : Nat := 8
def St.length : Nat := 9
def St.auth : Nat := 10

/-- Send the answer to a request. -/
def State.answer (s : State) (r : Req) (type : Nat) (a : Resp) : State :=
  s.sendMsg r.port ⟨type, true, false, false, r.mseq, a.status, 0, a.data⟩ (decide (r.auth ≠ .clear))

/-- The protection check of a request fails (R394): a PROT message without a session or with a bad tag, and an
unprotected one, but for HEARTBEAT, ATTEST and SESSION, on a port that serves a Confidential partition. -/
def State.authFails (s : State) (r : Req) (type : Nat) : Bool :=
  match r.auth with
  | .sealed ok => !ok || (s.ctlPort r.port).session.isNone
  | .clear => s.confPort r.port && decide (type ≠ 7 ∧ type ≠ 9 ∧ type ≠ 10)

/-- The status and response a port keeps for a request it has answered. -/
def CtlPort.kept (c : CtlPort) (m : W32) : Option (W32 × Nat × List Byte) := c.firsts.find? (fun x => decide (x.1 = m))

/-- A request's number is one of the 64 below the expected value. -/
def below64 (e m : W32) : Bool := decide (1 ≤ (e - m).toNat ∧ (e - m).toNat ≤ 64)

/-- The sequence check of a request (R347, R348). -/
def State.admission (s : State) (r : Req) (type : Nat) (k : ReqKind) : Admit × State :=
  let pg := Pg.ctp r.port
  let c := s.ctlPort r.port
  if s.authFails r type then
    (.refused St.auth, (s.bump Pg.sec Reg.secCntAuth).irq Pg.sec 17)
  else
    let fresh := (Admit.fresh, s.setCtlPort r.port { c with expect := some (r.mseq + 1) })
    match c.expect with
    | none => fresh
    | some e =>
      if r.mseq = e then fresh
      else
        match if below64 e r.mseq then c.kept r.mseq else none with
        | some (_, st, d) =>
          (match k with
            | .redo => .again
            | .keep => .first st []
            | .whole => .first st d, s.bump pg Reg.ctpCntDup)
        | none => (.refused St.seq, (s.bump pg Reg.ctpCntSeq).irq pg 19)

/-- A request was received whole (R349): it leaves the assembly, or is counted here where its flits were not shown. -/
def State.takeMsg (s : State) (r : Req) (type : Nat) : State :=
  let c := s.ctlPort r.port
  match c.arrived.find? (fun m => decide (m.type = type ∧ m.mseq = r.mseq ∧ m.resp = false)) with
  | some m => s.setCtlPort r.port { c with arrived := c.arrived.erase m }
  | none =>
    (s.setCtlPort r.port { c with nodeAt := s.now, lastFlit := s.now, silent := false }).bump
      (Pg.ctp r.port) Reg.ctpCntRxmsg

/-- A protected request is counted; after 2^31 in either direction the session is destroyed (R393). -/
def State.countIn (s : State) (r : Req) : State :=
  match r.auth, (s.ctlPort r.port).session with
  | .sealed true, some k =>
    let k := if k.inCount + 1 < 2 ^ 31 then some { k with inCount := k.inCount + 1 } else none
    s.setCtlPort r.port { s.ctlPort r.port with session := k }
  | _, _ => s

/-- Carry out an admitted request, answer it and keep what its first answer was (R347, R348). -/
def State.carryOut (s : State) (r : Req) (type : Nat) (k : ReqKind) (again : Bool) (act : State → Resp × State) : State :=
  let (a, s) := act s
  let c := s.ctlPort r.port
  let s :=
    if again then s
    else
      let entry := (r.mseq, a.status, if k = .whole then a.data else [])
      s.setCtlPort r.port { c with firsts := (entry :: c.firsts.filter (fun x => decide (x.1 ≠ r.mseq))).take 64,
                                   applied := if a.status < 7 then r.mseq else c.applied }
  (s.answer r type a).countIn r

/-- A request of a control port: received, checked, carried out and answered. act is what it does where its
type and length are accepted. -/
def State.request (s : State) (r : Req) (type : Nat) (k : ReqKind) (lenOk : Bool) (act : State → Resp × State) : State :=
  if !s.ctlUp r.port then s
  else
    let s := s.takeMsg r type
    let act := fun s => if lenOk then act s else (Resp.of St.length, s)
    match s.admission r type k with
    | (.refused st, s) => s.answer r type (Resp.of st)
    | (.first st d, s) => (s.answer r type ⟨st, d⟩).countIn r
    | (.fresh, s) => s.carryOut r type k false act
    | (.again, s) => s.carryOut r type k true act

/-! Memory messages (R346, R397) -/

/-- Where a memory message may reach: the partition whose range holds [a, a + n) and whose owner port this is, or
the management port's windows. some none is a management access to stored bytes. -/
def State.msgRange (s : State) (port a n : Nat) (write : Bool) : Option (Option Nat) :=
  match (s.portParts port).find? (fun p => s.inGdr p a n || (!write && s.inCxl p a n)) with
  | some p => some (some p)
  | none =>
    if s.sec.mgmt.map (·.val) = some port ∧
        (decide (a + n ≤ s.usableEnd) || s.inFirmware a n || decide (cxlBase ≤ a ∧ a + n ≤ cxlEnd)) then
      some none
    else none

/-- The statuses of Table 2.1 that memory messages use. -/
def St.ok : Nat := 0
def St.unmapped : Nat := 1
def St.denied : Nat := 2
def St.locked : Nat := 3
def St.state : Nat := 4
def St.align : Nat := 5

/-- A controller behind a GDDR7 range is not ON, or a CXL port that holds the range does not serve. -/
def State.memShut (s : State) (a n : Nat) : Bool :=
  if cxlBase ≤ a then
    !((List.range ((a + n + 255) / 256 - a / 256)).all (fun i => s.cxlServes (s.cxlMap ((a / 256 + i) * 256)).1))
  else s.gdrAsleep || (blocksOf a n).any (fun b => !s.isOn (s.gmcPage (b * 512)) && !s.gmcFailed (b * 512))

/-- CXL lines of a message that need not be aligned to lines. -/
def State.msgLines (s : State) (a n : Nat) (write : Bool) : State :=
  s.cxlLines (a / 64 * 64) ((a + n + 63) / 64 * 64 - a / 64 * 64) write

/-- The stored bytes of a range, as the management port reads them: none where a block is poisoned or its
CXL port does not serve. -/
def State.readStored (s : State) (a n : Nat) : Option (List Byte) × State :=
  if cxlBase ≤ a then
    if s.memShut a n then (none, s)
    else (some ((List.range n).map (fun i => Memory.read s.mem (s.cxlLoc (a + i)))),
      (s.msgLines a n false).bumpBy Pg.tir Reg.tirCntCxlrd ((a + n + 63) / 64 - a / 64))
  else
    let bad := (blocksOf a n).filter s.poisoned
    let s := bad.foldl (fun s b => (s.bump (s.gmcPage (b * 512)) Reg.gmcCntPoison).irq (s.gmcPage (b * 512)) 17) s
    if bad.isEmpty then (some (s.memBytes a n), s) else (none, s)

/-- The answer of a read: its bytes, or POISON. -/
def readResp : Option (List Byte) → Resp
  | some bs => ⟨St.ok, bs⟩
  | none => Resp.of St.poison

/-- MEM_RD. The owner port of a partition sees plaintext, the management port stored bytes (R397). -/
def State.memRead (s : State) (port a n : Nat) : Resp × State :=
  if a % 4 ≠ 0 ∨ n % 4 ≠ 0 then (Resp.of St.align, s)
  else if n < 4 ∨ 4096 < n then (Resp.of St.length, s)
  else
    match s.msgRange port a n false with
    | none => (Resp.of St.denied, s)
    | some who =>
      if a < cxlBase ∧ s.memShut a n then (Resp.of St.denied, s)
      else
        match who with
        | some p => (readResp (s.read p a n).1.toOption, (s.read p a n).2)
        | none => (readResp (s.readStored a n).1, (s.readStored a n).2)

/-- A memory message whose write R241 refuses. -/
def State.msgWprot (s : State) (p : Nat) : State :=
  ((s.bump Pg.tir Reg.tirCntWprot).irq Pg.tir 18).errorOpen Pg.tir Cls.task p 0x11

/-- The partition that is not OFF and whose GDDR7 range meets [a, a + n). -/
def State.partAt (s : State) (a n : Nat) : Option Nat :=
  (List.range 8).find? (fun p => !s.parOff p && decide (s.gdrLo p < a + n ∧ a < s.gdrHi p))

/-- MEM_WR of the management port in GDDR7: stored bytes as they are, after a running snapshot has copied what
they replace (R373). -/
def State.writeStored (s : State) (a : Nat) (bs : List Byte) : Bool × State :=
  let s := match s.partAt a bs.length with
    | some p => s.cow p a bs.length
    | none => s
  s.storeBlocks a bs

/-- MEM_WR (R241, R346, R397). -/
def State.memWrite (s : State) (port a : Nat) (bs : List Byte) : Resp × State :=
  let n := bs.length
  if a % 4 ≠ 0 ∨ n % 4 ≠ 0 then (Resp.of St.align, s)
  else
    match s.msgRange port a n true with
    | none =>
      match (s.portParts port).find? (fun p => s.inCxl p a n) with
      | some p => (Resp.of St.denied, s.msgWprot p)
      | none => (Resp.of St.denied, s)
    | some who =>
      if s.memShut a n then (Resp.of St.denied, s)
      else if cxlBase ≤ a then
        (Resp.of St.ok,
          (bs.zipIdx.foldl (fun s (b, i) => s.store (s.cxlLoc (a + i)) [b]) s).msgLines a n true)
      else if s.touchesFrame a n then (Resp.of St.denied, s.msgWprot ((s.partAt a n).getD 0))
      else
        let (bad, s) := match who with
          | some p => (s.cow p a n).put p a bs
          | none => s.writeStored a bs
        (Resp.of (if bad then St.poison else St.ok), s)

/-! HEARTBEAT (R349) -/

/-- The 24 bytes of a HEARTBEAT. -/
def State.hbPayload (s : State) (port : Nat) : List Byte :=
  toLE 8 s.count
    ++ toLE 4 ((match s.way.mode with | .free => 0 | .acquire => 1 | .locked => 2 | .holdover => 3)
      + at_ 4 s.pwr.state + at_ 8 (devCode s.pwr.dev))
    ++ toLE 4 (s.ctlPort port).applied.toNat ++ List.replicate 8 0

/-- A HEARTBEAT request of the node. -/
def State.doHeartbeat (s : State) (r : Req) : State :=
  s.request r 7 .redo (decide (r.len = 0)) (fun s => (⟨St.ok, s.hbPayload r.port⟩, s))

/-- HEARTBEAT_TIMER: the unsolicited HEARTBEAT, but in an image switch (R386). -/
def State.doHbTimer (s : State) (port : Nat) : State :=
  let c := s.ctlPort port
  let period := (s.reg (Pg.ctp port) Reg.ctpHb).toNat
  if s.ctlUp port ∧ period ≠ 0 ∧ c.hbAt + period ≤ s.now then
    let s := s.setCtlPort port { c with hbAt := s.now }
    if s.switching then s
    else
      let s := s.setCtlPort port { s.ctlPort port with devSeq := c.devSeq + 1 }
      s.sendMsg port ⟨7, false, false, false, c.devSeq, 0, 0, s.hbPayload port⟩ false
  else s

/-- NODE_SILENT: no HEAD or BODY flit for CTP_NTMO ticks, once per silence. -/
def State.doNodeSilent (s : State) (port : Nat) : State :=
  let c := s.ctlPort port
  if s.ctlUp port ∧ !c.silent ∧ c.nodeAt + (s.reg (Pg.ctp port) Reg.ctpNtmo).toNat ≤ s.now then
    (s.setCtlPort port { c with silent := true }).irq (Pg.ctp port) 18
  else s

/-- MEM_RD as a request. -/
def State.doMemRd (s : State) (r : Req) (a : W64) (n : W32) : State :=
  s.request r 3 .redo (decide (r.len = 12)) (fun s => s.memRead r.port a.toNat n.toNat)

/-- MEM_WR as a request. -/
def State.doMemWr (s : State) (r : Req) (a : W64) (bs : List Byte) : State :=
  s.request r 4 .keep (decide (r.len = 8 + bs.length ∧ 4 ≤ bs.length ∧ bs.length ≤ 4096))
    (fun s => s.memWrite r.port a.toNat bs)

end Sys2Proof.Machine
end

