-- ==== Sys2Proof/Machine/Remote.lean ====
section
/-! DEFINITION. Remote memory operations and the gateway (R289 to R301). -/
namespace Sys2Proof.Machine

def State.rmoEng (s : State) (n : Nat) : RmoEng := vget s.rmo.engs n
def State.setRmo (s : State) (n : Nat) (e : RmoEng) : State :=
  { s with rmo := { s.rmo with engs := vset s.rmo.engs n e } }

/-- The partition an engine is assigned to (R289). -/
def State.rmoPart (s : State) (n : Nat) : Option Nat :=
  if s.rb Pg.rmo (Reg.rmoEngn n) 31 then some (s.rf Pg.rmo (Reg.rmoEngn n) 2 0) else none

/-- The lowest-numbered engine of a partition (R290). -/
def State.firstRmo (s : State) (p : Nat) : Option Nat := (List.range 16).find? (fun n => decide (s.rmoPart n = some p))

/-! Entries (Table 12.1) -/

def rmOp (d : BitVec 512) : Nat := dfld d 0 3 0
def rmLen (d : BitVec 512) : Nat := dfld d 0 31 16
def rmDest (d : BitVec 512) : Coord := BitVec.ofNat 16 (dfld d 4 15 0)
def rmRaddr (d : BitVec 512) : Nat := dfld d 8 63 0
def rmLaddr (d : BitVec 512) : Nat := dfld d 0x10 63 0
def rmFence (d : BitVec 512) : Bool := decide (dfld d 0 8 8 = 1)
/-- The entry is an atomic. -/
def rmAtomic (d : BitVec 512) : Bool := decide (8 ≤ rmOp d)
/-- LOAD or BGET. -/
def rmGet (d : BitVec 512) : Bool := decide (rmOp d = 1 ∨ rmOp d = 3)
/-- The width of an atomic in bytes. -/
def rmWidth (d : BitVec 512) : Nat := if dfld d 0 4 4 = 1 then 8 else 4
/-- The bytes of the target an entry covers. -/
def rmBytes (d : BitVec 512) : Nat :=
  match rmOp d with
  | 1 => 8 * rmLen d | 2 => 8 * rmLen d | 3 => 4096 * rmLen d | 4 => 4096 * rmLen d | _ => rmWidth d

/-- The entry returns bytes to LADDR or takes them from it. -/
def rmUsesLocal (d : BitVec 512) : Bool := decide (rmOp d ≤ 4 ∨ rmOp d = 9 ∨ rmOp d = 12)

/-- The entry is valid (Table 12.1, R289). -/
def rmOk (d : BitVec 512) : Bool :=
  let op := rmOp d
  let al := if op ≤ 2 then 8 else if op ≤ 4 then 4096 else rmWidth d
  decide ((1 ≤ op ∧ op ≤ 4) ∨ (8 ≤ op ∧ op ≤ 12))
    && decide (dfld d 0 7 6 = 0 ∧ dfld d 0 15 9 = 0 ∧ dfld d 4 31 16 = 0 ∧ dfld d 0x30 127 0 = 0)
    && decide (rmRaddr d < 2 ^ 44 ∧ rmLaddr d < 2 ^ 44 ∧ rmRaddr d % al = 0 ∧ rmLaddr d % al = 0)
    && (if op ≤ 2 then decide (1 ≤ rmLen d ∧ rmLen d ≤ 1024)
        else if op ≤ 4 then decide (1 ≤ rmLen d)
        else decide (rmLen d = 0))
    && (rmUsesLocal d || decide (rmLaddr d = 0))

/-! Windows (R291, R292) -/

/-- Window w of a partition. -/
def State.window (s : State) (p w : Nat) : BitVec 128 := s.rmo.wins.get 0 (32 * p + w)

/-- A window lets an entry through. -/
def windowOk (w : BitVec 128) (d : BitVec 512) : Bool :=
  let base := fld w 54 32 * 2 ^ 21
  let bit_ := if rmGet d then 80 else if rmAtomic d then 82 else 81
  bit w 95 && bit w bit_
    && decide (((rmDest d).toNat ^^^ fld w 15 0) &&& fld w 31 16 = 0)
    && decide (base ≤ rmRaddr d ∧ rmRaddr d + rmBytes d ≤ base + fld w 79 64 * 2 ^ 21)

/-- The sender check of an entry of partition p. -/
def State.senderOk (s : State) (p : Nat) (d : BitVec 512) : Bool :=
  (List.range 32).any (fun w => windowOk (s.window p w) d) && (!rmUsesLocal d || s.inGdr p (rmLaddr d) (rmBytes d))

/-- The target lies in another pod: its physical w differs (R299). -/
def State.otherPod (s : State) (p : Nat) (dest : Coord) : Bool :=
  decide (axisOf (s.toPhys (s.tagShape ((s.ptag p).getD 0)) dest) 3 ≠ axisOf s.selfCoord 3)

/-! Failure and completion (R295, R297) -/

/-- A Drover fetch has failed: its task ends under DRV code 0x15 (R112). -/
def State.fetchFail (s : State) (p : Nat) (f : Fetch) : State :=
  let s := s.error (Pg.drv f.unit) Cls.task p 0x15 f.task
  match (s.core f.core).run with
  | some r => if r.gid = f.gid ∧ r.index = f.task then s.taskEnd f.core else s
  | none => s

/-- Take an entry out of those in progress. -/
def State.dropRmo (s : State) (eng id : Nat) : State :=
  let e := s.rmoEng eng
  s.setRmo eng { e with runs := e.runs.filter (fun r => decide (r.id ≠ id)) }

/-- An entry fails under a code: recorded, the list halts, and the live graph of its STEP fails. A Drover fetch
is no entry of the list, which goes on (log 48, DESIGN CHOICE). -/
def State.rmoFail (s : State) (eng : Nat) (r : RmoRun) (code : Nat) : State :=
  let s := (s.dropRmo eng r.id).irq Pg.rmo 16
  match r.fetch with
  | some f => (s.errorOpen Pg.rmo Cls.task r.part code).fetchFail r.part f
  | none =>
    let s := s.error Pg.rmo Cls.task r.part code r.entry
    (s.setRmo eng { s.rmoEng eng with halted := true }).failStep r.part r.step

/-- An entry in progress by its number. -/
def State.rmoRun (s : State) (eng id : Nat) : Option RmoRun := (s.rmoEng eng).runs.find? (fun r => decide (r.id = id))

/-- Fail every entry of a list that is still in progress. -/
def State.rmoFailAll (s : State) (eng code : Nat) (ids : List Nat) : State :=
  ids.foldl (fun s id => match s.rmoRun eng id with | some r => s.rmoFail eng r code | none => s) s

/-- A packet of an entry is still outstanding or held. -/
def RmoEng.pendingFor (e : RmoEng) (id : Nat) : Bool :=
  e.slots.any (fun kv => kv.2.any (fun x => x.runs.contains id)) || e.held.any (fun h => h.runs.contains id)

/-- Complete those entries of a list whose packets have all been answered. -/
def State.rmoFinish (s : State) (eng : Nat) (ids : List Nat) : State :=
  ids.foldl
    (fun s id =>
      match s.rmoRun eng id with
      | some r =>
        if r.sent < r.total ∨ (s.rmoEng eng).pendingFor id then s
        else
          let s := s.dropRmo eng id
          if r.fetch.isNone ∧ dfld r.words 0x2C 31 31 = 1 then
            s.signal r.part r.step (dfld r.words 0x2C 30 16) (dfld r.words 0x2C 15 0)
          else s
      | none => s) s

/-! Slots -/

/-- Slots in use. -/
def RmoEng.used (e : RmoEng) : Nat := (e.slots.filter (fun kv => kv.2.isSome)).length
/-- A slot is free for one more request. -/
def RmoEng.room (e : RmoEng) : Bool := decide (e.used + e.held.isSome.toNat < 512)

def State.rmoSlot (s : State) (eng k : Nat) : Option RmoSlot := (s.rmoEng eng).slots.get none k
def State.setSlot (s : State) (eng k : Nat) (x : Option RmoSlot) : State :=
  let e := s.rmoEng eng
  s.setRmo eng { e with slots := e.slots.set none k x }

/-- A free slot: which one is open (log 40, DESIGN CHOICE). -/
def State.takeSlot (s : State) (eng : Nat) : Nat × State :=
  let (v, s) := s.freeBits 9
  ((((List.range 512).map (fun k => (v + k) % 512)).find? (fun k => (s.rmoSlot eng k).isNone)).getD v, s)

/-! Packets (Table 12.5) -/

/-- A VC4 request packet of a partition. -/
def State.rmoPkt (s : State) (p eng slot type : Nat) (dest : Coord) (step : W32) (raddr glen frag fcnt : Nat)
    (extra : List (Nat × Nat × Nat × Nat)) (payload : List Byte) : Packet :=
  mkPacket 4 type (s.toOne ((s.ptag p).getD 0) dest
    ++ [(0x10, 31, 0, step.toNat), (0x14, 8, 0, slot), (0x14, 15, 12, eng), (0x14, 23, 16, frag), (0x14, 31, 24, fcnt),
        (0x1C, 31, 0, glen), (0x20, 63, 0, raddr)] ++ extra) payload

/-- Send the packets of a slot. -/
def State.sendPkts (s : State) (p : Nat) (pkts : List Packet) : State :=
  pkts.foldl (fun s x => (s.inject p x).bump Pg.rmo Reg.rmoCntReq) s

/-- The packets of a bulk write: 8 KiB each (R299). -/
def State.gwWritePkts (s : State) (p eng slot : Nat) (dest : Coord) (step : W32) (raddr : Nat) (bs : List Byte) :
    List Packet :=
  let n := (bs.length + 8191) / 8192
  (chunks 8192 n bs).zipIdx.map fun (c, i) =>
    s.rmoPkt p eng slot 4 dest step (raddr + 8192 * i) bs.length i (n - 1) [] c

/-- Open a slot and send its packets. -/
def State.openSlot (s : State) (eng slot : Nat) (x : RmoSlot) : State := (s.setSlot eng slot (some x)).sendPkts x.part x.pkts

/-- Send a held STORE as a bulk write. -/
def State.flushHold (s : State) (eng : Nat) : State :=
  let e := s.rmoEng eng
  match e.held with
  | none => s
  | some h =>
    let s := s.setRmo eng { e with held := none }
    let (k, s) := s.takeSlot eng
    let pkts := s.gwWritePkts h.part eng k h.dest h.step h.raddr h.bytes
    (s.bump Pg.gwy Reg.gwyCntWseg).openSlot eng k
      { runs := h.runs, part := h.part, gw := true, write := true, dest := h.dest, base := h.raddr, raddr := h.raddr,
        len := h.bytes.length, laddr := 0, pkts := pkts, tries := 0, got := [], sentAt := s.now }

/-- The bytes the next packet or segment of an entry covers (R290, R299). -/
def State.nextSpan (s : State) (r : RmoRun) : Nat :=
  let left := r.total - r.sent
  if rmAtomic r.words then left
  else if s.otherPod r.part (rmDest r.words) then
    if rmGet r.words then min left 65536 else min left (65536 - (rmRaddr r.words + r.sent) % 65536)
  else min left 8192

/-- Send the next packet or segment of an entry: none where its own data cannot be read. -/
def State.sendNext (s : State) (eng : Nat) (r : RmoRun) : Option State × State :=
  let d := r.words
  let n := s.nextSpan r
  let a := rmRaddr d + r.sent
  let l := rmLaddr d + r.sent
  let dest := rmDest d
  let gw := s.otherPod r.part dest
  let (k, s) := s.takeSlot eng
  let e := s.rmoEng eng
  let s := s.setRmo eng { e with runs := e.runs.map (fun x => if x.id = r.id then { x with sent := r.sent + n } else x) }
  let slot : RmoSlot := { runs := [r.id], part := r.part, gw := gw, write := false, dest := dest, base := a, raddr := a,
                          len := n, laddr := l, pkts := [], tries := 0, got := [], sentAt := s.now }
  if rmAtomic d then
    let pkt := s.rmoPkt r.part eng k 2 dest r.step a 0 0 0
      [(0x18, 3, 0, rmOp d), (0x18, 4, 4, dfld d 0 4 4), (0x18, 5, 5, dfld d 0 5 5),
       (0x28, 63, 0, dfld d 0x18 63 0), (0x30, 63, 0, dfld d 0x20 63 0)] []
    (some (s.openSlot eng k { slot with pkts := [pkt] }), s)
  else if rmGet d then
    if gw then
      let lo := if rmOp d = 1 then a / 4096 * 4096 else a
      let hi := if rmOp d = 1 then (a + n + 4095) / 4096 * 4096 else a + n
      let pkt := s.rmoPkt r.part eng k 5 dest r.step lo (hi - lo) 0 0 [] []
      (some ((s.bump Pg.gwy Reg.gwyCntGseg).openSlot eng k { slot with base := lo, pkts := [pkt] }), s)
    else
      let pkt := s.rmoPkt r.part eng k 0 dest r.step a 0 0 0 [(0x18, 21, 8, n)] []
      (some (s.openSlot eng k { slot with pkts := [pkt] }), s)
  else
    match s.blockRead r.part l n r.entry with
    | (none, s) => (none, s)
    | (some bs, s) =>
      if gw then
        let pkts := s.gwWritePkts r.part eng k dest r.step a bs
        (some ((s.bump Pg.gwy Reg.gwyCntWseg).openSlot eng k { slot with write := true, pkts := pkts }), s)
      else
        let pkt := s.rmoPkt r.part eng k 1 dest r.step a 0 0 0 [] bs
        (some (s.openSlot eng k { slot with write := true, pkts := [pkt] }), s)

/-- The list halts and the live graph of the step fails, without a code of the RMO page: the entry's own data
could not be read (R231, Table 10.6). -/
def State.rmoStop (s : State) (eng : Nat) (r : RmoRun) : State :=
  let s := s.dropRmo eng r.id
  match r.fetch with
  | some f => s.fetchFail r.part f
  | none => (s.setRmo eng { s.rmoEng eng with halted := true }).failStep r.part r.step

/-- Send packets while entries in progress have more and slots are free; k bounds them. -/
def State.rmoPump (s : State) (eng : Nat) : Nat → State
  | 0 => s
  | k + 1 =>
    let e := s.rmoEng eng
    match e.runs.find? (fun r => decide (r.sent < r.total)) with
    | none => s
    | some r =>
      if !e.room then s
      else
        match s.sendNext eng r with
        | (some s, _) => State.rmoPump s eng k
        | (none, s) => State.rmoPump (s.rmoStop eng r) eng k

/-! Starting entries (R290, R299) -/

/-- A new entry in progress. -/
def State.rmoEnter (s : State) (eng entry : Nat) (f : Option Fetch) (d : BitVec 512) (p : Nat) (step : W32) : RmoRun × State :=
  let e := s.rmoEng eng
  let r : RmoRun := { id := e.nextId, entry := entry, fetch := f, words := d, part := p, step := step, sent := 0,
                      total := rmBytes d }
  (r, s.setRmo eng { e with runs := e.runs ++ [r], nextId := e.nextId + 1 })

/-- Hold a STORE for merging, or merge it with the one held. -/
def State.holdStore (s : State) (eng : Nat) (r : RmoRun) : State :=
  let d := r.words
  match s.blockRead r.part (rmLaddr d) r.total r.entry with
  | (none, s) => s.rmoStop eng r
  | (some bs, s) =>
    let e := s.rmoEng eng
    let s := s.setRmo eng { e with runs := e.runs.map (fun x => if x.id = r.id then { x with sent := r.total } else x) }
    let fresh : RmoHold := { runs := [r.id], part := r.part, step := r.step, dest := rmDest d, raddr := rmRaddr d,
                             bytes := bs, since := s.now }
    match e.held with
    | some h =>
      if h.dest = rmDest d ∧ h.raddr + h.bytes.length = rmRaddr d ∧ h.bytes.length + bs.length ≤ 65536 then
        (s.setRmo eng { s.rmoEng eng with held := some { h with runs := h.runs ++ [r.id], bytes := h.bytes ++ bs } }).bump
          Pg.gwy Reg.gwyCntMerge
      else
        let s := s.flushHold eng
        s.setRmo eng { s.rmoEng eng with held := some fresh }
    | none => s.setRmo eng { s.rmoEng eng with held := some fresh }

/-- Start an entry: its checks, then its packets or its hold. -/
def State.rmoBegin (s : State) (eng : Nat) (r : RmoRun) : State :=
  let d := r.words
  if !rmOk d then s.rmoFail eng r 0x10
  else if rmAtomic d ∧ s.otherPod r.part (rmDest d) then s.rmoFail eng r 0x17
  else if !s.senderOk r.part d then
    ((s.bump Pg.rmo Reg.rmoCntWref).irq Pg.rmo 17).rmoFail eng r 0x11
  else if rmOp d = 2 ∧ s.otherPod r.part (rmDest d) ∧ s.rb Pg.gwy Reg.gwyCtrl 0 then s.holdStore eng r
  else (s.flushHold eng).rmoPump eng 1024

/-- REMOTE_ENTRY_START: the next entry of an engine's list. -/
def State.doEntryStart (s : State) (eng : Nat) : State :=
  let e := s.rmoEng eng
  match s.rmoPart eng with
  | none => s
  | some p =>
    match (s.schPart p).live with
    | none => s
    | some g =>
      if !s.isOn Pg.rmo ∨ e.halted ∨ s.rf Pg.rmo (Reg.rmoEngnCnt eng) 15 0 ≤ e.pos ∨ !e.room ∨ bit s.stopped p then s
      else
        match s.blockRead p (s.reg64 Pg.rmo (Reg.rmoEngnListLo eng) (Reg.rmoEngnListHi eng) + 64 * e.pos) 64 e.pos with
        | (none, s) => (s.setRmo eng { s.rmoEng eng with halted := true }).failStep p g.step
        | (some bs, s) =>
          let d := wordsOf 512 bs
          if !s.listWaitMet p (listWait d 0x28) ∨ (rmFence d ∧ !e.runs.all (fun r => r.fetch.isSome)) then s
          else
            let s := s.setRmo eng { e with pos := e.pos + 1 }
            let (r, s) := s.rmoEnter eng e.pos none d p g.step
            s.rmoBegin eng r

/-- Request a Drover weight fetch (R110): false where the partition owns no engine. -/
def State.requestFetch (s : State) (p : Nat) (step : W32) (f : Fetch) (dest : Coord) (raddr laddr units : Nat) :
    Bool × State :=
  match s.firstRmo p with
  | none => (false, s)
  | some eng =>
    let d : BitVec 512 := BitVec.ofNat 512
      (3 + at_ 16 units + at_ 32 dest.toNat + at_ 64 raddr + at_ 128 laddr)
    let (r, s) := s.rmoEnter eng 0 (some f) d p step
    (true, s.rmoBegin eng r)

/-- The lists of a partition restart at a live launch (R243, R290). -/
def State.rmoRestart (s : State) (p : Nat) : State :=
  (List.range 16).foldl
    (fun s eng =>
      if s.rmoPart eng = some p ∧ s.rb Pg.rmo (Reg.rmoEngnCnt eng) 16 then
        let e := s.rmoEng eng
        (s.bumpBy Pg.rmo Reg.rmoCntAbandon (s.rf Pg.rmo (Reg.rmoEngnCnt eng) 15 0 - e.pos)).setRmo eng
          { e with pos := 0, halted := false }
      else s) s

/-- A partition reset discards the outstanding slots of its engines (R298). -/
def State.rmoClear (s : State) (p : Nat) : State :=
  (List.range 16).foldl
    (fun s eng =>
      if s.rmoPart eng = some p then
        let e := s.rmoEng eng
        s.setRmo eng { e with
          pos := 0, halted := false, runs := [], held := none,
          slots := e.slots.map (fun kv => (kv.1, kv.2.map (fun x => { x with runs := [] }))) }
      else s) s

/-! The target (R293, R294, R300) -/

/-- Inject a packet this device answers with, under the tag it was asked under: no partition's window or tag
check applies (R293). -/
def State.injectReply (s : State) (p : Packet) : State :=
  if !s.isOn Pg.rte then s
  else
    let p := p.set 0 6 6 s.rte.active.toNat
    if s.tagOk p then s.bufPush 10 p else s.tagDrop p

/-- The response to a request packet: TYPE, STATUS, COMPARE, fragment numbers and payload. -/
def State.replyTo (s : State) (q : Packet) (type status old frag fcnt : Nat) (payload : List Byte) : State :=
  s.injectReply (mkPacket 5 type (s.toOne q.tag q.src
    ++ [(0x10, 31, 0, q.fld 0x10 31 0), (0x14, 15, 0, q.fld 0x14 15 0), (0x14, 23, 16, frag), (0x14, 31, 24, fcnt),
        (0x18, 24, 22, status), (0x1C, 31, 0, q.fld 0x1C 31 0), (0x20, 63, 0, q.fld 0x20 63 0 + 8192 * frag),
        (0x30, 63, 0, old)]) payload)

/-- A range lies in a range that counts as a Confidential partition's (R390). -/
def State.inConf (s : State) (a n : Nat) : Bool :=
  (List.range 8).any (fun p => ((!s.parOff p && s.parConf p) || (s.partSec p).dirty) &&
    decide (s.gdrLo p < a + n ∧ a < s.gdrHi p))

/-- The status with which a target refuses a request; 0 where it carries it out (R293, Table 12.4). -/
def State.targetStatus (s : State) (a n al : Nat) (write : Bool) : Nat :=
  if s.usableEnd < a + n ∨ s.gdrAsleep then 1
  else if s.inConf a n then 2
  else if a % al ≠ 0 ∨ n % al ≠ 0 then 3
  else if write ∧ s.touchesFrame a n then 5
  else 0

/-- Count a request as target. -/
def State.noteTarget (s : State) (status : Nat) : State :=
  if status = 0 ∨ status = 4 then s.bump Pg.rmo Reg.rmoCntTgtop
  else
    let s := s.bump Pg.rmo Reg.rmoCntTgtref
    if status = 5 then s.bump Pg.tir Reg.tirCntWprot else s

/-- The bytes of a range as the target reads them: none where a block is poisoned. -/
def State.targetRead (s : State) (a n : Nat) : Option (List Byte) × State :=
  let bad := (blocksOf a n).filter s.poisoned
  if bad.isEmpty then (some (s.memBytes a n), s)
  else
    (none, bad.foldl (fun s b => (s.bump (s.gmcPage (b * 512)) Reg.gmcCntPoison).irq (s.gmcPage (b * 512)) 17) s)

/-- Write bytes as the target: true where a poisoned block was met. -/
def State.targetWrite (s : State) (a : Nat) (bs : List Byte) : Bool × State :=
  ((List.range 8).foldl (fun s p => if s.inGdr p a bs.length then s.cow p a bs.length else s) s).storeBlocks a bs

/-- The new value of an atomic (Table 12.3). -/
def atomicNew (op w : Nat) (sgn : Bool) (m x cmp : Nat) : Nat :=
  let lt := if sgn then decide (signed w m < signed w x) else decide (m < x)
  match op with
  | 8 => (m + x) % 2 ^ w
  | 9 => (m + x) % 2 ^ w
  | 10 => if lt then m else x
  | 11 => if lt then x else m
  | _ => if m = cmp then x else m

/-- An atomic request at the target. -/
def State.targetAtomic (s : State) (q : Packet) : State :=
  let op := q.fld 0x18 3 0
  if op < 8 ∨ 12 < op then s
  else
    let b := if q.fld 0x18 4 4 = 1 then 8 else 4
    let a := q.fld 0x20 63 0
    let st := s.targetStatus a b b true
    if st ≠ 0 then (s.noteTarget st).replyTo q (if op = 9 ∨ op = 12 then 2 else 1) st 0 0 0 []
    else
      match s.targetRead a b with
      | (none, s) => (s.noteTarget 4).replyTo q (if op = 9 ∨ op = 12 then 2 else 1) 4 0 0 0 []
      | (some bs, s) =>
        let m := leNat bs
        let x := q.fld 0x28 63 0 % 2 ^ (8 * b)
        let new := atomicNew op (8 * b) (decide (q.fld 0x18 5 5 = 1)) m x (q.fld 0x30 63 0 % 2 ^ (8 * b))
        let s := ((s.targetWrite a (toLE b new)).2).noteTarget 0
        if op = 9 ∨ op = 12 then s.replyTo q 2 0 m 0 0 [] else s.replyTo q 1 0 0 0 0 []

/-- A bulk get at the target: its data in packets of 8 KiB (R299). -/
def State.targetGet (s : State) (q : Packet) : State :=
  let a := q.fld 0x20 63 0
  let n := q.fld 0x1C 31 0
  let st := if 65536 < n ∨ n = 0 then 3 else s.targetStatus a n 4096 false
  if st ≠ 0 then (s.noteTarget st).replyTo q 3 st 0 0 0 []
  else
    match s.targetRead a n with
    | (none, s) => (s.noteTarget 4).replyTo q 3 4 0 0 0 []
    | (some bs, s) =>
      let k := (n + 8191) / 8192
      ((chunks 8192 k bs).zipIdx).foldl (fun s c => s.replyTo q 3 0 0 c.2 (k - 1) c.1) (s.noteTarget 0)

/-- A packet's bytes written at this device as target, with the status it is answered with (R293). -/
def State.targetPut (s : State) (a : Nat) (q : Packet) : Nat × State :=
  let st := s.targetStatus a q.len 8 true
  if st ≠ 0 then (st, s)
  else
    let (bad, s) := s.targetWrite a q.payload
    (if bad then 4 else 0, s)

/-- REMOTE_REQUEST: a VC4 packet other than GW_WRITE. -/
def State.doRemoteRequest (s : State) (q : Packet) : State :=
  if q.vc ≠ 4 ∨ q.type = 4 then s
  else
    match s.takeEjected q with
    | none => s
    | some s =>
      let a := q.fld 0x20 63 0
      if !q.crcOk ∨ !s.isOn Pg.rmo then s
      else if q.type = 0 then
        let st := s.targetStatus a q.len 8 false
        if st ≠ 0 then (s.noteTarget st).replyTo q 0 st 0 0 0 []
        else
          match s.targetRead a q.len with
          | (none, s) => (s.noteTarget 4).replyTo q 0 4 0 0 0 []
          | (some bs, s) => (s.noteTarget 0).replyTo q 0 0 0 0 0 bs
      else if q.type = 1 then
        let r := s.targetPut a q
        (r.2.noteTarget r.1).replyTo q 1 r.1 0 0 0 []
      else if q.type = 2 then s.targetAtomic q
      else if q.type = 5 then s.targetGet q
      else s

/-- The packet is a fragment of the bulk write: sender, tag, engine and slot agree. -/
def ofBulk (q : Packet) (x : GwIn) : Bool :=
  decide (x.src = q.src ∧ x.tag = q.tag ∧ x.eng = q.fld 0x14 15 12 ∧ x.slot = q.fld 0x14 8 0)

/-- The bulk write a packet is a fragment of: the one arriving, or a new one. -/
def bulkIn (q : Packet) (l : List GwIn) : GwIn :=
  (l.find? (ofBulk q)).getD ⟨q.src, q.tag, q.fld 0x14 15 12, q.fld 0x14 8 0, [], 0⟩

/-- A bulk write with one more fragment: its first status that was not 0 stands. -/
def GwIn.fragment (x : GwIn) (frag st : Nat) : GwIn :=
  { x with frags := if x.frags.contains frag then x.frags else x.frags ++ [frag],
           status := if x.status = 0 then st else x.status }

/-- GATEWAY_WRITE_FRAGMENT: applied as it arrives; the segment is acknowledged once every fragment is readable
(R300). -/
def State.doGwFragment (s : State) (q : Packet) : State :=
  if q.vc ≠ 4 ∨ q.type ≠ 4 then s
  else
    match s.takeEjected q with
    | none => s
    | some s =>
      if !s.isOn Pg.rmo then s
      else if !q.crcOk then s.bump Pg.gwy Reg.gwyCntCrc
      else
        let (st, s) := s.targetPut (q.fld 0x20 63 0) q
        let x := (bulkIn q s.rmo.gwIn).fragment (q.fld 0x14 23 16) st
        let rest := s.rmo.gwIn.filter (fun y => !ofBulk q y)
        if q.fld 0x14 31 24 + 1 ≤ x.frags.length then
          (({ s with rmo := { s.rmo with gwIn := rest } }).noteTarget x.status).replyTo q 4 x.status 0 0 0 []
        else { s with rmo := { s.rmo with gwIn := rest ++ [x] } }

/-! Responses (R295, R297, R298, R300) -/

/-- The code of an entry for a response's status (Table 12.4). -/
def statusCode (st : Nat) : Nat := if st = 4 then 0x15 else 0x12

/-- Write returned bytes that start at an address of the target into LADDR, as far as they were asked for. -/
def State.putReturned (s : State) (x : RmoSlot) (entry a : Nat) (step : W32) (bs : List Byte) : State :=
  let lo := max a x.raddr
  let hi := min (a + bs.length) (x.raddr + x.len)
  if hi ≤ lo then s
  else
    match s.blockWrite x.part (x.laddr + (lo - x.raddr)) ((bs.drop (lo - a)).take (hi - lo)) entry with
    | (true, s) => s
    | (false, s) => s.failStep x.part step

/-- A slot is answered: it is free, its entries complete where they can, and waiting packets are sent. -/
def State.slotDone (s : State) (eng k : Nat) (x : RmoSlot) : State :=
  ((s.setSlot eng k none).rmoFinish eng x.runs).rmoPump eng 1024

/-- A response whose status is not OK. -/
def State.slotFail (s : State) (eng k : Nat) (x : RmoSlot) (code : Nat) : State :=
  ((s.setSlot eng k none).rmoFailAll eng code x.runs).rmoPump eng 1024

/-- A response that matches no outstanding request (R298). -/
def State.stray (s : State) (q : Packet) : State :=
  let s := (s.bump Pg.rmo Reg.rmoCntStray).irq Pg.rmo 18
  match s.tagPart q.tag with
  | some p =>
    match (s.schPart p).live with
    | some g => (s.errorOpen Pg.rmo Cls.task p 0x16).failStep p g.step
    | none => s
  | none => s

/-- Send a segment again whole, or give it up after GWY_RETRY resends (R300); its target becomes a suspect
(Table 15.2). -/
def State.segAgain (s : State) (eng k : Nat) (x : RmoSlot) : State :=
  if x.tries < s.rf Pg.gwy Reg.gwyRetry 3 0 then
    ((s.bump Pg.gwy Reg.gwyCntRetry).setSlot eng k (some { x with tries := x.tries + 1, got := [], sentAt := s.now })).sendPkts
      x.part x.pkts
  else
    let s := ((s.bump Pg.gwy Reg.gwyCntFail).irq Pg.gwy 16).errorOpen Pg.gwy Cls.task x.part 0x10
    let s := s.suspect (s.toPhys (s.tagShape ((s.ptag x.part).getD 0)) x.dest) Cause.remote
    s.slotFail eng k x 0x14

/-- The response of a slot fits what it asked. -/
def RmoSlot.fits (x : RmoSlot) (q : Packet) : Bool :=
  decide (q.src = x.dest) &&
    (if x.gw then decide (q.type = if x.write then 4 else 3)
     else if x.write then decide (q.type = 1) else decide (q.type ≤ 2))

/-- The step and entry number of a slot's first entry in progress. -/
def State.slotStep (s : State) (eng : Nat) (x : RmoSlot) : W32 × Nat :=
  match x.runs with
  | id :: _ => match s.rmoRun eng id with | some r => (r.step, r.entry) | none => (0, 0)
  | [] => (0, 0)

/-- REMOTE_RESPONSE. -/
def State.doRemoteResponse (s : State) (q : Packet) : State :=
  if q.vc ≠ 5 then s
  else
    match s.takeEjected q with
    | none => s
    | some s =>
      let eng := q.fld 0x14 15 12
      let k := q.fld 0x14 8 0
      match s.rmoSlot eng k with
      | none => if q.crcOk then s.stray q else s
      | some x =>
        if !q.crcOk then
          if q.type = 3 ∧ x.gw then (s.bump Pg.gwy Reg.gwyCntCrc).segAgain eng k x else s
        else if x.runs.isEmpty then (s.bump Pg.rmo Reg.rmoCntStray).setSlot eng k none
        else if !x.fits q then s.stray q
        else
          let st := q.fld 0x18 24 22
          let (step, entry) := s.slotStep eng x
          if st ≠ 0 then s.slotFail eng k x (statusCode st)
          else
            match q.type with
            | 0 => (s.putReturned x entry x.raddr step q.payload).slotDone eng k x
            | 2 =>
              (s.putReturned x entry x.raddr step (toLE x.len (q.fld 0x30 63 0))).slotDone eng k x
            | 3 =>
              let frag := q.fld 0x14 23 16
              let s := s.putReturned x entry (x.base + 8192 * frag) step q.payload
              let got := if x.got.contains frag then x.got else x.got ++ [frag]
              if q.fld 0x14 31 24 + 1 ≤ got.length then s.slotDone eng k x
              else s.setSlot eng k (some { x with got := got })
            | _ => s.slotDone eng k x

/-- REMOTE_TIMEOUT: no response within RMO_TMO ticks (R297). -/
def State.doRemoteTimeout (s : State) (eng k : Nat) : State :=
  match s.rmoSlot eng k with
  | some x =>
    if x.gw ∨ s.now < x.sentAt + (s.reg Pg.rmo Reg.rmoTmo).toNat then s
    else if x.runs.isEmpty then s.setSlot eng k none
    else
      let s := s.bump Pg.rmo Reg.rmoCntTmo
      let s := s.suspect (s.toPhys (s.tagShape ((s.ptag x.part).getD 0)) x.dest) Cause.remote
      s.slotFail eng k x 0x14
  | none => s

/-- GATEWAY_SEGMENT_TIMEOUT: no acknowledgement or data within GWY_TMO ticks (R300). -/
def State.doSegTimeout (s : State) (eng k : Nat) : State :=
  match s.rmoSlot eng k with
  | some x =>
    if !x.gw ∨ s.now < x.sentAt + (s.reg Pg.gwy Reg.gwyTmo).toNat then s
    else if x.runs.isEmpty then s.setSlot eng k none
    else s.segAgain eng k x
  | none => s

/-- GATEWAY_HOLD_EXPIRE: a STORE held for GWY_HOLD ticks goes (R299). -/
def State.doHoldExpire (s : State) (eng : Nat) : State :=
  match (s.rmoEng eng).held with
  | some h => if h.since + (s.reg Pg.gwy Reg.gwyHold).toNat ≤ s.now then s.flushHold eng else s
  | none => s

end Sys2Proof.Machine
end

