-- ==== Sys2Proof/Machine/Checkpoint.lean ====
section
/-! DEFINITION. Buddy checkpoints (R370 to R375): arming, the snapshot's copies and their commit, the GUEST
side, and the restore. -/
namespace Sys2Proof.Machine

/-! Arming (R371, R372) -/

/-- A shard entry of CKP_LISTp: address, 4 KiB blocks and SHARD_ID; none where its address is not 4 KiB
aligned or its reserved bits are set. -/
def shardEntry (bs : List Byte) : Option (Nat × Nat × Nat) :=
  let d := wordsOf 128 bs
  if dfld d 0 63 44 = 0 ∧ dfld d 0 11 0 = 0 then some (dfld d 0 43 0, dfld d 8 31 0, dfld d 12 31 0) else none

/-- The shard list of a partition; none where an entry cannot be read or is malformed. -/
def State.shardList (s : State) (p : Nat) : Option (List (Nat × Nat × Nat)) × State :=
  let base := s.reg64 Pg.ckp (Reg.ckpListpLo p) (Reg.ckpListpHi p)
  (List.range (s.rf Pg.ckp (Reg.ckpListpCnt p) 11 0)).foldl
    (fun (r : Option (List (Nat × Nat × Nat)) × State) i =>
      match r.1 with
      | none => r
      | some l =>
        match r.2.blockRead p (base + 16 * i) 16 i with
        | (none, s) => (none, s)
        | (some bs, s) => ((shardEntry bs).map (l ++ [·]), s)) (some [], s)

/-- The list of shards fits a slot of the partition's region (R371). -/
def State.shardsFit (s : State) (p : Nat) (l : List (Nat × Nat × Nat)) : Bool :=
  decide (slotBlocks l * 4096 ≤ s.ckpSlot p)

/-- A write of CKP_ARMp arms a snapshot at a step; a list that does not fit a slot fails with status 4. -/
def State.ckpArm (s : State) (p : Nat) (step : W32) : State :=
  let s := s.setReg Pg.ckp (Reg.ckpArmp p) step
  match s.shardList p with
  | (none, s) => (s.setCkpt p { s.ckpt p with armed := none }).snapFail p
  | (some l, s) =>
    if s.shardsFit p l then s.setCkpt p { s.ckpt p with armed := some step }
    else s.setCkpt p { s.ckpt p with armed := none, sstat := 4 }

/-! The copy (R372) -/

/-- Change the snapshot in progress. -/
def State.updSnap (s : State) (p : Nat) (f : Snapshot → Snapshot) : State :=
  s.setCkpt p { s.ckpt p with snap := (s.ckpt p).snap.map f }

/-- The offset of a GUEST slot in the buddy's region. -/
def State.guestOff (s : State) (p : Nat) (x : Snapshot) : Nat := (2 + x.letter) * s.ckpSlot p

/-- Send a commit header to the buddy's GUEST slot and wait for its acknowledgement. -/
def State.sendHdr (s : State) (p : Nat) (x : Snapshot) (bs : List Byte) : State :=
  let off := s.guestOff p x
  let s := s.inject p (s.ckWritePkt p x off bs)
  s.updSnap p (fun y => { y with acks := y.acks ++ [(off, s.now)] })

/-- Write the commit header of the HOME slot. -/
def State.homeHdr (s : State) (p : Nat) (x : Snapshot) (valid : Bool) (seq : Nat) : State :=
  let a := s.ckpBase p + x.letter * s.ckpSlot p
  match s.writeErr p a 4096 with
  | some .wprot => (s.noteWprot p 0).snapFail p
  | some _ => (s.errorOpen Pg.tir Cls.task p 0x14).snapFail p
  | none => (s.put p a (s.commitHdr x valid seq)).2

/-- Both copies are committed: CKP_LASTp is set (R372 step 5). -/
def State.snapDone (s : State) (p : Nat) (x : Snapshot) : State :=
  let s := s.setCkpt p { s.ckpt p with snap := none, sstat := 0, lastLetter := some x.letter }
  (s.setReg Pg.ckp (Reg.ckpLastp p) x.step).irq Pg.ckp 16

/-- Go on with a snapshot as far as no acknowledgement is awaited: one block for each acknowledgement while
the GUEST copy runs, then each copy's commit. -/
def State.snapGo (s : State) (p : Nat) : Nat → State
  | 0 => s
  | fuel + 1 =>
    match (s.ckpt p).snap with
    | none => s
    | some x =>
      if x.guest ∧ !x.opened then s
      else if x.next < slotBlocks x.shards then
        let s' := s.updSnap p (fun y => { y with next := x.next + 1 })
        if x.ahead.get false x.next then s'.snapGo p fuel
        else
          match s.slotBlock p x x.next with
          | (none, s) => s.snapFail p
          | (some bs, s) =>
            let s := (s.copyBlock p x.next bs).updSnap p (fun y => { y with next := x.next + 1 })
            if x.guest then s else s.snapGo p fuel
      else if !x.homeDone then
        let n := (s.ckpt p).seq + 1
        let s := s.homeHdr p x true n
        if (s.ckpt p).snap.isNone then s
        else
          let s := s.updSnap p (fun y => { y with homeDone := true })
          ((s.setCkpt p { s.ckpt p with seq := n }).bump Pg.ckp Reg.ckpCntCommit).snapGo p fuel
      else if !x.guest then s.setCkpt p { s.ckpt p with snap := none }
      else if x.guestDone then s.snapDone p x
      else if x.acks = [] ∧ !x.guestHdr then
        let n := (s.ckpt p).seq + 1
        let s := s.setCkpt p { s.ckpt p with seq := n }
        (s.updSnap p (fun y => { y with guestHdr := true })).sendHdr p x (s.commitHdr x true n)
      else s

/-- Go on with a snapshot. -/
def State.snapNext (s : State) (p : Nat) : State :=
  match (s.ckpt p).snap with
  | none => s
  | some x => s.snapGo p (slotBlocks x.shards + 4)

/-- The GUEST copy ends; the HOME copy goes on alone (PARTIAL). -/
def State.guestFail (s : State) (p : Nat) : State :=
  let s := s.updSnap p (fun x => { x with guest := false, acks := [] })
  let s := s.setCkpt p { s.ckpt p with sstat := 2 }
  (((s.bump Pg.ckp Reg.ckpCntFail).errorOpen Pg.ckp Cls.recomputed p 0x10).irq Pg.ckp 17).snapNext p

/-- The completion of the armed step starts the snapshot (R372): the commit headers with VALID 0 first. -/
def State.ckpStart (s : State) (p : Nat) (step : W32) : State :=
  let c := s.ckpt p
  if !s.isOn Pg.ckp ∨ c.armed.map (·.toNat) ≠ some (stepBase step) ∨ c.snap.isSome then s
  else
    match s.shardList p with
    | (none, s) => (s.setCkpt p { s.ckpt p with armed := none }).snapFail p
    | (some l, s) =>
      if !s.shardsFit p l then s.setCkpt p { s.ckpt p with armed := none, sstat := 4 }
      else
        let guest := s.rb Pg.ckp (Reg.ckpBuddyp p) 31
        let x : Snapshot :=
          { letter := match c.lastLetter with | some 0 => 1 | _ => 0, step := w32 (stepBase step), shards := l, guest := guest,
            opened := false, next := 1, ahead := [], acks := [], homeDone := false, guestHdr := false,
            guestDone := false }
        let s := s.setCkpt p { s.ckpt p with armed := none, snap := some x, sstat := 1 }
        let s := (s.bump Pg.ckp Reg.ckpCntSnap).homeHdr p x false c.seq
        if (s.ckpt p).snap.isNone then s
        else if guest then s.sendHdr p x (s.commitHdr x false c.seq)
        else s.guestFail p

/-- CK_ACK: an acknowledgement of the buddy. -/
def State.doCkAck (s : State) (pkt : Packet) : State :=
  if pkt.vc ≠ 6 ∨ pkt.type ≠ 11 then s
  else
    match s.takeEjected pkt with
    | none => s
    | some s =>
      let off := pkt.fld 0x20 63 0
      let mine := (List.range 8).find? fun p =>
        decide (s.rf Pg.ckp (Reg.ckpBuddyp p) 27 16 = pkt.tag ∧ s.rf Pg.ckp (Reg.ckpBuddyp p) 15 0 = pkt.src.toNat) &&
          ((s.ckpt p).snap.any (fun x => x.acks.any (fun a => decide (a.1 = off))))
      match mine, pkt.crcOk with
      | some p, true =>
        if pkt.fld 0x18 24 22 ≠ 0 then s.guestFail p
        else
          let s := s.updSnap p fun x =>
            let x := { x with acks := x.acks.eraseP (fun a => decide (a.1 = off)) }
            if !x.opened then { x with opened := true }
            else if x.guestHdr then { x with guestDone := true }
            else x
          let s := if (s.ckpt p).snap.any (·.guestDone) then s.bump Pg.ckp Reg.ckpCntCommit else s
          s.snapNext p
      | _, _ => s

/-! The GUEST side (R374) -/

/-- Refuse a request, or answer it; status 1 is counted. -/
def State.ckReply (s : State) (q : Packet) (type status : Nat) (fields : List (Nat × Nat × Nat × Nat)) (bs : List Byte) : State :=
  let s := if status = 1 then s.bump Pg.ckp Reg.ckpCntRefused else s
  s.injectReply (mkPacket 6 type (s.toOne q.tag q.src ++ fields ++ [(0x18, 24, 22, status), (0x20, 63, 0, q.fld 0x20 63 0)]) bs)

/-- CK_WRITE: a checkpoint write from the source named in CKP_GUESTp, within the GUEST slots. -/
def State.doCkWrite (s : State) (pkt : Packet) : State :=
  if pkt.vc ≠ 6 ∨ pkt.type ≠ 10 then s
  else
    match s.takeEjected pkt with
    | none => s
    | some s =>
      if !pkt.crcOk ∨ !s.isOn Pg.ckp then s
      else
        let off := pkt.fld 0x20 63 0
        let n := pkt.payload.length
        let q := (List.range 8).find? fun q =>
          s.rb Pg.ckp (Reg.ckpGuestp q) 31 &&
            decide (s.rf Pg.ckp (Reg.ckpGuestp q) 27 16 = pkt.tag ∧ s.rf Pg.ckp (Reg.ckpGuestp q) 15 0 = pkt.src.toNat ∧
              2 * s.ckpSlot q ≤ off ∧ off + n ≤ 4 * s.ckpSlot q)
        match q with
        | none => s.ckReply pkt 11 1 [] []
        | some q =>
          match s.write q (s.ckpBase q + off) pkt.payload 0 with
          | (none, s) => s.ckReply pkt 11 0 [] []
          | (some .poison, s) => s.ckReply pkt 11 2 [] []
          | (some .range, s) => (s.errorOpen Pg.tir Cls.task q 0x14).ckReply pkt 11 1 [] []
          | (some .wprot, s) => s.ckReply pkt 11 1 [] []

/-- CK_READ: a checkpoint read within the region of the partition that carries the packet's tag. -/
def State.doCkRead (s : State) (pkt : Packet) : State :=
  if pkt.vc ≠ 6 ∨ pkt.type ≠ 12 then s
  else
    match s.takeEjected pkt with
    | none => s
    | some s =>
      if !pkt.crcOk ∨ !s.isOn Pg.ckp then s
      else
        let off := pkt.fld 0x20 63 0
        let sel := [(0x14, 1, 0, pkt.fld 0x14 1 0)]
        match s.tagPart pkt.tag with
        | none => s.ckReply pkt 13 1 sel []
        | some q =>
          if 4 * s.ckpSlot q < off + pkt.len ∨ 8192 < pkt.len then s.ckReply pkt 13 1 sel []
          else
            match s.read q (s.ckpBase q + off) pkt.len with
            | (.ok bs, s) => s.ckReply pkt 13 0 sel bs
            | (.error .poison, s) => s.ckReply pkt 13 2 sel []
            | (.error _, s) => (s.errorOpen Pg.tir Cls.task q 0x14).ckReply pkt 13 1 sel []

/-! Restore (R375) -/

def rsHolder (d : BitVec 256) : Coord := BitVec.ofNat 16 (dfld d 0 15 0)
def rsArea (d : BitVec 256) : Nat := dfld d 0 16 16
def rsSrc (d : BitVec 256) : Nat := dfld d 0 47 32
def rsId (d : BitVec 256) : Nat := dfld d 8 31 0
def rsOff (d : BitVec 256) : Nat := dfld d 12 31 0
def rsLen (d : BitVec 256) : Nat := dfld d 16 31 0
def rsDst (d : BitVec 256) : Nat := dfld d 20 43 0

/-- A restore ends with a failure status of Table 15.5. -/
def State.restoreFail (s : State) (p st : Nat) : State :=
  match (s.ckpt p).restore with
  | none => s
  | some r =>
    let s := s.setCkpt p { s.ckpt p with restore := none, rstat := st }
    (s.error Pg.ckp Cls.task p 0x11 r.entry).irq Pg.ckp 19

/-- The entry that a restore runs. -/
def State.restoreEntry (s : State) (p i : Nat) : Option MemErr × BitVec 256 × State :=
  match s.read p (s.reg64 Pg.ckp (Reg.ckpRlistpLo p) (Reg.ckpRlistpHi p) + 32 * i) 32 with
  | (.ok bs, s) => (none, wordsOf 256 bs, s)
  | (.error .range, s) => (some .range, 0, s.error Pg.tir Cls.task p 0x14 i)
  | (.error e, s) => (some e, 0, s)

/-- Ask the holder for n bytes at an offset of one of its slots. -/
def State.ckAsk (s : State) (p : Nat) (d : BitVec 256) (letter pos n : Nat) : State :=
  let tag := (s.ptag p).getD 0
  let off := (2 * rsArea d + letter) * s.ckpSlot p + pos
  let pkt := mkPacket 6 12 (s.toOne tag (rsHolder d) ++
    [(0x14, 0, 0, letter), (0x14, 1, 1, rsArea d), (0x18, 21, 8, n), (0x20, 63, 0, off)]) []
  let s := s.inject p pkt
  s.setCkpt p { s.ckpt p with restore := (s.ckpt p).restore.map (fun r => { r with asked := some (off, s.now) }) }

/-- Change the restore in progress. -/
def State.updRestore (s : State) (p : Nat) (f : Restore → Restore) : State :=
  s.setCkpt p { s.ckpt p with restore := (s.ckpt p).restore.map f }

/-- Begin an entry, or end the restore where none is left. -/
def State.restoreBegin (s : State) (p i : Nat) : State :=
  if s.rf Pg.ckp (Reg.ckpRlistpCnt p) 15 0 ≤ i then
    (s.setCkpt p { s.ckpt p with restore := none, rstat := 0 }).irq Pg.ckp 18
  else
    let s := s.setCkpt p { s.ckpt p with restore := some ⟨i, 0, [], 0, 0, 0, 0, none⟩ }
    match s.restoreEntry p i with
    | (none, d, s) => s.ckAsk p d 0 0 64
    | (some .poison, _, s) => s.restoreFail p 5
    | (some _, _, s) => s.restoreFail p 3

/-- RESTORE of an accepted command. -/
def State.startRestore (s : State) (p : Nat) : State := (s.setCkpt p { s.ckpt p with rstat := 0 }).restoreBegin p 0

/-- ABORT of an accepted command: a running restore ends with status 4. -/
def State.abortRestore (s : State) (p : Nat) : State := s.restoreFail p 4

/-- A header's word, at its byte offset. -/
def hdrWord (h : List Byte) (off : Nat) : Nat := leNat ((h.drop off).take 4)

/-- A header with the right magic and a good CRC (Table 15.4). -/
def hdrGood (magic : Nat) (h : List Byte) : Bool :=
  decide (hdrWord h 0 = magic ∧ hdrWord h 0x3C = (crc32c (h.take 60)).toNat)

/-- A committed header of the step to restore. -/
def State.hdrFits (s : State) (p : Nat) (h : List Byte) : Bool :=
  hdrGood 0x4B435A4D h && decide (hdrWord h 4 = 1 ∧ hdrWord h 8 = (s.reg Pg.ckp (Reg.ckpRstepp p)).toNat)

/-- An entry is done; the next begins. -/
def State.restoreNext (s : State) (p i : Nat) : State := (s.bump Pg.ckp Reg.ckpCntRestore).restoreBegin p (i + 1)

/-- A shard header arrives: walk on, or start copying. -/
def State.restoreShard (s : State) (p : Nat) (r : Restore) (d : BitVec 256) (h : List Byte) : State :=
  let len := hdrWord h 0x10
  if !hdrGood 0x48535A4D h then s.restoreFail p 2
  else if hdrWord h 0xC ≠ rsId d then
    let pos := r.pos + 4096 * (1 + len)
    if hdrWord (nth r.hdrs [] 0) 0xC ≤ r.shard + 1 then s.restoreFail p 1
    else (s.updRestore p (fun r => { r with pos := pos, shard := r.shard + 1 })).ckAsk p d r.letter pos 64
  else if nbits (hdrWord h 8) 15 0 ≠ rsSrc d then s.restoreFail p 2
  else if len < rsOff d + rsLen d ∨ !s.inGdr p (rsDst d) (4096 * rsLen d) then s.restoreFail p 3
  else if rsLen d = 0 then s.restoreNext p r.entry
  else (s.updRestore p (fun r => { r with stage := 3, got := 0 })).ckAsk p d r.letter (r.pos + 4096 + 4096 * rsOff d) 4096

/-- What an answer of the holder does. -/
def State.restoreTake (s : State) (p : Nat) (r : Restore) (d : BitVec 256) (bs : List Byte) : State :=
  match r.stage with
  | 0 => (s.updRestore p (fun r => { r with stage := 1, hdrs := [bs] })).ckAsk p d 1 0 64
  | 1 =>
    match findPos (s.hdrFits p) (r.hdrs ++ [bs]) with
    | none => s.restoreFail p 1
    | some l =>
      let h := nth (r.hdrs ++ [bs]) [] l
      if hdrWord h 0xC = 0 then s.restoreFail p 1
      else (s.updRestore p (fun r => { r with stage := 2, hdrs := [h], letter := l, pos := 4096, shard := 0 })).ckAsk p d l 4096 64
  | 2 => s.restoreShard p r d bs
  | _ =>
    match s.blockWrite p (rsDst d + 4096 * r.got) bs r.entry with
    | (false, s) => s.restoreFail p 3
    | (true, s) =>
      if r.got + 1 = rsLen d then s.restoreNext p r.entry
      else (s.updRestore p (fun r => { r with got := r.got + 1 })).ckAsk p d r.letter
        (r.pos + 4096 + 4096 * (rsOff d + r.got + 1)) 4096

/-- CK_DATA: checkpoint read data arrives for the restore that asked for it. -/
def State.doCkData (s : State) (pkt : Packet) : State :=
  if pkt.vc ≠ 6 ∨ pkt.type ≠ 13 then s
  else
    match s.takeEjected pkt with
    | none => s
    | some s =>
      match s.tagPart pkt.tag with
      | none => s
      | some p =>
        match (s.ckpt p).restore with
        | none => s
        | some r =>
          if !pkt.crcOk ∨ r.asked.map (·.1) ≠ some (pkt.fld 0x20 63 0) then s
          else
            match s.restoreEntry p r.entry with
            | (none, d, s) =>
              if rsHolder d ≠ pkt.src then s
              else
                match pkt.fld 0x18 24 22 with
                | 0 => if pkt.payload.length = (if r.stage = 3 then 4096 else 64) then s.restoreTake p r d pkt.payload else s
                | 2 => s.restoreFail p 5
                | _ => s.restoreFail p 1
            | (some .poison, _, s) => s.restoreFail p 5
            | (some _, _, s) => s.restoreFail p 3

/-- CHECKPOINT_TIMEOUT: no answer for CKP_TMO ticks ends a GUEST copy, or a restore. -/
def State.doCkpTimeout (s : State) (p : Nat) : State :=
  let late := fun (t : Nat) => decide (t + (s.reg Pg.ckp Reg.ckpTmo).toNat ≤ s.now)
  let c := s.ckpt p
  let s := if c.snap.any (fun x => x.guest && x.acks.any (fun a => late a.2)) then s.guestFail p else s
  if c.restore.any (fun r => r.asked.any (fun a => late a.2)) then s.restoreFail p 4 else s

/-- CKP_STATp (Table 15.8). -/
def State.ckpStat (s : State) (p : Nat) : W32 :=
  let c := s.ckpt p
  w32 (at_ 31 c.snap.isSome.toNat + at_ 30 c.armed.isSome.toNat + at_ 29 (decide (c.lastLetter = some 1)).toNat
    + at_ 28 c.restore.isSome.toNat + at_ 16 c.rstat + c.sstat)

/-- The checkpoint engine is emptied: its page has been reset or has left ON. -/
def State.ckpClear (s : State) : State := { s with ckp := Vector.replicate 8 Ckp.init }

end Sys2Proof.Machine
end

