-- ==== Sys2Proof/Machine/Tollgate.lean ====
section
/-! DEFINITION. The Tollgate: groups and trees, combining operations, timeouts and twin digests (R303 to
R310, R321 to R323; R357 for group 15). -/
namespace Sys2Proof.Machine

/-! Groups and trees (R303 to R305) -/

def State.grpOk (s : State) (g : Nat) : Bool := s.rb Pg.tol (Reg.tolGrpg g) 31
def State.grpExplicit (s : State) (g : Nat) : Bool := s.rb Pg.tol (Reg.tolGrpg g) 30
def State.grpPart (s : State) (g : Nat) : Nat := s.rf Pg.tol (Reg.tolGrpg g) 26 24
def State.grpTag (s : State) (g : Nat) : Nat := s.rf Pg.tol (Reg.tolGrpg g) 11 0
def State.grpShape (s : State) (g : Nat) : Nat := s.tagShape (s.grpTag g)

/-- The axis and direction in which a device's parent lies in AUTO mode; none at the root (R304). -/
def autoUp (ext : Nat → Nat) (c : Coord) : Option (Nat × Bool) :=
  ((List.range 4).find? (fun a => decide (axisOf c a ≠ 0))).map (fun a => (a, decide (ext a = 16 ∧ 9 ≤ axisOf c a)))

/-- The neighbour of a logical coordinate on an axis. -/
def nextOn (ext : Nat → Nat) (c : Coord) (a : Nat) (plus : Bool) : Coord :=
  setAxis c a ((axisOf c a + (if plus then 1 else ext a - 1)) % ext a)

/-- The parent of a device in AUTO mode. -/
def autoParent (ext : Nat → Nat) (c : Coord) : Option Coord := (autoUp ext c).map (fun ad => nextOn ext c ad.1 ad.2)

/-- The depth of a device in the AUTO tree (R304). -/
def autoDepth (ext : Nat → Nat) (c : Coord) : Nat :=
  ((List.range 4).map (fun a => if ext a = 16 then min (axisOf c a) (16 - axisOf c a) else axisOf c a)).sum

/-- The depth of the deepest device of the AUTO tree (R304). -/
def autoDeep (ext : Nat → Nat) : Nat := ((List.range 4).map (fun a => if ext a = 16 then 8 else ext a - 1)).sum

/-- The physical neighbour of this device on a torus port. -/
def State.nbrCoord (s : State) (n : Nat) : Coord :=
  let c := s.selfCoord
  setAxis c (n / 2) ((axisOf c (n / 2) + (if n % 2 = 0 then 1 else 15)) % 16)

/-- The neighbour on a torus port, as a logical coordinate of a group. -/
def State.grpNbr (s : State) (g n : Nat) : Coord := s.toLog (s.grpShape g) (s.nbrCoord n)

/-- The parent of this device in a group's tree. -/
def State.grpParent (s : State) (g : Nat) : Option Coord :=
  if s.grpExplicit g then
    let n := s.rf Pg.tol (Reg.tolGrpgTree g) 19 16
    if n < 8 then some (s.grpNbr g n) else none
  else autoParent (s.extent (s.grpShape g)) (s.selfLog (s.grpTag g))

/-- The children of this device in a group's tree, with the torus ports that lead to them in EXPLICIT mode, in
ascending logical rank (R305, R307). -/
def State.grpKids (s : State) (g : Nat) : List Coord :=
  let sh := s.grpShape g
  let me := s.selfLog (s.grpTag g)
  let l :=
    if s.grpExplicit g then
      ((List.range 8).filter (fun n => s.rb Pg.tol (Reg.tolGrpgTree g) (24 + n))).map (s.grpNbr g)
    else
      ((List.range 4).flatMap (fun a => [nextOn (s.extent sh) me a true, nextOn (s.extent sh) me a false])).filter
        (fun c => decide (c ≠ me ∧ autoParent (s.extent sh) c = some me))
  (l.eraseDups).foldl (fun (acc : List Coord) c =>
    acc.takeWhile (fun d => decide (s.rankOf sh d < s.rankOf sh c)) ++ [c]
      ++ acc.dropWhile (fun d => decide (s.rankOf sh d < s.rankOf sh c))) []

/-- The members a root expects. -/
def State.grpMembers (s : State) (g : Nat) : Nat :=
  if s.grpExplicit g then s.rf Pg.tol (Reg.tolGrpgTree g) 15 0 + 1 else s.shapeSize (s.grpShape g)

/-- TOL_GRPg_TREE outside EXPLICIT mode reads as the AUTO values in use (R305). -/
def State.grpTree (s : State) (g : Nat) : W32 :=
  if s.grpExplicit g then s.reg Pg.tol (Reg.tolGrpgTree g)
  else
    let kids := s.grpKids g
    let child := ((List.range 8).filter (fun n => kids.contains (s.grpNbr g n))).foldl (fun a n => a + 2 ^ n) 0
    let parent := match autoUp (s.extent (s.grpShape g)) (s.selfLog (s.grpTag g)) with
      | some (a, plus) => portOf a plus
      | none => 8
    w32 (at_ 24 child + at_ 16 parent + (s.grpMembers g - 1) % 2 ^ 16)

/-- The depth d of this device and the deepest depth of group 15 (R357). -/
def State.aggDepth (s : State) : Nat :=
  if s.grpExplicit 15 then s.rf Pg.flt Reg.fltTree 29 24
  else autoDepth (s.extent (s.grpShape 15)) (s.selfLog (s.grpTag 15))

/-! Combination (Table 13.2) -/

/-- IEEE 754 binary64. -/
def fpF64 : Fp := ⟨11, 52, 1023, .ieee⟩

/-- Whether a replaces b by a comparison: strictly before it, or equal with the lower index. -/
def beats (before : Bool) (equal : Bool) (ia ib : Nat) : Bool := before || (equal && decide (ia < ib))

/-- MIN_F64 or MAX_F64 of two values with their indices. -/
def minmaxF64 (max_ : Bool) (a b : Nat × Nat) : Nat × Nat :=
  let x := fpF64.decode a.1
  let y := fpF64.decode b.1
  let fix := fun (v : Val) (p : Nat × Nat) => if v.isNan then (fpF64.nanCode, p.2) else p
  let zeros := x.isZero && y.isZero
  let less := fun (u v : Val) => u.lt v || (zeros && u.isNeg && !v.isNeg)
  let bFirst :=
    if x.isNan || y.isNan then y.isNan && (!x.isNan || decide (b.2 < a.2))
    else
      beats (if max_ then less x y else less y x) (!(less x y) && !(less y x)) b.2 a.2
  if bFirst then fix y b else fix x a

/-- Two values with their indices combined under an operation code; a comes first. -/
def combineVal (opc : Nat) (a b : Nat × Nat) : Nat × Nat :=
  let sa := signed 64 a.1
  let sb := signed 64 b.1
  match opc with
  | 1 => ((a.1 + b.1) % 2 ^ 64, a.2)
  | 2 => ((encodeFp fpF64 false .near (addExact (fpF64.decode a.1) (fpF64.decode b.1))).1, a.2)
  | 3 => if beats (decide (sb < sa)) (decide (sa = sb)) b.2 a.2 then b else a
  | 4 => if beats (decide (sa < sb)) (decide (sa = sb)) b.2 a.2 then b else a
  | 5 => minmaxF64 false a b
  | 6 => minmaxF64 true a b
  | 7 => (a.1 &&& b.1, a.2)
  | 8 => (a.1 ||| b.1, a.2)
  | _ => a

/-- Two contributions combined (R306, R307). -/
def Contrib.combine (a b : Contrib) : Contrib :=
  { a with members := a.members + b.members
           vals := if a.opc = 0 then a.vals else (List.range 8).map (fun i =>
             if i ≤ a.nscal then combineVal a.opc (nth a.vals (0, 0) i) (nth b.vals (0, 0) i) else (0, 0)) }

/-! Packets (Table 13.1) -/

def tolGroup (p : Packet) : Nat := p.fld 0x10 3 0
def tolStep (p : Packet) : W32 := w32 (p.fld 0x14 31 0)
def tolIdx (p : Packet) : Nat := p.fld 0x18 7 0

/-- The contribution or result a packet carries. -/
def tolContrib (p : Packet) : Contrib :=
  { opc := p.fld 0x10 7 4, nscal := p.fld 0x10 10 8, members := p.fld 0x10 31 12,
    vals := (List.range 8).map (fun i => (leNat ((p.payload.drop (8 * i)).take 8), p.fld (0x1C + 4 * i) 31 0)) }

/-- A Tollgate packet; a barrier has LEN 0, every other eight values. -/
def tolPacket (type : Nat) (routing : List (Nat × Nat × Nat × Nat)) (g : Nat) (step : W32) (opidx : Nat) (c : Contrib) : Packet :=
  mkPacket 0 type
    (routing ++ [(0x10, 3, 0, g), (0x10, 7, 4, c.opc), (0x10, 10, 8, c.nscal), (0x10, 31, 12, c.members),
      (0x14, 31, 0, step.toNat), (0x18, 7, 0, opidx)]
      ++ (List.range 8).map (fun i => (0x1C + 4 * i, 31, 0, (nth c.vals (0, 0) i).2)))
    (if c.opc = 0 then [] else (List.range 8).flatMap (fun i => toLE 8 (nth c.vals (0, 0) i).1))

/-- Inject a packet under a group's tag (R303); where it is refused, the live graph of its partition fails
(R261). -/
def State.injectGroup (s : State) (part : Nat) (p : Packet) : State :=
  if s.badPacket p then (s.refuseInject part).failLive part else s.injectGo p

/-! Slots and operations (R306 to R308) -/

def State.tolSlot (s : State) (i : Nat) : Option TolSlot := vget s.tol.slots i
def State.setTolSlot (s : State) (i : Nat) (x : Option TolSlot) : State :=
  { s with tol := { s.tol with slots := vset s.tol.slots i x } }

/-- The slot of a key. -/
def State.slotOf (s : State) (g : Nat) (step : W32) (opidx : Nat) : Option Nat :=
  (List.range 64).find? (fun i => (s.tolSlot i).any
    (fun x => decide (x.group = g ∧ x.step = step ∧ x.opidx = opidx)))

/-- A slot for a key: its own, or a free one taken for it now. -/
def State.keySlot (s : State) (g : Nat) (step : W32) (opidx : Nat) : Option (Nat × TolSlot) :=
  match s.slotOf g step opidx with
  | some i => (s.tolSlot i).map (fun x => (i, x))
  | none => ((List.range 64).find? (fun i => (s.tolSlot i).isNone)).map
      (fun i => (i, { group := g, step := step, opidx := opidx, own := none, kids := [], takenAt := s.now,
                      ownAt := 0, sent := false }))

/-- The router has seen a STEP of a group (R310). -/
def State.seeStep (s : State) (g : Nat) (step : W32) : State :=
  let newer := match s.tol.newest.get none g with
    | some n => stepLater step n
    | none => true
  if newer then { s with tol := { s.tol with newest := s.tol.newest.set none g (some step) } } else s

/-- A packet without a slot is stale: its STEP is not later than the newest seen (R310). -/
def State.tolStale (s : State) (g : Nat) (step : W32) : Bool :=
  match s.tol.newest.get none g with
  | some n => !stepLater step n
  | none => false

/-- The result of an operation of this device, or its failure, is handed to the block that started it. -/
def State.opEnd (s : State) (o : TolOp) (r : Option Contrib) : State :=
  let s := { s with tol := { s.tol with ops := s.tol.ops.erase o, results := s.tol.results ++ [(o.use, r)] } }
  if r.isSome then s.bump Pg.tol Reg.tolCntOps else s

/-- The operation of this device outstanding under a key. -/
def State.opOf (s : State) (g : Nat) (step : W32) (opidx : Nat) : Option TolOp :=
  s.tol.ops.find? (fun o => o.startedAt.isSome && decide (o.group = g ∧ o.step = step ∧ o.opidx = opidx))

/-- A result passes this router: the slot is freed, DOWN packets go to the children (in group 15 only to those
that contributed), and this device's own operation ends. MEMBERS 0 is a failure (R307). -/
def State.passDown (s : State) (i : Nat) (c : Contrib) : State :=
  match s.tolSlot i with
  | none => s
  | some x =>
    let s := s.setTolSlot i none
    let kids := (s.grpKids x.group).filter (fun k => x.group ≠ 15 || (x.kids.any (fun kv => decide (kv.1 = k))))
    let s := kids.foldl
      (fun s k => s.injectGroup (s.grpPart x.group) (tolPacket 1 (s.toOne (s.grpTag x.group) k) x.group x.step x.opidx c)) s
    match s.opOf x.group x.step x.opidx with
    | some o => s.opEnd o (if c.members = 0 then none else some c)
    | none => s

/-- A slot's contributions in order: its own device's, then each child's in ascending rank (R307). -/
def State.slotParts (s : State) (x : TolSlot) : List Contrib :=
  x.own.toList ++ (s.grpKids x.group).filterMap (fun k => (x.kids.find? (fun kv => decide (kv.1 = k))).map (·.2))

/-- A slot that is complete, or whose wait for its children is over (R357), is combined: its result goes up, or
from the root down. -/
def State.slotUp (s : State) (i : Nat) : State :=
  match s.tolSlot i with
  | none => s
  | some x =>
    match s.slotParts x with
    | [] => s
    | c :: cs =>
      let r := cs.foldl Contrib.combine c
      match s.grpParent x.group with
      | some up =>
        (s.setTolSlot i (some { x with sent := true })).injectGroup (s.grpPart x.group)
          (tolPacket 0 (s.toOne (s.grpTag x.group) up) x.group x.step x.opidx r)
      | none =>
        if x.group = 15 then s.passDown i r
        else if r.members = s.grpMembers x.group then s.passDown i r
        else
          let s := ((s.bump Pg.tol Reg.tolCntMembers).irq Pg.tol 20).errorOpen Pg.tol Cls.task (s.grpPart x.group) 0x11
          s.passDown i { r with nscal := 0, members := 0, vals := List.replicate 8 (0, 0) }

/-- Combine a slot once its own device and every child have contributed (R307). -/
def State.trySlot (s : State) (i : Nat) : State :=
  match s.tolSlot i with
  | none => s
  | some x =>
    if !x.sent && x.own.isSome && (s.grpKids x.group).all (fun k => x.kids.any (fun kv => decide (kv.1 = k)))
    then s.slotUp i else s

/-- Start the contribution of an operation of this device. -/
def State.opStart (s : State) (o : TolOp) : State :=
  if !s.isOn Pg.tol then s.opEnd o none
  else if !s.grpOk o.group ∨ 8 < o.con.opc then
    (s.errorOpen Pg.tol Cls.task (s.grpPart o.group) 0x12).opEnd o none
  else
    match s.keySlot o.group o.step o.opidx with
    | none => s
    | some (i, x) =>
      let s := s.seeStep o.group o.step
      let s := { s with tol := { s.tol with
        ops := s.tol.ops.map (fun q => if q = o then { o with startedAt := some s.now } else q) } }
      (s.setTolSlot i (some { x with own := some o.con, ownAt := s.now })).trySlot i

/-- Start the operations that wait, in order, while their group has fewer than four outstanding (R308); n
bounds them. -/
def State.pumpOps (s : State) : Nat → State
  | 0 => s
  | n + 1 =>
    let ready := fun (o : TolOp) => o.startedAt.isNone &&
      decide ((s.tol.ops.filter (fun q => q.startedAt.isSome && decide (q.group = o.group))).length < 4)
    match s.tol.ops.find? ready with
    | some o => State.pumpOps (s.opStart o) n
    | none => s

/-- Start every operation that may start. -/
def State.tolPump (s : State) : State := s.pumpOps s.tol.ops.length

/-- TOLLGATE_UP: a child's contribution arrives (R307, R308, R310). -/
def State.doTollgateUp (s : State) (p : Packet) : State :=
  if p.vc ≠ 0 ∨ p.type ≠ 0 then s
  else
    match s.takeEjected p with
    | none => s
    | some s =>
      let g := tolGroup p
      if !s.isOn Pg.tol ∨ !s.grpOk g ∨ !(s.grpKids g).contains p.src then s
      else if (s.slotOf g (tolStep p) (tolIdx p)).isNone && s.tolStale g (tolStep p) then s.bump Pg.tol Reg.tolCntStale
      else
        match s.keySlot g (tolStep p) (tolIdx p) with
        | none => s
        | some (i, x) =>
          let s := s.seeStep g (tolStep p)
          if x.sent ∨ x.kids.any (fun kv => decide (kv.1 = p.src)) then s
          else ((s.setTolSlot i (some { x with kids := x.kids ++ [(p.src, tolContrib p)] })).trySlot i).tolPump

/-- TOLLGATE_DOWN: a result arrives from the parent (R307, R308, R310). -/
def State.doTollgateDown (s : State) (p : Packet) : State :=
  if p.vc ≠ 0 ∨ p.type ≠ 1 then s
  else
    match s.takeEjected p with
    | none => s
    | some s =>
      let g := tolGroup p
      if !s.isOn Pg.tol ∨ !s.grpOk g then s
      else
        match s.slotOf g (tolStep p) (tolIdx p) with
        | some i => (s.passDown i (tolContrib p)).tolPump
        | none => if s.tolStale g (tolStep p) then s.bump Pg.tol Reg.tolCntStale else s

/-- This device contributes to an operation: under a fixed OPIDX (R356, R361), or the group's next of the
step (R306). -/
def State.opAdd (s : State) (g : Nat) (step : W32) (fixed : Option Nat) (c : Contrib) (use : TolUse) : State :=
  let k := g * 2 ^ 32 + step.toNat
  let n := s.tol.counts.get 0 k
  let o : TolOp := { group := g, step := step, opidx := fixed.getD (n % 256), con := c, use := use, startedAt := none }
  let counts := if fixed.isNone then s.tol.counts.set 0 k (n + 1) else s.tol.counts
  let s := { s with tol := { s.tol with ops := s.tol.ops ++ [o], counts := counts } }
  s.tolPump

/-- An OR contribution of up to eight 64-bit values. -/
def orOf (vals : List Nat) : Contrib :=
  { opc := 8, nscal := 7, members := 1, vals := (List.range 8).map (fun i => (nth vals 0 i % 2 ^ 64, 0)) }

/-! Timeouts (R310) -/

/-- TOLLGATE_SLOT_TIMEOUT: a slot held TOL_TMO ticks after it was taken is freed. -/
def State.doSlotTimeout (s : State) (i : Nat) : State :=
  match s.tolSlot i with
  | some x =>
    if x.takenAt + (s.reg Pg.tol Reg.tolTmo).toNat ≤ s.now then (s.setTolSlot i none).bump Pg.tol Reg.tolCntTmo else s
  | none => s

/-- OP_TIMEOUT: an operation of this device has had no result for TOL_TMO ticks: it fails. -/
def State.doOpTimeout (s : State) (g : Nat) (step : W32) (opidx : Nat) : State :=
  match s.opOf g step opidx with
  | some o =>
    if (o.startedAt.getD s.now) + (s.reg Pg.tol Reg.tolTmo).toNat ≤ s.now then
      let s := ((s.bump Pg.tol Reg.tolCntTmo).irq Pg.tol 16).errorOpen Pg.tol Cls.task (s.grpPart g) 0x10
      (s.opEnd o none).tolPump
    else s
  | none => s

/-- TOLLGATE_SLOT_PARITY: a parity error of the combine slots, fatal to the device (Table 13.5). -/
def State.doSlotParity (s : State) : State :=
  if s.isOn Pg.tol then s.errorOpen Pg.tol Cls.device 0 0x14 else s

/-- AGGREGATION_CHILD_WAIT: a router's wait for the children of a group 15 operation is over (R357): it
forwards what it has, and each missing child becomes a suspect. -/
def State.doChildWait (s : State) (step : W32) (opidx : Nat) : State :=
  match s.slotOf 15 step opidx with
  | none => s
  | some i =>
    match s.tolSlot i with
    | none => s
    | some x =>
      let wait := (s.rf Pg.flt Reg.fltTree 23 16 - s.aggDepth) * s.rf Pg.flt Reg.fltTree 15 0
      if x.sent ∨ x.own.isNone ∨ s.now < x.ownAt + wait then s
      else
        let gone := (s.grpKids 15).filter (fun k => !x.kids.any (fun kv => decide (kv.1 = k)))
        let s := gone.foldl (fun s k => s.suspect (s.toPhys (s.grpShape 15) k) Cause.tree) s
        let s := if gone.isEmpty then s else s.bump Pg.flt Reg.fltCntPartial
        (s.slotUp i).tolPump

/-! Twin digests (R321 to R323) -/

def State.twin (s : State) (p : Nat) : Twin := vget s.tol.twins p
def State.setTwin (s : State) (p : Nat) (t : Twin) : State :=
  { s with tol := { s.tol with twins := vset s.tol.twins p t } }
def State.twinOn (s : State) (p : Nat) : Bool := s.rb Pg.tol (Reg.tolTwinp p) 31
def State.twinAlone (s : State) (p : Nat) : Bool := s.rb Pg.tol (Reg.tolTwinp p) 30

/-- Compare this device's digests with the counterpart's where both are present (R322). -/
def State.twinCompare (s : State) (p : Nat) : State :=
  let t := s.twin p
  t.own.foldl
    (fun s o =>
      match t.other.find? (fun x => decide (x.1 = o.1)) with
      | none => s
      | some (_, d) =>
        let t := s.twin p
        let s := s.setTwin p { t with own := t.own.filter (fun x => decide (x.1 ≠ o.1)), misses := 0 }
        if d = o.2.1 then s
        else
          ((s.setReg Pg.tol (Reg.tolTwinpSusp p) o.1).bump Pg.tol Reg.tolCntSuspect).irq Pg.tol 17) s

/-- The digest of a completed step goes to the counterpart, and waits for the counterpart's (R321, R322). -/
def State.sendDigest (s : State) (p : Nat) (step : W32) (d : BitVec 64) : State :=
  if !s.twinOn p ∨ !s.isOn Pg.tol then s
  else
    let tag := s.rf Pg.tol (Reg.tolTwinp p) 11 0
    let dest := BitVec.ofNat 16 (s.rf Pg.tol (Reg.tolTwinpDest p) 15 0)
    let c : Contrib := { opc := 15, nscal := 0, members := 1,
                         vals := (d.toNat, s.rf Pg.tol (Reg.tolTwinp p) 18 16) :: List.replicate 7 (0, 0) }
    let s := s.injectGroup p (tolPacket 2 (s.toOne tag dest) 0 step 0 c)
    if s.twinAlone p then s
    else
      let t := s.twin p
      (s.setTwin p { t with own := t.own ++ [(step, d, s.now)] }).twinCompare p

/-- TWIN_DIGEST: a counterpart's digest arrives; IDX0 names the partition. -/
def State.doTwinDigest (s : State) (pkt : Packet) : State :=
  if pkt.vc ≠ 0 ∨ pkt.type ≠ 2 then s
  else
    match s.takeEjected pkt with
    | none => s
    | some s =>
      let c := tolContrib pkt
      let d := nth c.vals (0, 0) 0
      if !s.isOn Pg.tol ∨ 8 ≤ d.2 then s
      else
        let t := s.twin d.2
        let l := t.other.filter (fun x => decide (x.1 ≠ tolStep pkt)) ++ [(tolStep pkt, BitVec.ofNat 64 d.1)]
        (s.setTwin d.2 { t with other := l.drop (l.length - 8) }).twinCompare d.2

/-- TWIN_MISSING: no counterpart digest within TOL_TWTMO ticks of the own one (R323). -/
def State.doTwinMissing (s : State) (p : Nat) : State :=
  let t := s.twin p
  match t.own with
  | [] => s
  | x :: r =>
    if s.now < x.2.2 + (s.reg Pg.tol Reg.tolTwtmo).toNat then s
    else
      let s := (s.setTwin p { t with own := r, misses := t.misses + 1 }).bump Pg.tol Reg.tolCntTwmiss
      let s := s.irq Pg.tol 18
      if t.misses + 1 < max 1 (s.rf Pg.tol (Reg.tolTwinpDest p) 23 16) ∨ s.twinAlone p then s
      else
        let s := (s.setRf Pg.tol (Reg.tolTwinp p) 30 30 1).irq Pg.tol 19
        let s := s.setTwin p { s.twin p with own := [] }
        let tag := s.rf Pg.tol (Reg.tolTwinp p) 11 0
        s.suspect (s.toPhys (s.tagShape tag) (BitVec.ofNat 16 (s.rf Pg.tol (Reg.tolTwinpDest p) 15 0))) Cause.twin

/-! Partition reset and the page leaving ON -/

/-- The slots, operations and digests are emptied: the page has been reset or has left ON. -/
def State.tolClear (s : State) : State := { s with tol := Tollgate.init }

end Sys2Proof.Machine
end

