-- ==== Sys2Proof/Machine/Collect.lean ====
section
/-! DEFINITION. The collective engine: descriptors, ring algorithms, release on check, the completion vote and
the reliable broadcast (R311 to R320, R324, R325). -/
namespace Sys2Proof.Machine

/-! Descriptors (Table 13.3) -/

def cdOp (d : BitVec 512) : Nat := dfld d 0 7 0
def cdGroup (d : BitVec 512) : Nat := dfld d 0 11 8
def cdVote (d : BitVec 512) : Bool := decide (dfld d 0 12 12 = 1)
def cdHier (d : BitVec 512) : Bool := decide (dfld d 0 13 13 = 1)
def cdComp (d : BitVec 512) : Bool := decide (dfld d 0 14 14 = 1)
def cdType (d : BitVec 512) : Nat := dfld d 0 23 16
def cdXfmt (d : BitVec 512) : Nat := dfld d 0 31 24
def cdRop (d : BitVec 512) : Nat := dfld d 4 3 0
def cdAxes (d : BitVec 512) : List Nat := bitsSet 4 (dfld d 4 7 4)
def cdNscal (d : BitVec 512) : Nat := dfld d 4 10 8
def cdCount (d : BitVec 512) : Nat := dfld d 8 31 0
def cdRoot (d : BitVec 512) : Coord := BitVec.ofNat 16 (dfld d 0xC 15 0)
def cdSrc (d : BitVec 512) : Nat := dfld d 0x10 63 0
def cdDst (d : BitVec 512) : Nat := dfld d 0x18 63 0

def Coll.barrier : Nat := 0x01
def Coll.scalar : Nat := 0x02
def Coll.allreduce : Nat := 0x10
def Coll.reduceScatter : Nat := 0x11
def Coll.allgather : Nat := 0x12
def Coll.alltoall : Nat := 0x13
def Coll.broadcast : Nat := 0x20

/-- Bytes of an element of DTYPE: FP32 and INT32 four, BF16 two. -/
def cdSize (d : BitVec 512) : Nat := if cdType d = 0x02 then 2 else 4

/-- This device's logical coordinate in the group of a descriptor, and the extents of its shape. -/
def State.collMe (s : State) (d : BitVec 512) : Coord := s.selfLog (s.grpTag (cdGroup d))
def State.collExt (s : State) (d : BitVec 512) (a : Nat) : Nat := s.extent (s.grpShape (cdGroup d)) a

/-- A device is a member: it shares this device's coordinates on every axis outside AXES (R311). -/
def State.collMember (s : State) (d : BitVec 512) (c : Coord) : Bool :=
  s.inShape (s.grpShape (cdGroup d)) c &&
    (List.range 4).all (fun a => (cdAxes d).contains a || decide (axisOf c a = axisOf (s.collMe d) a))

/-- The members in ascending logical rank. -/
def State.collMembers (s : State) (d : BitVec 512) : List Coord :=
  let sh := s.grpShape (cdGroup d)
  ((List.range (s.shapeSize sh)).map (s.coordOf sh)).filter (s.collMember d)

/-- The number of members. -/
def State.collSize (s : State) (d : BitVec 512) : Nat := (cdAxes d).foldl (fun n a => n * s.collExt d a) 1

/-- The elements of the vector that DST holds: for ALLGATHER every member's part (R312). -/
def State.collLen (s : State) (d : BitVec 512) : Nat :=
  if cdOp d = Coll.allgather then cdCount d * s.collSize d else cdCount d

/-- The bytes of SRC and of DST. -/
def State.collBytes (s : State) (d : BitVec 512) : Nat × Nat :=
  let n := cdCount d * cdSize d
  if cdOp d = Coll.barrier then (0, 0)
  else if cdOp d = Coll.scalar then (12 * (cdNscal d + 1), 12 * (cdNscal d + 1))
  else if cdOp d = Coll.broadcast then (if cdRoot d = s.collMe d then cdCount d else 0, cdCount d)
  else if cdOp d = Coll.allgather then (n, n * s.collSize d)
  else if cdOp d = Coll.alltoall then (n * s.collSize d, n * s.collSize d)
  else (n, n)

/-- The checks of Table 13.3 (R311) for a collective of partition p. -/
def State.collOk (s : State) (p : Nat) (d : BitVec 512) : Bool :=
  let op := cdOp d
  let bulk := op = Coll.allreduce ∨ op = Coll.reduceScatter ∨ op = Coll.allgather ∨ op = Coll.alltoall
  let (sb, db) := s.collBytes d
  decide (bulk ∨ op = Coll.barrier ∨ op = Coll.scalar ∨ op = Coll.broadcast)
    && decide (cdGroup d ≠ 15 ∧ s.grpPart (cdGroup d) = p ∧ dfld d 0 15 15 = 0 ∧ dfld d 4 31 11 = 0
      ∧ dfld d 0xC 31 16 = 0 ∧ fld d 511 (8 * 0x24) = 0)
    && s.grpOk (cdGroup d) && s.inShape (s.grpShape (cdGroup d)) (s.collMe d)
    && (if cdHier d then decide (cdXfmt d = 0x02 ∨ cdXfmt d = 0x10) else decide (cdXfmt d = 0) && !cdComp d)
    && decide (bulk → (cdType d = 0x01 ∨ cdType d = 0x02 ∨ cdType d = 0x06) ∧ cdRop d ≤ 2)
    && decide (op = Coll.broadcast → cdType d = 0 ∧ s.collMember d (cdRoot d) = true)
    && (sb == 0 || s.inGdr p (cdSrc d) sb) && (db == 0 || s.inGdr p (cdDst d) db)

/-! Contexts -/

def State.collCtx (s : State) (i : Nat) : Option CollCtx := vget s.col.ctxs i
def State.setCollCtx (s : State) (i : Nat) (x : Option CollCtx) : State :=
  { s with col := { s.col with ctxs := vset s.col.ctxs i x } }

/-- A context changed in place. -/
def State.updCollCtx (s : State) (i : Nat) (f : CollCtx → CollCtx) : State :=
  match s.collCtx i with
  | some x => s.setCollCtx i (some (f x))
  | none => s

/-- The context in use under a number, where it is running. -/
def State.collLive (s : State) (i : Nat) : Option CollCtx :=
  (s.collCtx i).filter (fun x => x.inUse && !x.failed && !x.voted)

/-- The context with an identity, in use. -/
def State.collById (s : State) (id : Nat) : Option Nat :=
  (List.range 16).find? (fun i => (s.collCtx i).any (fun x => x.inUse && decide (x.id = id)))

/-- The live graph of a collective's STEP is marked FAILED (R318); a kicked collective has the STEP 0 of no
graph but an active one. -/
def State.collFailStep (s : State) (x : CollCtx) : State :=
  if x.kick then
    match (s.schPart x.part).live with
    | some g => if g.step = x.step then s.markFailed x.part false 0 false else s
    | none => s
  else s.failStep x.part x.step

/-- A member fails a collective (R318): the code is recorded, nothing more is sent, and with VOTE it contributes
1 as soon as it fails (R319). -/
def State.collFail (s : State) (i : Nat) (code : Option Nat) : State :=
  match s.collCtx i with
  | none => s
  | some x =>
    if !x.inUse ∨ x.failed then s
    else
      let s := match code with
        | some c => s.errorOpen Pg.col Cls.task x.part c
        | none => s
      let vote := cdVote x.desc && !x.voted
      let s := (s.setCollCtx i (some { x with failed := true, inUse := vote, voted := vote, stalled := none })).irq Pg.col 16
      let s := s.collFailStep x
      if vote then s.opAdd (cdGroup x.desc) x.step none (orOf [1]) (.vote x.id) else s

/-- A collective completes: its signal is raised (Table 13.3). -/
def State.collComplete (s : State) (i : Nat) : State :=
  match s.collCtx i with
  | none => s
  | some x =>
    let s := ((s.setCollCtx i (some { x with inUse := false, done := true })).bump Pg.col Reg.colCntColl).irq Pg.col 20
    if x.kick ∨ dfld x.desc 0x20 31 31 = 0 then s
    else s.signal x.part x.step (dfld x.desc 0x20 30 16) (dfld x.desc 0x20 15 0)

/-- All of a member's parts are released: it completes, or with VOTE contributes 0 (R318, R319). -/
def State.collFinish (s : State) (i : Nat) : State :=
  match s.collLive i with
  | none => s
  | some x =>
    if cdVote x.desc then
      (s.setCollCtx i (some { x with voted := true })).opAdd (cdGroup x.desc) x.step none (orOf [0]) (.vote x.id)
    else s.collComplete i

/-- The result of a completion vote (R319). -/
def State.voteResult (s : State) (id : Nat) (r : Option Contrib) : State :=
  match s.collById id with
  | none => s
  | some i =>
    match s.collCtx i with
    | none => s
    | some x =>
      if r.any (fun c => (nth c.vals (1, 0) 0).1 == 0) && !x.failed then s.collComplete i
      else
        let s := (s.setCollCtx i (some { x with inUse := false, failed := true })).irq Pg.col 18
        ((s.bump Pg.col Reg.colCntPoison).errorOpen Pg.col Cls.task x.part 0x14).collFailStep x

/-! Ring steps (R312) -/

/-- A ring step: reduce-scatter or all-gather, along an axis, step s. -/
structure Hop where
  rs : Bool
  axis : Nat
  s : Nat
  deriving DecidableEq, Repr

/-- The ring steps of a collective in order. -/
def State.collHops (s : State) (d : BitVec 512) : List Hop :=
  let run : Bool → List Nat → List Hop := fun rs axes =>
    axes.flatMap (fun a => (List.range (s.collExt d a - 1)).map (fun k => ⟨rs, a, k + 1⟩))
  let axes := cdAxes d
  if cdOp d = Coll.allreduce then run true axes ++ run false axes.reverse
  else if cdOp d = Coll.reduceScatter then run true axes
  else if cdOp d = Coll.allgather then run false axes.reverse
  else []

/-- Part j of n elements divided into e parts: its first element and its elements. -/
def ringPart (n e j : Nat) : Nat × Nat := (j * n / e, (j + 1) * n / e - j * n / e)

/-- The elements that an axis divides: what the axes before it have left (R312). -/
def State.collRegion (s : State) (d : BitVec 512) (axis : Nat) : Nat × Nat :=
  ((cdAxes d).filter (fun a => decide (a < axis))).foldl
    (fun (r : Nat × Nat) a =>
      let (o, n) := ringPart r.2 (s.collExt d a) (axisOf (s.collMe d) a)
      (r.1 + o, n)) (0, s.collLen d)

/-- Part j of an axis: its first element in DST and its elements. -/
def State.collPart (s : State) (d : BitVec 512) (axis j : Nat) : Nat × Nat :=
  let (lo, n) := s.collRegion d axis
  let (o, m) := ringPart n (s.collExt d axis) j
  (lo + o, m)

/-- The part a member at position p sends in a ring step. -/
def hopPart (h : Hop) (e p : Nat) : Nat := (p + 2 * e - h.s + (if h.rs then 0 else 1)) % e

/-- Chunks of a part of m elements (R313). -/
def chunkCount (m : Nat) : Nat := (m + 2047) / 2048

/-- Chunk c of a part: its first element in the part and its elements. -/
def chunkAt (m c : Nat) : Nat × Nat := (2048 * c, min 2048 (m - 2048 * c))

/-- A ring step carries XFMT in place of DTYPE (R315). -/
def narrowHop (d : BitVec 512) (axis : Nat) : Bool := cdHier d && decide (axis = 3)

/-- PHASE of a ring step (Table 13.4). -/
def hopPhase (d : BitVec 512) (h : Hop) : Nat := if narrowHop d h.axis then 1 else if h.rs then 0 else 2

/-! Payloads (R313, R315, R316) -/

def fmtMx8 : Fmt := ⟨.fp fpE4M3, 8, 32, .e8m0, true, true, .b8⟩
/-- Conversion with RN, SAT 1 and SCALE_RULE 1 (R315). -/
def Conv.narrow : Conv := ⟨false, true, 1, 0⟩

/-- A list of values padded with +0 to whole blocks (R154). -/
def padVals (f : Fmt) (vs : List Val) : List Val :=
  vs ++ List.replicate ((f.block - vs.length % f.block) % f.block) Val.zero

/-- The elements of a span of n elements in a format, padded to whole blocks. -/
def padded (f : Fmt) (n : Nat) : Nat := (n + f.block - 1) / f.block * f.block

/-- The span of a list of values in a format under R315. -/
def narrowSpan (f : Fmt) (vs : List Val) : List Byte := (f.encodeSpan Conv.narrow 0 (fun _ => 0) (padVals f vs) []).1

/-- The values of a span. -/
def spanVals (f : Fmt) (n : Nat) (bs : List Byte) : List Val := ((f.decodeSpan (padded f n) bs).map (·.1)).take n

/-- The bytes of n elements in a span with its padding. -/
def spanLen (f : Fmt) (n : Nat) : Nat := f.spanSize (padded f n)

/-- A chunk of values under R315: q, and with COMP the compensation term e after it. -/
def narrowChunk (x : Fmt) (comp : Bool) (vs : List Val) : List Byte :=
  let q := narrowSpan x vs
  if comp then
    q ++ narrowSpan fmtMx8 (List.zipWith (fun v w => addExact v w.neg) vs (spanVals x vs.length q))
  else q

/-- v′ = decode(q) + decode(e), in one FP32 addition (R315). -/
def wideChunk (x : Fmt) (comp : Bool) (n : Nat) (bs : List Byte) : List Val :=
  let q := spanVals x n bs
  if comp then List.zipWith addF q (spanVals fmtMx8 n (bs.drop (spanLen x n))) else q.map (f32 .near)

/-- DTYPE and XFMT as formats. -/
def cdFmt (d : BitVec 512) : Fmt := (fmtOf (cdType d)).getD fmtF32
def cdX (d : BitVec 512) : Fmt := (fmtOf (cdXfmt d)).getD fmtF32

/-- The payload bytes of a chunk of n elements, and its PFMT. -/
def chunkLen (d : BitVec 512) (narrow : Bool) (n : Nat) : Nat :=
  if narrow then spanLen (cdX d) n + (if cdComp d then spanLen fmtMx8 n else 0) else n * cdSize d
def chunkFmt (d : BitVec 512) (narrow : Bool) : Nat := if narrow then cdXfmt d else cdType d

/-- The payload of a chunk from the bytes of DST. -/
def chunkPayload (d : BitVec 512) (narrow : Bool) (bs : List Byte) : List Byte :=
  if narrow then narrowChunk (cdX d) (cdComp d) (spanVals (cdFmt d) (bs.length / cdSize d) bs) else bs

/-- The sum modulo 2^32 of the 32-bit words of a payload, padded with zero bytes (R316). -/
def residue (bs : List Byte) : Nat :=
  ((chunks 4 ((bs.length + 3) / 4) bs).map leNat).sum % 2 ^ 32

/-- One value in DTYPE, rounded to nearest even. -/
def cdCode (d : BitVec 512) (v : Val) : Nat := if cdType d = 0x02 then (encodeFp fpBf16 false .near v).1 else toF32 (f32 .near v)

/-- An incoming value combined with the own one: SUM, MAX or MIN (R312). -/
def cdCombine (d : BitVec 512) (a b : Val) : Val :=
  match cdRop d with
  | 0 => addExact a b
  | 1 => maxF a b
  | _ => minF a b

/-- INT32 codes combined modulo 2^32. -/
def cdCombineInt (d : BitVec 512) (a b : Nat) : Nat :=
  match cdRop d with
  | 0 => (a + b) % 2 ^ 32
  | 1 => if signed 32 a < signed 32 b then b else a
  | _ => if signed 32 b < signed 32 a then b else a

/-- The bytes of a list of element codes. -/
def codeBytes (d : BitVec 512) (cs : List Nat) : List Byte := cs.flatMap (toLE (cdSize d))

/-- What a released chunk writes to DST: own bytes and payload, in reduce-scatter combined. An INT32 value that
came narrowed has no stated result and is open (log 50, DESIGN CHOICE). -/
def State.released (s : State) (d : BitVec 512) (narrow rs : Bool) (n : Nat) (own payload : List Byte) : List Byte × State :=
  if cdType d = 0x06 then
    if narrow then
      let (f, s) := s.freeBits (32 * n)
      (toLE (4 * n) f, s)
    else if rs then
      (codeBytes d (List.zipWith (cdCombineInt d) (unpackElems 32 n payload) (unpackElems 32 n own)), s)
    else (payload, s)
  else
    let vs := if narrow then wideChunk (cdX d) (cdComp d) n payload else spanVals (cdFmt d) n payload
    if rs then (codeBytes d ((List.zipWith (cdCombine d) vs (spanVals (cdFmt d) n own)).map (cdCode d)), s)
    else if narrow then (codeBytes d (vs.map (cdCode d)), s) else (payload, s)

/-! Sending -/

/-- The header fields of a chunk (Table 13.4). -/
def chunkFields (x : CollCtx) (phase rstep pfmt : Nat) (compp : Bool) (part chunk res : Nat) :
    List (Nat × Nat × Nat × Nat) :=
  [(0x10, 31, 0, x.step.toNat), (0x14, 7, 0, x.cidx), (0x14, 11, 8, phase), (0x14, 15, 12, cdGroup x.desc),
   (0x14, 31, 16, rstep), (0x18, 7, 0, pfmt), (0x18, 22, 22, compp.toNat), (0x1C, 31, 0, part),
   (0x20, 31, 0, chunk), (0x24, 31, 0, res)]

/-- The number under which a chunk of a part is kept. -/
def chunkKey (part chunk : Nat) : Nat := part * 2 ^ 32 + chunk

/-- The number under which a chunk sent in a ring step is kept. -/
def sentKey (rstep part chunk : Nat) : Nat := rstep * 2 ^ 64 + chunkKey part chunk

/-- Send the bytes at an address as a chunk to a member; a resend keeps the RES it had (R317). -/
def State.sendChunk (s : State) (i : Nat) (dest : Coord) (phase rstep part chunk a n : Nat) (narrow : Bool)
    (kept : Option Nat) : State :=
  match s.collLive i with
  | none => s
  | some x =>
    let d := x.desc
    match s.blockRead x.part a (n * cdSize d) i with
    | (none, s) => s.collFail i none
    | (some bs, s) =>
      let payload := chunkPayload d narrow bs
      let res := kept.getD (residue payload)
      let p := mkPacket 3 0 (s.toOne (s.grpTag (cdGroup d)) dest
        ++ chunkFields x phase rstep (chunkFmt d narrow) (narrow && cdComp d) part chunk res) payload
      let key := sentKey rstep part chunk
      let s := s.setCollCtx i (some { x with res := x.res.set 0 key (res + 1), lastAt := some s.now })
      (s.injectGroup x.part p).bump Pg.col Reg.colCntChunkTx

/-- The member after, or before, this device in the ring of an axis. -/
def State.ringNext (s : State) (d : BitVec 512) (a : Nat) : Coord := nextOn (s.collExt d) (s.collMe d) a true
def State.ringPrev (s : State) (d : BitVec 512) (a : Nat) : Coord := nextOn (s.collExt d) (s.collMe d) a false

/-- Send chunk c of the part that a ring step sends. -/
def State.sendHopChunk (s : State) (i : Nat) (d : BitVec 512) (h : Hop) (c : Nat) (kept : Option Nat) : State :=
  let j := hopPart h (s.collExt d h.axis) (axisOf (s.collMe d) h.axis)
  let (lo, m) := s.collPart d h.axis j
  let (o, n) := chunkAt m c
  s.sendChunk i (s.ringNext d h.axis) (hopPhase d h) h.s j c (cdDst d + (lo + o) * cdSize d) n (narrowHop d h.axis) kept

/-- Each owner replaces its own part with the v′ of that part, at the end of the reduce-scatter along w
(R315). -/
def State.narrowOwn (s : State) (i : Nat) (x : CollCtx) : State :=
  let d := x.desc
  let (lo, m) := s.collPart d 3 (axisOf (s.collMe d) 3)
  (List.range (chunkCount m)).foldl
    (fun s c =>
      let (o, n) := chunkAt m c
      let a := cdDst d + (lo + o) * cdSize d
      match s.blockRead x.part a (n * cdSize d) i with
      | (none, s) => s.collFail i none
      | (some bs, s) =>
        let (out, s) := s.released d true false n [] (chunkPayload d true bs)
        match s.blockWrite x.part a out i with
        | (true, s) => s
        | (false, s) => s.collFail i none) s

/-- Enter ring step k: its chunks are sent. A new stage forgets the residues kept (R317). -/
def State.enterHop (s : State) (i k : Nat) : State :=
  match s.collLive i with
  | none => s
  | some x =>
    let d := x.desc
    let hops := s.collHops d
    let prev : Option Hop := if k = 0 then none else hops[k - 1]?
    let cur := hops[k]?
    let stage := fun (h : Option Hop) => h.map (fun h => (h.rs, h.axis))
    let same := decide (stage prev = stage cur)
    let s := s.setCollCtx i (some { x with hop := k, got := [], failed1 := [], res := if same then x.res else [] })
    let s := if !same && prev.any (fun h => h.rs && narrowHop d h.axis) then s.narrowOwn i x else s
    match cur with
    | none => s
    | some h =>
      let (_, m) := s.collPart d h.axis (hopPart h (s.collExt d h.axis) (axisOf (s.collMe d) h.axis))
      (List.range (chunkCount m)).foldl (fun s c => s.sendHopChunk i d h c none) s

/-! Receiving -/

def ckStep (p : Packet) : W32 := w32 (p.fld 0x10 31 0)
def ckCidx (p : Packet) : Nat := p.fld 0x14 7 0
def ckPhase (p : Packet) : Nat := p.fld 0x14 11 8
def ckGroup (p : Packet) : Nat := p.fld 0x14 15 12
def ckRstep (p : Packet) : Nat := p.fld 0x14 31 16
def ckPart (p : Packet) : Nat := p.fld 0x1C 31 0
def ckChunk (p : Packet) : Nat := p.fld 0x20 31 0
def ckRes (p : Packet) : Nat := p.fld 0x24 31 0

/-- The running context of a packet, or a finished one. -/
def State.collOf (s : State) (p : Packet) (live : Bool) : Option Nat :=
  (List.range 16).find? (fun i => (s.collCtx i).any (fun x =>
    (if live then x.inUse && !x.failed && !x.voted else true) &&
      decide (x.step = ckStep p ∧ x.cidx = ckCidx p ∧ cdGroup x.desc = ckGroup p)))

/-- A chunk's check fails: a NAK goes back; a second failure is code 0x11 (R317). -/
def State.chunkBad (s : State) (i : Nat) (x : CollCtx) (p : Packet) : State :=
  let s := (s.bump Pg.col Reg.colCntResfail).irq Pg.col 17
  let key := sentKey (ckRstep p) (ckPart p) (ckChunk p)
  if x.failed1.contains key then s.collFail i (some 0x11)
  else
    let s := s.setCollCtx i (some { x with failed1 := key :: x.failed1 })
    s.injectGroup x.part (mkPacket 3 1 (s.toOne (s.grpTag (cdGroup x.desc)) p.src
      ++ chunkFields x (ckPhase p) (ckRstep p) (p.fld 0x18 7 0) (decide (p.fld 0x18 22 22 = 1)) (ckPart p) (ckChunk p)
        (ckRes p)) [])

/-- The format, length and compensation term of a chunk fit what is expected of n elements. -/
def chunkFits (d : BitVec 512) (narrow : Bool) (n : Nat) (p : Packet) : Bool :=
  decide (p.fld 0x18 7 0 = chunkFmt d narrow ∧ p.payload.length = chunkLen d narrow n ∧ p.len = p.payload.length
    ∧ p.fld 0x18 22 22 = (narrow && cdComp d).toNat)

/-- A chunk whose check passed is combined or written, and counted (R312, R316). -/
def State.chunkRelease (s : State) (i : Nat) (x : CollCtx) (p : Packet) (a n key : Nat) (narrow rs : Bool) : State :=
  let d := x.desc
  let own : Option (List Byte) × State := if rs then s.blockRead x.part a (n * cdSize d) i else (some [], s)
  match own with
  | (none, s) => s.collFail i none
  | (some own, s) =>
    let (out, s) := s.released d narrow rs n own p.payload
    match s.blockWrite x.part a out i with
    | (false, s) => s.collFail i none
    | (true, s) =>
      (s.updCollCtx i (fun x => { x with got := key :: x.got, lastAt := some s.now })).bump Pg.col Reg.colCntChunkRx

/-- A chunk for the ring step in hand. -/
def State.hopTake (s : State) (i : Nat) (x : CollCtx) (h : Hop) (p : Packet) : State :=
  let d := x.desc
  let (lo, m) := s.collPart d h.axis (ckPart p)
  let c := ckChunk p
  let (o, n) := chunkAt m c
  let nw := narrowHop d h.axis
  if chunkCount m ≤ c ∨ !chunkFits d nw n p then s.collFail i (some 0x17)
  else if x.got.contains c then s
  else if residue p.payload ≠ ckRes p then s.chunkBad i x p
  else s.chunkRelease i x p (cdDst d + (lo + o) * cdSize d) n c nw h.rs

/-- The ring step a chunk belongs to. -/
def State.hopOf (s : State) (d : BitVec 512) (p : Packet) : Option Nat :=
  findPos (fun h =>
    let e := s.collExt d h.axis
    decide (hopPhase d h = ckPhase p ∧ h.s = ckRstep p ∧ s.ringPrev d h.axis = p.src
      ∧ hopPart h e ((axisOf (s.collMe d) h.axis + e - 1) % e) = ckPart p)) (s.collHops d)

/-- A chunk of ALLTOALL (R314). -/
def State.blockTake (s : State) (i : Nat) (x : CollCtx) (p : Packet) : State :=
  let d := x.desc
  let m := cdCount d
  let c := ckChunk p
  let (o, n) := chunkAt m c
  match findPos (fun q => decide (q = p.src)) (s.collMembers d) with
  | none => s.collFail i (some 0x17)
  | some q =>
    if ckPhase p ≠ 3 ∨ s.rankOf (s.grpShape (cdGroup d)) p.src ≠ ckPart p ∨ chunkCount m ≤ c ∨ !chunkFits d false n p
        ∨ p.src = s.collMe d then s.collFail i (some 0x17)
    else if x.got.contains (chunkKey q c) then s
    else if residue p.payload ≠ ckRes p then s.chunkBad i x p
    else s.chunkRelease i x p (cdDst d + (q * m + o) * cdSize d) n (chunkKey q c) false false

/-- Hold a packet in the receive buffer, where it has room (R313). -/
def State.bufTake (s : State) (p : Packet) : Option State :=
  if s.col.buf.length < 512 then some { s with col := { s.col with buf := s.col.buf ++ [p] } } else none

/-! Broadcast (R324) -/

/-- Chunks of a broadcast, and of its round r. -/
def bcChunks (d : BitVec 512) : Nat := (cdCount d + 8191) / 8192
def bcRound (d : BitVec 512) (r : Nat) : Nat := min 512 (bcChunks d - 512 * r)

def State.isRoot (s : State) (d : BitVec 512) : Bool := decide (cdRoot d = s.collMe d)

/-- The box of the members. -/
def State.collBox (s : State) (d : BitVec 512) (a : Nat) : Nat :=
  if (cdAxes d).contains a then 2 ^ s.collExt d a - 1 else 2 ^ axisOf (s.collMe d) a

/-- Send chunk c of a broadcast from the DST copy: to every member, or again to one. -/
def State.bcSend (s : State) (i c : Nat) (dest : Option Coord) (kept : Option Nat) : State :=
  match s.collLive i with
  | none => s
  | some x =>
    let d := x.desc
    match s.blockRead x.part (cdDst d + 8192 * c) (min 8192 (cdCount d - 8192 * c)) i with
    | (none, s) => s.collFail i none
    | (some bs, s) =>
      let res := kept.getD (residue bs)
      let tag := s.grpTag (cdGroup d)
      let routing := match dest with
        | some q => s.toOne tag q
        | none => s.toBox tag (s.collBox d)
      let s := s.setCollCtx i (some { x with res := x.res.set 0 c (res + 1) })
      (s.injectGroup x.part (mkPacket 6 2 (routing ++ chunkFields x 4 x.round 0 false 0 c res) bs)).bump
        Pg.col Reg.colCntChunkTx

/-- Contribute to the round's OR: the mask of the chunks this member lacks; the root contributes 0. -/
def State.bcTell (s : State) (i : Nat) : State :=
  match s.collLive i with
  | none => s
  | some x =>
    let d := x.desc
    let mask := if s.isRoot d then 0
      else ((List.range (bcRound d x.round)).filter (fun k => !x.got.contains (512 * x.round + k))).foldl
        (fun a k => a + 2 ^ k) 0
    (s.setCollCtx i (some { x with told := true })).opAdd (cdGroup d) x.step none
      (orOf ((List.range 8).map (fun w => mask / 2 ^ (64 * w) % 2 ^ 64))) (.bcast x.id)

/-- Begin round r: the root multicasts its chunks and a BEND, and contributes. -/
def State.bcBegin (s : State) (i r : Nat) : State :=
  match s.collLive i with
  | none => s
  | some x =>
    let d := x.desc
    let s := s.setCollCtx i (some { x with round := r, repairs := 0, bend := false, told := false, got := [],
                                           failed1 := [], res := [], lastAt := none })
    if s.isRoot d then
      let s := (List.range (bcRound d r)).foldl (fun s k => s.bcSend i (512 * r + k) none none) s
      let s := s.injectGroup x.part (mkPacket 6 3 (s.toBox (s.grpTag (cdGroup d)) (s.collBox d)
        ++ chunkFields { x with round := r } 4 r 0 false 0 0 0) [])
      s.bcTell i
    else s

/-- A broadcast chunk that arrived: checked, and written to DST; a duplicate is discarded. -/
def State.bcTake (s : State) (i : Nat) (x : CollCtx) (p : Packet) : State :=
  let d := x.desc
  let c := ckChunk p
  if s.isRoot d then s
  else if ckPhase p ≠ 4 ∨ c < 512 * x.round ∨ 512 * x.round + bcRound d x.round ≤ c
      ∨ p.payload.length ≠ min 8192 (cdCount d - 8192 * c) ∨ p.fld 0x18 7 0 ≠ 0 then s.collFail i (some 0x17)
  else if x.got.contains c then s
  else
    let s := s.updCollCtx i (fun x => { x with lastAt := some s.now })
    if residue p.payload ≠ ckRes p then s.chunkBad i { x with lastAt := some s.now } p
    else
      match s.blockWrite x.part (cdDst d + 8192 * c) p.payload i with
      | (false, s) => s.collFail i none
      | (true, s) => (s.updCollCtx i (fun x => { x with got := c :: x.got })).bump Pg.col Reg.colCntChunkRx

/-- A BEND of the round in hand. -/
def State.bendTake (s : State) (i : Nat) (x : CollCtx) : State :=
  if s.isRoot x.desc ∨ x.told ∨ x.stalled.isSome then s.setCollCtx i (some { x with bend := true })
  else (s.setCollCtx i (some { x with bend := true })).bcTell i

/-! What a packet does to its context -/

/-- Whether a packet can be taken by its context now: none where it is for later; a packet of something past is
taken and does nothing. -/
def State.canTake (s : State) (x : CollCtx) (p : Packet) : Bool :=
  if p.vc = 6 then decide (ckRstep p ≤ x.round)
  else if cdOp x.desc = Coll.alltoall then true
  else
    match s.hopOf x.desc p with
    | some k => decide (k ≤ x.hop)
    | none => true

/-- A context takes a packet. -/
def State.collTake (s : State) (i : Nat) (p : Packet) : State :=
  match s.collLive i with
  | none => s
  | some x =>
    let op := cdOp x.desc
    if p.vc = 6 then
      if op ≠ Coll.broadcast then s.collFail i (some 0x17)
      else if ckRstep p < x.round then s
      else if p.type = 3 then s.bendTake i x
      else s.bcTake i x p
    else if op = Coll.alltoall then s.blockTake i x p
    else
      match s.hopOf x.desc p with
      | none => s.collFail i (some 0x17)
      | some k =>
        match (s.collHops x.desc)[k]? with
        | some h => if k < x.hop then s else s.hopTake i x h p
        | none => s

/-- Every chunk of the ring step in hand, or of ALLTOALL, is released. -/
def State.stepFull (s : State) (x : CollCtx) : Bool :=
  let d := x.desc
  if cdOp d = Coll.alltoall then decide ((s.collSize d - 1) * chunkCount (cdCount d) ≤ x.got.length)
  else
    match (s.collHops d)[x.hop]? with
    | none => true
    | some h =>
      let e := s.collExt d h.axis
      let (_, m) := s.collPart d h.axis (hopPart h e ((axisOf (s.collMe d) h.axis + e - 1) % e))
      decide (chunkCount m ≤ x.got.length)

/-- Go on with a context as far as the packets that wait allow; n bounds the steps taken. -/
def State.collRun (s : State) (i : Nat) : Nat → State
  | 0 => s
  | n + 1 =>
    match s.collLive i with
    | none => s
    | some x =>
      let op := cdOp x.desc
      match s.col.buf.find? (fun p => decide (s.collOf p true = some i) && s.canTake x p) with
      | some p => State.collRun (({ s with col := { s.col with buf := s.col.buf.erase p } }).collTake i p) i n
      | none =>
        if op = Coll.broadcast ∨ op = Coll.barrier ∨ op = Coll.scalar then s
        else if !s.stepFull x then s
        else if op = Coll.alltoall ∨ (s.collHops x.desc).length ≤ x.hop + 1 then
          (s.enterHop i (x.hop + 1)).collFinish i
        else State.collRun (s.enterHop i (x.hop + 1)) i n

/-- Go on with a context. -/
def State.collGo (s : State) (i : Nat) : State :=
  match s.collLive i with
  | some x => s.collRun i ((s.collHops x.desc).length + s.col.buf.length + 2)
  | none => s

/-- A step is retired for the partition of a group (R125). -/
def State.collRetired (s : State) (p : Packet) : Bool :=
  decide ((s.schPart (s.grpPart (ckGroup p))).retired = some (ckStep p))

/-- A chunk, BCHUNK or BEND arrives: discarded where its step is retired, held in the receive buffer where its
context has not started or is not so far, else taken (R313). -/
def State.collArrive (s : State) (p : Packet) : State :=
  match s.takeEjected p with
  | none => s
  | some s' =>
    if !s'.isOn Pg.col then s'
    else if s'.collRetired p then s'.bump Pg.col Reg.colCntStale
    else
      match s'.collOf p true with
      | some i =>
        match s'.collCtx i with
        | some x => if s'.canTake x p then (s'.collTake i p).collGo i else (s'.bufTake p).getD s
        | none => s'
      | none => if (s'.collOf p false).isSome then s' else (s'.bufTake p).getD s

/-- CHUNK_RECEIVE. -/
def State.doChunk (s : State) (p : Packet) : State := if p.vc = 3 ∧ p.type = 0 then s.collArrive p else s
/-- BROADCAST_CHUNK. -/
def State.doBcChunk (s : State) (p : Packet) : State := if p.vc = 6 ∧ p.type = 2 then s.collArrive p else s
/-- BROADCAST_END. -/
def State.doBend (s : State) (p : Packet) : State := if p.vc = 6 ∧ p.type = 3 then s.collArrive p else s

/-- CHUNK_NAK: the chunk is read again and resent with the RES kept; a NAK for a phase that the sender has
left is code 0x11 (R317). -/
def State.doNak (s : State) (p : Packet) : State :=
  if p.vc ≠ 3 ∨ p.type ≠ 1 then s
  else
    match s.takeEjected p with
    | none => s
    | some s =>
      if !s.isOn Pg.col then s
      else
        match s.collOf p true with
        | none =>
          match (s.collOf p false).bind s.collCtx with
          | some x => if x.failed then s else (s.errorOpen Pg.col Cls.task x.part 0x11).collFailStep x
          | none => s
        | some i =>
          match s.collCtx i with
          | none => s
          | some x =>
            let d := x.desc
            let c := ckChunk p
            if ckPhase p = 4 then
              if s.isRoot d && decide (ckRstep p = x.round ∧ x.res.get 0 c ≠ 0) then
                (s.bcSend i c (some p.src) (some (x.res.get 0 c - 1))).bump Pg.col Reg.colCntResend
              else s.collFail i (some 0x11)
            else
              let res := x.res.get 0 (sentKey (ckRstep p) (ckPart p) c)
              if res = 0 then s.collFail i (some 0x11)
              else if cdOp d = Coll.alltoall then
                match findPos (fun q => decide (q = p.src)) (s.collMembers d) with
                | none => s
                | some q =>
                  let (o, n) := chunkAt (cdCount d) c
                  (s.sendChunk i p.src 3 0 (ckPart p) c (cdSrc d + (q * cdCount d + o) * cdSize d) n false
                    (some (res - 1))).bump Pg.col Reg.colCntResend
              else
                match (s.collHops d)[x.hop]? with
                | none => s.collFail i (some 0x11)
                | some h =>
                  if hopPhase d h = ckPhase p ∧ s.ringNext d h.axis = p.src then
                    (s.sendHopChunk i d { h with s := ckRstep p } c (some (res - 1))).bump Pg.col Reg.colCntResend
                  else s.collFail i (some 0x11)

/-! Starting (R311) -/

/-- Copy bytes within the partition's memory. -/
def State.collCopy (s : State) (i : Nat) (p src dst n : Nat) : State :=
  if n = 0 then s
  else
    match s.blockRead p src n i with
    | (none, s) => s.collFail i none
    | (some bs, s) =>
      match s.blockWrite p dst bs i with
      | (true, s) => s
      | (false, s) => s.collFail i none

/-- A context begins its work. -/
def State.collBegin (s : State) (i : Nat) : State :=
  match s.collCtx i with
  | none => s
  | some x =>
    let d := x.desc
    let op := cdOp d
    let n := cdCount d * cdSize d
    let zero : Contrib := { opc := 0, nscal := 0, members := 1, vals := List.replicate 8 (0, 0) }
    if op = Coll.barrier then s.opAdd (cdGroup d) x.step none zero (.coll x.id)
    else if op = Coll.scalar then
      match s.blockRead x.part (cdSrc d) (12 * (cdNscal d + 1)) i with
      | (none, s) => s.collFail i none
      | (some bs, s) =>
        let pairs := (chunks 12 (cdNscal d + 1) bs).map (fun b => (leNat (b.take 8), leNat (b.drop 8)))
        let c : Contrib := { opc := cdRop d, nscal := cdNscal d, members := 1,
                             vals := pairs ++ List.replicate (8 - pairs.length) (0, 0) }
        s.opAdd (cdGroup d) x.step none c (.coll x.id)
    else if op = Coll.broadcast then
      let s := if s.isRoot d then s.collCopy i x.part (cdSrc d) (cdDst d) (cdCount d) else s
      (s.bcBegin i 0).collGo i
    else if op = Coll.alltoall then
      let ms := s.collMembers d
      let s := ms.zipIdx.foldl
        (fun s (q, k) =>
          if q = s.collMe d then s.collCopy i x.part (cdSrc d + k * n) (cdDst d + k * n) n
          else
            (List.range (chunkCount (cdCount d))).foldl
              (fun s c =>
                let (o, m) := chunkAt (cdCount d) c
                s.sendChunk i q 3 0 (s.rankOf (s.grpShape (cdGroup d)) (s.collMe d)) c
                  (cdSrc d + (k * cdCount d + o) * cdSize d) m false none) s) s
      s.collGo i
    else if op = Coll.allgather then
      let lo := (s.collRegion d 4).1
      ((s.collCopy i x.part (cdSrc d) (cdDst d + lo * cdSize d) n).enterHop i 0).collGo i
    else ((s.collCopy i x.part (cdSrc d) (cdDst d) n).enterHop i 0).collGo i

/-- What the engine makes of a descriptor. -/
inductive Accept where
  | wait | bad | taken
  deriving DecidableEq, Repr

/-- A descriptor is handed over for a partition (R311): it waits while every context is in use; one that fails
the checks is code 0x10; else a context starts it. -/
def State.collAccept (s : State) (p : Nat) (step : W32) (kick : Bool) (a : Nat) : Accept × State :=
  match (List.range 16).find? (fun i => !((s.collCtx i).any (·.inUse))) with
  | none => (.wait, s)
  | some i =>
    let bad := fun (s : State) => (Accept.bad, s.errorOpen Pg.col Cls.task p 0x10)
    if !s.isOn Pg.col then bad s
    else
      match s.blockRead p a 64 i with
      | (none, s) => bad s
      | (some bs, s) =>
        let d := wordsOf 512 bs
        if !s.collOk p d then bad s
        else
          let k := cdGroup d * 2 ^ 32 + step.toNat
          let n := s.col.counts.get 0 k
          let x : CollCtx :=
            { id := s.col.nextId, part := p, desc := d, step := step, kick := kick, cidx := n % 256, inUse := true,
              failed := false, done := false, hop := 0, got := [], failed1 := [], res := [], lastAt := none,
              round := 0, repairs := 0, bend := false, told := false, stalled := none, voted := false }
          let s := { s with col := { s.col with counts := s.col.counts.set 0 k (n + 1), nextId := s.col.nextId + 1 } }
          (.taken, (s.setCollCtx i (some x)).collBegin i)

/-- COL_KICK_HI starts a collective with STEP 0 for the partition whose range holds the descriptor (R311). -/
def State.collKick (s : State) (a : Nat) : Accept × State :=
  match (List.range 8).find? (fun p => !s.parOff p && s.inGdr p a 64) with
  | some p => s.collAccept p 0 true a
  | none => (.bad, s.errorOpen Pg.col Cls.task 0 0x10)

/-! Results of Tollgate operations -/

/-- BARRIER or SCALAR has its result (R311). -/
def State.collOpResult (s : State) (id : Nat) (r : Option Contrib) : State :=
  match s.collById id with
  | none => s
  | some i =>
    match s.collLive i, r with
    | some x, some c =>
      let d := x.desc
      if cdOp d = Coll.scalar then
        let k := cdNscal d + 1
        let (f, s) := if 3 ≤ c.opc ∧ c.opc ≤ 6 then ((0 : Nat), s) else s.freeBits (32 * k)
        let out := (List.range k).flatMap (fun j =>
          let (v, ix) := nth c.vals (0, 0) j
          toLE 8 v ++ toLE 4 (if 3 ≤ c.opc ∧ c.opc ≤ 6 then ix else f / 2 ^ (32 * j) % 2 ^ 32))
        match s.blockWrite x.part (cdDst d) out i with
        | (true, s) => s.collFinish i
        | (false, s) => s.collFail i none
      else s.collFinish i
    | some _, none => s.collFail i (some 0x15)
    | none, _ => s

/-- The OR of a broadcast round (R324), or its failure (R325). -/
def State.bcResult (s : State) (id : Nat) (r : Option Contrib) : State :=
  match s.collById id with
  | none => s
  | some i =>
    match s.collLive i, r with
    | some x, some c =>
      let d := x.desc
      let mask := (List.range 8).foldl (fun a w => a + (nth c.vals (0, 0) w).1 * 2 ^ (64 * w)) 0
      if mask = 0 then
        if bcChunks d ≤ 512 * (x.round + 1) then s.collFinish i else (s.bcBegin i (x.round + 1)).collGo i
      else if 4 ≤ x.repairs then s.collFail i (some 0x16)
      else
        let s := s.setCollCtx i (some { x with repairs := x.repairs + 1, told := false, bend := false })
        if s.isRoot d then
          let named := (bitsSet 512 mask).filter (fun k => decide (k < bcRound d x.round))
          let s := named.foldl (fun s k => s.bcSend i (512 * x.round + k) none
            (some (x.res.get 0 (512 * x.round + k) - 1))) s
          (s.bump Pg.col Reg.colCntBcround).bcTell i
        else s
    | some x, none => (s.setCollCtx i (some { x with stalled := some s.now })).irq Pg.col 19
    | none, _ => s

/-! Timeouts and RESUME -/

/-- COLLECTIVE_TIMEOUT: the next chunk has not come for longer than COL_TMO (R320). -/
def State.doCollTimeout (s : State) (i : Nat) : State :=
  match s.collLive i with
  | none => s
  | some x =>
    let d := x.desc
    let bulk := decide (0x10 ≤ cdOp d ∧ cdOp d ≤ 0x13)
    match x.lastAt with
    | some t =>
      if !bulk ∨ s.now ≤ t + (s.reg Pg.col Reg.colTmo).toNat then s
      else
        let s := match (s.collHops d)[x.hop]? with
          | some h => s.suspect (s.toPhys (s.grpShape (cdGroup d)) (s.ringPrev d h.axis)) Cause.coll
          | none => s
        (s.bump Pg.col Reg.colCntTmo).collFail i (some 0x12)
    | none => s

/-- BROADCAST_ROUND_TIMEOUT: 20,000 ticks after the last chunk of the round, the member contributes (R324). -/
def State.doBcRoundTimeout (s : State) (i : Nat) : State :=
  match s.collLive i with
  | none => s
  | some x =>
    match x.lastAt with
    | some t =>
      if cdOp x.desc = Coll.broadcast ∧ !s.isRoot x.desc ∧ !x.told ∧ x.stalled = none ∧ t + 20000 ≤ s.now then s.bcTell i
      else s
    | none => s

/-- RESUME: a stalled context repeats step 3 of its round with the next OPIDX (R325). -/
def State.doResume (s : State) (i : Nat) : State :=
  match s.collLive i with
  | some x => if x.stalled.isSome then (s.setCollCtx i (some { x with stalled := none })).bcTell i else s
  | none => s

/-- BROADCAST_RESUME_TIMEOUT: no RESUME within 1,000 × COL_TMO ticks (R325). -/
def State.doResumeTimeout (s : State) (i : Nat) : State :=
  match s.collLive i with
  | some x =>
    match x.stalled with
    | some t =>
      if t + 1000 * (s.reg Pg.col Reg.colTmo).toNat ≤ s.now then (s.bump Pg.col Reg.colCntTmo).collFail i (some 0x15)
      else s
    | none => s
  | none => s

/-! What the registers show (Table 13.6) -/

/-- PHASE and RSTEP of a context. -/
def State.collShown (s : State) (x : CollCtx) : Nat × Nat :=
  let op := cdOp x.desc
  if op = Coll.broadcast then (4, x.round)
  else if op = Coll.alltoall then (3, 0)
  else
    let hops := s.collHops x.desc
    match hops[min x.hop (hops.length - 1)]? with
    | some h => (hopPhase x.desc h, h.s)
    | none => (0, 0)

/-! Partition reset and the page leaving ON -/

/-- A partition reset drops the partition's contexts, with what they have in the Tollgate (R320). -/
def State.collDrop (s : State) (p : Nat) : State :=
  let ids := (List.range 16).filterMap (fun i => (s.collCtx i).bind (fun x => if x.part = p ∧ x.inUse then some x.id else none))
  let mine := fun (u : TolUse) => match u with
    | .coll k => ids.contains k
    | .vote k => ids.contains k
    | .bcast k => ids.contains k
    | _ => false
  let s := (List.range 16).foldl (fun s i => if (s.collCtx i).any (fun x => decide (x.part = p)) then s.setCollCtx i none else s) s
  { s with col := { s.col with buf := s.col.buf.filter (fun k => decide (s.grpPart (ckGroup k) ≠ p)) }
           tol := { s.tol with ops := s.tol.ops.filter (fun o => !mine o.use) } }

/-- Every context goes: the page has been reset or has left ON. -/
def State.collClear (s : State) : State :=
  let s := (List.range 8).foldl (fun s p => s.collDrop p) s
  { s with col := Coll.init }

end Sys2Proof.Machine
end

