-- ==== Sys2Proof/Machine/Drover.lean ====
section
/-! DEFINITION. GATE_SCORE and the Drover units (R88 to R114, R199): lanes, banks, selection, capacity, weights,
records and the route log. -/
namespace Sys2Proof.Machine

/-! Evaluating a task's work -/

/-- Evaluate work of a running task. -/
def State.evalTask {α : Type} (s : State) (r : Run) (m : Op α) : Except Stop α × Ev :=
  m.run.run { s := s, part := r.part, task := r.index, lenient := r.lenient, tally := [], writes := [], passes := 0,
              spPasses := 0, checked := 0, drops := 0, oobs := 0, kind := none }

/-- A task stops: under a code of its core, or because memory returned no data (R249, R250). -/
def State.stopTask (s : State) (c : Nat) : Stop → State
  | .code k d => s.taskError c k d
  | .mem cxl => if cxl then s.cxlTaskEnd c else s.taskEnd c

/-- Carry out a task's writes: false where one is refused or meets a poisoned block, and the task has ended. -/
def State.taskWrites (s : State) (c p task : Nat) : List (Nat × List Byte) → Bool × State
  | [] => (true, s)
  | (a, bs) :: r =>
    match s.write p a bs task with
    | (none, s) => State.taskWrites s c p task r
    | (some .range, s) => (false, s.taskError c 0x11 task)
    | (some _, s) => (false, s.taskEnd c)

/-! GATE_SCORE on its core (R89, R199) -/

/-- Fields of a route record that the core uses (Table 5.1). -/
def rrNexp (w : BitVec 1024) : Nat := dfld w 0 14 0
def rrBf16 (w : BitVec 1024) : Bool := decide (dfld w 4 9 9 = 1)
def rrVecFmt (w : BitVec 1024) : Nat := dfld w 0x28 15 8
def rrVecLen (w : BitVec 1024) : Nat := dfld w 0x28 29 16

/-- What a GATE_SCORE task works with. -/
structure Gate where
  x : TD
  w : TD
  logits : Option TD
  route : BitVec 1024
  vec : Fmt
  unit : Nat
  lane : Nat
  base : Nat
  addr : Nat
  deriving DecidableEq, Repr

/-- The checks of a GATE_SCORE task (R91, R180, R199). -/
def readGate (desc : BitVec 512) : Op Gate := do
  let t ← readTask desc
  let x ← t.td 0
  let w ← t.td 1
  let o := t.td? 2
  let addr := t.inl 0 8
  let unit := t.inl 8 1
  let lane := t.inl 9 1
  let base := t.inl 10 2
  Op.need (pairOk w.fmt x.fmt && !pairInt w.fmt && decide (x.cols = w.cols ∧ x.cols % 128 = 0 ∧ unit < 8 ∧ lane < 4
    ∧ base + x.rows ≤ 65536 ∧ addr % 128 = 0 ∧ addr < 2 ^ 44)) 0x10
  Op.need (match o with
    | some d => decide ((d.code = 0x01 ∨ d.code = 0x02) ∧ d.rows = x.rows ∧ d.cols = w.rows)
    | none => true) 0x10
  t.readable 0 0
  t.readable 1 0
  t.writable 2 0
  let e ← get
  Op.need (e.s.isOn (Pg.drv unit) && e.s.owns e.part (Pg.drv unit) && e.s.inGdr e.part addr 128) 0x12
  let bs ← Op.rd addr 128
  let rr := wordsOf 1024 bs
  match fmtOf (rrVecFmt rr) with
  | none => Op.fail 0x10
  | some f =>
    Op.need (decide (w.rows = rrNexp rr ∧ f.spanSize x.cols = rrVecLen rr)) 0x10
    pure { x := x, w := w, logits := o, route := rr, vec := f, unit := unit, lane := lane, base := base, addr := addr }

/-- Token i of a GATE_SCORE task: its vector in VEC_FMT, and its logits in the record's IN_FMT, written to TD2
where it is present. -/
def gateToken (g : Gate) (k : Conv) (i : Nat) : Op (List Byte × List Val) := do
  let a ← rowExact g.x i (fun _ => arrTile i 0)
  let e ← get
  let (vec, tl) := g.vec.encodeSpan k (i * g.x.cols) (fun c => arrTile i c) (a.map (f32 .near)) e.tally
  set { e with tally := tl }
  let ws ← (List.range g.w.rows).mapM (fun n => rowExact g.w n (fun _ => arrTile 0 n))
  let sums ← finish i (rowAcc (a.map some) (ws.map (fun r => r.map some)) [] (fun _ => []))
  let vs ←
    if rrBf16 g.route then do
      let f : Fmt := ⟨.fp fpBf16, 16, 1, .none, false, false, .none⟩
      let e ← get
      let (bs, tl) := f.encodeSpan k (i * g.w.rows) (fun c => arrTile i c) sums e.tally
      set { e with tally := tl }
      pure ((f.decodeSpan g.w.rows bs).map (·.1))
    else pure sums
  match g.logits with
  | some o => Op.rowOut o k i (fun c => arrTile i c) vs
  | none => pure ()
  pure (vec, vs)

/-- The whole of a GATE_SCORE task, for its counts: every token again, and the passes of the logits. -/
def runGate (t : Task) (desc : BitVec 512) : Op Unit := do
  let g ← readGate desc
  for i in List.range g.x.rows do
    let _ ← gateToken g t.conv i
  countPasses g.x.rows g.w.cols g.w.rows 0 (pairCovered g.w.fmt g.x.fmt)

/-! Route records in a bank (Table 5.1) -/

def rrK (w : BitVec 1024) : Nat := dfld w 0 20 16
def rrNgrp (w : BitVec 1024) : Nat := dfld w 0 30 24
def rrTopg (w : BitVec 1024) : Nat := dfld w 4 6 0
def rrSumTwo (w : BitVec 1024) : Bool := decide (dfld w 4 7 7 = 1)
def rrSigmoid (w : BitVec 1024) : Bool := decide (dfld w 4 8 8 = 1)
def rrFetch (w : BitVec 1024) : Bool := decide (dfld w 4 10 10 = 1)
def rrBiasEn (w : BitVec 1024) : Bool := decide (dfld w 4 11 11 = 1)
def rrPol (w : BitVec 1024) : Nat := dfld w 4 13 12
def rrFallback (w : BitVec 1024) : Nat := dfld w 4 15 14
def rrQuota (w : BitVec 1024) : Nat := dfld w 8 15 0
def rrRquota (w : BitVec 1024) : Nat := dfld w 8 31 16
def rrScale (w : BitVec 1024) : Val := ofF32 (dfld w 0xC 31 0)
def rrLoc (w : BitVec 1024) : Nat := dfld w 0x10 63 0
def rrBias (w : BitVec 1024) : Nat := dfld w 0x18 63 0
def rrNext (w : BitVec 1024) : Nat := dfld w 0x20 63 0
def rrLayer (w : BitVec 1024) : Nat := dfld w 0x28 7 0
def rrEndExpect (w : BitVec 1024) : Nat := dfld w 0x2C 7 0
def rrLog (w : BitVec 1024) : Nat := dfld w 0x30 63 0
def rrLogStride (w : BitVec 1024) : Nat := dfld w 0x38 31 0
def rrWfBase (w : BitVec 1024) : Nat := dfld w 0x40 63 0
def rrWfDest (w : BitVec 1024) : Nat := dfld w 0x48 63 0
def rrWfLen (w : BitVec 1024) : Nat := dfld w 0x50 15 0
def rrWfQbase (w : BitVec 1024) : Nat := dfld w 0x50 27 16
def rrWfSig (w : BitVec 1024) : Nat := dfld w 0x54 14 0

/-- An address field whose low bits and bits [63:44] are 0. -/
def addrOk (a al : Nat) : Bool := decide (a < 2 ^ 44 ∧ a % al = 0)

/-- The checks of a record's fields, with the byte offset at which each field begins, in the order of Table 5.1
(R93); the last is the bound on K. -/
def recordChecks (w : BitVec 1024) : List (Nat × Bool) :=
  let n := rrNexp w
  let k := rrK w
  let g := rrNgrp w
  [(0x00, decide (1 ≤ n ∧ n ≤ 16384)),
   (0x01, decide (dfld w 0 15 15 = 0)),
   (0x02, decide (1 ≤ k ∧ k ≤ 16 ∧ dfld w 0 23 21 = 0)),
   (0x03, decide (1 ≤ g ∧ g ≤ 64 ∧ n % g = 0 ∧ dfld w 0 31 31 = 0)),
   (0x04, decide (1 ≤ rrTopg w ∧ rrTopg w ≤ g)),
   (0x05, decide (rrFallback w ≤ 2)),
   (0x06, decide (dfld w 4 31 16 = 0)),
   (0x0C, (rrScale w).finite && !(rrScale w).isNeg && !(rrScale w).isZero),
   (0x10, addrOk (rrLoc w) 4096),
   (0x18, !rrBiasEn w || addrOk (rrBias w) 4096),
   (0x20, addrOk (rrNext w) 128),
   (0x29, (fmtOf (rrVecFmt w)).isSome),
   (0x2A, decide (64 ≤ rrVecLen w ∧ rrVecLen w ≤ 8192 ∧ rrVecLen w % 64 = 0)),
   (0x2B, decide (dfld w 0x28 31 30 = 0)),
   (0x2D, decide (dfld w 0x2C 31 8 = 0)),
   (0x30, addrOk (rrLog w) 128),
   (0x38, decide (rrLog w = 0 ∨ (128 ≤ rrLogStride w ∧ rrLogStride w % 128 = 0))),
   (0x3C, decide (dfld w 0x3C 31 0 = 0)),
   (0x40, !rrFetch w || addrOk (rrWfBase w) 4096),
   (0x48, !rrFetch w || addrOk (rrWfDest w) 4096),
   (0x50, !rrFetch w || decide (1 ≤ rrWfLen w)),
   (0x53, decide (dfld w 0x50 31 28 = 0)),
   (0x55, decide (dfld w 0x54 31 15 = 0)),
   (0x58, decide (dfld w 0x58 319 0 = 0)),
   (0x02, decide (k ≤ rrTopg w * n / max 1 g))]

/-- The offset of the first field that fails. -/
def recordBad (w : BitVec 1024) : Option Nat := ((recordChecks w).find? (fun c => !c.2)).map (·.1)

/-! Selection (R99, R100) -/

/-- Score a ranks before score b: value, then +0 before −0, then the lower number. -/
def rankBefore (a b : Val × Nat) : Bool :=
  if b.1.lt a.1 then true
  else if a.1.lt b.1 then false
  else if a.1.isNeg ≠ b.1.isNeg then b.1.isNeg
  else decide (a.2 < b.2)

/-- Merge two ranked lists; k bounds their length. -/
def mergeRank : Nat → List (Val × Nat) → List (Val × Nat) → List (Val × Nat)
  | 0, _, _ => []
  | _, [], r => r
  | _, l, [] => l
  | k + 1, a :: l, b :: r => if rankBefore a b then a :: mergeRank k l (b :: r) else b :: mergeRank k (a :: l) r

/-- Rank a list of scores; k bounds the halvings. -/
def rankSort : Nat → List (Val × Nat) → List (Val × Nat)
  | 0, l => l
  | k + 1, l =>
    if l.length ≤ 1 then l
    else
      let h := l.length / 2
      mergeRank l.length (rankSort k (l.take h)) (rankSort k (l.drop h))

/-- Scores as the unit takes them: a NaN is −∞. -/
def cleanScore (v : Val) : Val := if v.isNan then .inf true else v

/-- The bias added to a score: none where it is not finite. -/
def cleanBias (en : Bool) (c : W32) : Val :=
  let b := ofF32 c.toNat
  if en ∧ b.finite then b else Val.zero

/-- The group score of a group's eligible experts, already ranked. -/
def groupScore (sumTwo : Bool) : List (Val × Nat) → Val
  | [] => .inf true
  | [a] => a.1
  | a :: b :: _ => if sumTwo then addF a.1 b.1 else a.1

/-- The candidate list of a token (R100): the biased scores, ranked, of the kept groups. -/
def candidates (w : BitVec 1024) (locs : List Nat) (biased : List Val) : List (Val × Nat) :=
  let n := rrNexp w
  let gsize := n / max 1 (rrNgrp w)
  let elig := (biased.zipIdx.zip locs).filterMap
    (fun x => if x.2.testBit 28 ∧ x.1.1 ≠ .inf true then some x.1 else none)
  let groups := (List.range (rrNgrp w)).map
    (fun g => rankSort 16 (elig.filter (fun x => decide (x.2 / max 1 gsize = g))))
  let gs := (groups.map (groupScore (rrSumTwo w))).zipIdx
  let kept := ((rankSort 8 gs).take (rrTopg w)).filter (fun x => decide (x.1 ≠ .inf true))
  rankSort 16 (kept.flatMap (fun x => nth groups [] x.2))

/-! Capacity and overflow (R102) -/

/-- What a rank comes to: EMPTY, primary, replica or dropped. -/
inductive RankKind where
  | empty | primary | replica | dropped
  deriving DecidableEq, Repr

/-- A rank after the capacity pass. -/
structure RankSel where
  rank : Nat
  expert : Nat
  kind : RankKind
  subst : Bool
  deriving DecidableEq, Repr

/-- The capacity pass as it goes: counters, the position in cand, the ranks done and the overflows. -/
structure Cap where
  prim : SMap Nat
  repl : SMap Nat
  pos : Nat
  out : List RankSel
  ovf : Nat
  deriving DecidableEq, Repr

/-- A limit of 0 is no limit. -/
def below (m : SMap Nat) (e lim : Nat) : Bool := decide (lim = 0 ∨ m.get 0 e < lim)
/-- A quota counter plus one, saturating at 0xFFFF. -/
def inc16 (m : SMap Nat) (e : Nat) : SMap Nat := m.set 0 e (min (m.get 0 e + 1) 0xFFFF)

/-- The next candidate with room in its primary quota, and the position behind it. -/
def nextBest (cand : List (Val × Nat)) (prim : SMap Nat) (quota : Nat) : Nat → Nat → Option Nat × Nat
  | 0, p => (none, p)
  | k + 1, p =>
    match cand[p]? with
    | none => (none, p)
    | some x => if below prim x.2 quota then (some x.2, p + 1) else nextBest cand prim quota k (p + 1)

/-- One rank of the capacity pass. -/
def capRank (w : BitVec 1024) (dlb : Bool) (hot : Nat → Bool) (rvalid : Nat → Bool) (cand : List (Val × Nat))
    (c : Cap) (r : Nat) : Cap :=
  match cand[r]? with
  | none => { c with out := c.out ++ [⟨r, 0, .empty, false⟩] }
  | some (_, e) =>
    let toRepl := fun (c : Cap) => { c with repl := inc16 c.repl e, out := c.out ++ [⟨r, e, .replica, false⟩] }
    let canRepl := dlb && rvalid e && below c.repl e (rrRquota w)
    if canRepl && hot e then toRepl c
    else if below c.prim e (rrQuota w) then
      { c with prim := inc16 c.prim e, out := c.out ++ [⟨r, e, .primary, false⟩] }
    else
      let c := { c with ovf := c.ovf + 1 }
      if rrPol w = 3 ∧ canRepl then toRepl c
      else
        let pol := if rrPol w = 3 then rrFallback w else rrPol w
        if pol = 0 then
          match nextBest cand c.prim (rrQuota w) cand.length c.pos with
          | (some e2, p) => { c with prim := inc16 c.prim e2, pos := p, out := c.out ++ [⟨r, e2, .primary, true⟩] }
          | (none, p) => { c with pos := p, out := c.out ++ [⟨r, e, .dropped, false⟩] }
        else { c with out := c.out ++ [⟨r, e, .dropped, false⟩] }

/-! Gate weights (R105) -/

/-- The weights of the contributing ranks, in ascending rank order. -/
def gateWeights (sigmoid : Bool) (scale : Val) (ss : List Val) : List Val :=
  let m := ss.foldl (fun a b => if a.lt b then b else a) (.inf true)
  let v := fun (s : Val) =>
    if sigmoid then sigmoidF s
    else if m = .inf false then (if s = .inf false then Val.one else Val.zero)
    else expF (subF s m)
  let vs := ss.map v
  let sum := vs.foldl addF Val.zero
  vs.map (fun x => if sum.isZero then divF scale (Val.ofInt ss.length) else mulF (divF x sum) scale)

/-! Units, lanes and banks -/

def State.drvUnit (s : State) (n : Nat) : DrvUnit := vget s.drv n
def State.setDrv (s : State) (n : Nat) (u : DrvUnit) : State := { s with drv := vset s.drv n u }
def State.bank (s : State) (n b : Nat) : Bank := vget (s.drvUnit n).banks b
def State.setBank (s : State) (n b : Nat) (x : Bank) : State :=
  let u := s.drvUnit n
  s.setDrv n { u with banks := vset u.banks b x }

/-- The ACTIVE bank of a unit. -/
def State.activeBank (s : State) (n : Nat) : Option Nat := [0, 1].find? (fun b => decide ((s.bank n b).st = .active))

/-- The GATE_SCORE task of a core, with its run. -/
def State.gateRun (s : State) (c : Nat) : Option (Run × GateRun) := (s.core c).run.bind (fun r => r.gate.map (fun g => (r, g)))

/-- The route record a lane's task names. -/
def State.laneRoute (s : State) (n l : Nat) : Option Nat :=
  (vget (s.drvUnit n).lanes l).core.bind (fun c => (s.gateRun c).map (·.2.route))

def State.setGate (s : State) (c : Nat) (g : GateRun) : State :=
  let x := s.core c
  s.setCore c { x with run := x.run.map (fun r => { r with gate := some g }) }

/-- LANE_GRANT: a free lane goes to the waiting task on the lowest-numbered core (R90). -/
def State.doLaneGrant (s : State) (n l : Nat) : State :=
  let u := s.drvUnit n
  let x := vget u.lanes l
  if !s.isOn (Pg.drv n) ∨ x.core.isSome then s
  else
    match (List.range 64).find? (fun c => (s.gateRun c).any (fun g =>
        decide (g.2.unit = n ∧ g.2.lane = l) && !g.2.granted)) with
    | none => s
    | some c =>
      match s.gateRun c with
      | some (_, g) =>
        (s.setDrv n { u with lanes := vset u.lanes l { x with core := some c } }).setGate c { g with granted := true }
      | none => s

/-! Bank loads (R94 to R97) -/

/-- Start a load of a record into a bank, which abandons what it held. -/
def State.startLoad (s : State) (n b addr p : Nat) : State :=
  s.setBank n b { Bank.init with st := .loading, addr := addr, part := p }

/-- A bank of the unit holds or loads a record. -/
def State.bankHolds (s : State) (n addr : Nat) : Bool :=
  [0, 1].any (fun b => decide ((s.bank n b).st ≠ .empty ∧ (s.bank n b).addr = addr))

/-- The non-active bank that a load goes to: where no bank is ACTIVE, the lower one that no waiting token
names. -/
def State.loadBank (s : State) (n : Nat) : Option Nat :=
  let wanted := fun b => (s.drvUnit n).waits.any (fun l =>
    decide ((s.bank n b).st ≠ .empty) && decide (s.laneRoute n l = some (s.bank n b).addr))
  ([0, 1].filter (fun b => decide ((s.bank n b).st ≠ .active))).find? (fun b => !wanted b)

/-- Start the demand load of the first waiting token whose record neither bank holds, where a bank may be
replaced (R94). -/
def State.demand (s : State) (n : Nat) : State :=
  let u := s.drvUnit n
  match u.waits.find? (fun l => (s.laneRoute n l).any (fun a => !s.bankHolds n a)) with
  | none => s
  | some l =>
    match s.laneRoute n l, s.loadBank n, (vget u.lanes l).core.bind s.gateRun with
    | some a, some b, some (r, _) =>
      ((s.startLoad n b a r.part).bump (Pg.drv n) Reg.drvCntPfmiss).irq (Pg.drv n) 18
    | _, _, _ => s

/-- Waiting tokens whose lane no longer holds a task are forgotten. -/
def State.trimWaits (s : State) (n : Nat) : State :=
  let u := s.drvUnit n
  s.setDrv n { u with waits := u.waits.filter (fun l => (vget u.lanes l).core.isSome) }

/-- A load fails: recorded, the bank is EMPTY, and every task waiting for the record ends (R93). -/
def State.loadFail (s : State) (n b code : Nat) (detail : Option Nat) : State :=
  let x := s.bank n b
  let s := (s.setBank n b Bank.init).irq (Pg.drv n) 19
  let cores := (List.range 64).filter (fun c => (s.gateRun c).any (fun g =>
    decide (g.2.unit = n ∧ g.2.route = x.addr ∧ g.1.part = x.part) && g.2.granted && !g.2.issued))
  let first := (cores.head?.bind s.gateRun).map (·.1.index)
  let s := match detail, first with
    | some d, _ => s.error (Pg.drv n) Cls.task x.part code d
    | none, some i => s.error (Pg.drv n) Cls.task x.part code i
    | none, none => s.errorOpen (Pg.drv n) Cls.task x.part code
  ((cores.foldl (fun s c => s.taskEnd c) s).trimWaits n).demand n

/-- The scoreboard range of a partition holds a counter. -/
def State.inScb (s : State) (p c : Nat) : Bool :=
  decide (s.rf (Pg.par p) Reg.parScb 14 0 ≤ c ∧ c < s.rf (Pg.par p) Reg.parScb 14 0 + s.rf (Pg.par p) Reg.parScb 31 16)

/-- BANK_LOAD_COMPLETE: the record and its tables are checked and copied as the load ends (log 49, DEDUCED). -/
def State.doBankLoad (s : State) (n : Nat) (readErr : Bool) : State :=
  match [0, 1].find? (fun b => decide ((s.bank n b).st = .loading)) with
  | none => s
  | some b =>
    let x := s.bank n b
    let p := x.part
    if !s.inGdr p x.addr 128 then s.loadFail n b 0x11 none
    else if readErr then s.loadFail n b 0x12 none
    else
      match s.read p x.addr 128 with
      | (.error _, s) => s.loadFail n b 0x12 none
      | (.ok bs, s) =>
        let w := wordsOf 1024 bs
        match recordBad w with
        | some off => s.loadFail n b 0x10 (some off)
        | none =>
          let k := rrNexp w
          if !s.inGdr p (rrLoc w) (8 * k) ∨ (rrBiasEn w ∧ !s.inGdr p (rrBias w) (4 * k)) ∨
              (rrFetch w ∧ !s.inScb p (rrWfSig w)) then s.loadFail n b 0x11 none
          else
            match s.read p (rrLoc w) (8 * k) with
            | (.error _, s) => s.loadFail n b 0x12 none
            | (.ok ls, s) =>
              match if rrBiasEn w then s.read p (rrBias w) (4 * k) else (.ok [], s) with
              | (.error _, s) => s.loadFail n b 0x12 none
              | (.ok cs, s) =>
                s.setBank n b { Bank.init with
                  st := .ready, addr := x.addr, part := p, words := w, locs := (chunks 8 k ls).map leNat,
                  bias := (chunks 4 (cs.length / 4) cs).map (fun c => w32 (leNat c)) }

/-- BANK_SWITCH (R94, R95): the other bank, READY with a record a token waits for, becomes ACTIVE once no task
on the unit uses the ACTIVE bank; a record's NEXT is then prefetched. -/
def State.doBankSwitch (s : State) (n : Nat) : State :=
  if !s.isOn (Pg.drv n) then s
  else
    let s := s.trimWaits n
    let act := s.activeBank n
    let inUse := act.any (fun b => (List.range 4).any (fun l => decide (s.laneRoute n l = some (s.bank n b).addr)))
    let waits := (s.drvUnit n).waits
    match [0, 1].find? (fun b => decide ((s.bank n b).st = .ready) &&
        waits.any (fun l => decide (s.laneRoute n l = some (s.bank n b).addr))) with
    | none => s
    | some b =>
      if inUse then s
      else
        let x := s.bank n b
        let s := match act with
          | some a => s.setBank n a Bank.init
          | none => s
        let s := s.setBank n b { x with st := .active }
        let u := s.drvUnit n
        let s := s.setDrv n { u with waits := u.waits.filter (fun l => decide (s.laneRoute n l ≠ some x.addr)) }
        let next := rrNext x.words
        let s :=
          if next ≠ 0 ∧ s.rb (Pg.drv n) Reg.drvCtrl 1 ∧ !s.bankHolds n next then s.startLoad n (1 - b) next x.part
          else s
        s.demand n

/-- DRV_CMD.INV (R96): refused while a lane is busy; else both banks become EMPTY. -/
def State.drvInv (s : State) (n : Nat) : Bool × State :=
  let u := s.drvUnit n
  if (List.range 4).any (fun l => (vget u.lanes l).core.isSome) then (false, s)
  else (true, s.setDrv n { u with banks := Vector.replicate 2 Bank.init, waits := [] })

/-- LOAD_HINT (R103): the hot flag of an expert in the ACTIVE bank of each unit of the partition whose layer it
names, under dynamic load balancing. -/
def State.doLoadHint (s : State) (pkt : Packet) : State :=
  if pkt.vc ≠ 2 ∨ pkt.type ≠ 4 then s
  else
    match s.takeEjected pkt with
    | none => s
    | some s =>
      if !pkt.crcOk then s.baleCrc
      else
        match s.balePart pkt with
        | none => s
        | some p =>
          (List.range 8).foldl
            (fun s n =>
              match s.activeBank n with
              | some b =>
                let x := s.bank n b
                if s.owns p (Pg.drv n) ∧ s.isOn (Pg.drv n) ∧ s.rb (Pg.drv n) Reg.drvCtrl 0 ∧ rrPol x.words = 3 ∧
                    x.part = p ∧ rrLayer x.words = pkt.layerOf then
                  s.setBank n b { x with hot := x.hot.set false (pkt.fld 0x1C 13 0) (decide (pkt.fld 0x1C 15 15 = 1)) }
                else s
              | none => s) s

/-! Records (Table 5.3) -/

/-- A DISPATCH record. -/
def mkDispatch (lane token step layer loc core off : Nat) (x : RankSel) (wf : Bool) (dest : Nat) (weight : Nat)
    (w : BitVec 1024) : BitVec 256 :=
  let repl := decide (x.kind = .replica)
  let queue := if repl then nbits loc 59 48 else nbits loc 27 16
  BitVec.ofNat 256 (at_ 4 x.rank + at_ 8 lane + at_ 10 repl.toNat + at_ 11 x.subst.toNat + at_ 12 wf.toNat
    + at_ 16 token + at_ 32 step + at_ 64 x.expert + at_ 80 layer + at_ 96 dest + at_ 112 queue + at_ 128 weight
    + at_ 160 core + at_ 166 off + at_ 192 (rrVecFmt w) + at_ 200 (rrVecLen w))

/-- A TOKEN record. -/
def mkToken (k lane token step layer rankMask dropMask : Nat) (nan : Bool) : BitVec 256 :=
  BitVec.ofNat 256 (1 + at_ 4 (k - 1) + at_ 8 lane + at_ 10 nan.toNat + at_ 16 token + at_ 32 step + at_ 64 rankMask
    + at_ 80 layer + at_ 96 dropMask)

/-- An END record. -/
def mkEnd (lane step layer total expect : Nat) : BitVec 256 :=
  BitVec.ofNat 256 (2 + at_ 8 lane + at_ 32 step + at_ 80 layer + at_ 96 (total - 1) + at_ 112 expect)

/-- Issue a record of a task to the paired engine. -/
def State.issueRec (s : State) (n c : Nat) (r : Run) (w : BitVec 256) (vec : List Byte) : State :=
  let e := s.cnvEng n
  s.setCnv n { e with fifo := e.fifo ++ [{ word := w, vec := vec, part := r.part, core := c, gid := r.gid, task := r.index }] }

/-- A weight fetch of the unit for a record is outstanding (R111). -/
def State.fetching (s : State) (n rec_ : Nat) : Bool :=
  (List.range 16).any (fun eng => (s.rmoEng eng).runs.any (fun x => x.fetch.any (fun f => decide (f.unit = n ∧ f.rec_ = rec_))))

/-- When the last token is out and, under MODE 1, every fetch for the bank has completed: WF_SIG and the END
record (R106, R111). -/
def State.gateEnd (s : State) (n c : Nat) : State :=
  match s.gateRun c with
  | some (r, g) =>
    if !g.issued ∨ g.ended ∨ s.fetching n g.route then s
    else
      match [0, 1].find? (fun b => decide ((s.bank n b).st ≠ .empty ∧ (s.bank n b).addr = g.route)) with
      | none => s
      | some b =>
        let w := (s.bank n b).words
        let s := if rrFetch w then s.signal r.part r.step (rrWfSig w) 1 else s
        let s := s.issueRec n c r (mkEnd g.lane r.step.toNat (rrLayer w) g.total (rrEndExpect w)) []
        s.setGate c { g with ended := true }
  | none => s

/-- WEIGHT_FETCH_COMPLETE: the task of a lane that waits for its unit's fetches. -/
def State.doFetchComplete (s : State) (n l : Nat) : State :=
  match (List.range 64).find? (fun c => (s.gateRun c).any (fun g =>
      decide (g.2.unit = n ∧ g.2.lane = l) && g.2.issued && !g.2.ended)) with
  | some c => s.gateEnd n c
  | none => s

/-! A token (R100 to R112) -/

/-- The route log entry of a token (Table 5.4). -/
def logEntry (mask step : Nat) (nan : Bool) (sel : List (RankSel × Nat)) : List Byte :=
  let at2 := fun (f : RankSel × Nat → Nat) (k : Nat) => (List.range 16).flatMap (fun r =>
    toLE k ((sel.find? (fun x => decide (x.1.rank = r))).map f |>.getD 0))
  toLE 4 (mask + at_ 16 nan.toNat) ++ toLE 4 step
    ++ at2 (fun x => if x.1.kind = .empty then 0
        else x.1.expert + at_ 14 x.1.subst.toNat + at_ 15 (decide (x.1.kind = .replica)).toNat) 2
    ++ List.replicate 24 0
    ++ at2 (fun x => if x.1.kind = .primary ∨ x.1.kind = .replica then x.2 else 0) 4

/-- Write a token's log entry: false where it lies outside the partition's range (R108). -/
def State.writeLog (s : State) (p addr task : Nat) (step : W32) (bs : List Byte) : Bool × State :=
  if !s.inGdr p addr 128 then (false, s)
  else
    match s.blockWrite p addr bs task with
    | (true, s) => (true, s)
    | (false, s) => (true, s.failStep p step)

/-- Ask for the weights of an expert the bank has not fetched yet (R110, R112): false where the fetch fails. -/
def State.fetchExpert (s : State) (n b c : Nat) (r : Run) (e : Nat) : Bool × State :=
  let x := s.bank n b
  if x.fetched.get false e then (true, s)
  else
    let s := s.setBank n b { x with fetched := x.fetched.set false e true }
    let loc := nth x.locs 0 e
    let w := x.words
    let q := nbits loc 27 16
    let units := rrWfLen w
    let dest := rrWfDest w + (q - rrWfQbase w) * units * 4096
    if q < rrWfQbase w ∨ !s.inGdr r.part dest (units * 4096) then (false, s)
    else
      s.requestFetch r.part r.step ⟨n, x.addr, c, r.gid, r.index⟩ (BitVec.ofNat 16 (nbits loc 15 0))
        (rrWfBase w + nbits loc 63 32 * 4096) dest units

/-- The quota set of a lane for a task: the present one, or a fresh one (R101). -/
def quotaFor (l : LaneUse) (r : Run) (route layer : Nat) : QuotaSet :=
  match l.quota with
  | some q => if q.record = route ∧ q.launch = r.gid then q else ⟨route, r.gid, r.step, layer, 0, [], []⟩
  | none => ⟨route, r.gid, r.step, layer, 0, [], []⟩

/-- Raise an event where a count is not 0. -/
def State.irqIf (s : State) (pg b n : Nat) : State := if n = 0 then s else s.irq pg b

/-- Select and dispatch one token whose scores are in, on the ACTIVE bank b. -/
def State.selectToken (s : State) (n l b c : Nat) (r : Run) (g : GateRun) (vec : List Byte) (scores : List Val) : State :=
  let pg := Pg.drv n
  let x := s.bank n b
  let w := x.words
  let token := g.base + g.next
  -- R100
  let nans := (scores.filter Val.isNan).length
  let xs := scores.map cleanScore
  let bad := if rrBiasEn w then (x.bias.filter (fun v => !(ofF32 v.toNat).finite)).length else 0
  let biased := xs.zipIdx.map (fun v => addF v.1 (cleanBias (rrBiasEn w) (nth x.bias 0 v.2)))
  let cand := candidates w x.locs biased
  -- R102
  let u := s.drvUnit n
  let lane := vget u.lanes l
  let q := quotaFor lane r g.route (rrLayer w)
  let dlb := s.rb pg Reg.drvCtrl 0 && decide (rrPol w = 3) && !rrFetch w
  let cap := (List.range (rrK w)).foldl
    (capRank w dlb (fun e => x.hot.get false e) (fun e => (nth x.locs 0 e).testBit 60) cand)
    ({ prim := q.prim, repl := q.repl, pos := rrK w, out := [], ovf := 0 } : Cap)
  let q := { q with prim := cap.prim, repl := cap.repl, tokens := min (q.tokens + 1) 0xFFFF }
  let s := s.setDrv n { u with lanes := vset u.lanes l { lane with quota := some q } }
  let sent := cap.out.filter (fun y => decide (y.kind = .primary ∨ y.kind = .replica))
  let dropped := cap.out.filter (fun y => decide (y.kind = .dropped))
  -- R105
  let keep := rrPol w = 2 ∨ (rrPol w = 3 ∧ rrFallback w = 2)
  let contrib := if keep then cap.out.filter (fun y => decide (y.kind ≠ .empty)) else sent
  let ws := gateWeights (rrSigmoid w) (rrScale w) (contrib.map (fun y => nth xs Val.zero y.expert))
  let weightOf := fun (y : RankSel) =>
    match (contrib.zip ws).find? (fun z => decide (z.1.rank = y.rank)) with
    | some z => toF32 z.2
    | none => 0
  -- counters and events
  let s := (s.bump pg Reg.drvCntTokens).bumpBy pg Reg.drvCntDisp sent.length
  let s := (s.bumpBy pg Reg.drvCntNan nans).irqIf pg 16 nans
  let s := (s.bumpBy pg Reg.drvCntBiasbad bad).irqIf pg 21 bad
  let s := (s.bumpBy pg Reg.drvCntOvf cap.ovf).irqIf pg 17 cap.ovf
  let s := s.bumpBy pg Reg.drvCntSubst (cap.out.filter (·.subst)).length
  let s := s.bumpBy pg Reg.drvCntDrop dropped.length
  let s := s.bumpBy pg Reg.drvCntRepl (sent.filter (fun y => decide (y.kind = .replica))).length
  let s := if cand.length < rrK w then (s.bump pg Reg.drvCntShort).irq pg 20 else s
  -- R106
  let self := (s.selfLog ((s.ptag r.part).getD 0)).toNat
  let off := g.next % 256 * ((rrVecLen w + 63) / 64)
  let s := sent.foldl
    (fun s y =>
      let loc := nth x.locs 0 y.expert
      let dest := if rrFetch w then self else if y.kind = .replica then nbits loc 47 32 else nbits loc 15 0
      s.issueRec n c r (mkDispatch l token r.step.toNat (rrLayer w) loc c off y (rrFetch w) dest (weightOf y) w) []) s
  let mask := sent.foldl (fun m y => m + 2 ^ y.rank) 0
  let dmask := dropped.foldl (fun m y => m + 2 ^ y.rank) 0
  -- R108
  let (ok, s) :=
    if rrLog w = 0 then (true, s)
    else s.writeLog r.part (rrLog w + token * rrLogStride w) r.index r.step
      (logEntry mask r.step.toNat (decide (nans ≠ 0)) (cap.out.map (fun y => (y, weightOf y))))
  if !ok then (s.error pg Cls.task r.part 0x11 r.index).taskEnd c
  else
    let last := decide (g.next + 1 = g.total)
    let s := s.issueRec n c r (mkToken (rrK w) l token r.step.toNat (rrLayer w) mask dmask (decide (nans ≠ 0))) vec
    let s := s.setGate c { g with next := g.next + 1, unread := g.unread + 1, issued := last }
    -- R110
    let (ok, s) :=
      if rrFetch w then
        sent.foldl (fun (a : Bool × State) y => if a.1 then a.2.fetchExpert n b c r y.expert else a) (true, s)
      else (true, s)
    if !ok then s.fetchFail r.part ⟨n, g.route, c, r.gid, r.index⟩
    else s.gateEnd n c

/-- The core of a task still works: ON, or STOPPING with the task to be completed (R190). -/
def State.coreWorks (s : State) (c : Nat) : Bool :=
  decide ((s.page (Pg.cor c)).st = .on ∨ (s.page (Pg.cor c)).st = .stopping)

/-- TOKEN_SELECT: the next token of a lane's task is in. Where the ACTIVE bank does not hold its record, the
token waits, and a demand load may start (R94). -/
def State.doTokenSelect (s : State) (n l : Nat) : State :=
  match (vget (s.drvUnit n).lanes l).core with
  | none => s
  | some c =>
    match s.gateRun c with
    | none => s
    | some (r, g) =>
      if !s.isOn (Pg.drv n) ∨ (s.page (Pg.drv n)).halt ∨ g.issued ∨ 256 ≤ g.unread ∨ s.drvHeld n ∨ !s.coreWorks c then s
      else
        match (s.activeBank n).filter (fun b => decide ((s.bank n b).addr = g.route)) with
        | none =>
          let u := s.drvUnit n
          let s := if u.waits.contains l then s else s.setDrv n { u with waits := u.waits ++ [l] }
          s.demand n
        | some b =>
          match s.evalTask r (do
              let x ← readGate r.desc
              gateToken x ({ op := 0x03, desc := r.desc, blk := 0 } : Task).conv g.next) with
          | (.error st, e) => e.s.stopTask c st
          | (.ok (vec, vs), e) =>
            match e.s.taskWrites c r.part r.index e.writes.reverse with
            | (false, s) => s
            | (true, s) =>
              let x := s.core c
              let s := s.setCore c { x with run := x.run.map (fun y => { y with once := true }) }
              s.selectToken n l b c { r with once := true } g vec vs

/-! Faults and stopping (R113, R114) -/

/-- End every task that names a unit and has not issued its last token. -/
def State.endGates (s : State) (n : Nat) (f : State → Nat → Run → State) : State :=
  (List.range 64).foldl
    (fun s c =>
      match s.gateRun c with
      | some (r, g) => if g.unit = n ∧ !g.issued then f s c r else s
      | none => s) s

/-- A unit leaves ON: such tasks end with core code 0x18. -/
def State.drvStop (s : State) (n : Nat) : State := (s.endGates n (fun s c r => s.taskError c 0x18 r.index)).trimWaits n

/-- A unit's banks and quota sets begin empty. -/
def State.drvEmpty (s : State) (n : Nat) : State :=
  let u := s.drvUnit n
  s.setDrv n { u with banks := Vector.replicate 2 Bank.init, waits := [],
                      lanes := u.lanes.map (fun l => { l with quota := none }) }

/-- DROVER_PARITY: every task in progress on the unit ends; a second within 10^9 ticks quarantines it. -/
def State.doDroverParity (s : State) (n : Nat) : State :=
  let p := s.partOf (Pg.drv n)
  let u := s.drvUnit n
  let twice := u.parityAt.any (fun t => decide (s.now ≤ t + 1000000000))
  let s := s.setDrv n { u with parityAt := some s.now }
  let s := s.irq (Pg.drv n) 22
  let busy := (List.range 64).filterMap (fun c => (s.gateRun c).bind (fun g =>
    if g.2.unit = n ∧ g.2.granted ∧ !g.2.ended then some (c, g.1.index) else none))
  let s := match busy with
    | (_, i) :: _ => s.error (Pg.drv n) Cls.task p 0x14 i
    | [] => s.errorOpen (Pg.drv n) Cls.task p 0x14
  let s := (busy.foldl (fun s x => s.taskEnd x.1) s).drvEmpty n
  if twice then s.quarantine (Pg.drv n) else s

end Sys2Proof.Machine
end

