-- ==== Sys2Proof/Machine/Grouped.lean ====
section
/-! DEFINITION. GROUPED_GEMM_SERAI (R198) with Sage (R222 to R229). -/
namespace Sys2Proof.Machine

/-- The inline and Sage fields of a GROUPED_GEMM_SERAI task (Tables 8.4 and 9.8). -/
structure Grp where
  layer : Nat
  eng : Nat
  flags : Nat
  act : Nat
  inFmt : Nat
  midFmt : Nat
  retFmt : Nat
  queue : Nat
  sage : Nat
  uAddr : Nat
  vAddr : Nat
  bAddr : Nat
  tau : Val
  sel : Val
  deriving DecidableEq, Repr

def Grp.release (g : Grp) : Bool := g.flags.testBit 0
def Grp.ret (g : Grp) : Bool := g.flags.testBit 1
def Grp.gated (g : Grp) : Bool := g.flags.testBit 2

def Task.grp (t : Task) : Grp :=
  let a := fun (off : Nat) => t.blkW off + 2 ^ 32 * t.blkW (off + 4)
  { layer := t.inl 0 1, eng := t.inl 1 1, flags := t.inl 2 1, act := t.inl 3 1, inFmt := t.inl 4 1,
    midFmt := t.inl 5 1, retFmt := t.inl 6 1, queue := dfld t.desc 4 11 0, sage := t.sage, uAddr := a 0x60,
    vAddr := a 0x68, bAddr := a 0x70, tau := ofF32 (t.blkW 0x78), sel := ofF32 (t.blkW 0x7C) }

/-- A threshold is finite and at least +0 (Table 9.8). -/
def threshOk (v : Val) : Bool := v.finite && !v.isNeg

/-- The predictor's weights are MXFP4 (R223). -/
def fmtMx4 : Fmt := ⟨.fp fpE2M1, 4, 32, .e8m0, true, true, .b4⟩
/-- z is quantized to MZ4N (R224). -/
def fmtMz4n : Fmt := ⟨.fp fpE2M1, 4, 32, .mz4n, true, true, .b4⟩

/-- The row stride of U. -/
def sageStride (h : Nat) : Nat := (fmtMx4.spanSize h + 63) / 64 * 64

/-- A format that products with a weight format may take as their other operand: floating point (R166). -/
def grpPair (w a : Fmt) : Bool := pairOk w a && !pairInt w

/-- The checks of R180 and R198 on the task alone. -/
def grpOk (t : Task) (g : Grp) (o w3 : Option TD) (w1 w2 : TD) : Bool :=
  let h := w1.cols
  let i := w1.rows
  let wOk := fun (w : TD) => decide (t.sparse = 0) || structClass w.fmt w.code
  decide (dfld t.desc 0 28 28 = 1 ∧ g.flags < 8 ∧ g.act ≤ 3 ∧ h % 128 = 0 ∧ i % 128 = 0)
    && decide (w2.rows = h ∧ w2.cols = i) && wOk w1 && wOk w2
    && (match w3 with | some w => decide (w.rows = i ∧ w.cols = h) && wOk w | none => true)
    && (match o with | some d => decide (d.cols = h) && fpOut d.code | none => g.ret)
    && (decide (g.inFmt = 0) || (match fmtOf g.inFmt with
        | some f => grpPair w1.fmt f && (match w3 with | some w => grpPair w.fmt f | none => true)
        | none => false))
    && (match fmtOf g.midFmt with | some f => grpPair w2.fmt f | none => false)
    && (!g.ret || (decide (g.retFmt = 0x01 ∨ g.retFmt = 0x02 ∨ g.retFmt = 0x04)
        && (match fmtOf g.retFmt with | some f => decide (f.spanSize h ≤ 8192) | none => false)))
    && (decide (g.sage = 0) || (addrOk44 g.uAddr && addrOk44 g.vAddr && addrOk44 g.bAddr && threshOk g.tau && threshOk g.sel))
where
  /-- A 64-byte aligned address field. -/
  addrOk44 (a : Nat) : Bool := decide (a < 2 ^ 44 ∧ a % 64 = 0)

/-- What a GROUPED_GEMM_SERAI task leaves to do: its generation, and the rows to return with their entries; and
its Sage counts (rows, selected, missed, skipped, W2 blocks skipped). -/
structure GrpOut where
  g : Grp
  gen : Gen
  returns : List (BitVec 128 × List Byte)
  sage : Option (Nat × Nat × Nat × Nat × Nat)
  deriving DecidableEq, Repr

/-! Queue entries -/

/-- The bytes of a chain, read for the task. -/
def Op.chain (a n : Nat) : Op (List Byte) := do
  let e ← get
  match e.s.chainRead a n with
  | (some bs, s) => set { e with s := s }; pure bs
  | (none, s) => set { e with s := s }; throw (.mem false)

/-- Encode a row in a format and decode it again, with the counts of both. -/
def requant (f : Fmt) (k : Conv) (r c0 : Nat) (vs : List Val) : Op (List Val) := do
  let e ← get
  let (bs, tl) := f.encodeSpan k c0 (arrTile r) vs e.tally
  set { e with tally := tl }
  pure ((f.decodeSpan vs.length bs).map (·.1))

/-- The input row of an entry, decoded and where the task says so quantized. -/
def grpInput (t : Task) (g : Grp) (h i : Nat) (e : BitVec 128) (f : Fmt) : Op (List Val) := do
  let bs ← Op.chain (fld e 43 0) (fld e 117 104)
  let x ← get
  let (vs, tl) := noteRow x.tally (arrTile i) (f.decodeSpan h bs)
  set { x with tally := tl }
  match fmtOf g.inFmt with
  | some q => requant q t.conv i (i * h) (vs.map (f32 .near))
  | none => pure vs

/-! Sage (R224, R225) -/

/-- An entry of the bound table. -/
def boundEntry (gated : Bool) (a : Nat) : Op (Val × Val × Val) := do
  let w ← Op.rdNat a 16
  let v := fun (k : Nat) => ofF32 (w / 2 ^ (32 * k) % 2 ^ 32)
  let ok := fun (x : Val) => x.finite && (!x.isNeg || x.isZero)
  Op.need (ok (v 0) && (!gated || ok (v 1)) && ok (v 2) && decide (w / 2 ^ 96 = 0)) 0x27
  pure (v 0, v 1, v 2)

/-- The predictor: for each token its ĝ values and its norm. -/
def predict (g : Grp) (h i : Nat) (xs : List (List Val)) : Op (List (List Val × Val)) := do
  let u : TD := { addr := g.uAddr, code := 0x14, fmt := fmtMx4, outl := false, rows := 64, cols := h, stride := sageStride h }
  let v : TD := { addr := g.vAddr, code := 0x14, fmt := fmtMx4, outl := false, rows := i, cols := 64, stride := 64 }
  let us ← (List.range 64).mapM (fun n => rowExact u n (fun _ => arrTile 0 n))
  let vs ← (List.range i).mapM (fun n => rowExact v n (fun _ => arrTile 0 n))
  Op.pass (passCount xs.length h 64 + passCount xs.length 64 i) false true
  xs.zipIdx.mapM fun x => do
    let n := sqrtR .up (x.1.foldl (fun a y => addUp a (mulUp y y)) Val.zero)
    let z ← finish x.2 (rowAcc (x.1.map some) (us.map (fun r => r.map some)) [] (fun _ => []))
    let z ← requant fmtMz4n ⟨false, true, 1, 0⟩ x.2 (x.2 * 64) z
    let gh ← finish x.2 (rowAcc (z.map some) (vs.map (fun r => r.map some)) [] (fun _ => []))
    pure (gh, n)

/-- Selected and missed rows (R224, R225). -/
def sageRows (g : Grp) (h i : Nat) (xs : List (List Val)) : Op (List Bool × List Bool) := do
  let bt ← (List.range i).mapM (fun r => boundEntry g.gated (g.bAddr + 16 * r))
  let ps ← predict g h i xs
  let ovr := fun (r : Nat) (beta : Bool) (limit : Val) =>
    let (ri, n3, c) := nth bt (Val.zero, Val.zero, Val.zero) r
    ps.any fun p =>
      let a := (nth p.1 Val.zero r).abs
      let gg := if g.gated then mulUp n3 p.2 else Val.one
      let a := if beta then addUp a (mulUp ri p.2) else a
      limit.lt (mulUp (mulUp a gg) c)
  let sel := (List.range i).map (fun r => ovr r false g.sel)
  let miss := (List.range i).map (fun r => !nth sel false r && ovr r true g.tau)
  pure (sel, miss)

/-! Weights that Sage reads in part (R226) -/

/-- Rows of W1 or W3: only the rows that are computed are read. -/
def keptRows (t : TD) (sp : Nat) (keep : Nat → Bool) : Op (List (Option (List (Option Val)))) :=
  (List.range t.rows).mapM fun n =>
    if keep n then do
      if sp = 0 then
        let r ← rowExact t n (fun _ => arrTile 0 n)
        pure (some (r.map some))
      else
        let (r, _) ← structRow t sp n (fun _ => arrTile 0 n)
        pure (some r)
    else pure none

/-- The runs of kept 32-blocks: first block and blocks. -/
def keptRuns (keep : Nat → Bool) (n : Nat) : List (Nat × Nat) :=
  (List.range n).foldr
    (fun b (acc : List (Nat × Nat)) =>
      if !keep b then acc
      else match acc with
        | (a, c) :: r => if a = b + 1 then (b, c + 1) :: r else (b, 1) :: (a, c) :: r
        | [] => [(b, 1)]) []

/-- Read part of a section of a span: lo and hi say where the bytes of a run begin and end, by block; what is
not read is 0. -/
def readRuns (base : Nat) (lo hi : Nat → Nat) (n : Nat) (runs : List (Nat × Nat)) : Op (List Byte) := do
  let parts ← runs.mapM fun r => do
    let a := lo r.1
    let bs ← Op.rd (base + a) (hi (r.1 + r.2) - a)
    pure (a, bs)
  pure (parts.foldl (fun (acc : List Byte) p => acc.take p.1 ++ p.2 ++ acc.drop (p.1 + p.2.length))
    (List.replicate n 0))

/-- A dense row of W2 with only its kept 32-blocks read. -/
def keptSpan (t : TD) (n : Nat) (keep : Nat → Bool) : Op (List (Option Val)) := do
  let f := t.fmt
  let blocks := t.cols / 32
  let runs := keptRuns keep blocks
  let eb := f.elemBytes t.cols
  let a := t.rowAt n
  let es ← readRuns a (fun b => f.elemBytes (32 * b)) (fun b => f.elemBytes (32 * b)) eb runs
  let sc ← match f.scale with
    | .none => pure []
    | .e8m0 => readRuns (a + eb) id id (f.scaleBytes t.cols) runs
    | .e4m3 => readRuns (a + eb) (fun b => 2 * b) (fun b => 2 * b) (f.scaleBytes t.cols) runs
    | .f16 => readRuns (a + eb) (fun b => b / 2 * 2) (fun b => (b + 1) / 2 * 2) (f.scaleBytes t.cols) runs
    | .mz4n => do
      let s1 ← readRuns (a + eb) id id blocks runs
      let s2 ← readRuns (a + eb + blocks) (fun b => 4 * b) (fun b => 4 * b) (4 * blocks) runs
      pure (s1 ++ s2)
  let e ← get
  let vals : List (Option (Val × Mon)) :=
    (f.decodeSpan t.cols (es ++ sc)).zipIdx.map (fun v => if keep (v.2 / 32) then some v.1 else none)
  let tl := vals.foldl (fun (tl : Tally) v => match v with | some x => tl.note (arrTile 0 n) x.2 | none => tl) e.tally
  set { e with tally := tl }
  pure (vals.map (fun v => v.map (·.1)))

/-- The rows of W2, without the blocks that are skipped. -/
def w2Rows (t : TD) (sp : Nat) (keep : Nat → Bool) : Op (List (List (Option Val))) := do
  if (List.range (t.cols / 32)).all keep then
    let (r, _) ← wRows t sp
    pure r
  else if sp = 0 then (List.range t.rows).mapM (fun n => keptSpan t n keep)
  else
    let (r, _) ← wRows t sp
    pure (r.map (fun row => row.zipIdx.map (fun v => if keep (v.2 / 32) then v.1 else none)))

/-! The operator -/

/-- The products of one token against the rows that are computed; +0 elsewhere. -/
def keptProduct (r : Nat) (x : List Val) (ws : List (Option (List (Option Val)))) : Op (List Val) :=
  ws.zipIdx.mapM fun w => do
    match w.1 with
    | none => pure Val.zero
    | some row =>
      let (v, m) := (accumulate Val.zero (blockTerms (x.map some) row)).out
      Op.note (arrTile r w.2) m
      pure v

/-- Run GROUPED_GEMM_SERAI. p is the partition, genOk whether its generation was COMPLETE at the start (R198). -/
def runGrouped (t : Task) (step : W32) (ready : Bool) : Op GrpOut := do
  let g := t.grp
  let o := t.td? 0
  let w1 ← t.td 1
  let w3 := t.td? 2
  let w2 ← t.td 3
  let h := w1.cols
  let i := w1.rows
  Op.need (grpOk t g o w3 w1 w2) 0x10
  t.writable 0 0
  t.readable 1 0
  t.readable 2 0
  t.readable 3 0
  if g.sage ≠ 0 then
    Op.mayRead g.uAddr (63 * sageStride h + fmtMx4.spanSize h)
    Op.mayRead g.vAddr (64 * i)
    Op.mayRead g.bAddr (16 * i)
  else pure ()
  let e ← get
  Op.need (decide (g.eng < 8) && e.s.owns e.part (Pg.cnv g.eng) && e.s.isOn (Pg.cnv g.eng)) 0x17
  Op.need ready 0x28
  match (e.s.queue g.queue).find e.part step g.layer with
  | none => Op.fail 0x28
  | some (_, gen) =>
    let f0 := match gen.entries with | x :: _ => fld x 103 96 | [] => 0
    let fin := fmtOf f0
    let size := match fin with | some f => f.spanSize h | none => 0
    Op.need (gen.entries.all (fun x => decide (fld x 103 96 = f0 ∧ fld x 117 104 = size))
      && (gen.entries.isEmpty || (match fin with
        | some f => decide (g.inFmt ≠ 0) || (grpPair w1.fmt f && (match w3 with | some w => grpPair w.fmt f | none => true))
        | none => false))) 0x17
    Op.need (g.ret || (match o with | some d => decide (gen.entries.length ≤ d.rows) | none => false)) 0x16
    let f := fin.getD fmtF32
    let xs ← gen.entries.zipIdx.mapM (fun x => grpInput t g h x.2 x.1 f)
    let all := List.replicate i true
    let no := List.replicate i false
    let (sel, miss) ← if g.sage = 0 then pure (all, no) else sageRows g h i xs
    let kept1 := if g.sage = 2 then List.zipWith (fun a b => a || b) sel miss else all
    let would := List.zipWith (fun a b => a || b) sel miss
    let blockKept := fun (l : List Bool) (b : Nat) => (List.range 32).any (fun k => nth l false (32 * b + k))
    let rows1 ← keptRows w1 t.sparse (fun n => nth kept1 false n)
    let rows3 ← match w3 with
      | some w => if g.gated then keptRows w t.sparse (fun n => nth kept1 false n) else pure []
      | none => pure []
    let kept := fun (b : Nat) => blockKept kept1 b
    let rows2 ← w2Rows w2 t.sparse kept
    let af := match fmtOf g.inFmt with | some q => q | none => f
    let mf := (fmtOf g.midFmt).getD fmtF32
    let (sx, sy) := patternOf t.sparse
    let nsel := if g.sage = 2 then sel.countP id else i
    let nmake := kept1.countP id - nsel
    let perW := passCount xs.length (h * sx / sy) nsel + passCount xs.length (h * sx / sy) nmake
    Op.pass (if g.gated then 2 * perW else perW) (decide (t.sparse ≠ 0)) (pairCovered w1.fmt af)
    let nk := ((List.range (i / 32)).filter kept).length
    Op.pass (passCount xs.length (32 * nk * sx / sy) h) (decide (t.sparse ≠ 0)) (pairCovered w2.fmt mf)
    let ys ← xs.zipIdx.mapM fun x => do
      let gv ← keptProduct x.2 x.1 rows1
      let uv ← if g.gated then keptProduct x.2 x.1 rows3 else pure []
      let hv := gv.zipIdx.map fun v =>
        if nth kept1 false v.2 then
          let a := epilogue g.act v.1
          if g.gated then mulF a (nth uv Val.zero v.2) else a
        else Val.zero
      let hq ← requant mf t.conv x.2 (x.2 * i) hv
      let a := hq.zipIdx.map (fun v => if kept (v.2 / 32) then some v.1 else none)
      finish x.2 (rowAcc a rows2 [] (fun _ => []))
    let outs ← ys.zipIdx.mapM fun y => do
      if g.ret then
        let rf := (fmtOf g.retFmt).getD fmtF32
        let e ← get
        let (bs, tl) := rf.encodeSpan t.conv (y.2 * h) (arrTile y.2) y.1 e.tally
        set { e with tally := tl }
        pure (nth gen.entries 0 y.2, bs)
      else
        match o with
        | some d => Op.rowOut d t.conv y.2 (arrTile y.2) y.1
        | none => pure ()
        pure ((0 : BitVec 128), [])
    let counts := if g.sage = 0 then none
      else
        let skipB := ((List.range (i / 32)).filter (fun b => !blockKept would b)).length
        some (i, sel.countP id, miss.countP id, i - would.countP id, skipB)
    pure { g := g, gen := gen, returns := if g.ret then outs else [], sage := counts }

end Sys2Proof.Machine
end

