-- ==== Sys2Proof/Machine/Cores.lean ====
section
/-! DEFINITION. The expert cores: running a task, its completion, the residue check, the range monitor and
scratchpad parity (R173, R176 to R190, R205). -/
namespace Sys2Proof.Machine

/-- Run the operator of a task (Table 8.4). -/
def runOp (t : Task) (r : Run) : Op (Option GrpOut) := do
  match t.op with
  | 0x01 => runGemm t
  | 0x02 => let o ← runGrouped t r.step r.genOk; return some o
  | 0x03 => runGate t r.desc
  | 0x04 => runWgrad t
  | 0x05 => runSplit t
  | 0x10 => runDecode t
  | 0x11 => runPrefill t
  | 0x12 => runKvWrite t (!r.bg)
  | 0x13 => runRotary t
  | 0x20 => runNorm t
  | 0x21 => runVchain t
  | 0x22 => runSoftmax t
  | 0x23 => runReduce t
  | 0x24 => runSample t
  | 0x25 => runLoss t
  | 0x26 => runAdamw t
  | 0x30 => runConvert t
  | 0x31 => runQuantize t
  | 0x32 => runGather t
  | 0x33 => runScatter t
  | 0x34 => runCopy t
  | 0x35 => runFill t
  | 0x36 => runTranspose t
  | 0x37 => runEmit t (!r.bg) r.step
  | 0x40 => runConv t
  | 0x41 => runFeatures t
  | _ => pure ()
  return none

/-- A task from its descriptor and operand block to the end of its operator. -/
def runTask (r : Run) : Op (Option GrpOut) := do
  let t ← readTask r.desc
  runOp t r

/-- The codes under which a task ends before it has any effect (R13, R180, R198). -/
def startCodes : List Nat := [0x10, 0x11, 0x12, 0x17, 0x28]

/-- The check a task fails when it starts (R180, R198): its code. -/
def State.startStop (s : State) (r : Run) : Option Nat :=
  match (s.evalTask r (runTask r)).1 with
  | .error (.code k _) => if startCodes.contains k then some k else none
  | _ => none

/-! The range monitor (R173, R174) -/

/-- The threshold of a class (Table 7.7). -/
def State.rmThresh (s : State) (c k : Nat) : Nat :=
  s.rf (Pg.cor c) (if k < 2 then Reg.corRmTh01 else if k < 4 then Reg.corRmTh23 else Reg.corRmTh45)
    (16 * (k % 2) + 15) (16 * (k % 2))

/-- The classes of a tile that exceed their thresholds; 0xFFFF is never exceeded. -/
def State.rmOver (s : State) (c : Nat) (m : Mon) : List Nat :=
  (List.range 6).filter (fun k => decide (s.rmThresh c k < m.cls k ∧ s.rmThresh c k ≠ 0xFFFF))

/-- The end of a monitor tile: what it counts, and the class with ACT that it breaches. -/
def State.endTile (s : State) (c task : Nat) (m : Mon) : Option Nat × State :=
  let pg := Pg.cor c
  let s := (List.range 6).foldl (fun s k => s.bumpBy pg (Reg.corRmCnt k) (m.cls k)) s
  match s.rmOver c m with
  | [] => (none, s)
  | k :: ks =>
    let s := s.bumpBy pg Reg.corRmTiles (ks.length + 1)
    let s := if s.rb pg Reg.corRmLast 31 then s
      else s.setReg pg Reg.corRmLast (w32 (at_ 31 1 + at_ 16 (task % 2 ^ 14) + k))
    ((k :: ks).find? (fun k => s.rb pg Reg.corRmCtrl k), s.irq pg 24)

/-- End the tiles of a list in order, up to the first that ends the task. -/
def State.endTiles (s : State) (c task : Nat) : List Mon → Option Nat × State
  | [] => (none, s)
  | m :: ms =>
    match s.endTile c task m with
    | (some k, s) => (some k, s)
    | (none, s) => State.endTiles s c task ms

/-- The tiles of a task in order, those that count nothing apart. -/
def Ev.tiles (e : Ev) : List Mon := e.tally.map (·.2)

/-- RANGE: the next monitor tile of the running task that counts anything ends. -/
def State.doRange (s : State) (c : Nat) : State :=
  match (s.core c).run with
  | none => s
  | some r =>
    if !s.coreWorks c then s
    else
      match ((s.evalTask r (runTask r)).2.tiles)[r.tiles]? with
      | none => s
      | some m =>
        let s := s.setCore c { s.core c with run := some { r with tiles := r.tiles + 1 } }
        match s.endTile c r.index m with
        | (none, s) => s
        | (some k, s) => s.taskError c 0x20 k

/-! Counts of a completed task -/

/-- The sparse and Sage counters and events of a task (Tables 9.10, 9.11). -/
def State.coreCounts (s : State) (c : Nat) (r : Run) (e : Ev) (o : Option GrpOut) : State :=
  let pg := Pg.cor c
  let s := s.bumpBy pg Reg.corCntPasses (e.passes - r.passes)
  let s := if s.rb pg Reg.corCtrl 0 then s.bumpBy pg Reg.corCntRchk (e.checked - min e.checked r.passes) else s
  let s :=
    if s.rb pg Reg.corCtrl 1 && decide (0 < e.passes) then
      let (g, s) := s.freeBits 32
      s.bumpBy pg Reg.corCntGated g
    else s
  let s := ((s.bumpBy pg Reg.corSpCntPass e.spPasses).bumpBy pg Reg.corSpCntDrop e.drops).bumpBy pg Reg.corSpCntOob e.oobs
  let s := match e.kind with
    | some k => (s.setReg pg Reg.corSpLast (w32 (at_ 31 1 + at_ 16 (r.index % 2 ^ 14) + k))).irq pg 20
    | none => s
  match o.bind (·.sage) with
  | none => s
  | some (i, sel, miss, skip, blk) =>
    let s := ((s.bumpBy pg Reg.corSgCntRows i).bumpBy pg Reg.corSgCntPred sel).bumpBy pg Reg.corSgCntMiss miss
    let s := (s.bumpBy pg Reg.corSgCntSkip skip).bumpBy pg Reg.corSgCntBlkskip blk
    if 0 < miss ∧ (o.any (fun x => decide (x.g.sage = 2))) then s.irq pg 21 else s

/-! Completion (R72, R198) -/

/-- A task has completed: it is DONE, its signals are raised and the core is free. -/
def State.finishTask (s : State) (c : Nat) (r : Run) : State :=
  let s := (s.freeLane c r).bump (Pg.cor c) Reg.corCntTasks
  let g := s.graphOf r
  let s := s.trace 2 r.part (Pg.cor c) r.index c (match g with | some g => g.taskBase + 64 * r.index | none => 0)
  let s := s.dropRun c .done
  if g.isSome then s.taskSignals r.part r.desc else s

/-- The Convoy engine can take the rows a task returns: it has a manifest for them and is not HALTED. -/
def State.canReturn (s : State) (r : Run) (o : Option GrpOut) : Bool :=
  match o with
  | some g => g.returns.isEmpty ||
      (s.manRoom g.g.eng r.part true r.step 0 && !(s.page (Pg.cnv g.g.eng)).halt)
  | none => true

/-- What a GROUPED_GEMM_SERAI task does beside its writes: returns its rows, and releases its generation. -/
def State.grpEffects (s : State) (r : Run) (o : Option GrpOut) : State :=
  match o with
  | none => s
  | some g =>
    let s := g.returns.foldl (fun s x => s.sendReturn g.g.eng r.part g.gen x.1 g.g.retFmt x.2) s
    if g.g.release then
      match (s.queue g.g.queue).find r.part r.step g.g.layer with
      | some (_, gen) => s.releaseGen g.g.queue gen
      | none => s
    else s

/-- The task of a core may complete: a GATE_SCORE task once its END record has been issued and none of its
records is held for its engine, with no token vector left unread (R107, R199; log 53, DEDUCED). -/
def State.mayEnd (s : State) (c : Nat) (r : Run) : Bool :=
  match r.gate with
  | some g => g.ended && decide (g.unread = 0)
      && !(s.cnvEng g.unit).fifo.any (fun x => decide (x.core = c ∧ x.gid = r.gid ∧ x.task = r.index))
  | none => true

/-- TASK_COMPLETE: the running task of a core carries out its operator and completes, or ends in an error. A
COLL_START task completes through COLL_START. -/
def State.doTaskComplete (s : State) (c : Nat) : State :=
  match (s.core c).run with
  | none => s
  | some r =>
    if !s.coreWorks c ∨ !s.mayEnd c r ∨ dfld r.desc 0 7 0 = 0x51 then s
    else
      match s.evalTask r (runTask r) with
      | (.error e, ev) => ev.s.stopTask c e
      | (.ok o, ev) =>
        if !s.canReturn r o then s
        else
          match ev.s.endTiles c r.index (ev.tiles.drop r.tiles) with
          | (some k, s) => s.taskError c 0x20 k
          | (none, s) =>
            let s := s.coreCounts c r ev o
            match s.taskWrites c r.part r.index ev.writes.reverse with
            | (false, s) => s
            | (true, s) => (s.grpEffects r o).finishTask c r

/-- COLL_START: the running COLL_START task of a core hands its descriptor over (R311). -/
def State.doCollStart (s : State) (c : Nat) : State :=
  match (s.core c).run with
  | none => s
  | some r =>
    if !s.coreWorks c ∨ dfld r.desc 0 7 0 ≠ 0x51 then s
    else
      match s.collAccept r.part r.step false (dfld r.desc 0x30 63 0) with
      | (.wait, s) => s
      | (.bad, s) => s.taskEnd c
      | (.taken, s) => s.finishTask c r

/-! Residue check and parity (R186, R188, Table 8.5) -/

/-- PASS_CHECK: a pass of an array ends. A mismatch discards it, and it is computed again at most twice; the
third mismatch quarantines the core (R188). -/
def State.doPassCheck (s : State) (c array : Nat) (mismatch : Bool) : State :=
  match (s.core c).run with
  | none => s
  | some r =>
    let pg := Pg.cor c
    if !s.coreWorks c then s
    else if mismatch && s.rb pg Reg.corCtrl 0 then
      let k := r.tries.get 0 array + 1
      let s := s.setCore c { s.core c with run := some { r with tries := r.tries.set 0 array (k % 3) } }
      let s := (s.bump pg Reg.corCntRmiss).setReg pg Reg.corResLast
        (w32 (at_ 31 1 + at_ 16 (r.index % 2 ^ 14) + at_ 4 (min r.passes 0xFFF) + at_ 2 array + min k 3))
      let s := s.irq pg 16
      if k < 3 then s.bump pg Reg.corCntRecomp
      else ((s.error pg Cls.recomputed r.part 0x1A r.index).quarantine pg).coreLeaves c
    else
      let s := s.setCore c { s.core c with
        run := some { r with passes := r.passes + 1, tries := r.tries.set 0 array 0 } }
      let s := s.bump pg Reg.corCntPasses
      if s.rb pg Reg.corCtrl 0 then s.bump pg Reg.corCntRchk else s

/-- SCRATCHPAD_PARITY: the running task ends with code 0x14; a second error within 1,000,000,000 ticks
quarantines the core. -/
def State.doScratchParity (s : State) (c : Nat) : State :=
  let pg := Pg.cor c
  if !s.coreWorks c then s
  else
    let x := s.core c
    let again := x.parityAt.any (fun t => decide (s.now ≤ t + 1000000000))
    let s := ((s.setCore c { x with parityAt := some s.now }).bump pg Reg.corCntPar).irq pg 17
    let s := match x.run with
      | some r => s.taskError c 0x14 r.index
      | none => s.errorOpen pg Cls.task (s.partOf pg) 0x14
    if again then (s.quarantine pg).coreLeaves c else s

end Sys2Proof.Machine
end

