-- ==== Sys2Proof/Machine/Launch.lean ====
section
/-! DEFINITION. The step scheduler (R69, R75 to R86): the launch table, launches, the issue of tasks, the end of
graphs, recomputation (R360 to R364) and partition reset. -/
namespace Sys2Proof.Machine

/-! The launch table (R82, R83) -/

def leCount (e : BitVec 128) : Nat := dfld e 0 63 0
def leGraph (e : BitVec 128) : Nat := dfld e 8 11 0
def leBg (e : BitVec 128) : Bool := decide (dfld e 8 12 12 = 1)
def lePart (e : BitVec 128) : Nat := dfld e 8 15 13
def leValid (e : BitVec 128) : Bool := decide (dfld e 8 31 31 = 1)
def leStep (e : BitVec 128) : W32 := w32 (dfld e 12 31 0)

/-- The entry of a slot. -/
def State.slotEntry (s : State) (k : Nat) : BitVec 128 := s.sch.slots.get 0 k

/-- The state with a slot replaced. -/
def State.setSlotEntry (s : State) (k : Nat) (e : BitVec 128) : State :=
  { s with sch := { s.sch with slots := s.sch.slots.set 0 k e } }

/-- Partition p accepts no launch, frame or task: it is being reset, or an error has stopped it (R86, R352). -/
def State.partHalted (s : State) (p : Nat) : Bool := (s.schPart p).resetting || bit s.stopped p

/-- A port may write partition p's slots: the owner port of p while p is not OFF, or the management port. -/
def State.mayLaunch (s : State) (port p : Nat) : Bool :=
  decide (s.sec.mgmt.map (·.val) = some port) || (!s.parOff p && decide (s.parPort p = port))

/-- The status of Table 4.6 for a write of an entry to a slot. -/
def State.launchStatus (s : State) (port k : Nat) (e : BitVec 128) : Nat :=
  let p := k / 64
  let old := s.slotEntry k
  if !s.mayLaunch port p ∨ lePart e ≠ p then 3
  else if s.partHalted p ∨ 2 ≤ s.pwr.state then 4
  else if leValid old ∧ leCount old ≤ s.count + 10000 then 2
  else if leValid e ∧ leCount e < s.count + 10000 then 1
  else 0

/-- Write an entry: the status, and the table after; QUIET falls at an accepted entry (R389). -/
def State.setLaunch (s : State) (port k : Nat) (e : BitVec 128) : Nat × State :=
  match s.launchStatus port k e with
  | 0 =>
    let p := k / 64
    if leValid e then (0, (s.setSlotEntry k e).setPartSec p { s.partSec p with quiet := false })
    else (0, s.setSlotEntry k 0)
  | st => (st, (s.bump Pg.lnt Reg.lntCntRef).irq Pg.lnt 16)

/-- The earliest COUNT of a valid entry; all ones where none is pending. -/
def State.launchNext (s : State) : Nat :=
  s.sch.slots.foldl (fun m kv => if leValid kv.2 then min m (leCount kv.2) else m) (2 ^ 64 - 1)

/-- The valid entries. -/
def State.launchPend (s : State) : Nat := (s.sch.slots.filter (fun kv => leValid kv.2)).length

/-! Graph descriptors (Table 4.2, R79) -/

def gdBase (d : BitVec 512) : Nat := dfld d 0 63 0
def gdCount (d : BitVec 512) : Nat := dfld d 8 14 0
def gdBg (d : BitVec 512) : Bool := decide (dfld d 8 16 16 = 1)
def gdScb (d : BitVec 512) : Nat := dfld d 0xC 14 0
def gdScbN (d : BitVec 512) : Nat := dfld d 0xC 31 16
def gdLimit (d : BitVec 512) : Nat := dfld d 0x10 31 0

/-- Two ranges of counters overlap. -/
def rangesMeet (a n b m : Nat) : Bool := decide (a < b + m ∧ b < a + n)

/-- The checks of R79 on a descriptor as it was read. -/
def State.graphOk (s : State) (p : Nat) (bg : Bool) (d : BitVec 512) : Bool :=
  let lo := s.rf (Pg.par p) Reg.parScb 14 0
  let hi := lo + s.rf (Pg.par p) Reg.parScb 31 16
  decide (1 ≤ gdCount d ∧ gdCount d ≤ 16384 ∧ gdBase d % 64 = 0 ∧ gdBase d < 2 ^ 44)
    && s.inGdr p (gdBase d) (64 * gdCount d)
    && decide (1 ≤ gdScbN d ∧ lo ≤ gdScb d ∧ gdScb d + gdScbN d ≤ hi)
    && (gdBg d == bg)
    && (match s.graph p (!bg) with
        | some g => !rangesMeet (gdScb d) (gdScbN d) g.scbBase g.scbCount
        | none => true)

/-- The graph descriptor of an index, where the checks of R79 pass. -/
def State.readGraph (s : State) (p index : Nat) (bg : Bool) : Option (BitVec 512) × State :=
  let a := s.reg64 Pg.sch (Reg.schGtabpLo p) (Reg.schGtabpHi p) + 64 * index
  if s.rf Pg.sch (Reg.schGtabpCnt p) 12 0 ≤ index ∨ !s.inGdr p a 64 then (none, s)
  else
    match s.read p a 64 with
    | (.ok bs, s) => let d := wordsOf 512 bs; (if s.graphOk p bg d then some d else none, s)
    | (.error _, s) => (none, s)

/-! The KV log (R363) -/

/-- Empty a partition's KV log. -/
def State.emptyLog (s : State) (p : Nat) : State :=
  let s := s.setReg Pg.flt (Reg.fltRlogpCnt p) (w32 (s.rf Pg.flt (Reg.fltRlogpCnt p) 15 0))
  s.setSchPart p { s.schPart p with kvSeen := [], kvLost := [] }

/-- Write back every record in reverse order, and empty the log. -/
def State.restoreLog (s : State) (p : Nat) : State :=
  let base := s.reg64 Pg.flt (Reg.fltRlogpLo p) (Reg.fltRlogpHi p)
  let s := ((List.range (s.rf Pg.flt (Reg.fltRlogpCnt p) 30 16)).reverse).foldl
    (fun s i =>
      match s.blockRead p (base + 16 * i) 16 i with
      | (some bs, s) => (s.blockWrite p (nbits (leNat bs) 43 0 + 8) (bs.drop 8) i).2
      | (none, s) => s) s
  s.emptyLog p

/-! The end of a graph (R81, R361) -/

/-- The background graph of a partition goes on (R84). -/
def State.bgResume (s : State) (p : Nat) : State :=
  match (s.schPart p).bg with
  | some g => s.setGraph p true (some (s.unpause g))
  | none => s

/-- A completed step counts: its bindings are over, its digest goes out, and the armed snapshot starts. -/
def State.stepOver (s : State) (p : Nat) (g : Graph) : State :=
  let s := s.dropBound p g.step
  let s := if g.failed then s else s.sendDigest p g.step g.digest
  s.ckpStart p g.step

/-- A graph ends: SCH_LASTp, the events, and for a live graph all that hangs on the completion of its step. A
graph that was not started (R79: it has no tasks) raises GRAPH_FAILED alone. -/
def State.graphEnd (s : State) (p : Nat) (bg : Bool) : State :=
  match s.graph p bg with
  | none => s
  | some g =>
    let s := s.setGraph p bg none
    let gd := s.reg64 Pg.sch (Reg.schGtabpLo p) (Reg.schGtabpHi p) + 64 * g.index
    let s := s.trace 4 p Pg.sch g.index 0 gd
    let x := s.schPart p
    let s := s.setSchPart p { x with
      emptyQ := x.emptyQ.filter (fun e => decide (e.2 ≠ g.step)),
      last := if bg then x.last else ⟨g.step, s.count, g.failTask, if g.timeout then 2 else g.failed.toNat⟩ }
    let s := if g.count = 0 then s else s.irq Pg.sch 16
    let s := if g.failed then s.irq Pg.sch 17 else s
    if bg then s
    else
      let s := ((s.stepMissed p g.step s.count).seraiStepDone p g.step).cnvStepDone p g.step
      let s := if g.failed then s.setSchPart p { s.schPart p with retired := some g.step } else s
      let s := s.bgResume p
      if s.rb Pg.flt (Reg.fltRcmpp p) 31 then
        let s := s.setSchPart p { s.schPart p with voting := some g }
        s.opAdd (s.rf Pg.flt (Reg.fltRcmpp p) 19 16) g.step (some 255) (orOf [g.failed.toNat]) (.rcmp p)
      else s.stepOver p g

/-- GRAPH_COMPLETE: every task is completed or skipped, or the graph has failed and no task runs. -/
def State.doGraphComplete (s : State) (p : Nat) (bg : Bool) : State :=
  match s.graph p bg with
  | none => s
  | some g =>
    if s.partHalted p ∨ g.busy then s
    else if g.failed ∨ g.doneCount = g.count then s.graphEnd p bg
    else s

/-- GRAPH_LIMIT: the run time reaches LIMIT (R81). -/
def State.doGraphLimit (s : State) (p : Nat) (bg : Bool) : State :=
  match s.graph p bg with
  | none => s
  | some g =>
    if s.partHalted p ∨ g.limit = 0 ∨ s.runTime g < g.limit then s
    else s.failGraph p bg 0x11 g.index 0

/-! Launches (R79, R80, R82) -/

/-- The held signals of a step are applied (R73, R80). -/
def State.applyHeld (s : State) (p : Nat) (step : W32) : State :=
  let x := s.schPart p
  let s := s.setSchPart p { x with held := x.held.filter (fun h => decide (h.step ≠ step)) }
  (x.held.filter (fun h => decide (h.step = step))).foldl (fun s h => s.addCtr p h.ctr h.add) s

/-- A task descriptor that is not issued (R69). -/
def State.taskBad (s : State) (p : Nat) (g : Graph) (d : BitVec 512) : Bool :=
  !opCodes.contains (dfld d 0 7 0)
    || (List.range 4).any (fun i => decide (dfld d (8 + 4 * i) 31 31 = 1) && !g.hasCtr (dfld d (8 + 4 * i) 30 16))
    || (List.range 2).any (fun j => decide (dfld d (0x18 + 4 * j) 31 31 = 1) && !g.hasCtr (dfld d (0x18 + 4 * j) 30 16))
    || decide (dfld d 0 9 8 = 3 ∧ (s.coresOf p).length ≤ dfld d 0 21 16)

/-- Read task descriptor i of the graph just launched (R69). -/
def State.readTaskDesc (s : State) (p : Nat) (bg : Bool) (i : Nat) : State :=
  match s.graph p bg with
  | none => s
  | some g =>
    match s.read p (g.taskBase + 64 * i) 64 with
    | (.ok bs, s) =>
      let d := wordsOf 512 bs
      let s := s.setGraph p bg (some { g with descs := g.descs.set 0 i d })
      if s.taskBad p g d then
        let s := s.failGraph p bg 0x10 i i
        match s.graph p bg with
        | some g => s.setGraph p bg (some (g.setTask i .failed))
        | none => s
      else s
    | (.error _, s) => (s.setGraph p bg (some (g.setTask i .failed))).markFailed p bg i false

/-- An abort or a failure held for the step of a live launch is applied (R128, R360). -/
def State.applyFails (s : State) (p : Nat) (step : W32) : State :=
  let x := s.schPart p
  let s := s.setSchPart p { x with heldAborts := x.heldAborts.filter (fun t => decide (t ≠ step)),
                                   prefail := x.prefail.filter (fun t => decide (t ≠ step)) }
  let s := if x.heldAborts.contains step ∧ (s.schPart p).live.any (fun g => !g.failed)
    then (s.errorOpen Pg.flt Cls.task p 0x13).markFailed p false 0 false else s
  if x.prefail.contains step then s.markFailed p false 0 false else s

/-- What a live launch does beside its graph: bindings or, in a recomputation, their signal (R62, R362); the
log; the lists that restart. -/
def State.liveLaunch (s : State) (p : Nat) (step : W32) (L : Nat) (again : Bool) : State :=
  let s := (s.migRestart p).rmoRestart p
  if again then s.addCtr p (s.rf Pg.str (Reg.strBindpSig p) 14 0) 1
  else
    let s := s.emptyLog p
    if s.isOn Pg.str then
      let s := s.bindAll p L step
      let x := s.schPart p
      s.setSchPart p { x with binds := x.binds ++ [step] }
    else s

/-- Pause the background graph under a live launch, outside fill mode (R84). -/
def State.bgPause (s : State) (p : Nat) : State :=
  match (s.schPart p).bg with
  | some g => if s.bgFill p then s else s.setGraph p true (some (s.pause g))
  | none => s

/-- Launch a graph of partition p with count L; again for a recomputation (R362). An invalid graph is not
started: it ends FAILED at once (R79). -/
def State.launch (s : State) (p : Nat) (bg : Bool) (index : Nat) (step : W32) (L : Nat) (again : Bool) : State :=
  let gid := s.sch.launches + 1
  let s := { s with sch := { s.sch with launches := gid } }
  let gd := s.reg64 Pg.sch (Reg.schGtabpLo p) (Reg.schGtabpHi p) + 64 * index
  let s := s.trace 3 p Pg.sch index 0 gd
  let g0 : Graph :=
    { index := index, step := step, launch := L, taskBase := 0, count := 0, scbBase := 0, scbCount := 0, limit := 0,
      run := 0, since := some s.now, descs := [], tasks := [], failed := true, timeout := false, failTask := 0,
      gid := gid, digest := 0 }
  match s.readGraph p index bg with
  | (none, s) =>
    let s := (s.error Pg.sch Cls.task p 0x12 index).setGraph p bg (some g0)
    let s := if bg then s else (s.abortSend p step).applyFails p step
    s.graphEnd p bg
  | (some d, s) =>
    let s := if bg then s else s.bgPause p
    let paused := bg && (s.schPart p).live.isSome && !s.bgFill p
    let g : Graph :=
      { g0 with taskBase := gdBase d, count := gdCount d, scbBase := gdScb d, scbCount := gdScbN d,
                limit := gdLimit d, since := if paused then none else some s.now, failed := false, failTask := 0 }
    let s := (s.clearCtrs g.scbBase g.scbCount).setGraph p bg (some g)
    let s := s.applyHeld p step
    let s := (List.range g.count).foldl (fun s i => s.readTaskDesc p bg i) s
    if bg then s else (s.liveLaunch p step L again).applyFails p step

/-- A discarded entry. -/
def State.launchSkip (s : State) (event : Bool) : State :=
  let s := s.bump Pg.sch Reg.schCntLskip
  if event then s.irq Pg.sch 19 else s

/-- The entry of a slot is the next of its partition to be processed: none that came due before it, or at the
same count in a lower slot, is left. -/
def State.slotFirst (s : State) (k : Nat) : Bool :=
  let e := s.slotEntry k
  !s.sch.slots.any (fun kv => decide (kv.1 / 64 = k / 64) && leValid kv.2 &&
    decide (leCount kv.2 < leCount e ∨ (leCount kv.2 = leCount e ∧ kv.1 < k)))

/-- LAUNCH_DUE: an entry is due; it launches, is deferred or is discarded (R82, R84, R439). -/
def State.doLaunchDue (s : State) (k : Nat) : State :=
  let e := s.slotEntry k
  let p := k / 64
  if !leValid e ∨ s.count < leCount e ∨ !s.slotFirst k then s
  else
    let s := (s.setSlotEntry k 0).leaveA1
    if !s.isOn Pg.sch ∨ s.pwr.pfw then s.launchSkip true
    else if leBg e then
      if (s.schPart p).bg.isSome then s.launchSkip false
      else s.launch p true (leGraph e) (leStep e) (leCount e) false
    else if (s.schPart p).deferred.isSome then s.launchSkip true
    else if s.liveBusy p then
      ((s.setSchPart p { s.schPart p with deferred := some ⟨leGraph e, leStep e, leCount e⟩ }).bump Pg.sch
        Reg.schCntDefer).irq Pg.sch 18
    else s.launch p false (leGraph e) (leStep e) (leCount e) false

/-- DEFERRED_LAUNCH: the deferred live launch starts once no live graph is active. -/
def State.doDeferredLaunch (s : State) (p : Nat) : State :=
  match (s.schPart p).deferred with
  | none => s
  | some l =>
    if s.partHalted p ∨ s.liveBusy p then s
    else
      let s := s.setSchPart p { s.schPart p with deferred := none }
      if s.isOn Pg.sch ∧ !s.pwr.pfw then s.launch p false l.index l.step l.count false else s.launchSkip true

/-! Recomputation (R361 to R364) -/

/-- The step is abandoned (R364). -/
def State.abandon (s : State) (p : Nat) (g : Graph) : State :=
  let s := (s.strOf p).foldl
    (fun s n =>
      ((s.strAux n).bound.filter (fun b => sameBase b.step g.step)).foldl
        (fun s b => (s.strWrite p b.addr (bindBytes { b with dropped := true }) n).sBump n 0x6C 31 0) s) s
  let s := s.dropBound p g.step
  let s := ((s.errorOpen Pg.flt Cls.task p 0x11).bump Pg.flt Reg.fltCntAbandon).irq Pg.flt 21
  s.setReg Pg.flt (Reg.fltRstatp p) g.step

/-- The streams of the partition with a write the full log did not take are LOST (R363). -/
def State.loseUnlogged (s : State) (p : Nat) (roots : List Nat) : State :=
  (s.strOf p).foldl (fun s n => if roots.contains (s.sf64 n 0x40) then s.markLost p n (s.sf64 n 0x40) else s) s

/-- The result of the vote arrives; a failed operation counts as 1 (R361). -/
def State.rcmpResult (s : State) (p : Nat) (r : Option Contrib) : State :=
  match (s.schPart p).voting with
  | none => s
  | some g =>
    let s := s.setSchPart p { s.schPart p with voting := none }
    let bad := match r with
      | some c => decide ((nth c.vals (0, 0) 0).1 ≠ 0)
      | none => true
    if !bad then s.stepOver p g
    else
      let s := s.setSchPart p { s.schPart p with retired := some g.step }
      let full := s.rb Pg.flt (Reg.fltRlogpCnt p) 31
      let roots := (s.schPart p).kvLost
      let s := s.restoreLog p
      if full then ((s.errorOpen Pg.flt Cls.task p 0x12).loseUnlogged p roots).abandon p g
      else if stepTry g.step < s.rf Pg.flt (Reg.fltRcmpp p) 25 24 then
        let next := w32 (stepBase g.step + (stepTry g.step + 1) * 2 ^ 30)
        s.setSchPart p { s.schPart p with rcmp := some ⟨g.index, next, g.launch⟩ }
      else s.abandon p g

/-- RECOMPUTE: the same graph is launched with the next attempt number (R362). -/
def State.doRecompute (s : State) (p : Nat) : State :=
  match (s.schPart p).rcmp with
  | none => s
  | some l =>
    if s.partHalted p ∨ !s.isOn Pg.sch then s
    else
      let s := s.setSchPart p { s.schPart p with rcmp := none }
      let s := ((s.bump Pg.flt Reg.fltCntRcmp).setReg Pg.flt (Reg.fltRstatp p) l.step).irq Pg.flt 20
      s.launch p false l.index l.step l.count true

/-! Aborts (R360) -/

/-- The STEP of the next live launch of a partition. -/
def State.nextLaunch (s : State) (p : Nat) : Option W32 :=
  let x := s.schPart p
  match x.rcmp, x.deferred with
  | some l, _ => some l.step
  | none, some l => some l.step
  | none, none =>
    (s.sch.slots.foldl
      (fun (m : Option (BitVec 128)) kv =>
        if kv.1 / 64 = p ∧ leValid kv.2 ∧ !leBg kv.2 ∧ m.all (fun e => decide (leCount kv.2 < leCount e))
        then some kv.2 else m) none).map leStep

/-- ABORT: an ABORT packet arrives. -/
def State.doAbort (s : State) (pkt : Packet) : State :=
  if pkt.vc ≠ 6 ∨ pkt.type ≠ 9 then s
  else
    match s.takeEjected pkt with
    | none => s
    | some s =>
      if !pkt.crcOk then s
      else
        match s.tagPart pkt.tag with
        | none => s.bump Pg.flt Reg.fltCntAbortRx
        | some q =>
          let x := s.schPart q
          if (x.live.map (·.step)) = some pkt.stepOf then
            if x.live.any (·.failed) then s
            else (s.errorOpen Pg.flt Cls.task q 0x13).markFailed q false 0 false
          else if s.nextLaunch q = some pkt.stepOf then
            if x.heldAborts.contains pkt.stepOf then s
            else s.setSchPart q { x with heldAborts := x.heldAborts ++ [pkt.stepOf] }
          else s.bump Pg.flt Reg.fltCntAbortRx

/-! Issue (R75 to R77, R84) -/

/-- The generation of a task's queue is COMPLETE (R198). -/
def State.queueReady (s : State) (p : Nat) (d : BitVec 512) (step : W32) : Bool :=
  let g := ({ op := 0x02, desc := d, blk := 0 } : Task).grp
  ((s.queue g.queue).find p step g.layer).any (fun x => decide (x.2.st = .complete))

/-- The lane a GATE_SCORE task asks for; an error of its operands ends it here. -/
def State.gateStart (s : State) (c : Nat) (r : Run) : State :=
  match s.evalTask r (readGate r.desc) with
  | (.error e, ev) => ev.s.stopTask c e
  | (.ok g, ev) =>
    let run : GateRun :=
      { route := g.addr, unit := g.unit, lane := g.lane, base := g.base, next := 0, total := g.x.rows, unread := 0,
        granted := false, issued := false, ended := false }
    ev.s.setCore c { ev.s.core c with run := some { r with gate := some run } }

/-- A task is issued to a core, where its start is checked (R76, R180). -/
def State.issueTask (s : State) (p : Nat) (bg : Bool) (g : Graph) (i c : Nat) : State :=
  let d := g.desc i
  let r : Run :=
    { part := p, bg := bg, gid := g.gid, index := i, step := g.step, launch := g.launch, desc := d, started := s.now,
      once := false, passes := 0, tries := [], tiles := 0, lenient := s.rb (Pg.cor c) Reg.corSpCtrl 0,
      genOk := s.queueReady p d g.step, gate := none }
  let s := (s.bump Pg.sch Reg.schCntIssue).trace 1 p Pg.sch i c (g.taskBase + 64 * i)
  let s := s.setGraph p bg (some (g.setTask i (.running c)))
  let x := s.core c
  let s := s.setCore c { x with run := some r, lastTask := i, lastOp := dfld d 0 7 0, lastPart := p, spad := [] }
  match s.startStop r with
  | some code => s.taskError c code i
  | none => if dfld d 0 7 0 = 0x03 then s.gateStart c r else s

/-- What becomes of the task picked from a graph. -/
def State.actOn (s : State) (p : Nat) (bg : Bool) (i : Nat) (k : Pick) : State :=
  match s.graph p bg with
  | none => s
  | some g =>
    match k with
    | .wait => s
    | .skip =>
      ((s.setGraph p bg (some (g.setTask i .skipped))).bump Pg.sch Reg.schCntSkip).taskSignals p (g.desc i)
    | .noCore => s.failGraph p bg 0x14 i i
    | .issue c => s.issueTask p bg g i c

/-- TASK_ISSUE: the next ready task of a partition, live tasks first. -/
def State.doTaskIssue (s : State) (p : Nat) : State :=
  if !s.isOn Pg.sch ∨ s.partHalted p then s
  else
    match s.pickLive p with
    | some (i, k) => s.actOn p false i k
    | none =>
      match s.pickBg p with
      | some (i, k) => s.actOn p true i k
      | none => s

/-! Partition reset and stop (R86, R352) -/

/-- The launch-table slots of a partition are cleared. -/
def State.clearSlots (s : State) (p : Nat) : State :=
  { s with sch := { s.sch with slots := s.sch.slots.dropRange (64 * p) (64 * p + 64) } }

/-- Tasks of a partition in progress stop: no signal, no output (R86 step 2). -/
def State.stopRuns (s : State) (p : Nat) : State :=
  (List.range 64).foldl
    (fun s c =>
      match (s.core c).run with
      | some r => if r.part = p then (s.freeLane c r).dropRun c .waiting else s
      | none => s) s

/-- The Drover units, Convoy engines, queues, remote engines and collectives of a partition (R86 step 3, R148,
R298, R320); acknowledgements it owes are sent. -/
def State.stopBlocks (s : State) (p : Nat) : State :=
  let s := (List.range 8).foldl (fun s n => if s.owns p (Pg.drv n) then s.trimWaits n else s) s
  (((((s.flushAcks p).cnvClear p).seraiClear p).freePart p).rmoClear p).collDrop p

/-- PARTITION_RESET: a write of GO starts R86: BUSY, the slots and the work of p. -/
def State.startPrst (s : State) (p : Nat) : State :=
  let s := s.setSchPart p { s.schPart p with resetting := true }
  ((s.clearSlots p).stopRuns p).stopBlocks p

/-- The streams and the scoreboard counters of a partition are cleared (R86 step 4). -/
def State.clearWork (s : State) (p : Nat) : State :=
  (s.clearStreams p).clearCtrs (s.rf (Pg.par p) Reg.parScb 14 0) (s.rf (Pg.par p) Reg.parScb 31 16)

/-- Step 4 of R86: streams, counters, contexts, SCH_LASTp, held signals and the retired step. -/
def State.clearPart (s : State) (p : Nat) : State := (s.clearWork p).setSchPart p SchedPart.init

/-- An error has stopped a partition: its slots are cleared and steps 2 to 4 of R86 carried out without
clearing registers: SCH_LASTp stays (R352). -/
def State.stopPart (s : State) (p : Nat) : State :=
  let s := (((s.clearSlots p).stopRuns p).stopBlocks p).clearWork p
  let x := s.schPart p
  s.setSchPart p { SchedPart.init with last := x.last, retired := x.retired, resetting := x.resetting }

/-- A page takes the partition reset column of Table 2.9. -/
def State.pagePrst (s : State) (pg : Nat) : State :=
  let x := s.page pg
  let s := s.resetRegs pg
  let s := s.setPage pg { x with en := false, halt := false, reen := false, irq := 0, irqEn := 0, err := 0, errCnt := 0,
                                 lock := 0, snapSeq := 0, snapValid := false, snapTake := false }
  if x.st = .quarantined then s else s.enter pg .off

/-- The pages that a reset of partition p resets: those whose PMASK holds exactly p's bit, but for PARp, which
R389 keeps for its own stop (log 51, DEDUCED). -/
def State.prstPages (s : State) (p : Nat) : List Nat :=
  allPages.filter (fun pg => decide ((s.page pg).owner = BitVec.ofNat 8 (2 ^ p) ∧ pg ≠ Pg.par p))

/-- PARTITION_RESET_COMPLETE: steps 4 to 6 of R86. -/
def State.doPrstComplete (s : State) (p : Nat) : State :=
  if !(s.schPart p).resetting then s
  else
    let s := s.clearPart p
    let s := (s.prstPages p).foldl (fun s pg => s.pagePrst pg) s
    let s := (List.range 8).foldl (fun s n => if s.owns p (Pg.drv n) then s.drvEmpty n else s) s
    let s := (s.setPartSec p { s.partSec p with quiet := true })
    { s with stopped := setBit s.stopped p false }.irq Pg.sch 20

end Sys2Proof.Machine
end

