-- ==== Sys2Proof/Machine/Faults.lean ====
section
/-! DEFINITION. Suspects and their aggregation over Tollgate group 15 (R354 to R358). -/
namespace Sys2Proof.Machine

/-! The suspect table (R354, R355) -/

def State.suspectAt (s : State) (i : Nat) : Option Suspect := vget s.suspects i
def State.setSuspect (s : State) (i : Nat) (x : Option Suspect) : State := { s with suspects := vset s.suspects i x }

/-- SUSPECT_EXPIRE: an entry with no detection for 1,000,000 ticks is freed. -/
def State.doSuspectExpire (s : State) (i : Nat) : State :=
  if (s.suspectAt i).any (fun e => decide (e.seenAt + 1000000 ≤ s.now)) then s.setSuspect i none else s

/-- SUSPECT_CLEAR: FLT_CLR.GO frees one entry, or all. -/
def State.suspectClear (s : State) (v : W32) : State :=
  if !bit v 31 then s
  else if bit v 6 then { s with suspects := Vector.replicate 64 none }
  else s.setSuspect (fld v 5 0) none

/-- FLT_SENT0 and FLT_SENT1 of an entry (Table 15.7). -/
def State.suspectWord (s : State) (i w : Nat) : W32 :=
  match s.suspectAt i with
  | none => 0
  | some e =>
    if w = 0 then w32 (at_ 31 1 + at_ 16 e.cause.toNat + e.coord.toNat)
    else w32 (at_ 16 (e.round % 2 ^ 16) + e.count)

/-! Rounds (R355, R356) -/

/-- An entry is contributed in the round that starts now. -/
def State.suspectDue (s : State) (e : Suspect) : Bool :=
  e.due && (match e.sentAt with | none => true | some t => decide (t + 100000 ≤ s.now))

/-- The rank of a coordinate under group 15's shape; none outside it. -/
def State.suspectRank (s : State) (c : Coord) : Option Nat :=
  let sh := s.grpShape 15
  let l := s.toLog sh c
  if s.inShape sh l then some (s.rankOf sh l) else none

/-- The 64-bit number whose bits are set for the numbers of a list that fall in [lo, lo + 64). -/
def bits64 (l : List Nat) (lo : Nat) : Nat :=
  (List.range 64).foldl (fun m i => if l.contains (lo + i) then m + 2 ^ i else m) 0

/-- What the device contributes in a round: the ranks and the causes of the entries that are due. -/
def State.roundTake (s : State) (r : Nat) : (List Nat × BitVec 10) × State :=
  (List.range 64).foldl
    (fun (a : (List Nat × BitVec 10) × State) i =>
      let s := a.2
      match s.suspectAt i with
      | none => a
      | some e =>
        if !s.suspectDue e then a
        else
          let s := s.setSuspect i (some { e with due := false, sentAt := some s.now, round := r })
          match s.suspectRank e.coord with
          | none => (a.1, s.bump Pg.flt Reg.fltCntOutside)
          | some k => ((a.1.1 ++ [k], a.1.2 ||| e.cause), s)) (([], s.nextCause), { s with nextCause := 0 })

/-- AGGREGATION_ROUND: round r starts at count r · FLT_PERIOD. -/
def State.doAggRound (s : State) : State :=
  let period := (s.reg Pg.flt Reg.fltPeriod).toNat
  let r := s.count / period
  if !s.rb Pg.flt Reg.fltCtrl 0 ∨ period = 0 ∨ !s.grpOk 15 ∨ s.agg.last = some r then s
  else
    let s := { s with agg := { s.agg with last := some r } }
    let ((ranks, causes), s) := s.roundTake r
    let pages := ranks.map (· / 512)
    let step := w32 r
    let s := { s with agg := { s.agg with rounds := s.agg.rounds ++ [(step, ranks)] } }
    (s.bump Pg.flt Reg.fltCntRound).opAdd 15 step (some 0) (orOf [bits64 pages 0, bits64 pages 64, causes.toNat]) (.agg step 0)

/-! Results (R356, R358) -/

/-- This device is the root of group 15. -/
def State.aggRoot (s : State) : Bool := (s.grpParent 15).isNone

/-- The merged map of a page. -/
def State.aggMap (s : State) (k : Nat) : BitVec 512 := s.agg.map.get 0 k

/-- A round is over: the root shows a result that is not empty (R358). -/
def State.roundOver (s : State) (step : W32) (empty : Bool) : State :=
  let s := { s with agg := { s.agg with rounds := s.agg.rounds.filter (fun x => decide (x.1 ≠ step)) } }
  if !s.aggRoot ∨ empty then s
  else
    let was := s.rb Pg.flt Reg.fltAggStat 31
    let s := (s.setRf Pg.flt Reg.fltAggStat 31 31 1).setReg Pg.flt Reg.fltAggRound step
    if was then s else s.irq Pg.flt 16

/-- The pages and causes of a summary are merged at the root. -/
def State.mergeSummary (s : State) (c : Contrib) : State :=
  let v := fun i => (nth c.vals (0, 0) i).1
  let all := v 0 + 2 ^ 64 * v 1
  let s := (List.range 4).foldl
    (fun s i => s.setReg Pg.flt (Reg.fltAggPages i) (s.reg Pg.flt (Reg.fltAggPages i) ||| w32 (nbits all (32 * i + 31) (32 * i)))) s
  let n := ((List.range 4).map (fun i => popcount 32 (s.reg Pg.flt (Reg.fltAggPages i)).toNat)).sum
  let st := s.reg Pg.flt Reg.fltAggStat
  s.setReg Pg.flt Reg.fltAggStat (setFld (st ||| w32 (v 2 % 2 ^ 10)) 23 16 n)

/-- The result of an aggregation operation: k is 0 for a round's summary and 1 + page for a detail. -/
def State.aggResult (s : State) (step : W32) (k : Nat) (r : Option Contrib) : State :=
  match s.agg.rounds.find? (fun x => decide (x.1 = step)) with
  | none => s
  | some (_, ranks) =>
    if k = 0 then
      match r with
      | none => s.roundOver step true
      | some c =>
        let v := fun i => (nth c.vals (0, 0) i).1
        let s := if s.aggRoot then (s.setReg Pg.flt Reg.fltAggMembers (w32 (c.members % 2 ^ 17))).mergeSummary c else s
        let pages := bitsSet 128 (v 0 + 2 ^ 64 * v 1)
        if pages.isEmpty then s.roundOver step (decide (v 2 = 0))
        else
          pages.foldl
            (fun s p => s.opAdd 15 step (some (1 + p)) (orOf ((List.range 8).map (fun i => bits64 ranks (512 * p + 64 * i)))) (.agg step (1 + p))) s
    else
      let s := match r with
        | some c =>
          if s.aggRoot then
            let bits := (List.range 8).foldl (fun n i => n + (nth c.vals (0, 0) i).1 * 2 ^ (64 * i)) 0
            { s with agg := { s.agg with map := s.agg.map.set 0 (k - 1) (s.aggMap (k - 1) ||| BitVec.ofNat 512 bits) } }
          else s
        | none => s
      let left := s.tol.ops.any (fun o => decide (o.group = 15 ∧ o.step = step)) ||
        s.tol.results.any (fun x => match x.1 with | .agg t _ => decide (t = step) | _ => false)
      if left then s else s.roundOver step false

/-- AGG_CLEAR: a clear of FLT_AGG_STAT.VALID empties the merged report. -/
def State.aggClear (s : State) (v : W32) : State :=
  if !bit v 31 then s
  else
    let s := s.setReg Pg.flt Reg.fltAggStat 0
    let s := (List.range 4).foldl (fun s i => s.setReg Pg.flt (Reg.fltAggPages i) 0) s
    { s with agg := { s.agg with map := [] } }

end Sys2Proof.Machine
end

