-- ==== Sys2Proof/Machine/Optics.lean ====
section
/-! DEFINITION. Optical engines: laser inputs, lane sparing and the training of links (R327 to R342). -/
namespace Sys2Proof.Machine

/-! Loss of a port (R330, R338) -/

/-- The port of an engine's logical lane is lost: R284, R249, R340 or R344. -/
def State.portLost (s : State) (e logical : Nat) : State :=
  if e < 8 then (if s.isOn (Pg.trp e) ∧ s.torusUp e then s.loseLink e else s)
  else if e = 8 then s.spineDown (logical / 4)
  else if e < 11 then s.doCxlLoss (e - 9)
  else if logical < 4 ∧ s.isOn (Pg.ctp logical) ∧ (s.ctlPort logical).link = .up then s.ctlLost logical
  else s

/-- Every port an engine serves is lost. -/
def State.portsLost (s : State) (e : Nat) : State :=
  (if e < 8 ∨ e = 9 ∨ e = 10 then [0] else if e = 8 then [0, 4] else [0, 1, 2, 3]).foldl (fun s l => s.portLost e l) s

/-! Laser inputs (R329, R330) -/

/-- The flags of a sample: LOW_WARN, LOW_ALARM, HIGH_WARN, HIGH_ALARM. -/
def State.laserFlags (s : State) (e : Nat) (pw : Int) : BitVec 4 :=
  let th := fun r hi lo => signed 16 (s.rf (Pg.ope e) r hi lo)
  BitVec.ofNat 4 ((decide (pw < th Reg.opeLthLo 15 0)).toNat + 2 * (decide (pw < th Reg.opeLthLo 31 16)).toNat
    + 4 * (decide (th Reg.opeLthHi 15 0 < pw)).toNat + 8 * (decide (th Reg.opeLthHi 31 16 < pw)).toNat)

/-- LASER_SAMPLE: one sample of an engine's input power, in 0.01 dBm. -/
def State.doLaserSample (s : State) (e : Nat) (pw : Int) : State :=
  let f := s.laserFlags e pw
  let x := s.engine e
  let low := if bit f 1 then x.lowRun + 1 else 0
  let pg := Pg.ope e
  let fell := bit f 1 && !bit x.flags 1
  let s := s.setEngine e { x with power := pw, flags := f, lowRun := low }
  let s := if fell then s.alert 6 else s
  let s := if bit f 0 ∨ bit f 2 then s.irq pg 16 else s
  let s := if bit f 3 then (s.irq pg 17).bump pg Reg.opeCntLaser else s
  if 3 ≤ low ∧ s.isOn pg then
    let s := (s.bump pg Reg.opeCntLaser).errorOpen pg Cls.recomputed 0 0x11
    let s := (s.quarantine pg)
    (s.setEngine e { s.engine e with lit := false }).portsLost e
  else s

/-! Lanes (R335 to R338) -/

/-- The physical lane of a logical lane; none where it is not mapped. -/
def State.laneOf (s : State) (e l : Nat) : Option Nat :=
  let v := s.rf (Pg.ope e) Reg.opeLmap (4 * l + 3) (4 * l)
  if v = 0xF then none else some v

/-- The logical lane a physical lane carries. -/
def State.logicalOf (s : State) (e phys : Nat) : Option Nat := (List.range 8).find? (fun l => decide (s.laneOf e l = some phys))

/-- The state of a physical lane. -/
def State.lane (s : State) (e phys : Nat) : LaneState := vget (s.engine e).lanes phys
def State.setLane (s : State) (e phys : Nat) (x : LaneState) : State :=
  s.setEngine e { s.engine e with lanes := vset (s.engine e).lanes phys x }

/-- The free spares of an engine: not mapped, not failed and in no swap (R327). Engine 8 has none. -/
def State.freeSpares (s : State) (e : Nat) : List Nat :=
  if e = 8 then []
  else (List.range 9).filter fun n =>
    (s.logicalOf e n).isNone && decide (s.lane e n ≠ .failed) && !(s.engine e).swaps.any (fun x => decide (x.spare = n))

/-- The swap of a logical lane. -/
def State.swapOf (s : State) (e l : Nat) : Option LaneSwap := (s.engine e).swaps.find? (fun x => decide (x.logical = l))

/-- The state with the swap of a logical lane replaced. -/
def State.setSwap (s : State) (e l : Nat) (x : Option LaneSwap) : State :=
  let g := s.engine e
  s.setEngine e { g with swaps := g.swaps.filter (fun y => decide (y.logical ≠ l)) ++ x.toList }

/-- Send a SWAP control unit on the engine's lanes. -/
def State.sendSwap (s : State) (e : Nat) (k : SwapKind) (l spare : Nat) : State := s.send (.ctlUnit e (.swap k l spare))

/-- Take a spare for a swap; SPARE_EXHAUSTED is raised when it is the last (R338). -/
def State.takeSpare (s : State) (e l spare : Nat) (acked oldFails : Bool) : State :=
  let s := s.setSwap e l (some { logical := l, spare := spare, started := s.now, acked := acked, aligned := false,
                                 doneHere := false, doneThere := false, oldFails := oldFails })
  if s.freeSpares e = [] then s.irq (Pg.ope e) 20 else s

/-- The lane may be swapped: not the reference lane, not on engine 8, and in no swap (R340, R341). -/
def State.canSwap (s : State) (e l : Nat) : Bool :=
  s.isOn (Pg.ope e) && decide (e ≠ 8 ∧ ¬(e = 11 ∧ 4 ≤ l)) && (s.laneOf e l).isSome && (s.swapOf e l).isNone

/-- Start a swap of a logical lane to the lowest free spare, where one is free (R336). -/
def State.startSwap (s : State) (e l : Nat) (oldFails : Bool) : Option State :=
  match s.freeSpares e with
  | [] => none
  | n :: _ => if s.canSwap e l then some ((s.takeSpare e l n false oldFails).sendSwap e .req l n) else none

/-- A failed lane that cannot be swapped: code 0x12, and its port is lost (R338). -/
def State.laneGone (s : State) (e l phys : Nat) : State :=
  ((s.setLane e phys .failed).errorOpen (Pg.ope e) Cls.recomputed 0 0x12).portLost e l

/-- LANE_FAIL: a physical lane fails, or degrades (R335). -/
def State.doLaneFail (s : State) (e phys : Nat) (degraded : Bool) : State :=
  let pg := Pg.ope e
  if !s.isOn pg ∨ s.lane e phys = .failed then s
  else if e = 8 then (if degraded ∨ phys = 8 then s else s.spineDown (phys / 4))
  else
    let s := if degraded then s else (s.bump pg Reg.opeCntLanefail).irq pg 18
    match s.logicalOf e phys with
    | none =>
      if degraded then s
      else
        let s := s.setLane e phys .failed
        match (s.engine e).swaps.find? (fun x => decide (x.spare = phys)) with
        | some x =>
          let s := s.setSwap e x.logical none
          if x.oldFails then s.laneGone e x.logical ((s.laneOf e x.logical).getD 8) else s
        | none => s
    | some l =>
      if e = 11 ∧ l = 4 then (if degraded then s else s.setLane e phys .failed)
      else
        match s.swapOf e l with
        | some x => s.setSwap e l (some { x with oldFails := x.oldFails || !degraded })
        | none =>
          match if s.rb pg Reg.opeCtrl 0 then s.startSwap e l (!degraded) else none with
          | some s => s
          | none => if degraded then s else s.laneGone e l phys

/-- A write of OPE_SWAP with GO (R335). -/
def State.opeSwapGo (s : State) (e l : Nat) : State := (s.startSwap e l false).getD s

/-- A swap whose two ends are done: OPE_LMAP takes the spare, and the old lane becomes FAILED, or free (R336). -/
def State.swapEnds (s : State) (e l : Nat) : State :=
  match s.swapOf e l with
  | none => s
  | some x =>
    if !(x.doneHere && x.doneThere) then s
    else
      let old := (s.laneOf e l).getD 8
      let s := (s.setSwap e l none).setLane e old (if x.oldFails then .failed else .aligned)
      let s := (s.setLane e x.spare .up).setRf (Pg.ope e) Reg.opeLmap (4 * l + 3) (4 * l) x.spare
      (s.bump (Pg.ope e) Reg.opeCntSwap).irq (Pg.ope e) 19

/-- This end has priority when requests cross for the last spare (R337). -/
def State.swapPriority (s : State) (e : Nat) : Bool :=
  if e < 8 then decide (s.selfCoord.toNat < (s.torus e).nbr.toNat) else true

/-- SWAP: a SWAP control unit arrives (R336, R337). -/
def State.doSwap (s : State) (e : Nat) (k : SwapKind) (l spare : Nat) : State :=
  if !s.isOn (Pg.ope e) ∨ e = 8 then s
  else
    match k with
    | .req =>
      (match s.swapOf e l with
        | some x => if x.acked then s else s.setSwap e l (some { x with acked := true })
        | none =>
          let cross := (s.engine e).swaps.any (fun x => decide (x.spare = spare) && !x.acked)
          let free := (s.freeSpares e).contains spare || (cross && !s.swapPriority e)
          if s.canSwap e l && free then
            (s.takeSpare e l spare true (decide (s.lane e ((s.laneOf e l).getD 8) = .failed))).sendSwap e .ack l spare
          else s.sendSwap e .nak l spare)
    | .ack =>
      (match s.swapOf e l with
        | some x => s.setSwap e l (some { x with acked := true })
        | none => s)
    | .nak =>
      (match s.swapOf e l with
        | some x =>
          if x.acked then s
          else
            let s := (s.setSwap e l none).irq (Pg.ope e) 21
            if x.oldFails then s.laneGone e l ((s.laneOf e l).getD 8) else s
        | none => s)
    | .done =>
      (match s.swapOf e l with
        | some x => (s.setSwap e l (some { x with doneThere := true })).swapEnds e l
        | none => s)

/-- LANE_ALIGN: a lane that trains to stage 4 only is aligned; a spare that takes over a lane then carries it, and
this end sends DONE (R333, R336). -/
def State.doLaneAlign (s : State) (e phys : Nat) : State :=
  if !s.isOn (Pg.ope e) ∨ s.lane e phys = .failed ∨ e = 8 then s
  else
    match (s.engine e).swaps.find? (fun x => decide (x.spare = phys) && x.acked && !x.doneHere) with
    | some x =>
      let s := (s.setLane e phys .aligned).setSwap e x.logical (some { x with aligned := true, doneHere := true })
      (s.sendSwap e .done x.logical phys).swapEnds e x.logical
    | none =>
      if (s.logicalOf e phys).all (fun l => decide (e = 11 ∧ l = 4)) then s.setLane e phys .aligned else s

/-! Training (R333, R277) -/

/-- The logical lanes of a port are UP. -/
def State.lanesUp (s : State) (e : Nat) (ls : List Nat) : State :=
  ls.foldl (fun s l => match s.laneOf e l with | some n => s.setLane e n .up | none => s) s

/-- A port page trains: it is starting, or it is ON and LOST with AUTO_RETRAIN. -/
def State.trains (s : State) (pg : Nat) (lost auto_ : Bool) : Bool :=
  decide ((s.page pg).st = .starting) || (s.isOn pg && lost && auto_)

/-- A torus port exchanges TRAIN units: the neighbour check, and the link comes UP. -/
def State.torusTrained (s : State) (n : Nat) (i : TrainInfo) : State :=
  let pg := Pg.trp n
  let t := s.torus n
  if !(s.isOn (Pg.ope n) && s.trains pg (decide (t.link = .lost)) (s.rb pg Reg.trpCtrl 0)) ∨ t.link = .up then s
  else
    let s := s.setTorus n { t with nbr := i.coord, nbrPort := i.port.toNat }
    let same := decide (s.rf pg Reg.trpNbr 15 0 = i.coord.toNat ∧ s.rf pg Reg.trpNbr 18 16 = i.port.toNat)
    if s.rb pg Reg.trpNbr 31 && !same then
      if (s.page pg).st = .starting then s.startFault pg 0x11 else s
    else
      let fs := s.unsent n t.retry
      let s := if t.link = .lost then (s.emptyPort n).reinject n fs true else s
      let s := { s with rte := { s.rte with credit := s.rte.credit.dropRange (8 * n) (8 * n + 8),
                                            owed := s.rte.owed.dropRange (8 * n) (8 * n + 8) } }
      let s := s.setTorus n { s.torus n with link := .up, rxValid := false, txNext := 0, resends := 0,
                                             lastGroup := s.now, waitNotice := none, nak := false }
      ((s.lanesUp n (List.range 8)).irq pg 16).checkDrain

/-- A CXL port completes CXL link training; IDE comes into force where IDE_EN is 1. -/
def State.cxlTrained (s : State) (n : Nat) : State :=
  let pg := Pg.cxl n
  if s.isOn (Pg.ope (9 + n)) ∧ (s.page pg).st = .starting then
    (s.setCxlPort n { s.cxlPort n with up := true, ide := s.rb pg Reg.cxlCtrl 0 }).lanesUp (9 + n) (List.range 8)
  else s

/-- A control port comes UP: it learns the node's buffer, resends from the peer's RX_LAST + 1, and goes on (R344). -/
def State.ctlTrained (s : State) (n : Nat) (i : TrainInfo) : State :=
  let pg := Pg.ctp n
  let c := s.ctlPort n
  if !(s.isOn (Pg.ope 11) && s.trains pg (decide (c.link = .lost)) (s.rb pg Reg.ctpCtrl 0)) ∨ c.link = .up then s
  else
    let left := afterAck i.rxLast c.retry
    let s := s.setCtlPort n { c with link := .up, nodeBuf := i.rxbuf.toNat, credit := i.rxbuf.toNat - left.length,
                                     retry := left, resends := 0, lastFlit := s.now }
    let s := (s.lanesUp 11 [n]).irq pg 16
    State.pump ((s.resendFlits n).flushEvents n 1024) n 256

/-- LINK_TRAINED: a port completes training through stage 5. The reference lane has no stage 5. -/
def State.doLinkTrained (s : State) (port : LinkPort) (i : TrainInfo) : State :=
  match port with
  | .torus n => s.torusTrained n.val i
  | .cxl n => s.cxlTrained n.val
  | .control n => s.ctlTrained n.val i
  | .reference => s

end Sys2Proof.Machine
end

