-- ==== Sys2Proof/Machine/Security.lean ====
section
/-! DEFINITION. Identity, firmware images, the management role, partitions, weight bundles and debug (R380 to
R391, R396 to R404). -/
namespace Sys2Proof.Machine

/-! Identity (R380, R381) -/

/-- The number a list of bytes spells, first byte most significant. -/
def beNum (bs : List Byte) : Nat := bs.foldl (fun n b => 256 * n + b.toNat) 0

/-- The bytes of an ASCII string. -/
def ascii (t : String) : List Byte := t.toList.map (fun c => BitVec.ofNat 8 c.toNat)

/-- The private identity key (R381). -/
def identKey : Nat :=
  beNum (hkdf384 (List.replicate 48 0) (toLE 32 Config.pufSecret.toNat) (ascii "MZH1 identity") 64) % (ecN - 1) + 1

/-- The public identity key: 97 bytes (R381). -/
def identPub : List Byte := ecPublic identKey

/-- The device ID: the first 16 bytes of the SHA-384 of the public key (R381). -/
def deviceId : List Byte := (sha384 identPub).take 16

/-! Firmware images (R382 to R386) -/

/-- n bytes of the staged image from an offset on. -/
def State.staged (s : State) (off n : Nat) : List Byte := (List.range n).map (fun i => s.sec.stage.get 0 (off + i))

/-- A word of the staged header. -/
def State.stagedWord (s : State) (off : Nat) : Nat := leNat (s.staged off 4)

/-- The body length of the staged image. -/
def State.stagedLen (s : State) : Nat := s.stagedWord 0x00C

/-- The largest image (R382). -/
def imageMax : Nat := 64 * 2 ^ 20

/-- The staged header names this device, or 0 (R383). -/
def State.signerOk (s : State) : Bool :=
  let sig := s.staged 0xA0 96
  let signer := s.stagedWord 0x050
  if signer = 0 then
    decide (s.staged 0x010 16 = List.replicate 16 0) && ecdsaVerify Config.productionKey (s.staged 0 0xA0) sig
  else if signer = 1 then
    ecdsaVerify Config.developerRootKey (s.staged 0x100 0x78) (s.staged 0x178 96)
      && decide (s.staged 0x168 16 = deviceId ∧ s.staged 0x010 16 = deviceId)
      && ecdsaVerify (s.staged 0x100 97) (s.staged 0 0xA0) sig
  else false

/-- The staged image verifies (R383). -/
def State.imageOk (s : State) : Bool :=
  decide (s.stagedWord 0 = 0x57465A4D ∧ 512 + s.stagedLen ≤ imageMax)
    && decide (s.staged 0x020 48 = sha384 (s.staged 512 s.stagedLen)) && s.signerOk

/-- The measurement of the staged image (R383). -/
def State.imageMeas (s : State) : BitVec 384 := BitVec.ofNat 384 (leNat (sha384 (s.staged 0 (512 + s.stagedLen))))

/-- An image fails verification: SEC code 0x10 (R384). -/
def State.imageFail (s : State) : State := (s.errorOpen Pg.sec Cls.task 0 0x10).irq Pg.sec 16

/-- Bytes into the staging area. -/
def State.stagePut (s : State) (off : Nat) (bs : List Byte) : State :=
  { s with sec := { s.sec with stage := bs.zipIdx.foldl (fun m (b, i) => m.set 0 (off + i) b) s.sec.stage } }

/-- FW_LOAD during start-up step 5: the loading port, its chunks, and verification at LAST (R384). -/
def State.bootLoad (s : State) (port : Fin 4) (off : Nat) (bs : List Byte) (last : Bool) : Resp × State :=
  let mine := s.sec.loading = some port ∨ (s.sec.loading = none ∧ off = 0)
  if !mine ∨ s.sec.mgmt.isSome then (Resp.of St.type, s)
  else if imageMax < off + bs.length then (Resp.of St.length, s)
  else
    let s := if s.sec.loading.isNone then { s with sec := { s.sec with loading := some port, stage := [] } } else s
    let s := s.stagePut off bs
    if !last then (Resp.of St.ok, s)
    else
      let s := { s with sec := { s.sec with loading := none } }
      if s.stagedWord 8 = 0 ∧ s.imageOk then
        let m := s.imageMeas
        (Resp.of St.ok,
          { s with sec := { s.sec with developer := decide (s.stagedWord 0x050 = 1), signer := s.stagedWord 0x050,
                                       certId := BitVec.ofNat 128 (leNat (s.staged 0x168 16)),
                                       devKey := s.staged 0x100 97, fwMeas := m, mgtMeas := m, mgmt := some port } })
      else (Resp.of St.ok, s.imageFail)

/-- FW_LOAD after READY: KIND 1 images from the management port, into the management staging area (R384). -/
def State.stageLoad (s : State) (port : Fin 4) (off : Nat) (bs : List Byte) (last : Bool) : Resp × State :=
  if s.sec.mgmt ≠ some port ∨ s.sec.mgtState = .switching then (Resp.of St.type, s)
  else if imageMax < off + bs.length then (Resp.of St.length, s)
  else
    let s' := if off = 0 then { s with sec := { s.sec with stage := [] } } else s
    let s' := s'.stagePut off bs
    if ((off = 0 ∧ 12 ≤ bs.length) ∨ last) ∧ s'.stagedWord 8 ≠ 1 then (Resp.of St.type, s)
    else (Resp.of St.ok, if last then { s' with sec := { s'.sec with mgtState := .staged } } else s')

/-- FW_LOAD (R384). -/
def State.doFwLoad (s : State) (r : Req) (off : W32) (bs : List Byte) (last : Bool) : State :=
  s.request r 8 .keep (decide (r.len = 4 + bs.length ∧ 4 ≤ bs.length ∧ bs.length ≤ 4096)) fun s =>
    if s.pwr.dev = .fwload then s.bootLoad r.port off.toNat bs last
    else if s.pwr.dev = .ready then s.stageLoad r.port off.toNat bs last
    else (Resp.of St.type, s)

/-- A write of SEC_MGMT (R385): the port named takes the management role once the response is sent. -/
def State.mgmtWrite (s : State) (v : W32) : Nat × State :=
  let n : Fin 4 := Fin.ofNat 4 (fld v 1 0)
  if s.isOn (Pg.ctp n.val) ∧ (s.ctlPort n.val).link = .up then
    (St.ok, { s with sec := { s.sec with handover := some n } })
  else (St.state, s)

/-- A write of MGT_CMD with SWAP (R386). -/
def State.swapWrite (s : State) : Nat × State :=
  if s.sec.mgtState ≠ .staged then (St.state, s)
  else if s.stagedWord 8 = 1 ∧ s.imageOk ∧ s.stagedWord 0x050 = s.sec.signer ∧
      (s.sec.signer = 1 → BitVec.ofNat 128 (leNat (s.staged 0x168 16)) = s.sec.certId) then
    (St.ok, { s with sec := { s.sec with mgtState := .switching, swapAt := s.now, mgtNext := s.imageMeas } })
  else (St.ok, ({ s with sec := { s.sec with mgtState := .verifyFail } }).imageFail)

/-! Partitions (R387 to R390) -/

/-- The cores, units and ranges a PAR page names, as [first, end) of each kind. -/
def State.parRange (s : State) (p k : Nat) : Nat × Nat :=
  let f := fun r hi lo => s.rf (Pg.par p) r hi lo
  let b := match k with
    | 0 => (f Reg.parStr 12 0, f Reg.parStr 29 16)
    | 1 => (f Reg.parScb 14 0, f Reg.parScb 31 16)
    | _ => (f Reg.parSri 11 0, f Reg.parSri 28 16)
  (b.1, b.1 + b.2)

/-- Two ranges [a, b) share a member. -/
def meets (x y : Nat × Nat) : Bool := decide (max x.1 y.1 < min x.2 y.2)

/-- PAR_CORES. -/
def State.parCores (s : State) (p : Nat) : Nat := s.reg64 (Pg.par p) Reg.parCoresLo Reg.parCoresHi
/-- PAR_CFG.DRV. -/
def State.parDrv (s : State) (p : Nat) : Nat := s.rf (Pg.par p) Reg.parCfg 7 0

/-- The layout breaks R21 or a field limit of Table 16.8. -/
def State.parBadLayout (s : State) (p : Nat) : Bool :=
  let g := s.rf (Pg.par p) Reg.parGdr 22 16
  let cx := s.rf (Pg.par p) Reg.parCxl 29 16
  let scb := s.parRange p 1
  decide (s.parCores p = 0 ∨ s.parDrv p = 0 ∨ g = 0 ∨ 126 < g ∨ 8192 < cx ∨ scb.1 = scb.2)
    || decide (8192 < (s.parRange p 0).2 ∨ 32768 < scb.2 ∨ 4096 < (s.parRange p 2).2)
    || decide (cx ≠ 0 ∧ 8192 < s.rf (Pg.par p) Reg.parCxl 13 0 + cx)

/-- The layout overlaps that of another partition (R387). -/
def State.parOverlap (s : State) (p : Nat) : Bool :=
  decide (s.usableEnd / 2 ^ 30 * 2 ^ 30 < s.gdrHi p) ||
    (List.range 8).any fun q =>
      decide (q ≠ p) &&
        ((!s.parOff q && (decide (s.parCores p &&& s.parCores q ≠ 0 ∨ s.parDrv p &&& s.parDrv q ≠ 0)
            || (List.range 3).any (fun k => meets (s.parRange p k) (s.parRange q k))))
          || ((!s.parOff q || (s.partSec q).dirty)
            && (meets (s.gdrLo p, s.gdrHi p) (s.gdrLo q, s.gdrHi q)
              || meets (s.cxlLo p, s.cxlHi p) (s.cxlLo q, s.cxlHi q))))

/-- The owner port of a partition holds a session in which the device has returned a REPORT (R394). -/
def State.attested (s : State) (p : Nat) : Bool := (s.ctlPort (s.parPort p)).session.any (·.reported)

/-- A Confidential partition's CXL range is not covered by link IDE (R387). -/
def State.noIde (s : State) (p : Nat) : Bool :=
  decide (s.cxlLo p < s.cxlHi p) && (List.range 2).any (fun n => s.isOn (Pg.cxl n) && !(s.cxlPort n).ide)

/-- The start fault of a PAR page; none where it starts (R387). -/
def State.parStartCode (s : State) (p : Nat) : Option Nat :=
  if s.parBadLayout p then some 0x10
  else if s.parOverlap p then some 0x11
  else if s.parConf p && !s.attested p then some 0x12
  else if s.parConf p && s.noIde p then some 0x13
  else none

/-- The pages that partition p is given (R388). -/
def State.parPages (s : State) (p : Nat) : List Nat :=
  (bitsSet 64 (s.parCores p)).map Pg.cor ++ (bitsSet 8 (s.parDrv p)).map Pg.drv ++ (bitsSet 8 (s.parDrv p)).map Pg.cnv
    ++ [Pg.par p] ++ allPages.filter (fun g => decide (ownerKind g = .shared))

/-- Add or remove a partition's bit in PG_OWNER. -/
def State.setOwns (s : State) (p pg : Nat) (b : Bool) : State :=
  let x := s.page pg
  s.setPage pg { x with owner := setBit x.owner p b }

/-- What a PAR page does on entry to ON (R388, R389, R396). -/
def State.parEnter (s : State) (p : Nat) : State :=
  let s := (s.parPages p).foldl (fun s g => s.setOwns p g true) s
  let x := s.partSec p
  if s.parConf p then
    let (kg, s) := s.freeBits 512
    let (kc, s) := s.freeBits 512
    s.setPartSec p { x with kg := some (BitVec.ofNat 512 kg), kc := some (BitVec.ofNat 512 kc), bundle := none,
                            quiet := true }
  else s.setPartSec p { x with kg := none, kc := none, bundle := none, quiet := true }

/-- The end of a PAR page's stop sequence (R388, R389). -/
def State.parLeave (s : State) (p : Nat) : State :=
  let s := s.setRf Pg.rte (Reg.rtePtag p) 31 31 0
  let s := allPages.foldl (fun s g => if s.owns p g then s.setOwns p g false else s) s
  let x := s.partSec p
  let held := x.kg.isSome || x.kc.isSome
  let s := s.setPartSec p { x with kg := none, kc := none, bundle := none, dirty := x.dirty || s.parConf p }
  if held then s.irq (Pg.par p) 17 else s

/-- A write of PAR_CMD.SCRUB (R390). -/
def State.scrubWrite (s : State) (p : Nat) : Nat × State :=
  let x := s.partSec p
  if s.parOff p && x.dirty then
    (St.ok, if x.scrubbing then s else s.setPartSec p { x with scrubbing := true, scrubbed := 0 })
  else (St.state, s)

/-- SCRUB_DONE: the GDDR7 range holds zeros with correct codes (R390). -/
def State.doScrubDone (s : State) (p : Nat) : State :=
  let x := s.partSec p
  if !x.scrubbing then s
  else
    let lo := s.gdrLo p
    let hi := s.gdrHi p
    let s := { s with mem := SMap.dropRange s.mem lo hi, poison := s.poison.dropRange (lo / 512) (hi / 512) }
    (s.setPartSec p { x with scrubbing := false, dirty := false, scrubbed := (hi - lo) / 2 ^ 30 }).irq (Pg.par p) 16

/-- A range counts as a Confidential partition's (R390). -/
def State.confRange (s : State) (q : Nat) : Bool := (!s.parOff q && s.parConf q) || (s.partSec q).dirty

/-! Weight bundles (R398 to R400) -/

/-- A write of SEC_BCMD with GO: from the management port, or the owner port of p under a session (R400). -/
def State.bundleWrite (s : State) (port : Nat) (v : W32) : Nat × State :=
  let p : Fin 8 := Fin.ofNat 8 (fld v 2 0)
  if s.sec.mgmt.map (·.val) ≠ some port ∧ !((s.ctlPort port).session.isSome ∧ s.parPort p.val = port ∧ !s.parOff p.val) then
    (St.denied, s)
  else if !bit v 31 then (St.ok, s)
  else if s.sec.opening.isSome then (St.state, s)
  else (St.ok, { s with sec := { s.sec with opening := some p } })

/-- The recipient entry that names this device, among n entries from an address on. -/
def State.bundleEntry (s : State) (p a : Nat) : Nat → Option (List Byte)
  | 0 => none
  | n + 1 =>
    match (s.read p a 200).1 with
    | .ok e => if e.take 16 = deviceId then some e else State.bundleEntry s p (a + 200) n
    | .error _ => State.bundleEntry s p (a + 200) n

/-- The outcome of an open: its status, and the key and identifier where it succeeds (R399, R400). -/
def State.bundleTry (s : State) (p a : Nat) : Nat × Option (BitVec 512 × BitVec 128) :=
  if !s.isOn (Pg.par p) ∨ (s.partSec p).bundle.isSome then (4, none)
  else
    match (s.read p a 64).1 with
    | .error _ => (3, none)
    | .ok hdr =>
      let n := leNat ((hdr.drop 8).take 4)
      if n < 1 ∨ 65536 < n ∨ !s.inGdr p a (64 + 200 * n) ∨ leNat (hdr.take 4) ≠ 0x4E425A4D ∨ leNat ((hdr.drop 4).take 4) ≠ 1 then
        (3, none)
      else
        match s.bundleEntry p (a + 64) n with
        | none => (1, none)
        | some e =>
          let id := (hdr.drop 16).take 16
          let z := ecdh identKey ((e.drop 0x10).take 97)
          let kek := hkdf384 id z (ascii "MZH1 bundle" ++ deviceId) 32
          match gcmOpen kek (List.replicate 12 0) hdr ((e.drop 0x74).take 64) ((e.drop 0xB4).take 16) with
          | none => (2, none)
          | some k => (0, some (BitVec.ofNat 512 (leNat k), BitVec.ofNat 128 (leNat id)))

/-- BUNDLE_OPEN_COMPLETE (R400). -/
def State.doBundleDone (s : State) : State :=
  match s.sec.opening with
  | none => s
  | some p =>
    let (st, key) := s.bundleTry p.val (s.reg64 Pg.sec Reg.secBaddrLo Reg.secBaddrHi)
    let s := { s with sec := { s.sec with opening := none, bStat := st } }
    match key with
    | some (k, id) => s.setPartSec p.val { s.partSec p.val with kc := some k, bundle := some id }
    | none => ((s.errorOpen Pg.sec Cls.task p.val 0x11).irq Pg.sec 18).bump Pg.sec Reg.secCntBfail

/-! Debug (R401 to R404) -/

/-- The debug level returns to none. -/
def State.dropGrant (s : State) : State := { s with sec := { s.sec with level := 0, pmask := 0 } }

/-- A new DBG_NONCE is drawn. -/
def State.newNonce (s : State) : State :=
  let (n, s) := s.freeBits 256
  { s with sec := { s.sec with nonce := BitVec.ofNat 256 n } }

/-- The 256 bytes of the token, where they lie in the firmware and tables region and can be read. -/
def State.token (s : State) : Option (List Byte) :=
  let a := s.reg64 Pg.dbg Reg.dbgTokLo Reg.dbgTokHi
  if s.inFirmware a 256 ∧ !(blocksOf a 256).any s.poisoned then some (s.memBytes a 256) else none

/-- The first check of a token that fails: DBG_TSTAT (R401, Table 16.12). -/
def State.tokenStatus (s : State) : Nat :=
  match s.token with
  | none => 1
  | some t =>
    let key := if s.sec.developer then s.sec.devKey else Config.debugKey
    let w := leNat ((t.drop 4).take 4)
    if leNat (t.take 4) ≠ 0x54445A4D ∨ !ecdsaVerify key (t.take 0x40) ((t.drop 0x40).take 96) then 1
    else if (t.drop 8).take 16 ≠ deviceId then 2
    else if leNat ((t.drop 0x18).take 32) ≠ s.sec.nonce.toNat then 3
    else if leNat ((t.drop 0x38).take 8) ≤ s.count then 4
    else if nbits w 1 0 = 0 ∨ nbits w 1 0 = 3 ∨ nbits w 31 16 ≠ 0 then 5
    else 0

/-- DBG_CMD.APPLY (R401). -/
def State.applyToken (s : State) : State :=
  let st := s.tokenStatus
  let s := { s with sec := { s.sec with tokStat := st } }
  let s := if st = 0 then
      let t := (s.token).getD []
      let w := leNat ((t.drop 4).take 4)
      ({ s with sec := { s.sec with level := nbits w 1 0, pmask := BitVec.ofNat 8 (nbits w 15 8),
                                    expiry := leNat ((t.drop 0x38).take 8) } }).irq Pg.dbg 16
    else s
  s.newNonce

/-- A write of DBG_CMD: REVOKE, then APPLY. -/
def State.dbgCmd (s : State) (v : W32) : State :=
  let s := if bit v 1 then s.dropGrant else s
  if bit v 0 then s.applyToken else s

/-- DEBUG_EXPIRY: the count has reached EXPIRY (R401). -/
def State.doDebugExpiry (s : State) : State :=
  if s.sec.level ≠ 0 ∧ s.sec.expiry ≤ s.count then s.dropGrant.irq Pg.dbg 17 else s

/-- The address a debug access names (Table 16.12). -/
def State.dbgAddr (s : State) : Nat :=
  (s.reg Pg.dbg Reg.dbgAaddrLo).toNat + 2 ^ 32 * s.rf Pg.dbg Reg.dbgAaddrHi 11 0

/-- A core is HALTED (R39). -/
def State.coreHalted (s : State) (c : Nat) : Bool :=
  s.isOn (Pg.cor c) && (s.page (Pg.cor c)).halt && (s.core c).run.isNone

/-- Why a debug access is refused: DBG_ASTAT; 0 where it is not (R403, R404, Table 16.6). -/
def State.dbgStatus (s : State) : Nat :=
  let kind := s.rf Pg.dbg Reg.dbgAaddrHi 31 28
  let a := s.dbgAddr
  if s.sec.level < 2 then 1
  else if 3 ≤ s.pwr.state ∨ (s.pwr.state = 2 ∧ (kind = 1 ∨ a < 0x2000000000)) then 4
  else if kind = 0 then
    if a % 4 ≠ 0 ∨ !(a + 4 ≤ s.dataEnd ∨ (cxlBase ≤ a ∧ a + 4 ≤ cxlEnd)) then 5
    else
      let held := (List.range 8).filter fun q =>
        (!s.parOff q || (s.partSec q).dirty) && (s.inGdr q a 4 || s.inCxl q a 4)
      if held.any (fun q => !bit s.sec.pmask q) then 1
      else if held.any (fun q => s.confRange q || (s.inCxl q a 4 && (s.partSec q).kc.isSome)) then 2
      else 0
  else if kind = 1 then
    let c := s.rf Pg.dbg Reg.dbgAaddrHi 21 16
    if a % 4 ≠ 0 ∨ 6 * 2 ^ 20 ≤ a then 5
    else
      match s.ownerOf (Pg.cor c) with
      | some p =>
        if !bit s.sec.pmask p.val then 1
        else if s.parConf p.val && !s.parOff p.val then 2
        else if s.coreHalted c then 0 else 3
      | none => if s.coreHalted c then 0 else 3
  else 5

/-- A debug access is refused: it reads 0. -/
def State.dbgRefuse (s : State) (st : Nat) : W32 × State :=
  (0, (({ s with sec := { s.sec with accStat := st } }).bump Pg.dbg Reg.dbgCntRefused).irq Pg.dbg 18)

/-- A scratchpad word of a halted core: as written since its last task, else open (R177; log 2, DESIGN CHOICE). -/
def State.spadRead (s : State) (c a : Nat) : W32 × State :=
  let x := s.core c
  match x.spad.get none a with
  | some w => (w, s)
  | none =>
    let (v, s) := s.free
    let w : W32 := v.truncate 32
    (w, s.setCore c { s.core c with spad := x.spad.set none a (some w) })

/-- One access of the debug window (R403): a read, or a write of a word. -/
def State.dbgAccess (s : State) (wr : Option W32) : W32 × State :=
  let st := s.dbgStatus
  if st ≠ 0 then s.dbgRefuse st
  else
    let s := { s with sec := { s.sec with accStat := 0 } }
    let a := s.dbgAddr
    let c := s.rf Pg.dbg Reg.dbgAaddrHi 21 16
    match decide (s.rf Pg.dbg Reg.dbgAaddrHi 31 28 = 0), wr with
    | true, none =>
      (match s.readStored a 4 with
        | (some bs, s) => (w32 (leNat bs), s)
        | (none, s) => (0, s))
    | true, some v =>
      if cxlBase ≤ a ∨ s.touchesFrame a 4 then (s.msgWprot ((s.partAt a 4).getD 0)).dbgRefuse 5
      else (0, (s.writeStored a (toLE 4 v.toNat)).2)
    | false, none => s.spadRead c a
    | false, some v =>
      let x := s.core c
      (0, s.setCore c { x with spad := x.spad.set none a (some v) })

end Sys2Proof.Machine
end

