-- ==== Sys2Proof/Machine/Pages.lean ====
section
/-! DEFINITION. The block state machine: PG_CTRL, start and stop sequences, page soft reset and captures (R34 to
R39, R185, R238, R334, R387). -/
namespace Sys2Proof.Machine

/-! Starting -/

/-- The engine that a port page runs on (Table 14.1). -/
def engineOf (pg : Nat) : Option Nat :=
  match blkOf pg with
  | .trp => some (instOf pg)
  | .spn => some 8
  | .cxl => some (9 + instOf pg)
  | .ctp => some 11
  | _ => none

/-- The link of a port page is UP. -/
def State.pageLinkUp (s : State) (pg : Nat) : Bool :=
  match blkOf pg with
  | .trp => s.torusUp (instOf pg)
  | .spn => (s.spine (instOf pg)).up
  | .cxl => (s.cxlPort (instOf pg)).up
  | .ctp => decide ((s.ctlPort (instOf pg)).link = .up)
  | _ => true

/-- The bound of a start sequence, in ticks (R38, R238, R334). -/
def startBound : Blk → Nat
  | .gmc => 3000000000
  | .ope => 200000000
  | .trp => 2000000000
  | .cxl => 2000000000
  | .spn => 2000000000
  | .ctp => 500000000
  | _ => 1000000

/-- The self-test code of a block's chapter (R37). -/
def selfTestCode : Blk → Option Nat
  | .drv => some 0x13 | .cnv => some 0x13 | .cor => some 0x13 | .gmc => some 0x13 | .cxl => some 0x13
  | .rte => some 0x13 | .trp => some 0x13 | .spn => some 0x13 | .rmo => some 0x13 | .gwy => some 0x13
  | .tol => some 0x13 | .col => some 0x13 | .ope => some 0x13 | .ctp => some 0x13 | .ckp => some 0x13
  | _ => none

/-- The self-test code a page records; open where its chapter gives none (log 2, DESIGN CHOICE). -/
def State.testCode (s : State) (pg : Nat) : Nat × State :=
  match selfTestCode (blkOf pg) with
  | some c => (c, s)
  | none => s.freeBits 8

/-- The laser input lies below the low alarm threshold, or above the high one (R330). -/
def State.laserLowAt (s : State) (n : Nat) : Bool :=
  decide ((s.engine n).power < signed 16 (s.rf (Pg.ope n) Reg.opeLthLo 31 16))
def State.laserHighAt (s : State) (n : Nat) : Bool :=
  decide (signed 16 (s.rf (Pg.ope n) Reg.opeLthHi 31 16) < (s.engine n).power)

/-- The bad columns of an array, each once, in ascending order. -/
def badOf (r : TestResult) (a : Nat) : List Nat :=
  (List.range 128).filter (fun k => r.badCols.any (fun x => decide (x.1.val = a ∧ x.2.toNat = k)))

/-- A core's self-test passes: nothing fails outside the columns, and no array has three failed columns (R185). -/
def corePasses (r : TestResult) : Bool := r.passed && (List.range 4).all (fun a => decide ((badOf r a).length ≤ 2))

/-- Write the column bypass map and COR_BIST after a self-test (R185). -/
def State.coreTest (s : State) (c : Nat) (r : TestResult) : State :=
  let pg := Pg.cor c
  let ok := corePasses r
  let fails := (List.range 4).filter (fun a => !(badOf r a).isEmpty)
  let runs := min 255 (s.rf pg Reg.corBist 15 8 + 1)
  let s := s.setReg pg Reg.corBist (w32 (at_ 16 ok.toNat + at_ 8 runs + (fails.map (2 ^ ·)).sum))
  if !ok then s
  else
    let s := (List.range 4).foldl
      (fun s a =>
        let b := badOf r a
        let v := match b with
          | [] => 0
          | [x] => at_ 7 1 + x
          | x :: y :: _ => at_ 15 1 + at_ 8 y + at_ 7 1 + x
        (s.setReg pg (Reg.corColmap a) (w32 v)).setRf pg Reg.corWidth (8 * a + 7) (8 * a) (128 - b.length)) s
    if fails.isEmpty then s else s.irq pg 18

/-- What a page's start sequence takes up as it begins. -/
def State.startHook (s : State) (pg : Nat) : State :=
  let n := instOf pg
  match blkOf pg with
  | .gmc => if s.gmcAllOff then s.takeHalves else s
  | .trp => if s.torusUp n then s else s.setTorus n { s.torus n with link := .training }
  | .ctp =>
    s.setCtlPort n { s.ctlPort n with link := .training, expect := none, firsts := [], asm := [], asmLen := 0, hbAt := s.now,
                                      nodeAt := s.now, lastFlit := s.now, silent := false }
  | _ => s

/-- A page begins its start sequence. -/
def State.beginStart (s : State) (pg : Nat) : State :=
  let s := s.startHook pg
  (s.setPage pg { s.page pg with en := true }).enter pg .starting

/-- A start that the rules refuse with STATE: cores, Drover units and controllers in A2 and A3 (R415), a controller
with no half in use (R425), and a CXL port without IDE_EN under a Confidential CXL range (R387). -/
def State.startRefused (s : State) (pg : Nat) : Bool :=
  match blkOf pg with
  | .cor => decide (2 ≤ s.pwr.state)
  | .drv => decide (2 ≤ s.pwr.state)
  | .gmc => decide (2 ≤ s.pwr.state) ||
      decide (fld (if s.gmcAllOff then s.halvesLeft else s.tier.inUse) (2 * instOf pg + 1) (2 * instOf pg) = 0)
  | .cxl => !s.rb pg Reg.cxlCtrl 0 &&
      (List.range 8).any (fun p => !s.parOff p && s.parConf p && decide (s.cxlLo p < s.cxlHi p))
  | _ => false

/-- What a page does on entry to ON; in start-up step 4 the boot ROM starts the control ports once OPE11 is ON
(R422). -/
def State.onHook (s : State) (pg : Nat) : State :=
  match blkOf pg with
  | .par => s.parEnter (instOf pg)
  | .ope =>
    let s := s.setEngine (instOf pg) { s.engine (instOf pg) with lit := true, lowRun := 0 }
    if pg = Pg.ope 11 ∧ s.pwr.dev = .boot then
      (List.range 4).foldl (fun s n => if (s.page (Pg.ctp n)).st = .off then s.beginStart (Pg.ctp n) else s) s
    else s
  | .ldg => s.ldgTake
  | _ => s

/-- The start sequence is complete: ON, or STOPPING where EN is 0 (Table 2.10). -/
def State.startDone (s : State) (pg : Nat) : State :=
  if (s.page pg).en then (s.onHook pg).enter pg .on else s.enter pg .stopping

/-- START_SEQUENCE_COMPLETE: the outcome of a page's start sequence. -/
def State.doStartComplete (s : State) (pg : Nat) (r : TestResult) : State :=
  if (s.page pg).st ≠ .starting ∨ !hasSM pg then s
  else
    let n := instOf pg
    match blkOf pg with
    | .par =>
      (match s.parStartCode n with
        | some c => s.startFault pg c
        | none => s.startDone pg)
    | .cor =>
      let s := s.coreTest n r
      if corePasses r then s.startDone pg else s.startFault pg 0x13
    | .gmc =>
      if !r.trained then s.startFault pg 0x10
      else if !r.passed then s.startFault pg 0x13
      else (s.gmcZero n).startDone pg
    | .ope =>
      if s.laserLowAt n then s.startFault pg 0x10
      else if !r.passed then s.startFault pg 0x13
      else s.startDone pg
    | .ldg =>
      if !r.passed then let (c, s) := s.testCode pg; s.startFault pg c
      else if s.ldgStartOk then s.startDone pg
      else s.startFault pg 0x13
    | _ =>
      match engineOf pg with
      | some e =>
        if !s.isOn (Pg.ope e) ∨ !r.trained then s.startFault pg 0x10
        else if !r.passed then s.startFault pg 0x13
        else if s.pageLinkUp pg then s.startDone pg
        else s
      | none =>
        if r.passed then s.startDone pg
        else let (c, s) := s.testCode pg; s.startFault pg c

/-- START_TIMEOUT (R38, R334). -/
def State.doStartTimeout (s : State) (pg : Nat) : State :=
  let b := blkOf pg
  if (s.page pg).st ≠ .starting ∨ s.now < (s.page pg).since + startBound b then s
  else
    let code :=
      if b = .gmc then 0x10
      else if b = .ope then (if s.laserLowAt (instOf pg) then 0x10 else 0x01)
      else if (engineOf pg).isSome ∧ !s.pageLinkUp pg then 0x10
      else 0x01
    s.startFault pg code

/-! Stopping -/

/-- The work a page had accepted is done, so that its stop sequence can complete. -/
def State.stopReady (s : State) (pg : Nat) : Bool :=
  match blkOf pg with
  | .cor => (s.core (instOf pg)).run.isNone
  | _ => true

/-- What a page gives up as its stop sequence completes. -/
def State.stopHook (s : State) (pg : Nat) : State :=
  let n := instOf pg
  match blkOf pg with
  | .par => s.parLeave n
  | .trp =>
    let fs := s.unsent n (s.torus n).retry
    let s := (((s.flushRx n).emptyPort n).reinject n fs true).checkDrain
    s.setTorus n { s.torus n with link := .down }
  | .spn => s.setSpine n { s.spine n with up := false }
  | .cxl => s.setCxlPort n { s.cxlPort n with up := false, ide := false }
  | .ctp => s.setCtlPort n { s.ctlPort n with link := .down, asm := [], asmLen := 0, arrived := [] }
  | .ope => s.setEngine n { s.engine n with lit := false, swaps := [] }
  | .tol => s.tolClear
  | .col => s.collClear
  | _ => s

/-- STOP_SEQUENCE_COMPLETE (Table 2.10). -/
def State.doStopComplete (s : State) (pg : Nat) : State :=
  if (s.page pg).st ≠ .stopping ∨ !s.stopReady pg then s
  else
    let s := s.stopHook pg
    if (s.page pg).reen then s.beginStart pg else s.enter pg .off

/-- The partition whose work keeps a page from stopping: a core's task, else the partition that owns the page, or
the lowest that shares it, with an active live graph (R38). -/
def State.stopPartOf (s : State) (pg : Nat) : Option Nat :=
  match blkOf pg with
  | .cor => (s.core (instOf pg)).run.map (·.part)
  | _ => (List.range 8).find? (fun p => s.owns p pg && (s.schPart p).live.isSome)

/-- STOP_TIMEOUT (R38): FAULT with code 0x02. What a core had in progress goes by R189, as the page leaves ON;
where no chapter says more, the partition's live graph fails. -/
def State.doStopTimeout (s : State) (pg : Nat) : State :=
  if (s.page pg).st ≠ .stopping ∨ s.now < (s.page pg).since + 1000000 then s
  else
    let p := s.stopPartOf pg
    let s := (s.errorOpen pg Cls.task (p.getD 0) 0x02).enter pg .fault
    if blkOf pg = .cor then s
    else
      match p with
      | some p => s.failLive p
      | none => s

/-! PG_CTRL (R35 to R39) -/

/-- What a page soft reset clears beside the registers (Table 2.9). -/
def State.srstHook (s : State) (pg : Nat) : State :=
  let n := instOf pg
  match blkOf pg with
  | .cor => s.setCore n CoreSt.init
  | .drv => { s with drv := vset s.drv n DrvUnit.init }
  | .cnv => (s.cnvDiscard n).setCnv n CnvEng.init
  | .lnt => (List.range 8).foldl (fun s p => s.clearSlots p) s
  | .tol => s.tolClear
  | .col => s.collClear
  | .ckp => s.ckpClear
  | .rmo => { s with rmo := { s.rmo with engs := Vector.replicate 16 RmoEng.init } }
  | .tir => { s with tier := { s.tier with migs := Vector.replicate 8 Mig.init } }
  | .gmc => s.setGmc n { s.gmc n with retrain := false, edcAt := [] }
  | .trp => (s.emptyPort n).setTorus n Torus.init
  | .spn => s.setSpine n ⟨false, []⟩
  | .cxl => s.setCxlPort n ⟨false, false, 0⟩
  | .ctp => s.setCtlPort n CtlPort.init
  | .ope =>
    let e := s.engine n
    s.setEngine n { e with lanes := Vector.replicate 9 .dark, lowRun := 0, lit := false, swaps := [] }
  | .dbg => { s with sec := { s.sec with trWr := 0 } }
  | _ => s

/-- The SRST column of Table 2.9, and the entry to OFF. -/
def State.softReset (s : State) (pg : Nat) : State :=
  let x := s.page pg
  let s := (s.srstHook pg).resetRegs pg
  let s := s.setPage pg { x with en := false, halt := false, reen := false, irq := 0, err := 0, errCnt := 0,
                                 snapSeq := 0, snapValid := false, snapTake := false }
  s.enter pg .off

/-- The self-test of a quarantined page fails: it stays, and PG_ERR records the failure (R37). -/
def State.testFails (s : State) (pg : Nat) : State :=
  let (c, s) := s.testCode pg
  s.errorOpen pg Cls.start 0 c

/-- A write of SRST (R35, R37), from the management port or not. -/
def State.srstWrite (s : State) (pg : Nat) (mgmt : Bool) (r : TestResult) : Nat × State :=
  match (s.page pg).st with
  | .off => (St.ok, s.softReset pg)
  | .fault => (St.ok, s.softReset pg)
  | .quarantined =>
    if !mgmt then (St.denied, s)
    else
      let n := instOf pg
      match blkOf pg with
      | .cor =>
        if corePasses r then (St.ok, (s.softReset pg).coreTest n r)
        else (St.ok, (s.coreTest n r).testFails pg)
      | .ope =>
        if r.passed ∧ !s.laserLowAt n ∧ !s.laserHighAt n then (St.ok, s.softReset pg) else (St.ok, s.testFails pg)
      | _ => if r.passed then (St.ok, s.softReset pg) else (St.ok, s.testFails pg)
  | _ => (St.state, s)

/-- A write of EN = 1. -/
def State.enWrite (s : State) (pg : Nat) : Nat × State :=
  let x := s.page pg
  match x.st with
  | .off => if s.startRefused pg then (St.state, s) else (St.ok, s.beginStart pg)
  | .stopping => (St.ok, s.setPage pg { x with en := true, reen := true })
  | .fault => (St.state, s)
  | .quarantined => (St.state, s)
  | _ => (St.ok, s.setPage pg { x with en := true })

/-- A write of EN = 0. -/
def State.disWrite (s : State) (pg : Nat) : Nat × State :=
  let x := s.page pg
  match x.st with
  | .on =>
    if blkOf pg = .par ∧ !(s.partSec (instOf pg)).quiet then (St.state, s)
    else (St.ok, (s.setPage pg { x with en := false }).enter pg .stopping)
  | .stopping => (St.ok, s.setPage pg { x with en := false, reen := false })
  | _ => (St.ok, s.setPage pg { x with en := false })

/-- The HALT bit of a write that is accepted (R39). A Convoy engine combines what waited as HALT is cleared. -/
def State.haltWrite (s : State) (pg : Nat) (h : Bool) : State :=
  if !hasHalt (blkOf pg) then s
  else
    let was := (s.page pg).halt
    let s := s.setPage pg { s.page pg with halt := h }
    if blkOf pg = .cnv ∧ was ∧ !h ∧ s.isOn pg then s.cnvResume (instOf pg) else s

/-- A write of PG_CTRL. -/
def State.ctrlWrite (s : State) (pg : Nat) (mgmt : Bool) (v : W32) (r : TestResult) : Nat × State :=
  if !hasSM pg then (St.ok, s.haltWrite pg (bit v 2))
  else if bit v 1 then s.srstWrite pg mgmt r
  else
    match if bit v 0 then s.enWrite pg else s.disWrite pg with
    | (0, s) => (St.ok, s.haltWrite pg (bit v 2))
    | (st, s) => (st, s)

/-- HALTED: HALT is in effect and no unit of work is in progress (R39): a core's task, or a Drover unit's token,
whose records its Convoy engine has not all accepted (R91). -/
def State.pageHalted (s : State) (pg : Nat) : Bool :=
  s.isOn pg && (s.page pg).halt &&
    match blkOf pg with
    | .cor => (s.core (instOf pg)).run.isNone
    | .drv => (vget s.cnv (instOf pg)).fifo.isEmpty
    | _ => true

/-! Captures (R34) -/

/-- A write of PG_SNAP.TAKE. -/
def State.snapWrite (s : State) (pg : Nat) (v : W32) : State :=
  if bit v 0 then s.setPage pg { s.page pg with snapTake := true } else s

/-- The offsets of the snapshotted counters of a page. -/
def dimOffsets : List (Nat × Nat) → List Nat
  | [] => [0]
  | (st, n) :: ds => (List.range n).flatMap (fun i => (dimOffsets ds).map (· + st * i))

def snapOffsets (pg : Nat) : List Nat :=
  ((blockRegs (blkOf pg)).filter (·.snap)).flatMap (fun r => (dimOffsets r.dims).map (· + r.off))

/-- SNAPSHOT_COMPLETE: every snapshotted counter is copied at one edge. -/
def State.doSnapComplete (s : State) (pg : Nat) : State :=
  let x := s.page pg
  if !x.snapTake then s
  else
    let s := (snapOffsets pg).foldl
      (fun s off => { s with snaps := s.snaps.set 0 (regKey pg off) (s.reg pg off) }) s
    s.setPage pg { x with snapTake := false, snapValid := true, snapSeq := x.snapSeq + 1 }

end Sys2Proof.Machine
end

