-- ==== Sys2Proof/Machine/Power.lean ====
section
/-! DEFINITION. Supply, clocks, throttling, power states, resets, the power-fail warning and start-up (R407 to
R426). -/
namespace Sys2Proof.Machine

/-- The state with the power block replaced. -/
def State.setPwr (s : State) (f : Power → Power) : State := { s with pwr := f s.pwr }

/-! Resets (R418, R419) -/

/-- The locked bits of CLK_LOCK that start-up step 1 and step 3 bring (Table 17.6). -/
def pllEarly : BitVec 32 := 0x190
def pllLate : BitVec 32 := 0x06F

/-- An engine as a device reset leaves it: what its inputs show stays. -/
def Engine.afterReset (e : Engine) : Engine :=
  { Engine.init with power := e.power, flags := e.flags, temp := e.temp, rxPower := e.rxPower }

/-- A device reset (R418): every page at its reset values, every key, session and grant gone, the Waystone FREE
at count 0; memory, the service-bus registers and what the sensors show stay, and groups that are on stay on. -/
def State.deviceReset (s : State) (step : Nat) (held : Bool) : State :=
  { State.reset with
    pending := s.pending, outbox := s.outbox, now := s.now, fresh := s.fresh, mem := s.mem, poison := s.poison,
    svc := s.svc, eng := s.eng.map Engine.afterReset,
    pwr := { Power.init with
      supply := s.pwr.supply, groupE := s.pwr.groupE, groupW := s.pwr.groupW, groupF := s.pwr.groupF,
      inReset := held, step := step, therm := s.pwr.therm, tshut := s.pwr.tshut, pfwIn := s.pwr.pfwIn,
      tEast := s.pwr.tEast, tWest := s.pwr.tWest, tFabric := s.pwr.tFabric, p10 := s.pwr.p10, p1 := s.pwr.p1,
      amps := s.pwr.amps, pll := s.pwr.pll &&& pllEarly } }

/-- The device in Off: every group off, and nothing kept but what the CXL tier's masters hold. -/
def State.toOff (s : State) (mv : Nat) : State :=
  { State.reset with
    pending := s.pending, outbox := s.outbox, now := s.now, fresh := s.fresh,
    mem := SMap.dropRange s.mem 0 cxlBase, eng := s.eng.map Engine.afterReset,
    pwr := { Power.init with supply := mv, powered := false, step := 0, pfwIn := s.pwr.pfwIn, tEast := s.pwr.tEast,
                             tWest := s.pwr.tWest, tFabric := s.pwr.tFabric } }

/-- The highest die temperature is below the alarm. -/
def State.diesCool (s : State) : Bool :=
  let a : Int := (s.rf Pg.pwr Reg.pwrTherm 15 8 : Nat)
  decide (s.pwr.tEast < a ∧ s.pwr.tWest < a ∧ s.pwr.tFabric < a)

/-- RST_N_ASSERT: RST_N is recognised low; the device is held in reset, over PFW_N, the power states and thermal
shutdown. The step in progress is then 2, whose end is the release of RST_N; step 1 stays where it is. -/
def State.doRstAssert (s : State) : State :=
  if !s.pwr.powered then s
  else s.deviceReset (if s.pwr.dev = .boot ∧ s.pwr.step = 1 then 1 else 2) true

/-- RST_N_RELEASE: start-up resumes at step 3; a thermal shutdown is left only once every die is below the alarm. -/
def State.doRstRelease (s : State) : State :=
  if !s.pwr.powered ∨ !s.pwr.inReset then s
  else
    let s := s.setPwr (fun x => { x with inReset := false })
    if s.pwr.step = 1 ∨ (s.pwr.tshut ∧ !s.diesCool) then s
    else
      s.setPwr (fun x => { x with step := 3, tshut := false, therm := x.therm && !x.tshut, groupE := true,
                                  groupW := true, groupF := true, pll := x.pll ||| pllEarly })

/-- POWER_ON: the supply reaches 50 V from Off, and start-up begins at step 1. -/
def State.doPowerOn (s : State) (mv : Nat) : State :=
  if s.pwr.powered ∨ mv < 50000 then s
  else { s.toOff mv with pwr := { (s.toOff mv).pwr with powered := true, step := 1 } }

/-! Power-fail warning (R409, R420, R421) -/

/-- PFW_N is recognised, or the input is under voltage: work stops, the current page of each STORE is written
back, and GDDR7 goes into self-refresh. -/
def State.pfwNow (s : State) : State :=
  let s := (s.irq Pg.pwr 21).bump Pg.pwr Reg.pwrCntPfw
  let s := s.alert 3
  if s.pwr.pfw then s
  else
    let s := (List.range 8).foldl (fun s p => s.stopRuns p) s
    let s := (List.range 8).foldl
      (fun s p => ((s.mig p).running.filter (fun r => decide (r.op = 3))).foldl (fun s r => s.doStorePage p r.entry) s) s
    let s := (List.range 8).foldl (fun s p => s.setMig p { s.mig p with running := [], halted := true }) s
    s.setPwr (fun x => { x with pfw := true, dev := .stopped })

/-- PFW. -/
def State.doPfw (s : State) : State := s.pfwNow.setPwr (fun x => { x with pfwIn := true })

/-- UNDERVOLT: input below 48.0 V for 10,000 ticks (R409). -/
def State.doUndervolt (s : State) (mv : Nat) : State :=
  let s := s.setPwr (fun x => { x with supply := mv })
  if 48000 ≤ mv then s
  else
    let s := ((s.irq Pg.pwr 22).bump Pg.pwr Reg.pwrCntUv).alert 2
    (s.errorOpen Pg.pwr Cls.device 0 0x11).pfwNow

/-- SUPPLY_FAIL: input below 45.0 V or above 62.0 V for 1,000 ticks (R409). -/
def State.doSupplyFail (s : State) (mv : Nat) : State :=
  if mv < 45000 ∨ 62000 < mv then s.toOff mv else s.setPwr (fun x => { x with supply := mv })

/-! Clocks (R410) -/

/-- The domain of a PLL is in use: the PLL is locked, and its die is powered. -/
def State.pllUsed (s : State) (b : Nat) : Bool :=
  bit s.pwr.pll b &&
    (if b = 0 ∨ b = 2 ∨ b = 5 then s.pwr.groupE else if b = 1 ∨ b = 3 ∨ b = 6 then s.pwr.groupW else true)

/-- PLL_UNLOCK: a PLL in use loses lock. -/
def State.doPllUnlock (s : State) (b : Nat) : State :=
  if !s.pllUsed b then s
  else
    let s := s.setPwr (fun x => { x with pll := setBit x.pll b false })
    ((s.bump Pg.clk Reg.clkCntUnlock).irq Pg.clk 16).error Pg.clk Cls.device 0 0x10 b

/-! Throttling and limits (R411, R412) -/

/-- PWR_LIMIT, THR and K_MIN as they act (Tables 17.5, 17.6). -/
def State.pwrLimit (s : State) : Nat := max 600 (min 1800 (s.rf Pg.pwr Reg.pwrLimit 11 0))
def State.thrTemp (s : State) : Nat := max 70 (min 95 (s.rf Pg.pwr Reg.pwrTherm 7 0))
def State.kMin (s : State) : Nat := max 8 (min 16 (s.rf Pg.clk Reg.clkCore 20 16))

/-- k of a die after one run of the loop of R411, and when it was last lowered. -/
def State.throttleStep (s : State) (k last : Nat) (tj : Int) (p10 : Nat) : Nat × Nat :=
  if (s.thrTemp : Int) ≤ tj ∨ s.pwrLimit < p10 then (max (k - 1) s.kMin, s.now)
  else if tj ≤ (s.thrTemp : Int) - (s.rf Pg.pwr Reg.pwrTherm 23 16 : Nat) ∧ p10 + 50 ≤ s.pwrLimit ∧
      last + 1000000 ≤ s.now then
    (min (k + 1) 16, last)
  else (k, last)

/-- THROTTLE: the loop runs for one compute die; a die without power does not run it. -/
def State.doThrottle (s : State) (die : Nat) (tj : Int) (p10 : Nat) : State :=
  let east := die = 0
  let k := if east then s.pwr.kEast else s.pwr.kWest
  if !(if east then s.pwr.groupE else s.pwr.groupW) then s
  else
    let r := s.throttleStep k (if east then s.pwr.downEast else s.pwr.downWest) tj p10
    let s := s.setPwr (fun x =>
      if east then { x with kEast := r.1, downEast := r.2, tEast := tj, p10 := p10 }
      else { x with kWest := r.1, downWest := r.2, tWest := tj, p10 := p10 })
    let s := if r.1 ≠ k then s.bump Pg.clk Reg.clkCntStep else s
    if k = 16 ∧ r.1 ≠ 16 then s.irq Pg.pwr 19 else s

/-- PEAK_LIMIT: the 100 µs power exceeds 2,100 W. -/
def State.doPeak (s : State) (watts : Nat) : State :=
  if watts ≤ 2100 ∨ s.pwr.fast then s
  else ((s.setPwr (fun x => { x with fast := true })).bump Pg.pwr Reg.pwrCntPeak).irq Pg.pwr 23

/-- PEAK_LIMIT_RELEASE: it falls below 1,950 W. -/
def State.doPeakRelease (s : State) (watts : Nat) : State :=
  if watts < 1950 then s.setPwr (fun x => { x with fast := false }) else s

/-! Temperatures (R413) -/

/-- THERM_N after a sample. -/
def State.thermPin (s : State) : State :=
  let a : Int := (s.rf Pg.pwr Reg.pwrTherm 15 8 : Nat)
  let t := [s.pwr.tEast, s.pwr.tWest, s.pwr.tFabric]
  if t.any (fun x => decide (a ≤ x)) then
    if s.pwr.therm then s else ((s.setPwr (fun x => { x with therm := true })).irq Pg.pwr 20).alert 0
  else if t.all (fun x => decide (x ≤ a - 5)) then s.setPwr (fun x => { x with therm := false })
  else s

/-- A compute die at 105 °C: its group is turned off, with code 0x10. -/
def State.dieTrip (s : State) (east : Bool) : State :=
  let on := if east then s.pwr.groupE else s.pwr.groupW
  let t := if east then s.pwr.tEast else s.pwr.tWest
  if on ∧ 105 ≤ t then
    (s.setPwr (fun x => if east then { x with groupE := false } else { x with groupW := false })).errorOpen
      Pg.pwr Cls.device 0 0x10
  else s

/-- The fabric die at 105 °C: thermal shutdown. -/
def State.shutdown (s : State) : State :=
  if s.pwr.tFabric < 105 then s
  else
    let s := s.deviceReset 0 false
    (s.setPwr (fun x => { x with tshut := true, therm := true, groupE := false, groupW := false, groupF := false,
                                 pll := 0 })).alert 1

/-- TEMP_SAMPLE: the hottest sensor of each die. In a thermal shutdown THERM_N stays asserted. -/
def State.doTempSample (s : State) (east west fabric : Int) : State :=
  let s := s.setPwr (fun x => { x with tEast := east, tWest := west, tFabric := fabric })
  if s.pwr.tshut then s else (((s.thermPin).dieTrip true).dieTrip false).shutdown

/-! Power states (R414 to R417) -/

/-- No graph is active. -/
def State.noGraph (s : State) : Bool := (List.range 8).all (fun p => !s.partActive p)

/-- Every page of a kind of block is OFF. -/
def State.blkOff (s : State) (b : Blk) : Bool :=
  allPages.all (fun g => decide (blkOf g ≠ b) || decide ((s.page g).st = .off))

/-- No migration, remote memory or checkpoint entry is outstanding. -/
def State.nothingOut (s : State) : Bool :=
  (List.range 8).all (fun p => (s.mig p).running.isEmpty && (s.ckpt p).snap.isNone && (s.ckpt p).restore.isNone)
    && (List.range 16).all (fun e => (s.rmoEng e).runs.isEmpty && (s.rmoEng e).held.isNone &&
      (s.rmoEng e).slots.all (fun kv => kv.2.isNone))

/-- The entry conditions of a power state (Table 17.2). -/
def State.mayEnter (s : State) (t : Nat) : Bool :=
  (decide (t < 1) || s.noGraph)
    && (decide (t < 2) || (s.blkOff .cor && s.blkOff .drv && s.strNums.all (fun n => decide (s.strState n = Str.free))
      && decide (s.launchPend = 0) && s.nothingOut))
    && (decide (t < 3) || (s.blkOff .trp && s.blkOff .spn && s.blkOff .cxl &&
      (List.range 8).all (fun p => s.parOff p || !s.parConf p)))

/-- A write of PWR_CMD with GO (R415). -/
def State.stateRequest (s : State) (t : Nat) : Nat × State :=
  if s.pwr.pending ∨ s.pwr.pfw ∨ !s.mayEnter t then
    (St.state, (s.bump Pg.pwr Reg.pwrCntRefused).irq Pg.pwr 18)
  else (St.ok, s.setPwr (fun x => { x with pending := true, target := t }))

/-- A write of PWR_CMD: a reset with its key, applied once the response is sent, or a state request. -/
def State.pwrCmd (s : State) (v : W32) : Nat × State :=
  let s := if bit v 31 ∧ fld v 23 16 = 0x5A then s.setPwr (fun x => { x with rstReq := true }) else s
  if bit v 8 then s.stateRequest (fld v 1 0) else (St.ok, s)

/-- A page of a compute die loses its header and, but for a controller, its registers: the die has no power
(R417). PG_OWNER is the security block's. -/
def State.dieDark (s : State) (pg : Nat) : State :=
  let x := s.page pg
  let s := if blkOf pg = .gmc then s else s.resetRegs pg
  s.setPage pg { Page.init true with st := x.st, en := x.en, owner := x.owner }

/-- Entry to A2 or A3 from A0. -/
def State.enterSleep (s : State) (t : Nat) : State :=
  let s := (allPages.filter (fun g => onComputeDie (blkOf g))).foldl (fun s g => s.dieDark g) s
  let s := s.setPwr (fun x => { x with groupE := false, groupW := false, pll := x.pll &&& ~~~pllLate })
  if t < 3 then s
  else
    let s := (List.range 4).foldl (fun s n => s.setCtlPort n { s.ctlPort n with session := none }) s
    let s := (List.range 8).foldl (fun s p => s.setPartSec p { s.partSec p with kc := none, bundle := none }) s
    (List.range 11).foldl (fun s n => s.setEngine n { s.engine n with lit := false }) s.dropGrant

/-- Exit from A2 or A3 to A0: the dies are powered, controllers resume, engines are lit again. -/
def State.exitSleep (s : State) : State :=
  let s := s.setPwr (fun x => { x with groupE := true, groupW := true, pll := x.pll ||| pllLate })
  (List.range 11).foldl (fun s n => if s.isOn (Pg.ope n) then s.setEngine n { s.engine n with lit := true } else s) s

/-- STATE_DONE: a transition reaches its target, through A0 where neither end is A0 (R415). -/
def State.doStateDone (s : State) : State :=
  if !s.pwr.pending ∨ s.pwr.pfw then s
  else
    let t := s.pwr.target
    let s := if 2 ≤ s.pwr.state ∧ s.pwr.state ≠ t then s.exitSleep else s
    let s := if 2 ≤ t ∧ s.pwr.state ≠ t then s.enterSleep t else s
    (s.setPwr (fun x => { x with state := t, pending := false })).irq Pg.pwr 17

/-- A1_WAKE: PWR_WAKE ticks before the earliest launch entry the device leaves A1 (R416). -/
def State.doA1Wake (s : State) : State :=
  if s.launchNext ≤ s.count + (s.reg Pg.pwr Reg.pwrWake).toNat ∧ s.launchPend ≠ 0 then s.leaveA1 else s

/-! Start-up (R422, R423) -/

/-- The pages of PWR_BOOT.LINKS. -/
def State.bootLinks (s : State) : List Nat :=
  (bitsSet 12 (s.rf Pg.pwr Reg.pwrBoot 11 0)).map
    (fun i => if i < 8 then Pg.trp i else if i < 10 then Pg.spn (i - 8) else Pg.cxl (i - 10))

/-- The boot ROM starts a page that is OFF. -/
def State.bootStart (s : State) (pg : Nat) : State :=
  if (s.page pg).st = .off ∧ !s.startRefused pg then s.beginStart pg else s

/-- No page of a list is still starting. -/
def State.started (s : State) (l : List Nat) : Bool := l.all (fun g => decide ((s.page g).st ≠ .starting))

/-- A page's self-test in step 6: a block that fails enters FAULT with its self-test code. -/
def State.bootTest (s : State) (pg : Nat) (r : TestResult) : State :=
  let s := if blkOf pg = .cor then s.coreTest (instOf pg) r else s
  if (if blkOf pg = .cor then corePasses r else r.passed) then s
  else
    let (c, s) := s.testCode pg
    (s.errorOpen pg Cls.start 0 c).enter pg .fault

/-- Step 6: every page with the block state machine runs its self-test and stays OFF, but for the control ports
and OPE11; a page that the list does not name passes. -/
def State.bootTests (s : State) (tests : List PageTest) : State :=
  (allPages.filter (fun g => hasSM g && decide ((s.page g).st = .off))).foldl
    (fun s g =>
      match tests.find? (fun t => decide (t.page.toNat = g)) with
      | some t => s.bootTest g t.res
      | none => s.bootTest g ⟨true, true, []⟩) s

/-- Step 7 begins: the controllers start. -/
def State.beginStep7 (s : State) : State :=
  (List.range 32).foldl (fun s n => s.bootStart (Pg.gmc n))
    (s.setPwr (fun x => { x with step := 7, dev := .training }))

/-- The image goes from its staging to the firmware and tables region (step 7). -/
def State.copyImage (s : State) : State :=
  let s := (s.storeBlocks s.usableEnd (s.staged 0 (512 + s.stagedLen))).2
  { s with sec := { s.sec with stage := [] } }

/-- STARTUP_STEP: the step in hand completes, where what it waits for holds, and the next begins (Table 17.4). -/
def State.doStartupStep (s : State) (tests : List PageTest) : State :=
  let goTo := fun (s : State) (k : Nat) (d : DevState) => s.setPwr (fun x => { x with step := k, dev := d })
  if s.pwr.pfw ∨ s.pwr.dev = .stopped then s
  else
    match s.pwr.step with
    | 1 => goTo (s.setPwr (fun x => { x with groupE := true, groupW := true, groupF := true, pll := x.pll ||| pllEarly })) 2 .boot
    | 2 => if s.pwr.inReset then s else goTo s 3 .boot
    | 3 =>
      if s.pwr.inReset then s
      else
        let s := { s with sec := { s.sec with identity := true } }
        (goTo (s.setPwr (fun x => { x with pll := x.pll ||| pllLate })) 4 .boot).newNonce.bootStart (Pg.ope 11)
    | 4 => if s.isOn (Pg.ope 11) ∧ (List.range 4).any (fun n => s.ctlUp n) then goTo s 5 .fwload else s
    | 5 => if s.sec.mgmt.isSome then goTo s 6 .selftest else s
    | 6 =>
      let s := if s.pwr.tested then s else (s.bootTests tests).setPwr (fun x => { x with tested := true })
      if s.pwr.bootGo then s.beginStep7 else s
    | 7 =>
      if s.started ((List.range 32).map Pg.gmc) then
        (((List.range 11).map Pg.ope ++ s.bootLinks).foldl (fun s g => s.bootStart g) (goTo s.copyImage 8 .training))
      else s
    | 8 => if s.started ((List.range 11).map Pg.ope ++ s.bootLinks) then goTo s 9 .training else s
    | 9 =>
      if s.way.mode = .locked ∨ s.rb Pg.pwr Reg.pwrBoot 16 ∨
          s.pwr.firstMarker.any (fun t => decide (t + 2000000000 ≤ s.now)) then goTo s 10 .training
      else s
    | 10 => ((goTo s 0 .ready).irq Pg.pwr 16).alert 4
    | _ => s

/-- A write of PWR_BOOT (R423): GO releases step 7. -/
def State.bootWrite (s : State) (v : W32) : State :=
  let s := s.setReg Pg.pwr Reg.pwrBoot (v &&& 0x10FFF)
  if !bit v 31 then s
  else
    let s := s.setPwr (fun x => { x with bootGo := true })
    if s.pwr.step = 6 ∧ s.pwr.tested ∧ !s.pwr.pfw then s.beginStep7 else s

/-- CTP_START_RETRY: during step 4, until one control port is UP, a page whose start faulted starts again every
1,000,000,000 ticks. -/
def State.doCtpRetry (s : State) (n : Nat) : State :=
  let x := s.page (Pg.ctp n)
  if s.pwr.step = 4 ∧ x.st = .fault ∧ !(List.range 4).any (fun n => s.ctlUp n) ∧ x.since + 1000000000 ≤ s.now ∧ !s.pwr.pfw then
    (s.softReset (Pg.ctp n)).beginStart (Pg.ctp n)
  else s

end Sys2Proof.Machine
end

