-- ==== Sys2Proof/Machine/Waystone.lean ====
section
/-! DEFINITION. The Waystone (R15, R40 to R49): the count, the rack reference, the servo, and the timing
exchanges with the torus neighbours. -/
namespace Sys2Proof.Machine

/-- The count with its fraction, in 2^-40 tick. -/
def State.wstVal (s : State) : Nat := s.way.count * 2 ^ 40 + s.way.frac

/-- The count with its fraction replaced. -/
def State.setWst (s : State) (v : Nat) : State :=
  { s with way := { s.way with count := v / 2 ^ 40 % 2 ^ 64, frac := v % 2 ^ 40 } }

/-- A stamp in 1/256 tick (R42, R44). -/
def State.stamp (s : State) : Nat := s.wstVal / 2 ^ 32

/-- A count with its fraction after one edge: 64 + 40 bits, which wrap. -/
def edgeOf (inc c : Nat) : Nat := (c + inc) % 2 ^ 104

/-- One Waystone edge: each count grows by 1 + ADJ · 2^-40 ticks (R40; log 26, DEDUCED for the copies). -/
def State.wstEdge (s : State) : State :=
  let inc := ((2 ^ 40 : Nat) + s.way.adj : Int).toNat
  let s := s.setWst (s.wstVal + inc)
  { s with now := s.now + 1, way := { s.way with copies := s.way.copies.map (edgeOf inc) } }

/-- A clamp to ±219,902,325, which is ±200 ppm (R40). -/
def clampAdj (v : Int) : Int := if v < -219902325 then -219902325 else if 219902325 < v then 219902325 else v

/-! Neighbours (R44, R45) -/

def State.nbr (s : State) (n : Nat) : NbrTime := vget s.way.ports n
def State.setNbr (s : State) (n : Nat) (x : NbrTime) : State :=
  { s with way := { s.way with ports := vset s.way.ports n x } }

/-- The mean of a list, truncated toward zero; 0 of none. -/
def meanOf (l : List Int) : Int := if l.isEmpty then 0 else l.sum.tdiv (l.length : Int)

/-- WST_POFFp: the neighbour offset over the last ten exchanges. -/
def NbrTime.off (x : NbrTime) : Int := meanOf (x.samples.map (·.2))
/-- WST_PDLYp. -/
def NbrTime.dly (x : NbrTime) : Int := meanOf (x.samples.map (·.1))

/-- 50 ns in 1/256 tick. -/
def outlier (v : Int) : Bool := decide (50 * 256 < v ∨ v < -(50 * 256))

/-- The ports in use under R45. -/
def State.nbrUse (s : State) : List Nat :=
  (List.range 8).filter fun n =>
    let x := s.nbr n
    s.torusUp n && decide (x.mode = 2) && !x.excluded && !outlier x.off && !x.samples.isEmpty

/-- The neighbour mean. -/
def State.nbrMean (s : State) : Int := meanOf (s.nbrUse.map (fun n => (s.nbr n).off))

/-! Modes (R41) -/

/-- The Waystone enters a mode. -/
def State.wstEnter (s : State) (m : WstMode) : State :=
  if s.way.mode = m then s
  else
    let s := { s with way := { s.way with mode := m, lockRun := 0 } }
    match m with
    | .locked => s.irq Pg.wst 16
    | .holdover =>
      ({ s with way := { s.way with holdSince := s.now, lastServo := s.now } }.bump Pg.wst Reg.wstCntHold).irq Pg.wst 17
    | .free => { s with way := { s.way with adj := 0, adjI := 0 } }
    | .acquire => s

/-- A write of REF_EN = 0 (R41). -/
def State.refOff (s : State) : State :=
  match s.way.mode with
  | .acquire => s.wstEnter .free
  | .locked => s.wstEnter .holdover
  | _ => s

/-! The servo (R46) -/

/-- A number divided by 2^k, toward minus infinity. -/
def asr (v : Int) (k : Nat) : Int := v / ((2 ^ k : Nat) : Int)

/-- ADJ_I and ADJ from an error e. -/
def State.servoStep (s : State) (e : Int) : State :=
  let i := clampAdj (s.way.adjI - asr (e * 4295) (s.rf Pg.wst Reg.wstGain 11 8))
  let a := clampAdj (i - asr (e * 4295) (s.rf Pg.wst Reg.wstGain 3 0))
  { s with way := { s.way with adjI := i, adj := a } }

/-- One run of the servo for an offset. -/
def State.servo (s : State) (off : Int) : State :=
  let w : Int := (min (s.rf Pg.wst Reg.wstCtrl 3 0) 12 : Nat)
  let locked := s.nbrUse.length
  match s.way.mode with
  | .locked =>
    if 1 ≤ locked then s.servoStep (((16 - w) * off - w * s.nbrMean).tdiv 16) else s.servoStep off
  | .holdover =>
    if s.rb Pg.wst Reg.wstCtrl 4 ∧ 2 ≤ locked then s.servoStep (-s.nbrMean)
    else { s with way := { s.way with adj := s.way.adjI } }
  | _ => s.servoStep off

/-- HOLDOVER_SERVO: the run every 1,000,000 ticks of HOLDOVER. -/
def State.doHoldoverServo (s : State) : State :=
  if s.way.mode = .holdover ∧ s.way.lastServo + 1000000 ≤ s.now then
    let s := { s with way := { s.way with lastServo := s.now } }
    s.servo 0
  else s

/-- REF_LOSS_TIMEOUT: 3,000,000 ticks without an accepted marker (R41, R43). -/
def State.doRefLoss (s : State) : State :=
  match s.way.lastAccept with
  | none => s
  | some t =>
    if t + 3000000 ≤ s.now then
      let s := { s with way := { s.way with lockRun := 0 } }
      match s.way.mode with
      | .acquire => s.wstEnter .free
      | .locked => s.wstEnter .holdover
      | _ => s
    else s

/-! Markers (R42, R43, R47, R49, R342) -/

/-- The launch table holds no entry. -/
def State.noLaunch (s : State) : Bool := s.sch.slots.isEmpty

/-- The offset of a marker M in 1/256 tick. -/
def State.markOff (s : State) (m : Nat) : Int :=
  (s.stamp : Int) - ((s.reg Pg.wst Reg.wstRefDly).toNat : Int) - ((m * 256 : Nat) : Int)

/-- An accepted marker with its mode before it: FAR_OFFSET, the lock run and the servo. -/
def State.markAccepted (s : State) (m : Nat) (off : Int) (acquiring : Bool) : State :=
  let far := !acquiring && decide (1000000 * 256 < off ∨ off < -(1000000 * 256))
  let s := if far then s.irq Pg.wst 19 else s
  let (s, off) : State × Int :=
    if far ∧ s.rb Pg.wst Reg.wstCtrl 5 ∧ !s.anyStream ∧ s.noLaunch then
      let s := s.setWst (((s.wstVal : Int) - off * 2 ^ 32).toNat)
      let s := (s.bump Pg.wst Reg.wstCntStep).irq Pg.wst 20
      (s, s.markOff m)
    else (s, off)
  let s := { s with way := { s.way with lastAccept := some s.now, off := off } }
  let s := { s with pwr := { s.pwr with firstMarker := some (s.pwr.firstMarker.getD s.now) } }
  let s : State :=
    if acquiring ∨ !(s.way.mode = .acquire ∨ s.way.mode = .holdover) then s
    else
      let th : Int := (s.rf Pg.wst Reg.wstLock 7 0 * 256 : Nat)
      let run := if -th ≤ off ∧ off ≤ th then s.way.lockRun + 1 else 0
      let s := { s with way := { s.way with lockRun := run } }
      if run ≠ 0 ∧ s.rf Pg.wst Reg.wstLock 15 8 ≤ run then s.wstEnter .locked else s
  if s.way.mode = .holdover then s else s.servo off

/-- A MARKER that reached the Waystone (R42, R43). -/
def State.marker (s : State) (m : Nat) : State :=
  if !s.rb Pg.wst Reg.wstCtrl 6 then s
  else
    let off := s.markOff m
    let early : Bool := match s.way.lastAccept with | some t => decide (s.now < t + 999000) | none => false
    let win : Int := (s.rf Pg.wst Reg.wstLock 31 16 * 256 : Nat)
    if early ∨ (s.way.mode = .locked ∧ (win < off ∨ off < -win)) then
      let s := (s.bump Pg.wst Reg.wstCntRef).irq Pg.wst 18
      if s.way.mode = .locked then s.wstEnter .holdover else s
    else if s.way.mode = .free then
      let s := s.wstEnter .acquire
      let s := s.setWst ((m + divEven (s.reg Pg.wst Reg.wstRefDly).toNat 256) * 2 ^ 40)
      s.markAccepted m (s.markOff m) true
    else s.markAccepted m off false

/-- MARKER_ACCEPT: a marker on the rack reference lane of engine 11 (R342). -/
def State.doMarker (s : State) (m : W64) (src : W16) (crcOk : Bool) : State :=
  let pg := Pg.ope 11
  if !s.isOn pg then s
  else if crcOk then
    let s := (s.setReg pg Reg.opeRefsrc (setFld (s.reg pg Reg.opeRefsrc) 15 0 src.toNat)).bump pg Reg.opeCntMarker
    s.marker m.toNat
  else s.bump pg Reg.opeCntMkerr

/-! Timing exchanges (R44, R331) -/

/-- TIMING_EXCHANGE: a trained torus port sends a request every 100,000 ticks. -/
def State.doTimingExchange (s : State) (n : Nat) : State :=
  let x := s.nbr n
  let due : Bool := match x.lastAt with | some t => decide (t + 100000 ≤ s.now) | none => true
  if s.torusUp n ∧ due then
    let s := s.setNbr n { x with t1 := some (s.stamp % 2 ^ 64, x.xnum), xnum := x.xnum + 1, lastAt := some s.now }
    s.send (.ctlUnit n (.timingReq x.xnum))
  else s

/-- The MODE of a TIMING unit. -/
def modeCode : WstMode → Nat
  | .free => 0 | .acquire => 1 | .locked => 2 | .holdover => 3

/-- TIMING_REQUEST: the reply carries both stamps and this device's mode. -/
def State.doTimingRequest (s : State) (n : Nat) (xnum : W16) : State :=
  if s.torusUp n then
    let t := BitVec.ofNat 64 s.stamp
    s.send (.ctlUnit n (.timingReply (BitVec.ofNat 3 (modeCode s.way.mode)) t t xnum))
  else s

/-- TIMING_REPLY: the delay and the neighbour offset of the port (R44), and its exclusion (R45). -/
def State.doTimingReply (s : State) (n : Nat) (mode : BitVec 3) (t2 t3 : W64) (xnum : W16) : State :=
  let x := s.nbr n
  match x.t1 with
  | none => s
  | some (t1, k) =>
    if k ≠ xnum ∨ !s.torusUp n then s
    else
      let t1 := BitVec.ofNat 64 t1
      let t4 := BitVec.ofNat 64 s.stamp
      let dly := ((t4 - t1) - (t3 - t2)).toInt.tdiv 2
      let off := ((t2 - t1) - (t4 - t3)).toInt.tdiv 2 - signed 32 (s.reg Pg.wst (Reg.wstPasym n)).toNat
      let y := { x with t1 := none, mode := mode.toNat, samples := (x.samples ++ [(dly, off)]).drop (x.samples.length - 9) }
      if x.excluded then
        let run := if outlier off then 0 else x.okRun + 1
        s.setNbr n { y with okRun := run, excluded := decide (run < 10) }
      else if outlier y.off then (s.setNbr n { y with excluded := true, okRun := 0 }).irq Pg.wst 21
      else s.setNbr n y

/-- WAYSTONE_COPY_CORRECT: the copy of a compute die takes the master's value (R15). -/
def State.doCopyCorrect (s : State) (die : Nat) : State :=
  { s with way := { s.way with copies := vset s.way.copies die s.wstVal } }

end Sys2Proof.Machine
end

