-- ==== Sys2Proof/Machine/RegRead.lean ====
section
/-! DEFINITION. What each register reads: the common header (R30 to R34), and the registers that show hardware
state, block by block from the register tables. -/
namespace Sys2Proof.Machine

/-- The index of an offset in count registers a stride apart. -/
def regIndex (base stride count off : Nat) : Option Nat :=
  if base ≤ off ∧ (off - base) % stride = 0 ∧ (off - base) / stride < count then some ((off - base) / stride) else none

/-- The index of an offset in count blocks of stride bytes. -/
def blkIndex (base stride count off : Nat) : Option Nat :=
  if base ≤ off ∧ (off - base) / stride < count then some ((off - base) / stride) else none

/-! The common header (Tables 2.4 to 2.8) -/

/-- PG_CAP.BLOCK_CAP, at its place in the register, as the chapters of DRV, CNV, COR, GMC, RTE and OPE give it. -/
def State.blockCap (s : State) (pg : Nat) : Nat :=
  let n := instOf pg
  match blkOf pg with
  | .drv => at_ 16 1 + at_ 17 1 + at_ 18 (n / 4)
  | .cnv => at_ 16 1
  | .cor => at_ 16 (dieOf n)
  | .gmc => at_ 16 (n / 16) + at_ 17 (s.gmcHalves n)
  | .rte => at_ 16 1 + at_ 17 1
  | .ope => at_ 16 (if n = 8 then 0 else if n = 11 then 4 else 1)
  | _ => 0

/-- The code of a block state (Table 2.5). -/
def pgCode : PgState → Nat
  | .off => 0 | .starting => 1 | .on => 2 | .stopping => 3 | .fault => 4 | .quarantined => 5

/-- A register of the common header. -/
def State.headerReg (s : State) (pg off : Nat) : W32 :=
  let x := s.page pg
  match off with
  | 0x000 => w32 (at_ 24 ((pg - instOf pg) % 256) + at_ 16 (instOf pg) + at_ 8 1)
  | 0x004 => w32 (s.blockCap pg + at_ 8 (snapLen (blkOf pg)) + at_ 3 (hasHalt (blkOf pg)).toNat
      + at_ 2 (hasQuar pg).toNat + at_ 1 (decide (ownerKind pg ≠ .device)).toNat + (hasSM pg).toNat)
  | 0x008 => w32 (at_ 2 x.halt.toNat + x.en.toNat)
  | 0x00C => w32 (at_ 8 (s.pageHalted pg).toNat + at_ 4 x.reen.toNat + pgCode x.st)
  | 0x010 => x.irq
  | 0x014 => x.irqEn
  | 0x018 => x.err
  | 0x01C => x.errCnt
  | 0x020 => x.owner.zeroExtend 32
  | 0x024 => x.lock.zeroExtend 32
  | 0x028 => w32 (at_ 8 x.snapSeq.toNat + at_ 1 x.snapValid.toNat + x.snapTake.toNat)
  | _ => 0

/-! Registers that show hardware state -/

/-- A word of a 384-bit measurement. -/
def measWord (m : BitVec 384) (k : Nat) : W32 := w32 (fld m (32 * k + 31) (32 * k))

def State.devReg (s : State) (off : Nat) : Option W32 :=
  if off = Reg.devStat then
    some (w32 (at_ 8 s.pwr.state + at_ 5 s.sec.level + at_ 4 s.sec.developer.toNat + devCode s.pwr.dev))
  else match regIndex (Reg.devDevid 0) 4 4 off with
    | some n => some (w32 (leNat ((deviceId.drop (4 * n)).take 4)))
    | none =>
      (blkIndex (Reg.devLotd 0 0) 0x10 3 off).map fun d =>
        let k := (off - Reg.devLotd d 0) / 4
        if k < 3 then Config.dieLot d k else Config.diePos d

def State.pwrReg (s : State) (off : Nat) : Option W32 :=
  let x := s.pwr
  if off = Reg.pwrStat then
    some (w32 (at_ 16 x.step + at_ 8 (devCode x.dev) + at_ 6 x.pfwIn.toNat + at_ 5 x.pfw.toNat + at_ 4 x.pending.toNat
      + x.state))
  else if off = Reg.pwrVin then some s.vinWord
  else if off = Reg.pwrPower then some s.powerWord
  else if off = Reg.pwrTemp then some s.tempWord
  else none

def State.clkReg (s : State) (off : Nat) : Option W32 :=
  if off = Reg.clkLock then some s.pwr.pll
  else if off = Reg.clkCore then
    some (w32 (at_ 16 (s.rf Pg.clk Reg.clkCore 20 16) + at_ 8 s.pwr.kWest + s.pwr.kEast))
  else none

def State.wstReg (s : State) (off : Nat) : Option W32 :=
  let x := s.way
  if off = Reg.wstNowLo then some (w32 s.count)
  else if off = Reg.wstNowHi then some (w32 (s.count / 2 ^ 32))
  else if off = Reg.wstStat then
    let hold := if x.mode = .holdover then min 65535 ((s.now - x.holdSince) / 1000000000) else 0
    let ref := x.lastAccept.any (fun t => decide (s.now < t + 3000000))
    some (w32 (at_ 16 hold + at_ 8 s.nbrUse.length + at_ 4 ref.toNat + modeCode x.mode))
  else if off = Reg.wstOffset then some (BitVec.ofInt 32 x.off)
  else if off = Reg.wstAdj then some (BitVec.ofInt 32 x.adj)
  else if off = Reg.wstNbr then
    let m := fun (f : NbrTime → Bool) => ((List.range 8).filter (fun n => f (s.nbr n))).foldl (fun a n => a + 2 ^ n) 0
    some (w32 (at_ 8 (m (·.excluded)) + m (fun y => decide (y.mode = 2))))
  else match regIndex (Reg.wstPdly 0) 4 8 off, regIndex (Reg.wstPoff 0) 4 8 off with
    | some n, _ => some (BitVec.ofInt 32 (s.nbr n).dly)
    | none, some n => some (BitVec.ofInt 32 (s.nbr n).off)
    | none, none => none

def State.secReg (s : State) (off : Nat) : Option W32 :=
  let x := s.sec
  let m := fun (n : Nat) (f : Nat → Bool) => ((List.range n).filter f).foldl (fun a i => a + 2 ^ i) 0
  if off = Reg.secStat then
    some (w32 (at_ 24 (m 8 (fun p => (s.partSec p).kc.isSome)) + at_ 16 (m 8 (fun p => (s.partSec p).kg.isSome))
      + at_ 8 (m 4 (fun n => (s.ctlPort n).session.isSome)) + x.developer.toNat))
  else if off = Reg.secMgmt then some (w32 ((x.mgmt.map (·.val)).getD 0))
  else if off = Reg.secBstat then some (w32 (at_ 31 x.opening.isSome.toNat + x.bStat))
  else match regIndex (Reg.secFwmeas 0) 4 12 off, regIndex (Reg.secMgtmeas 0) 4 12 off with
    | some k, _ => some (measWord x.fwMeas k)
    | none, some k => some (measWord x.mgtMeas k)
    | none, none => none

def State.mgtReg (s : State) (off : Nat) : Option W32 :=
  if off = Reg.mgtStat then
    some (w32 (at_ 16 (s.sec.mgtGen % 2 ^ 16) +
      (match s.sec.mgtState with | .running => 0 | .staged => 1 | .switching => 2 | .verifyFail => 3)))
  else if off = Reg.mgtPause then some (w32 s.sec.pause)
  else none

def State.dbgReg (s : State) (off : Nat) : Option W32 :=
  let x := s.sec
  if off = Reg.dbgGrant then some (w32 (at_ 8 x.pmask.toNat + x.level))
  else if off = Reg.dbgExpLo then some (w32 x.expiry)
  else if off = Reg.dbgExpHi then some (w32 (x.expiry / 2 ^ 32))
  else if off = Reg.dbgTstat then some (w32 x.tokStat)
  else if off = Reg.dbgTwr then some (w32 x.trWr)
  else if off = Reg.dbgAstat then some (w32 x.accStat)
  else (regIndex (Reg.dbgNonce 0) 4 8 off).map fun k => w32 (fld x.nonce (32 * k + 31) (32 * k))

def State.fltReg (s : State) (port off : Nat) : Option W32 :=
  let e := fld (s.portReg port Pg.flt Reg.fltSsel) 5 0
  if off = Reg.fltSent0 then some (s.suspectWord e 0)
  else if off = Reg.fltSent1 then some (s.suspectWord e 1)
  else (regIndex (Reg.fltAggMap 0) 4 16 off).map fun k =>
    w32 (fld (s.aggMap (s.rf Pg.flt Reg.fltAsel 6 0)) (32 * k + 31) (32 * k))

/-- The LINK code of TRP_STAT and CTP_STAT. -/
def linkCode : Link → Nat
  | .down => 0 | .training => 1 | .up => 2 | .lost => 3

def State.ctpReg (s : State) (n off : Nat) : Option W32 :=
  let c := s.ctlPort n
  if off = Reg.ctpStat then
    some (w32 (at_ 16 c.nodeBuf + at_ 4 ((s.laneOf 11 n).getD 0xF)
      + at_ 3 (decide (s.sec.mgmt.map (·.val) = some n)).toNat + linkCode c.link))
  else if off = Reg.ctpMseq then some (c.expect.getD 0)
  else none

/-- One bit for each partition that meets a condition. -/
def partBits (f : Nat → Bool) : Nat := ((List.range 8).filter f).foldl (fun a p => a + 2 ^ p) 0

def State.schReg (s : State) (off : Nat) : Option W32 :=
  if off = Reg.schStat then
    some (w32 (at_ 16 (partBits (fun p => (s.schPart p).deferred.isSome)) + at_ 8 (partBits (fun p => (s.schPart p).bg.isSome))
      + partBits (fun p => (s.schPart p).live.isSome || (s.schPart p).voting.isSome)))
  else if off = Reg.schPrst then
    some (w32 (at_ 16 ((List.range 8).any (fun p => (s.schPart p).resetting)).toNat + s.rf Pg.sch Reg.schPrst 2 0))
  else match blkIndex (Reg.schCtxp 0 0) 0x80 8 off with
    | some p =>
      let w := off % 0x80 / 4
      let g := if w < 16 then (s.schPart p).live else (s.schPart p).bg
      some (w32 ((g.map (fun g => s.ctxWord g (decide (16 ≤ w)) (w % 16))).getD 0))
    | none =>
      (blkIndex (Reg.schGtabpLo 0) 0x20 8 off).bind fun p =>
        let l := (s.schPart p).last
        if off = Reg.schLastpStep p then some l.step
        else if off = Reg.schLastpDoneLo p then some (w32 l.done)
        else if off = Reg.schLastpDoneHi p then some (w32 (l.done / 2 ^ 32))
        else if off = Reg.schLastpStat p then some (w32 (at_ 16 l.task + l.status))
        else none

def State.lntReg (s : State) (port off : Nat) : Option W32 :=
  if off = Reg.lntWstat then some (s.portReg port Pg.lnt Reg.lntWstat)
  else if off = Reg.lntPend then some (w32 s.launchPend)
  else if off = Reg.lntNextLo then some (w32 s.launchNext)
  else if off = Reg.lntNextHi then some (w32 (s.launchNext / 2 ^ 32))
  else (regIndex (Reg.lntE 0) 4 4 off).map fun k =>
    w32 (fld (s.slotEntry (fld (s.portReg port Pg.lnt Reg.lntSel) 8 0)) (32 * k + 31) (32 * k))

def State.scbReg (s : State) (port off : Nat) : Option W32 :=
  if off = Reg.scbVal then some (w32 (s.sch.ctrs.get 0 (fld (s.portReg port Pg.scb Reg.scbSel) 14 0)))
  else (regIndex (Reg.scbRangep 0) 4 8 off).map fun p =>
    if s.parOff p then 0 else w32 (at_ 16 (s.rf (Pg.par p) Reg.parScb 31 16) + s.rf (Pg.par p) Reg.parScb 14 0)

def State.strReg (s : State) (port off : Nat) : Option W32 :=
  if off = Reg.strActive then some (w32 ((s.strNums.filter (fun n => decide (s.strState n ≠ Str.free))).length))
  else match regIndex (Reg.strEvheadp 0) 8 8 off with
    | some p =>
      let ovf := at_ 30 (bit s.str.evOvf p).toNat
      (match vget s.str.evq p with
        | [] => some (w32 ovf)
        | (code, n) :: _ => some (w32 (at_ 31 1 + ovf + at_ 16 code + n)))
    | none => (regIndex (Reg.strDwin 0) 4 32 off).map fun w => s.sw (fld (s.portReg port Pg.str Reg.strDsel) 12 0) w

def State.rplReg (s : State) (off : Nat) : Option W32 :=
  if off = Reg.rplStat then some (w32 ((s.strNums.filter (fun n => decide (s.strState n = Str.replay))).length)) else none

def State.parReg (s : State) (p off : Nat) : Option W32 :=
  let x := s.partSec p
  if off = Reg.parStat then
    some (w32 (at_ 16 x.scrubbed + at_ 4 x.scrubbing.toNat + at_ 3 x.kc.isSome.toNat + at_ 2 x.kg.isSome.toNat
      + at_ 1 x.dirty.toNat + x.quiet.toNat))
  else none

def State.corReg (s : State) (c off : Nat) : Option W32 :=
  let x := s.core c
  if off = Reg.corStat then
    some (w32 (at_ 31 x.run.isSome.toNat + at_ 16 x.lastTask + at_ 8 x.lastOp + x.lastPart))
  else none

/-- The code of a bank's state. -/
def bankCode : BankSt → Nat
  | .empty => 0 | .loading => 1 | .ready => 2 | .active => 3

def State.drvReg (s : State) (port n off : Nat) : Option W32 :=
  let u := s.drvUnit n
  let lane := fun l => vget u.lanes l
  if off = Reg.drvStat then
    let busy := ((List.range 4).filter (fun l => (lane l).core.isSome)).foldl (fun a l => a + 2 ^ l) 0
    some (w32 (at_ 12 busy + at_ 8 (s.drvHeld n).toNat + at_ 4 (bankCode (s.bank n 1).st) + at_ 2 (bankCode (s.bank n 0).st)))
  else if off = Reg.drvB0RecLo then some (w32 (s.bank n 0).addr)
  else if off = Reg.drvB0RecHi then some (w32 ((s.bank n 0).addr / 2 ^ 32))
  else if off = Reg.drvB1RecLo then some (w32 (s.bank n 1).addr)
  else if off = Reg.drvB1RecHi then some (w32 ((s.bank n 1).addr / 2 ^ 32))
  else if off = Reg.drvQval then
    let sel := s.portReg port (Pg.drv n) Reg.drvQsel
    match (lane (fld sel 15 14)).quota with
    | some q => some (w32 ((if bit sel 16 then q.repl else q.prim).get 0 (fld sel 13 0)))
    | none => some 0
  else match regIndex (Reg.drvLanenStep 0) 8 4 off, regIndex (Reg.drvLanenStat 0) 8 4 off with
    | some l, _ => some (((lane l).quota.map (·.step)).getD 0)
    | none, some l =>
      let x := lane l
      let q := (x.quota.map (fun q => at_ 30 1 + at_ 16 q.layer + min 0xFFFF q.tokens)).getD 0
      some (w32 ((x.core.map (fun c => at_ 31 1 + at_ 24 c)).getD 0 + q))
    | none, none => none

def State.cnvReg (s : State) (port n off : Nat) : Option W32 :=
  let e := s.cnvEng n
  let m := vget e.mans (fld (s.portReg port (Pg.cnv n) Reg.cnvMsel) 6 0)
  if off = Reg.cnvStat then
    some (w32 (at_ 24 (s.cnvHold n).toNat + at_ 16 (((List.range 128).filter (fun i => (vget e.mans i).isSome)).length)
      + e.comb.length))
  else if off = Reg.cnvMstat then
    some ((m.map (fun (m : Man) => w32 (at_ 31 1 + at_ 30 m.sealedAt.isSome.toNat + at_ 29 m.ret.toNat
      + at_ 28 (decide (m.other ≠ 0)).toNat + at_ 16 (if m.ret then 0 else m.layer) + min 0xFFFF m.total))).getD 0)
  else if off = Reg.cnvMstep then some ((m.map (·.step)).getD 0)
  else none

/-- The code of a generation's state. -/
def genCode : GenSt → Nat
  | .opened => 1 | .complete => 2 | .broken => 3

def State.sriReg (s : State) (port off : Nat) : Option W32 :=
  let sel := s.portReg port Pg.sri Reg.sriQsel
  let q := s.queue (fld sel 11 0)
  let g := if bit sel 12 then q.nxt else q.cur
  let shown := fun (f : Gen → Nat) => some (w32 ((g.map f).getD 0))
  if off = Reg.sriStat then
    some (w32 (at_ 16 (((List.range 8).filter (fun i => (vget s.sri.ctxs i).isSome)).length)
      + (s.gensWhere (fun _ => true)).length))
  else if off = Reg.sriQstat then shown (fun g => at_ 8 g.layer + genCode g.st)
  else if off = Reg.sriQstep then shown (·.step.toNat)
  else if off = Reg.sriQcloses then shown (·.closes)
  else if off = Reg.sriQexpect then shown (·.expected)
  else if off = Reg.sriQrecv then shown (·.received)
  else (blkIndex (Reg.sriLplanpLo 0) 0x20 8 off).bind fun p =>
    let r := (s.schPart p).retired
    if off = Reg.sriRetirep p then some (r.getD 0)
    else if off = Reg.sriRstatp p then some (w32 r.isSome.toNat)
    else none

def State.ldgReg (s : State) (port off : Nat) : Option W32 :=
  if off = Reg.ldgFree0 then some (w32 (s.poolFree 0))
  else if off = Reg.ldgFree1 then some (w32 (s.poolFree 1))
  else if off = Reg.ldgFree2 then some (w32 (s.poolFree 2))
  else if off = Reg.ldgAresLo ∨ off = Reg.ldgAresHi ∨ off = Reg.ldgAstat then some (s.portReg port Pg.ldg off)
  else (blkIndex (Reg.ldgUsed 0 0 0) 0x40 8 off).map fun p =>
    let k := off % 0x40
    if k / 16 < 3 ∧ k % 16 / 4 < 3 then w32 (s.ldgUsed p (k / 16) (k % 16 / 4)) else 0

def State.gmcReg (s : State) (n off : Nat) : Option W32 :=
  let g := s.gmc n
  if off = Reg.gmcStat then
    some (w32 (at_ 24 g.temp + at_ 17 g.hot.toNat + at_ 16 g.retrain.toNat + s.gmcHalves n))
  else none

def State.cxlReg (s : State) (n off : Nat) : Option W32 :=
  let c := s.cxlPort n
  if off = Reg.cxlStat then some (w32 (at_ 8 (if c.up then 8 else 0) + at_ 1 c.ide.toNat + c.up.toNat))
  else if off = Reg.cxlIoStat then some (w32 c.ioStat)
  else none

def State.tirReg (s : State) (port off : Nat) : Option W32 :=
  if off = Reg.tirLayout then some (w32 (at_ 16 (s.usableEnd / 2 ^ 30) + s.halves))
  else if off = Reg.tirFstat then
    match s.frame (fld (s.portReg port Pg.tir Reg.tirFsel) 15 0) with
    | some f => some (w32 (at_ 30 (match f.st with | .filling => 1 | .resident => 2 | .draining => 3) + at_ 27 f.part + f.cpage))
    | none => some 0
  else (regIndex (Reg.tirMigpStat 0) 0x20 8 off).map fun p => w32 (at_ 31 (s.mig p).halted.toNat + (s.mig p).pos)

def State.rteReg (s : State) (port off : Nat) : Option W32 :=
  let sel := s.portReg port Pg.rte Reg.rteOsel
  if off = Reg.rteEpoch then
    some (w32 (at_ 16 (if s.rte.held then min 0xFFFF s.drain else 0) + at_ 2 s.rte.held.toNat + at_ 1 s.rte.armed.toNat
      + s.rte.active.toNat))
  else if off = Reg.rteTent then some (w32 (s.rte.tags.get 0 (fld (s.portReg port Pg.rte Reg.rteTsel) 11 0)))
  else match regIndex (Reg.rteOent 0) 4 4 off, regIndex (Reg.rteSdrain 0) 4 16 off, regIndex (Reg.rteFslot 0) 4 16 off with
    | some k, _, _ =>
      some (w32 (fld (s.rte.ovr.get 0 (fld sel 12 12 * 4096 + fld sel 11 0)) (32 * k + 31) (32 * k)))
    | none, some k, _ => some (w32 (min 0xFFFF (s.shapeHeld k)))
    | none, none, some k =>
      (match s.rte.faults[k]? with
        | some f => some (w32 (at_ 31 1 + at_ 12 f.reporters.length + f.fault))
        | none => some 0)
    | none, none, none => none

def State.trpReg (s : State) (n off : Nat) : Option W32 :=
  let t := s.torus n
  if off = Reg.trpStat then some (w32 (at_ 16 t.nbr.toNat + at_ 4 t.nbrPort + linkCode t.link))
  else if off = Reg.trpSeq then some (w32 (at_ 16 t.rxLast.toNat + t.txNext.toNat))
  else none

def State.spnReg (s : State) (n off : Nat) : Option W32 :=
  if off = Reg.spnStat then some (w32 (if (s.spine n).up then 3 else 0)) else none

def State.rmoReg (s : State) (port off : Nat) : Option W32 :=
  let sel := s.portReg port Pg.rmo Reg.rmoWsel
  let used := fun n => ((s.rmoEng n).slots.filter (fun kv => kv.2.isSome)).length
  if off = Reg.rmoStat then some (w32 (((List.range 16).filter (fun n => used n ≠ 0)).foldl (fun a n => a + 2 ^ n) 0))
  else match regIndex (Reg.rmoWent 0) 4 4 off, regIndex (Reg.rmoEngnStat 0) 0x20 16 off with
    | some k, _ => some (w32 (fld (s.window (fld sel 7 5) (fld sel 4 0)) (32 * k + 31) (32 * k)))
    | none, some n => some (w32 (at_ 31 (s.rmoEng n).halted.toNat + at_ 16 (used n) + (s.rmoEng n).pos))
    | none, none => none

def State.gwyReg (s : State) (off : Nat) : Option W32 :=
  if off = Reg.gwyStat then
    some (w32 (((List.range 16).map (fun n =>
      ((s.rmoEng n).slots.filter (fun kv => kv.2.any (·.gw))).length)).sum))
  else none

def State.tolReg (s : State) (off : Nat) : Option W32 :=
  if off = Reg.tolStat then some (w32 (((List.range 64).filter (fun i => (s.tolSlot i).isSome)).length))
  else (regIndex (Reg.tolGrpgTree 0) 8 16 off).map fun g => s.grpTree g

def State.colReg (s : State) (port off : Nat) : Option W32 :=
  let x := s.collCtx (fld (s.portReg port Pg.col Reg.colCsel) 3 0)
  if off = Reg.colStat then
    some (w32 (((List.range 16).filter (fun i => (s.collCtx i).any (·.inUse))).length))
  else if off = Reg.colCstat then
    some ((x.map (fun (x : CollCtx) =>
      let (ph, st) := s.collShown x
      w32 (at_ 31 x.inUse.toNat + at_ 30 x.failed.toNat + at_ 29 x.done.toNat + at_ 28 x.stalled.isSome.toNat
        + at_ 24 x.part + at_ 16 (cdOp x.desc) + at_ 12 ph + min 0xFFF st))).getD 0)
  else if off = Reg.colCstep then some ((x.map (·.step)).getD 0)
  else none

/-- The STATE code of OPE_LSTAT. -/
def laneCode : LaneState → Nat
  | .dark => 0 | .signal => 1 | .equalised => 2 | .fecLock => 3 | .aligned => 4 | .up => 5 | .failed => 6

def State.opeReg (s : State) (port n off : Nat) : Option W32 :=
  let e := s.engine n
  if off = Reg.opeStat then some (w32 (at_ 24 e.temp + (s.freeSpares n).length))
  else if off = Reg.opeLaser then some (w32 (at_ 16 e.flags.toNat + twos 16 e.power))
  else if off = Reg.opeLstat then
    let k := fld (s.portReg port (Pg.ope n) Reg.opeLsel) 3 0
    if 9 ≤ k then some 0
    else some (w32 (at_ 16 (twos 16 (vget e.rxPower k)) + at_ 4 ((s.logicalOf n k).getD 0xF) + laneCode (s.lane n k)))
  else none

def State.ckpReg (s : State) (off : Nat) : Option W32 :=
  (regIndex (Reg.ckpStatp 0) 0x40 8 off).map fun p => s.ckpStat p

/-- A register that shows hardware state, as a control port sees it; none for one that reads what it holds. -/
def State.shown (s : State) (port pg off : Nat) : Option W32 :=
  let n := instOf pg
  match blkOf pg with
  | .dev => s.devReg off | .pwr => s.pwrReg off | .clk => s.clkReg off | .wst => s.wstReg off | .sec => s.secReg off
  | .dbg => s.dbgReg off | .flt => s.fltReg port off | .mgt => s.mgtReg off | .ctp => s.ctpReg n off
  | .sch => s.schReg off | .lnt => s.lntReg port off | .scb => s.scbReg port off | .str => s.strReg port off
  | .rpl => s.rplReg off | .par => s.parReg n off | .cor => s.corReg n off | .drv => s.drvReg port n off
  | .cnv => s.cnvReg port n off | .sri => s.sriReg port off | .ldg => s.ldgReg port off | .gmc => s.gmcReg n off
  | .cxl => s.cxlReg n off | .tir => s.tirReg port off | .rte => s.rteReg port off | .trp => s.trpReg n off
  | .spn => s.spnReg n off | .tol => s.tolReg off | .col => s.colReg port off | .rmo => s.rmoReg port off
  | .gwy => s.gwyReg off | .ope => s.opeReg port n off | .ckp => s.ckpReg off

/-- The page is on a compute die that has no power (R417): its registers read their reset values. -/
def State.dark (s : State) (pg : Nat) : Bool :=
  decide (2 ≤ s.pwr.state) && (match blkOf pg with | .cor => true | .drv => true | .gmc => true | _ => false)

/-- What an aligned offset of a mapped page reads: the header; a reserved offset as 0 (R25); the capture of a
snapshotted counter (R34); a command register as 0; hardware state; a port's own copy; or what is held. -/
def State.regRead (s : State) (port pg off : Nat) : W32 :=
  if off < 0x100 then s.headerReg pg off
  else
    match regDef pg off with
    | none => 0
    | some r =>
      if s.dark pg then (if r.perPort then 0 else regReset pg off)
      else if r.snap then s.snapReg pg off
      else match s.shown port pg off with
        | some v => v
        | none => if r.perPort then s.portReg port pg off else s.reg pg off

end Sys2Proof.Machine
end

