-- ==== Sys2Proof/Machine/RegWrite.lean ====
section
/-! DEFINITION. Access to configuration space (R23 to R29, R34, R35): which port may reach which register, the
statuses of Table 2.1, 64-bit pairs, and what a write of each register does beside storing its value. -/
namespace Sys2Proof.Machine

/-! Who may reach a register (R28, and the chapters' own rules) -/

/-- The port is the management port. -/
def State.isMgmt (s : State) (port : Nat) : Bool := decide (s.sec.mgmt.map (·.val) = some port)

/-- The port is the owner port of partition p. -/
def State.ownsPart (s : State) (port p : Nat) : Bool := !s.parOff p && decide (s.parPort p = port)

/-- The port may read the page (R28). -/
def State.mayReach (s : State) (port pg : Nat) : Bool :=
  s.isMgmt port ||
    (decide (ownerKind pg ≠ .device) && (List.range 8).any (fun p => s.owns p pg && s.ownsPart port p))

/-- Some partition of the port holds a thing of the partition ranges. -/
def State.portHas (s : State) (port : Nat) (f : Nat → Bool) : Bool :=
  (List.range 8).any (fun p => s.ownsPart port p && f p)

/-- The stream the port's window shows lies in its range (R50). -/
def State.dselOwn (s : State) (port : Nat) : Bool :=
  s.portHas port (fun p => s.inStr p (fld (s.portReg port Pg.str Reg.strDsel) 12 0))

/-- The partition whose registers an offset of the STR page belongs to: its event queue and its binding table. -/
def strPartOf (off : Nat) : Option Nat :=
  match blkIndex (Reg.strEvheadp 0) 8 8 off with
  | some p => some p
  | none => blkIndex (Reg.strBindpLo 0) 0xC 8 off

/-- An owner port that reaches the page may read the register. -/
def State.mayReadReg (s : State) (port pg off : Nat) : Bool :=
  let own := fun (x : Option Nat) => x.all (fun p => s.ownsPart port p)
  match blkOf pg with
  | .str => own (strPartOf off) && (decide (off < Reg.strDwin 0) || s.dselOwn port)
  | .scb => decide (off ≠ Reg.scbVal) ||
      s.portHas port (fun p => s.inScb p (fld (s.portReg port Pg.scb Reg.scbSel) 14 0))
  | .sri => own (blkIndex (Reg.sriLplanpLo 0) 0x20 8 off)
  | .sch => own (blkIndex (Reg.schCtxp 0 0) 0x80 8 off) &&
      (decide (off % 0x20 < 0xC) || own (blkIndex (Reg.schGtabpLo 0) 0x20 8 off))
  | .rmo => (regIndex (Reg.rmoWent 0) 4 4 off).isNone ||
      s.ownsPart port (fld (s.portReg port Pg.rmo Reg.rmoWsel) 7 5)
  | .cxl => decide (off ≠ Reg.cxlIoData)
  | _ => true

/-- A register of a Shared page is partition-writable for the port (R28, and the chapters' words). -/
def State.mayWriteReg (s : State) (port pg off : Nat) (v : W32) : Bool :=
  let own := fun (x : Option Nat) => x.any (fun p => s.ownsPart port p)
  match blkOf pg with
  | .str =>
    if off = Reg.strCmd ∨ off = Reg.strDsel then s.portHas port (fun p => s.inStr p (fld v 12 0))
    else if Reg.strDwin 0 ≤ off then s.dselOwn port
    else own (strPartOf off)
  | .lnt =>
    if off = Reg.lntSel then s.ownsPart port (fld v 8 0 / 64)
    else (regIndex (Reg.lntE 0) 4 4 off).any
      (fun k => decide (k = 3) || s.ownsPart port (fld (s.portReg port Pg.lnt Reg.lntSel) 8 0 / 64))
  | .scb => decide (off = Reg.scbSel) && s.portHas port (fun p => s.inScb p (fld v 14 0))
  | .sri =>
    if off = Reg.sriQsel then s.portHas port (fun p => s.inSri p (fld v 11 0))
    else own (blkIndex (Reg.sriLplanpLo 0) 0x20 8 off)
  | .sch => own (blkIndex (Reg.schGtabpLo 0) 0x20 8 off) && decide (off % 0x20 < 0xC)
  | .ldg => decide (off = Reg.ldgAreq ∨ off = Reg.ldgFreeLo ∨ off = Reg.ldgFreeHi)
  | .tir => own (blkIndex (Reg.tirMigpLo 0) 0x20 8 off) && decide (off % 0x20 < 0xC)
  | .ckp => own (blkIndex (Reg.ckpRegpLo 0) 0x40 8 off) && decide (0x14 ≤ off % 0x40)
  | .rmo => (blkIndex (Reg.rmoEngn 0) 0x20 16 off).any fun n =>
      decide (off = Reg.rmoEngnListLo n ∨ off = Reg.rmoEngnListHi n ∨ off = Reg.rmoEngnCnt n) &&
        s.ownsPart port (s.rf Pg.rmo (Reg.rmoEngn n) 2 0)
  | .tol =>
    match blkIndex (Reg.tolGrpg 0) 8 16 off with
    | some g => decide (g ≠ 15) && s.ownsPart port (s.rf Pg.tol (Reg.tolGrpg g) 26 24)
    | none => own (blkIndex (Reg.tolTwinp 0) 0x10 8 off)
  | _ => false

/-- A layout field or command of a PAR page: the management port's alone (R387, R390). -/
def parPrivate (off : Nat) : Bool := decide (0x100 ≤ off)

/-- The port may read the register. -/
def State.mayRead (s : State) (port pg off : Nat) : Bool :=
  s.isMgmt port || (s.mayReach port pg && s.mayReadReg port pg off)

/-- The port may write the register: beside R28, the bundle registers of SEC from an owner port under a session
(R400), the management port's own CTP page (R29), and PG_OWNER (Table 2.8). -/
def State.mayWrite (s : State) (port pg off : Nat) (v : W32) : Bool :=
  if off = 0x020 then false
  else if s.isMgmt port then
    !(decide (pg = Pg.ctp port ∧ off = 0x008) && (!bit v 0 || bit v 1))
  else if pg = Pg.sec then
    decide (off = Reg.secBaddrLo ∨ off = Reg.secBaddrHi ∨ off = Reg.secBcmd) && (s.ctlPort port).session.isSome &&
      !(s.portParts port).isEmpty
  else s.mayReach port pg &&
    match ownerKind pg with
    | .single => !(decide (blkOf pg = .par) && parPrivate off)
    | .shared => s.mayWriteReg port pg off v
    | .device => false

/-! Locks (Table 2.8) -/

/-- A register with a field that is RW: what PG_LOCK.CFG freezes. The stream window is RW per Table 3.3. -/
def rwReg (pg off : Nat) : Bool :=
  (regDef pg off).any (fun r => decide (r.rw ≠ 0)) || (decide (blkOf pg = .str) && decide (Reg.strDwin 0 ≤ off) && (regDef pg off).isSome)

/-- The register is frozen by PG_LOCK. -/
def State.lockedReg (s : State) (pg off : Nat) : Bool :=
  let l := (s.page pg).lock
  if off = 0x008 then bit l 1 else if off = 0x014 then bit l 2 else decide (0x100 ≤ off) && bit l 0 && rwReg pg off

/-! 64-bit pairs (R27) -/

/-- The low registers of the 64-bit quantities of each block: first offset and strides. -/
def pairLows : Blk → List (Nat × List (Nat × Nat))
  | .wst => [(0x100, [])]
  | .str => [(0x180, [(0xC, 8)]), (0x210, []), (0x228, []), (0x240, []), (0x248, []), (0x258, [])]
  | .sch => [(0x200, [(0x20, 8)]), (0x210, [(0x20, 8)])]
  | .lnt => [(0x128, [])]
  | .drv => [(0x110, [(8, 2)])]
  | .sri => [(0x200, [(0x20, 8)]), (0x218, [(0x20, 8)])]
  | .ldg => [(0x100, [(0x10, 2)]), (0x134, []), (0x140, [])]
  | .gmc => [(0x108, [])]
  | .cxl => [(0x108, [])]
  | .tir => [(0x100, []), (0x200, [(0x20, 8)])]
  | .rte => [(0x118, [])]
  | .rmo => [(0x204, [(0x20, 16)])]
  | .col => [(0x118, [])]
  | .flt => [(0x204, [(0x20, 8)])]
  | .ckp => [(0x200, [(0x40, 8)]), (0x214, [(0x40, 8)]), (0x22C, [(0x40, 8)])]
  | .par => [(0x104, [])]
  | .sec => [(0x108, [])]
  | .dbg => [(0x104, []), (0x130, []), (0x140, []), (0x154, [])]
  | _ => []

/-- The offset is the _LO register of a pair. -/
def isLow (pg off : Nat) : Bool :=
  (pairLows (blkOf pg)).any (fun x => decide (x.1 ≤ off) && (dimIndex (off - x.1) x.2).isSome)

/-- The offset is the _HI register of a pair. -/
def isHigh (pg off : Nat) : Bool := decide (4 ≤ off) && isLow pg (off - 4)

/-! Reads -/

/-- What the environment answers where a configuration access asks it: a self-test (R37) or a CXL.io access. -/
structure Env where
  bist : TestResult
  io : IoResult
  deriving DecidableEq, Repr

/-- An environment that is not asked. -/
def Env.none : Env := ⟨⟨true, true, []⟩, ⟨0, 0⟩⟩

/-- An environment that a command does not name: its answers are open (log 2, DESIGN CHOICE). -/
def State.openEnv (s : State) : Env × State :=
  let (d, s) := s.freeBits 35
  (⟨⟨true, decide (d % 2 = 1), []⟩, ⟨w32 (d / 8), BitVec.ofNat 2 (d / 2)⟩⟩, s)

/-- A CXL.io access has ended (Table 10.9). -/
def State.ioDone (s : State) (n : Nat) (io : IoResult) : State :=
  s.setCxlPort n { s.cxlPort n with ioStat := io.status.toNat }

/-- A read that performs one access: of the debug window (R403), or CXL.io (Table 10.9). -/
def State.readAct (s : State) (pg : Nat) (io : IoResult) : W32 × State :=
  if pg = Pg.dbg then s.dbgAccess none else (io.data, s.ioDone (instOf pg) io)

/-- The registers whose read performs an access. -/
def actsOnRead (pg off : Nat) : Bool :=
  decide (pg = Pg.dbg ∧ off = Reg.dbgAdata) || (decide (blkOf pg = .cxl) && decide (off = Reg.cxlIoData))

/-- The key of a port's latch of a register (R27). -/
def latchKey (port pg off : Nat) : Nat := port * 2 ^ 24 + regKey pg off

/-- A configuration read: status and data. A read of a _LO register latches the _HI for the port, and the port's
next read of it returns the latch (R27). -/
def State.cfgRead (s : State) (port addr : Nat) (env : Env) : (Nat × W32) × State :=
  let s := { s with holds := s.holds.set none port none }
  let pg := addr / 0x1000
  let off := addr % 0x1000
  if (rowOf pg).isNone then ((St.unmapped, 0), s)
  else if !s.mayRead port pg off then ((St.denied, 0), s)
  else if off % 4 ≠ 0 then ((St.align, 0), s)
  else if actsOnRead pg off then
    let (v, s) := s.readAct pg env.io
    ((St.ok, v), s)
  else if isLow pg off then
    ((St.ok, s.regRead port pg off),
      { s with latches := s.latches.set none (latchKey port pg (off + 4)) (some (s.regRead port pg (off + 4))) })
  else
    match s.latches.get none (latchKey port pg off) with
    | some v => ((St.ok, v), { s with latches := s.latches.set none (latchKey port pg off) none })
    | none => ((St.ok, s.regRead port pg off), s)

/-! Writes -/

/-- The value a register with RW and RW1C fields takes (Table 2.2). -/
def RegDef.next (r : RegDef) (old v : W32) : W32 :=
  let keep := old &&& ~~~ w32 r.rw
  let set := v &&& w32 r.rw
  (keep ||| set) &&& ~~~ (v &&& w32 r.w1c)

/-- A write that only stores: RW fields take the value, RW1C fields clear, and a counter that any write clears is
cleared with its copy (R34). -/
def State.plainWrite (s : State) (port pg off : Nat) (v : W32) : State :=
  match regDef pg off with
  | none => s
  | some r =>
    if r.wclr then { s.setReg pg off 0 with snaps := s.snaps.set 0 (regKey pg off) 0 }
    else if r.perPort then s.setPortReg port pg off (r.next (s.portReg port pg off) v)
    else s.setReg pg off (r.next (s.reg pg off) v)

/-- A write of PG_ERR (Table 2.7). -/
def errWrite (err v : W32) : W32 :=
  if bit v 31 then 0 else if bit v 30 then setBit err 30 false else err

/-- A write of a register of the common header that is neither locked nor refused. Reserved enables are not kept. -/
def State.headerWrite (s : State) (pg off : Nat) (mgmt : Bool) (v : W32) (bist : TestResult) : Nat × State :=
  let x := s.page pg
  match off with
  | 0x008 => s.ctrlWrite pg mgmt v bist
  | 0x010 => (St.ok, s.setPage pg { x with irq := x.irq &&& ~~~ v })
  | 0x014 => (St.ok, s.setPage pg { x with irqEn := v &&& 0xFFFF000F })
  | 0x018 => (St.ok, s.setPage pg { x with err := errWrite x.err v })
  | 0x01C => (St.ok, s.setPage pg { x with errCnt := 0 })
  | 0x024 => (St.ok, s.setPage pg { x with lock := x.lock ||| v.truncate 3 })
  | 0x028 => (St.ok, s.snapWrite pg v)
  | _ => (St.ok, s)

/-! The stream descriptor window (R50, R51) -/

/-- The fields of a descriptor word: high bit, low bit, and the states in which each may change, one bit for each
of FREE 0, ARMED 1, RUNNING 2, IDLE 3, REPLAY 4 and CLOSING 5 (Table 3.3). -/
def dwinFields (w : Nat) : List (Nat × Nat × Nat) :=
  let f := 0b000001
  let fa := 0b000011
  let fal := 0b001111
  let any := 0b111111
  match w with
  | 0 => [(31, 24, fal), (23, 16, fal), (15, 12, fal), (11, 11, fal), (10, 10, fa), (9, 9, any), (8, 8, f), (6, 4, f), (2, 0, 0)]
  | 1 => [(27, 24, fal), (23, 0, f)]
  | 2 => [(31, 0, f)]
  | 3 => [(31, 0, f)]
  | 4 => [(31, 0, f)]
  | 5 => [(31, 0, f)]
  | 6 => [(31, 0, fa)]
  | 7 => [(31, 0, any)]
  | 8 => [(31, 24, fal), (23, 20, fal), (19, 16, fal), (12, 0, f)]
  | 9 => [(31, 0, fal)]
  | 0xA => [(31, 0, f)]
  | 0xB => [(31, 0, f)]
  | 0xC => [(31, 0, f)]
  | 0xD => [(31, 0, f)]
  | 0xE => [(31, 0, f)]
  | 0xF => [(31, 0, fal)]
  | 0x10 => [(31, 0, f)]
  | 0x11 => [(31, 0, f)]
  | 0x12 => [(31, 0, 0)]
  | 0x13 => [(31, 0, 0)]
  | 0x14 => [(31, 0, 0)]
  | 0x15 => [(31, 0, fa)]
  | 0x16 => [(31, 0, fa)]
  | 0x17 => [(31, 0, fa)]
  | 0x18 => [(31, 0, 0)]
  | _ => []

/-- The write would change a field that the stream's state does not permit. -/
def State.dwinRefused (s : State) (n w : Nat) (v : W32) : Bool :=
  (dwinFields w).any (fun (h, l, ok) => !ok.testBit (s.strState n) && decide (fld v h l ≠ fld (s.sw n w) h l))

/-- A write of a descriptor word that is permitted: the fields that may change; a counter word is cleared. -/
def State.dwinStore (s : State) (n w : Nat) (v : W32) : State :=
  if 0x19 ≤ w then s.setSw n w 0
  else
    s.setSw n w ((dwinFields w).foldl
      (fun x (h, l, ok) => if ok.testBit (s.strState n) then setFld x h l (fld v h l) else x) (s.sw n w))

/-! Writes with a rule of their own -/

/-- The partition whose active graph makes a write of the register return STATE: for any port (SCH_GTABp, SRI at
0x200, TIR_MIGp, the lists of RMO, and CKP), or for its owner port alone (TOL, R326). -/
def State.busyPart (s : State) (mgmt : Bool) (pg off : Nat) : Option Nat :=
  match blkOf pg with
  | .sch => (blkIndex (Reg.schGtabpLo 0) 0x20 8 off).bind (fun p => if off % 0x20 < 0xC then some p else none)
  | .sri => blkIndex (Reg.sriLplanpLo 0) 0x20 8 off
  | .tir => (blkIndex (Reg.tirMigpLo 0) 0x20 8 off).bind (fun p => if off % 0x20 < 0xC then some p else none)
  | .ckp => (blkIndex (Reg.ckpRegpLo 0) 0x40 8 off).bind (fun p => if 0x14 ≤ off % 0x40 then some p else none)
  | .rmo => (blkIndex (Reg.rmoEngn 0) 0x20 16 off).bind fun n =>
      if off = Reg.rmoEngnListLo n ∨ off = Reg.rmoEngnListHi n ∨ off = Reg.rmoEngnCnt n then
        some (s.rf Pg.rmo (Reg.rmoEngn n) 2 0)
      else none
  | .tol =>
    if mgmt then none
    else match blkIndex (Reg.tolGrpg 0) 8 16 off with
      | some g => some (s.rf Pg.tol (Reg.tolGrpg g) 26 24)
      | none => blkIndex (Reg.tolTwinp 0) 0x10 8 off
  | _ => none

/-- A tag that maps to a shape is admitted. -/
def State.shapeInUse (s : State) (k : Nat) : Bool :=
  s.rte.tags.any (fun kv => kv.2.testBit 0 && decide (nbits kv.2 7 4 = k))

/-- Every page of a block is OFF. -/
def State.allOff (s : State) (b : Blk) : Bool :=
  allPages.all (fun g => decide (blkOf g ≠ b) || decide ((s.page g).st = .off))

/-- A device lies in this device's rack: the aligned 4 × 4 × 4 block (R370). -/
def State.inRack (s : State) (c : Coord) : Bool :=
  let me := s.selfCoord
  decide (axisOf c 3 = axisOf me 3) && (List.range 3).all (fun a => decide (axisOf c a / 4 = axisOf me a / 4))

/-- A write that the block's present state refuses, beside those that depend on a command. -/
def State.stateRefused (s : State) (mgmt : Bool) (pg off : Nat) (v : W32) : Bool :=
  (s.busyPart mgmt pg off).any s.partActive ||
    match blkOf pg with
    | .par => decide (Reg.parCfg ≤ off ∧ off ≤ Reg.parSri) && !s.parOff (instOf pg)
    | .ldg => (decide (off = Reg.ldgP1BaseLo ∨ off = Reg.ldgP1BaseHi ∨ off = Reg.ldgP1Cells ∨ off = Reg.ldgP2BaseLo ∨
        off = Reg.ldgP2BaseHi ∨ off = Reg.ldgP2Cells)) && decide ((s.page pg).st ≠ .off)
    | .rte =>
      (decide (off = Reg.rteSelf) && !s.allOff .trp) ||
        (regIndex (Reg.rteShape 0) 4 16 off).any s.shapeInUse
    | .spn => decide (off = Reg.spnMacpfx) && (!bit v 17 || bit v 16)
    | .cxl => decide (off = Reg.cxlCtrl) && !bit v 0 &&
        (List.range 8).any (fun p => !s.parOff p && s.parConf p && decide (s.cxlLo p < s.cxlHi p))
    | .tir => (decide (off = Reg.tirCtrl) && decide (bit v 0 ≠ s.rb Pg.tir Reg.tirCtrl 0) && !s.allOff .cxl) ||
        (decide (off = Reg.tirHremoveLo ∨ off = Reg.tirHremoveHi) && !s.allOff .gmc)
    | .ckp => (blkIndex (Reg.ckpRegpLo 0) 0x40 8 off).any fun p =>
        (decide (off = Reg.ckpBuddyp p ∨ off = Reg.ckpGuestp p) && bit v 31 &&
          s.inRack (s.toPhys (s.tagShape (fld v 27 16)) (BitVec.ofNat 16 (fld v 15 0)))) ||
        (decide (off = Reg.ckpArmp p) && (s.ckpt p).snap.isSome) ||
        (decide (off = Reg.ckpCmdp p) && bit v 0 && ((s.ckpt p).snap.isSome || !s.isOn Pg.ckp))
    | .flt => (regIndex (Reg.fltRcmpp 0) 0x20 8 off).any fun p =>
        let g := fld v 19 16
        decide (g = 15) || decide (s.rf Pg.tol (Reg.tolGrpg g) 26 24 ≠ p)
    | _ => false

/-- The words E0 to E2 a port last wrote to a window of four words, with the word of this write above them. -/
def State.windowWords (s : State) (port pg base : Nat) (v : W32) : Nat :=
  (s.portReg port pg base).toNat + 2 ^ 32 * (s.portReg port pg (base + 4)).toNat
    + 2 ^ 64 * (s.portReg port pg (base + 8)).toNat + 2 ^ 96 * v.toNat

/-- What a write of a register at 0x100 or above does, once it is permitted, not locked, and not refused by
stateRefused: commands and windows first, then the plain store. -/
def State.regAct (s : State) (port pg off : Nat) (v : W32) (io : IoResult) : Nat × State :=
  let n := instOf pg
  let plain := (St.ok, s.plainWrite port pg off v)
  match blkOf pg with
  | .pwr =>
    if off = Reg.pwrCmd then s.pwrCmd v else if off = Reg.pwrBoot then (St.ok, s.bootWrite v) else plain
  | .wst =>
    if off = Reg.wstCtrl then
      let was := s.rb Pg.wst Reg.wstCtrl 6
      let s := s.plainWrite port pg off v
      (St.ok, if was ∧ !bit v 6 then s.refOff else s)
    else plain
  | .sec =>
    if off = Reg.secMgmt then s.mgmtWrite v else if off = Reg.secBcmd then s.bundleWrite port v else plain
  | .mgt => if off = Reg.mgtCmd then (if bit v 0 then s.swapWrite else (St.ok, s)) else plain
  | .dbg =>
    if off = Reg.dbgCmd then (St.ok, s.dbgCmd v)
    else if off = Reg.dbgAdata then (St.ok, ((s.plainWrite port pg off v).dbgAccess (some v)).2)
    else plain
  | .flt =>
    if off = Reg.fltClr then (St.ok, s.suspectClear v) else if off = Reg.fltAggStat then (St.ok, s.aggClear v) else plain
  | .par => if off = Reg.parCmd then (if bit v 0 then s.scrubWrite n else (St.ok, s)) else plain
  | .sch =>
    if off = Reg.schPrst ∧ bit v 8 then
      if (List.range 8).any (fun p => (s.schPart p).resetting) then (St.state, s)
      else (St.ok, (s.plainWrite port pg off v).startPrst (fld v 2 0))
    else plain
  | .lnt =>
    if off = Reg.lntE 3 then
      let (st, s) := s.setLaunch port (fld (s.portReg port Pg.lnt Reg.lntSel) 8 0)
        (BitVec.ofNat 128 (s.windowWords port pg (Reg.lntE 0) v))
      (if st = 0 then St.ok else St.state, s.setPortReg port pg Reg.lntWstat (w32 st))
    else plain
  | .str =>
    if off = Reg.strCmd then
      if s.strCmdOk (fld v 19 16) (fld v 12 0) then (St.ok, s.strCmd (fld v 19 16) (fld v 12 0)) else (St.state, s)
    else match regIndex (Reg.strEvpopp 0) 8 8 off, regIndex (Reg.strDwin 0) 4 32 off with
      | some p, _ =>
        if bit v 0 then
          let str := s.str
          (St.ok, { s with str := { str with evq := vset str.evq p ((vget str.evq p).drop 1), evOvf := setBit str.evOvf p false } })
        else (St.ok, s)
      | none, some w =>
        let k := fld (s.portReg port Pg.str Reg.strDsel) 12 0
        if s.dwinRefused k w v then (St.state, s) else (St.ok, s.dwinStore k w v)
      | none, none => plain
  | .drv =>
    if off = Reg.drvCmd ∧ bit v 0 then
      match s.drvInv n with
      | (true, s) => (St.ok, s)
      | (false, s) => (St.state, s)
    else plain
  | .ldg =>
    if off = Reg.ldgAreq then
      let p := fld v 14 12
      (St.ok, s.portAlloc port v (s.isMgmt port || s.ownsPart port p))
    else if off = Reg.ldgFreeHi then
      let a := (s.portReg port pg Reg.ldgFreeLo).toNat + 2 ^ 32 * fld v 11 0
      (St.ok, (s.setPortReg port pg Reg.ldgFreeLo 0).portFree port a (fun p => s.isMgmt port || s.ownsPart port p))
    else if off = Reg.ldgFreeLo then (St.ok, s.setPortReg port pg off v)
    else plain
  | .cxl =>
    if off = Reg.cxlIoData then
      (St.ok, (s.plainWrite port pg off v).ioDone n io)
    else plain
  | .tir =>
    if off = Reg.tirHremoveHi then
      if 2 < popcount 64 ((s.reg pg Reg.tirHremoveLo).toNat + 2 ^ 32 * v.toNat) then (St.state, s) else plain
    else plain
  | .rte =>
    if off = Reg.rteEpcmd then
      let s := if bit v 2 then s.epochDisarm else s
      if bit v 0 then
        match s.epochArm (bit v 1) with
        | (true, s) => (St.state, s)
        | (false, s) => (St.ok, s)
      else (St.ok, s)
    else if off = Reg.rteFclr then (St.ok, s.faultClear v)
    else if off = Reg.rteTent then
      (St.ok, { s with rte := { s.rte with
        tags := s.rte.tags.set 0 (fld (s.portReg port pg Reg.rteTsel) 11 0) (v.toNat &&& 0xF1) } })
    else if off = Reg.rteOent 3 then
      let sel := s.portReg port pg Reg.rteOsel
      match s.overrideWrite (bit sel 12) (fld sel 11 0) (s.windowWords port pg (Reg.rteOent 0) v) with
      | (true, s) => (St.state, s)
      | (false, s) => (St.ok, s)
    else plain
  | .rmo =>
    if off = Reg.rmoWent 3 then
      let sel := s.portReg port pg Reg.rmoWsel
      let w := BitVec.ofNat 128 (s.windowWords port pg (Reg.rmoWent 0) v)
      (St.ok, { s with rmo := { s.rmo with wins := s.rmo.wins.set 0 (32 * fld sel 7 5 + fld sel 4 0) w } })
    else plain
  | .tol =>
    match regIndex (Reg.tolTwinp 0) 0x10 8 off with
    | some p =>
      let s := s.plainWrite port pg off v
      if bit v 31 then
        (St.ok, { s.setRf pg off 30 30 0 with tol := { s.tol with twins := vset s.tol.twins p { s.twin p with misses := 0 } } })
      else (St.ok, s)
    | none => plain
  | .col =>
    if off = Reg.colKickHi then
      match s.collKick ((s.reg pg Reg.colKickLo).toNat + 2 ^ 32 * fld v 11 0) with
      | (.wait, _) => (St.state, s.setReg pg Reg.colKickLo 0)
      | (_, s) => (St.ok, s.setReg pg Reg.colKickLo 0)
    else if off = Reg.colKickLo then (St.ok, s.setReg pg off v)
    else if off = Reg.colBcmd then (St.ok, if bit v 4 then s.doResume (fld v 3 0) else s)
    else plain
  | .ope => if off = Reg.opeSwap then (St.ok, if bit v 31 then s.opeSwapGo n (fld v 2 0) else s) else plain
  | .ckp =>
    match regIndex (Reg.ckpArmp 0) 0x40 8 off, regIndex (Reg.ckpCmdp 0) 0x40 8 off with
    | some p, _ => (St.ok, s.ckpArm p v)
    | none, some p =>
      let s := if bit v 1 then s.abortRestore p else s
      (St.ok, if bit v 0 then s.startRestore p else s)
    | none, none => plain
  | _ => plain

/-- One register written: LOCKED and STATE, then its effect. -/
def State.regWrite (s : State) (port pg off : Nat) (v : W32) (env : Env) : Nat × State :=
  if s.lockedReg pg off then (St.locked, s)
  else if off < 0x100 then
    if s.dark pg then (St.state, s) else s.headerWrite pg off (s.isMgmt port) v env.bist
  else if s.dark pg then (St.state, s)
  else if (regDef pg off).isNone then (St.ok, s)
  else if s.stateRefused (s.isMgmt port) pg off v then (St.state, s)
  else s.regAct port pg off v env.io

/-- A configuration write: its status. A write of a _LO register that is permitted is held, and the port's next
access, if it is the write of the _HI, makes both take effect together; any other access discards it (R27). -/
def State.cfgWrite (s : State) (port addr : Nat) (v : W32) (env : Env) : Nat × State :=
  let held := s.holds.get none port
  let s := { s with holds := s.holds.set none port none }
  let pg := addr / 0x1000
  let off := addr % 0x1000
  if (rowOf pg).isNone then (St.unmapped, s)
  else if !s.mayWrite port pg off v then (St.denied, s)
  else if off % 4 ≠ 0 then (St.align, s)
  else if isLow pg off then
    match s.regWrite port pg off v env with
    | (0, _) => (St.ok, { s with holds := s.holds.set none port (some (addr, v)) })
    | (st, _) => (st, s)
  else if isHigh pg off then
    match held with
    | some (a, lo) =>
      if a + 4 = addr then
        match s.regWrite port pg (off - 4) lo env with
        | (0, t) =>
          (match t.regWrite port pg off v env with
            | (0, u) => (St.ok, u)
            | (st, _) => (st, s))
        | (st, _) => (st, s)
      else s.regWrite port pg off v env
    | none => s.regWrite port pg off v env
  else s.regWrite port pg off v env

end Sys2Proof.Machine
end

