-- ==== Sys2Proof/Machine/Access.lean ====
section
/-! DEFINITION. CFG_RD, CFG_WR and LAUNCH_SET as requests of a control port (R24, R83, R346 to R348). -/
namespace Sys2Proof.Machine

/-- A CFG_RD with what the environment answers: the response carries four bytes whatever its status. -/
def State.askRead (s : State) (r : Req) (addr : Nat) (env : Env) : State :=
  s.request r 1 .redo (decide (r.len = 4)) fun s =>
    let ((st, v), s) := s.cfgRead r.port addr env
    (⟨st, toLE 4 v.toNat⟩, s)

/-- A CFG_WR with what the environment answers. -/
def State.askWrite (s : State) (r : Req) (addr : Nat) (v : W32) (env : Env) : State :=
  s.request r 2 .keep (decide (r.len = 8)) fun s =>
    let (st, s) := s.cfgWrite r.port addr v env
    (Resp.of st, s)

/-- A CFG_WR of the register at an offset of a page. -/
def State.regSet (s : State) (r : Req) (pg off : Nat) (v : W32) : State := s.askWrite r (regKey pg off) v Env.none

/-- The write asks the environment: a self-test of a quarantined page, or a CXL.io access. -/
def asksEnv (addr : Nat) : Bool :=
  decide (addr % 0x1000 = 0x008) || (decide (blkOf (addr / 0x1000) = .cxl) && decide (addr % 0x1000 = Reg.cxlIoData))

/-- CFG_RD of any register. -/
def State.doCfgRd (s : State) (r : Req) (addr : Nat) : State :=
  if actsOnRead (addr / 0x1000) (addr % 0x1000) then
    let (e, s) := s.openEnv
    s.askRead r addr e
  else s.askRead r addr Env.none

/-- CFG_WR of any register. -/
def State.doCfgWr (s : State) (r : Req) (addr : Nat) (v : W32) : State :=
  if asksEnv addr then
    let (e, s) := s.openEnv
    s.askWrite r addr v e
  else s.askWrite r addr v Env.none

/-- LAUNCH_SET: STATUS per Table 4.6. -/
def State.doLaunchSet (s : State) (r : Req) (slot : Nat) (e : BitVec 128) : State :=
  s.request r 5 .keep (decide (r.len = 20)) fun s =>
    let (st, s) := s.setLaunch r.port slot e
    (Resp.of st, s)

end Sys2Proof.Machine
end

