-- ==== Sys2Proof/Machine/Attest.lean ====
section
/-! DEFINITION. Attestation and sessions (R392, R393), and the end of an image switch (R386). -/
namespace Sys2Proof.Machine

/-! CFG_DIGEST (R392) -/

/-- The (address, value) pairs of a page: PG_CTRL, PG_OWNER and PG_LOCK, and the RW fields at 0x100 and above of
registers that are neither per port nor window words. -/
def State.digestPage (s : State) (pg : Nat) : List Byte :=
  let pair := fun (off v : Nat) => toLE 4 (regKey pg off) ++ toLE 4 v
  let hdr := [0x008, 0x020, 0x024].flatMap (fun off => pair off (s.headerReg pg off).toNat)
  let regs := ((List.range 960).map (fun k => 0x100 + 4 * k)).flatMap fun off =>
    match regDef pg off with
    | some r =>
      if r.rw = 0 ∨ r.perPort ∨ (pg = Pg.rte ∧ off = Reg.rteTent) then []
      else pair off ((s.regRead 0 pg off) &&& w32 r.rw).toNat
    | none => []
  hdr ++ regs

/-- CFG_DIGEST: the pages in ascending order, then the remote windows, the tag and shape tables, and the two
override banks. -/
def State.cfgDigest (s : State) : List Byte :=
  let wins := (List.range 256).flatMap (fun k => toLE 16 (s.rmo.wins.get 0 k).toNat)
  let tags := (List.range 4096).flatMap (fun k => toLE 4 (s.rte.tags.get 0 k))
  let shapes := (List.range 16).flatMap (fun k => toLE 4 (s.reg Pg.rte (Reg.rteShape k)).toNat)
  let ovr := (List.range 8192).flatMap (fun k => toLE 16 (s.rte.ovr.get 0 k).toNat)
  sha384 (allPages.flatMap s.digestPage ++ wins ++ tags ++ shapes ++ ovr)

/-! ATTEST -/

/-- The report up to its signature (Table 16.2). -/
def State.reportBody (s : State) (port : Nat) (nonce : BitVec 256) : List Byte :=
  let x := s.sec
  let parts := (List.range 8).flatMap fun p =>
    (List.range 8).flatMap (fun k => toLE 4 (s.reg (Pg.par p) (Reg.parCfg + 4 * k)).toNat)
      ++ toLE 16 (((s.partSec p).bundle.getD 0).toNat)
  toLE 4 0x52415A4D ++ toLE 2 1 ++ toLE 2 (x.developer.toNat + at_ 1 x.level + at_ 8 x.pmask.toNat) ++ deviceId
    ++ toLE 32 nonce.toNat ++ toLE 8 s.count ++ toLE 48 x.fwMeas.toNat ++ toLE 48 x.mgtMeas.toNat ++ s.cfgDigest
    ++ toLE 4 x.mgtGen ++ toLE 4 port ++ toLE 4 (partBits (fun p => s.isOn (Pg.par p)))
    ++ toLE 4 (partBits (fun p => (s.partSec p).dirty)) ++ parts

/-- SUB 1, REPORT: the signed report; the port's session has then had one (R394). -/
def State.attestReport (s : State) (port : Nat) (nonce : BitVec 256) : Resp × State :=
  let body := s.reportBody port nonce
  let (k, s) := s.freeBits 384
  let c := s.ctlPort port
  (⟨St.ok, body ++ ecdsaSign identKey k body⟩,
    s.setCtlPort port { c with session := c.session.map (fun x => { x with reported := true }) })

/-- SUB 0, GET_KEY. -/
def attestKey (s : State) : Resp × State := (⟨St.ok, identPub ++ List.replicate 3 0⟩, s)

/-! SESSION (R393) -/

/-- START: the device's ephemeral key, a nonce and a signature; the keys of the session. The device's private key,
nonce and signature nonce are drawn; the shared point of a key that is not on the curve is open (log 2, DESIGN CHOICE). -/
def State.sessionBegin (s : State) (port : Nat) (nodeKey : BitVec 776) (nonce : BitVec 256) : Resp × State :=
  let pub := toLE 97 nodeKey.toNat
  let (d, s) := s.freeBits 384
  let d := d % (ecN - 1) + 1
  let (dn, s) := s.freeBits 256
  let (k, s) := s.freeBits 384
  let (open_, s) := s.freeBits 384
  let req := pub ++ List.replicate 3 0 ++ toLE 32 nonce.toNat
  let resp := ecPublic d ++ List.replicate 3 0 ++ toLE 32 dn
  let sig := ecdsaSign identKey k (req ++ resp ++ deviceId ++ toLE 1 port)
  let z := if (ecDecode pub).isSome then ecdh d pub else toLE 48 open_
  let keys := hkdf384 (toLE 32 nonce.toNat ++ toLE 32 dn) z (ascii "MZH1 ctp" ++ toLE 1 port) 72
  (⟨St.ok, resp ++ sig⟩,
    s.setCtlPort port { s.ctlPort port with session := some ⟨BitVec.ofNat 576 (leNat keys), 0, 0, false⟩ })

/-- END: the session is destroyed. -/
def State.sessionDone (s : State) (port : Nat) : Resp × State :=
  (Resp.of St.ok, s.setCtlPort port { s.ctlPort port with session := none })

/-! Requests that wait for an image switch (R386) -/

/-- An ATTEST or SESSION request: its type, its kind as a duplicate, whether its length is accepted, and its act. -/
structure HeldReq where
  r : Req
  type : Nat
  kind : ReqKind
  lenOk : Bool
  act : State → Resp × State

/-- The request a command makes, where it is ATTEST or SESSION. -/
def heldReq : Instr → Option HeldReq
  | .getKey r => some ⟨r, 9, .redo, decide (r.len = 36), attestKey⟩
  | .report r n => some ⟨r, 9, .redo, decide (r.len = 36), fun s => s.attestReport r.port n⟩
  | .sessionStart r k n => some ⟨r, 10, .whole, decide (r.len = 136), fun s => s.sessionBegin r.port k n⟩
  | .sessionEnd r => some ⟨r, 10, .whole, decide (r.len = 4), fun s => s.sessionDone r.port⟩
  | _ => none

/-- An ATTEST or SESSION request: in an image switch it is received and its number taken, and it waits. -/
def State.doHeldReq (s : State) (c : Instr) : State :=
  match heldReq c with
  | none => s
  | some h =>
    if s.switching then
      if !s.ctlUp h.r.port then s
      else
        match (s.takeMsg h.r h.type).admission h.r h.type h.kind with
        | (.refused st, s) => s.answer h.r h.type (Resp.of st)
        | (.first st d, s) => (s.answer h.r h.type ⟨st, d⟩).countIn h.r
        | (_, s) => { s with sec := { s.sec with heldMsgs := s.sec.heldMsgs ++ [c] } }
    else s.request h.r h.type h.kind h.lenOk h.act

/-- Carry out a request that waited. -/
def State.runHeld (s : State) (c : Instr) : State :=
  match heldReq c with
  | none => s
  | some h =>
    if !s.ctlUp h.r.port then s
    else
      s.carryOut h.r h.type h.kind ((s.ctlPort h.r.port).kept h.r.mseq).isSome
        (fun s => if h.lenOk then h.act s else (Resp.of St.length, s))

/-- FIRMWARE_SWAP_COMPLETE: the new image runs, and what waited is sent and carried out. -/
def State.doSwapComplete (s : State) : State :=
  if !s.switching then s
  else
    let x := s.sec
    let s := { s with sec := { x with mgtState := .running, mgtGen := x.mgtGen + 1, mgtMeas := x.mgtNext,
                                      pause := s.now - x.swapAt, heldMsgs := [] } }
    let s := (List.range 4).foldl (fun s n => s.flushEvents n 1025) s
    x.heldMsgs.foldl State.runHeld s

end Sys2Proof.Machine
end

