-- ==== Sys2Proof/Machine/Settle.lean ====
section
/-! DEFINITION. What follows every command before the next one: a reset or a change of the management role that
waited for its response (R385, R418), errors that stop a partition or the device (R352, R353), pages that have
left ON (R189, R330), and the results of Tollgate operations; and one tick of the device. -/
namespace Sys2Proof.Machine

/-! Errors that stop work -/

/-- An error of class 0b100 in a partition (R352). -/
def State.partFatal (s : State) (p : Nat) : State :=
  let s := { s.stopPart p with stopped := setBit s.stopped p true }
  (s.suspect s.selfCoord Cause.self).irq Pg.flt 18

/-- An error of class 0b101 (R353). -/
def State.devFatal (s : State) : State :=
  let s := (List.range 8).foldl (fun s p => s.partFatal p) s
  ((s.setPwr (fun x => { x with dev := .stopped })).alert 5).irq Pg.flt 19

/-- The errors of a command take their effect, in the order in which they were detected. -/
def State.takeStops (s : State) : State :=
  s.stops.foldl (fun s x => match x with | some p => s.partFatal p.val | none => s.devFatal) { s with stops := [] }

/-! Pages that have left ON -/

/-- A page's block has ended its work: it is neither ON nor completing what it had accepted. -/
def State.pageDown (s : State) (pg : Nat) : Bool := decide ((s.page pg).st ≠ .on ∧ (s.page pg).st ≠ .stopping)

/-- A core that is down gives up its task. -/
def State.downCore (s : State) (c : Nat) : State :=
  if (s.core c).run.isSome ∧ s.pageDown (Pg.cor c) then s.coreLeaves c else s

/-- A Drover unit and its Convoy engine that are down end the tasks and drop the work they hold. -/
def State.downUnit (s : State) (n : Nat) : State :=
  let s := if s.pageDown (Pg.drv n) ∧ (List.range 4).any (fun l => (vget (s.drvUnit n).lanes l).core.isSome)
    then s.drvStop n else s
  let e := s.cnvEng n
  if s.pageDown (Pg.cnv n) ∧ (!e.comb.isEmpty ∨ !e.tasks.isEmpty ∨ e.mans.toList.any (·.isSome))
    then s.cnvDiscard n else s

/-- The ports of an optical engine that is not ON are lost (R330). -/
def State.downEngine (s : State) (n : Nat) : State := if s.isOn (Pg.ope n) then s else s.portsLost n

/-- The consequences of pages that have left ON. -/
def State.takeDowns (s : State) : State :=
  let s := (List.range 64).foldl State.downCore s
  let s := (List.range 8).foldl State.downUnit s
  (List.range 12).foldl State.downEngine s

/-! Results of Tollgate operations -/

/-- A result goes to what started the operation. -/
def State.giveResult (s : State) (u : TolUse) (r : Option Contrib) : State :=
  match u with
  | .coll id => s.collOpResult id r
  | .vote id => s.voteResult id r
  | .bcast id => s.bcResult id r
  | .rcmp p => s.rcmpResult p r
  | .agg round k => s.aggResult round k r

/-- Deliver results and start operations that wait, until none is left; n bounds the rounds. -/
def State.giveResults (s : State) : Nat → State
  | 0 => s
  | n + 1 =>
    match s.tol.results with
    | (u, r) :: rest => State.giveResults ({ s with tol := { s.tol with results := rest } }.giveResult u r) n
    | [] =>
      let t := s.tolPump
      if t.tol.results.isEmpty then t else State.giveResults t n

/-! After a command -/

/-- A software reset whose response has been sent (R418), or a handover of the management role (R385). -/
def State.takeRequests (s : State) : State :=
  if s.pwr.rstReq then s.deviceReset 3 false
  else match s.sec.handover with
    | some n => { s with sec := { s.sec with mgmt := some n, handover := none } }
    | none => s

/-- What follows a command. -/
def State.settle (s : State) : State :=
  ((s.takeRequests.takeStops.takeDowns.giveResults 256).takeStops)

/-- The device is powered, not held in reset and not in thermal shutdown. -/
def State.live (s : State) : Bool := s.pwr.powered && !s.pwr.inReset && !s.pwr.tshut

/-- The state as a command finds it: what has been sent before does not bear on it. -/
def State.hush (s : State) : State := { s with outbox := [] }

/-- The state after a command whose own effect is t: t, and what follows it. A command takes no time and leaves
the waiting commands as they are; what it sends is added to what has been sent; and memory is left in its
canonical form. -/
def State.done (s t : State) : State :=
  let t := t.settle
  { t with pending := s.pending, now := s.now, outbox := t.outbox ++ s.outbox, mem := Memory.tidy t.mem }

/-- The state after a command with effect f. -/
def State.after (s : State) (f : State → State) : State := s.done (f s.hush)

/-- A command that no reset or shutdown keeps from its effect. -/
def always (f : State → State) (s : State) : Host.Outcome State Fault Refusal := .next (s.after f)

/-- A command of a live device; in Off, reset and thermal shutdown nothing happens. -/
def run (f : State → State) (s : State) : Host.Outcome State Fault Refusal :=
  if s.live then .next (s.after f) else .next s

/-- A command that starts or ends work of the engines: after a power-fail warning none does (R420). -/
def work (f : State → State) (s : State) : Host.Outcome State Fault Refusal :=
  run (fun s => if s.pwr.pfw then s else f s) s

/-! The tick (R6, R40; log 1, DESIGN CHOICE) -/

/-- The Drover cycles a unit has held in this tick: the Drover clock makes three cycles in two ticks (R107). -/
def State.tickUnit (s : State) (n : Nat) : State :=
  if s.drvHeld n then s.bumpBy (Pg.drv n) Reg.drvCntStall (1 + s.now % 2) else s

/-- One tick: a live device whose Waystone PLL is locked counts it. -/
def State.tick (s : State) : State :=
  if s.live ∧ bit s.pwr.pll 7 then ((List.range 8).foldl State.tickUnit s).wstEdge
  else { s with now := s.now + 1 }

end Sys2Proof.Machine
end

