-- ==== Sys2Proof/Machine/ExecCollect.lean ====
section
/-! DEFINITION. The meanings of the commands of the Tollgate and the collective engine (R303 to R326). -/
namespace Sys2Proof.Machine

/-- TOLLGATE_UP (R307). -/
def execTollgateUp (pkt : Packet) (s : State) : Host.Outcome State Fault Refusal := run (fun s => s.doTollgateUp pkt) s

/-- TOLLGATE_DOWN (R307). -/
def execTollgateDown (pkt : Packet) (s : State) : Host.Outcome State Fault Refusal := run (fun s => s.doTollgateDown pkt) s

/-- TOLLGATE_SLOT_TIMEOUT (R310). -/
def execTollgateSlotTimeout (slot : Fin 64) (s : State) : Host.Outcome State Fault Refusal := run (fun s => s.doSlotTimeout slot.val) s

/-- OP_TIMEOUT (R310). -/
def execOpTimeout (group : Fin 16) (step : W32) (opidx : Byte) (s : State) : Host.Outcome State Fault Refusal :=
  run (fun s => s.doOpTimeout group.val step opidx.toNat) s

/-- TOLLGATE_SLOT_PARITY (Table 13.5). -/
def execTollgateSlotParity (s : State) : Host.Outcome State Fault Refusal := run (fun s => s.doSlotParity) s

/-- TWIN_DIGEST (R322). -/
def execTwinDigest (pkt : Packet) (s : State) : Host.Outcome State Fault Refusal := run (fun s => s.doTwinDigest pkt) s

/-- TWIN_MISSING (R323). -/
def execTwinMissing (p : Part) (s : State) : Host.Outcome State Fault Refusal := run (fun s => s.doTwinMissing p.val) s

/-- COLL_START (R311). -/
def execCollStart (core : Fin 64) (s : State) : Host.Outcome State Fault Refusal := work (fun s => s.doCollStart core.val) s

/-- COL_KICK: a write of COL_KICK_HI (R311). -/
def execColKick (r : Req) (hi : W32) (s : State) : Host.Outcome State Fault Refusal :=
  run (fun s => s.regSet r Pg.col Reg.colKickHi hi) s

/-- CHUNK_RECEIVE (R316). -/
def execChunkReceive (pkt : Packet) (s : State) : Host.Outcome State Fault Refusal := work (fun s => s.doChunk pkt) s

/-- CHUNK_NAK (R317). -/
def execChunkNak (pkt : Packet) (s : State) : Host.Outcome State Fault Refusal := work (fun s => s.doNak pkt) s

/-- COLLECTIVE_TIMEOUT (R320). -/
def execCollectiveTimeout (ctx : Fin 16) (s : State) : Host.Outcome State Fault Refusal := work (fun s => s.doCollTimeout ctx.val) s

/-- BROADCAST_CHUNK (R324). -/
def execBroadcastChunk (pkt : Packet) (s : State) : Host.Outcome State Fault Refusal := work (fun s => s.doBcChunk pkt) s

/-- BROADCAST_END (R324). -/
def execBroadcastEnd (pkt : Packet) (s : State) : Host.Outcome State Fault Refusal := work (fun s => s.doBend pkt) s

/-- BROADCAST_ROUND_TIMEOUT (R324). -/
def execBroadcastRoundTimeout (ctx : Fin 16) (s : State) : Host.Outcome State Fault Refusal :=
  work (fun s => s.doBcRoundTimeout ctx.val) s

/-- RESUME: a write of COL_BCMD (R325). -/
def execResume (r : Req) (data : W32) (s : State) : Host.Outcome State Fault Refusal :=
  run (fun s => s.regSet r Pg.col Reg.colBcmd data) s

/-- BROADCAST_RESUME_TIMEOUT (R325). -/
def execBroadcastResumeTimeout (ctx : Fin 16) (s : State) : Host.Outcome State Fault Refusal :=
  work (fun s => s.doResumeTimeout ctx.val) s

end Sys2Proof.Machine
end

