-- ==== Sys2Proof/Machine/ExecConvoy.lean ====
section
/-! DEFINITION. The meanings of the commands of Convoy, Serai and the Ledger (R116 to R150). -/
namespace Sys2Proof.Machine

/-- CONVOY_DISPATCH_RECORD (R118). -/
def execConvoyDispatchRecord (unit : Fin 8) (s : State) : Host.Outcome State Fault Refusal :=
  work (fun s => s.doDispatchRecord unit.val) s

/-- CONVOY_TOKEN_RECORD (R118, R136). -/
def execConvoyTokenRecord (unit : Fin 8) (s : State) : Host.Outcome State Fault Refusal :=
  work (fun s => s.doTokenRecord unit.val) s

/-- CONVOY_END_RECORD (R122, R123, R139). -/
def execConvoyEndRecord (unit : Fin 8) (s : State) : Host.Outcome State Fault Refusal :=
  work (fun s => s.doEndRecord unit.val) s

/-- CLOSE_SEND (R123). -/
def execCloseSend (ctx : Fin 8) (s : State) : Host.Outcome State Fault Refusal := work (fun s => s.doCloseSend ctx.val) s

/-- SERAI_DISPATCH_BALE (R126). -/
def execSeraiDispatchBale (pkt : Packet) (s : State) : Host.Outcome State Fault Refusal := work (fun s => s.doDispatchBale pkt) s

/-- SERAI_CLOSE_BALE (R126, R127). -/
def execSeraiCloseBale (pkt : Packet) (s : State) : Host.Outcome State Fault Refusal := work (fun s => s.doCloseBale pkt) s

/-- QUEUE_TIMEOUT (R132). -/
def execQueueTimeout (queue : BitVec 12) (next : Bool) (s : State) : Host.Outcome State Fault Refusal :=
  work (fun s => s.doQueueTimeout queue.toNat next) s

/-- RETURN_BALE (R136, R137). -/
def execReturnBale (pkt : Packet) (s : State) : Host.Outcome State Fault Refusal := work (fun s => s.doReturnBale pkt) s

/-- ACK_SEND (R140). -/
def execAckSend (coord : Coord) (eng : Fin 8) (man : BitVec 7) (s : State) : Host.Outcome State Fault Refusal :=
  work (fun s => s.doAckSend coord eng.val man.toNat) s

/-- ACK_BALE (R141). -/
def execAckBale (pkt : Packet) (s : State) : Host.Outcome State Fault Refusal := work (fun s => s.doAckBale pkt) s

/-- MANIFEST_TIMEOUT (R142). -/
def execManifestTimeout (unit : Fin 8) (man : BitVec 7) (s : State) : Host.Outcome State Fault Refusal :=
  work (fun s => s.doManifestTimeout unit.val man.toNat) s

/-- LEDGER_ALLOC: a write of LDG_AREQ (R147). -/
def execLedgerAlloc (r : Req) (data : W32) (s : State) : Host.Outcome State Fault Refusal :=
  run (fun s => s.regSet r Pg.ldg Reg.ldgAreq data) s

/-- LEDGER_FREE: a write of LDG_FREE_HI (R147). -/
def execLedgerFree (r : Req) (hi : W32) (s : State) : Host.Outcome State Fault Refusal :=
  run (fun s => s.regSet r Pg.ldg Reg.ldgFreeHi hi) s

/-- CONVOY_PARITY (R149). -/
def execConvoyParity (unit : Fin 8) (s : State) : Host.Outcome State Fault Refusal := run (fun s => s.doConvoyParity unit.val) s

/-- SERAI_PARITY (R149). -/
def execSeraiParity (queue : BitVec 12) (s : State) : Host.Outcome State Fault Refusal := run (fun s => s.doSeraiParity queue.toNat) s

/-- LEDGER_PARITY (R149). -/
def execLedgerParity (s : State) : Host.Outcome State Fault Refusal := run (fun s => s.doLedgerParity) s

end Sys2Proof.Machine
end

