-- ==== Sys2Proof/Machine/ExecCore.lean ====
section
/-! DEFINITION. The meanings of the commands of the expert cores (R173 to R205). -/
namespace Sys2Proof.Machine

/-- PASS_CHECK (R186, R188). -/
def execPassCheck (core : Fin 64) (array : Fin 4) (mismatch : Bool) (s : State) : Host.Outcome State Fault Refusal :=
  work (fun s => s.doPassCheck core.val array.val mismatch) s

/-- RANGE (R173). -/
def execRange (core : Fin 64) (s : State) : Host.Outcome State Fault Refusal := work (fun s => s.doRange core.val) s

/-- SCRATCHPAD_PARITY (R177, R205). -/
def execScratchpadParity (core : Fin 64) (s : State) : Host.Outcome State Fault Refusal := run (fun s => s.doScratchParity core.val) s

end Sys2Proof.Machine
end

