-- ==== Sys2Proof/Machine/ExecDrover.lean ====
section
/-! DEFINITION. The meanings of the commands of Drover (R88 to R115). -/
namespace Sys2Proof.Machine

/-- LANE_GRANT (R89, R90). -/
def execLaneGrant (unit : Fin 8) (lane : Fin 4) (s : State) : Host.Outcome State Fault Refusal :=
  work (fun s => s.doLaneGrant unit.val lane.val) s

/-- TOKEN_SELECT (R100 to R109). -/
def execTokenSelect (unit : Fin 8) (lane : Fin 4) (s : State) : Host.Outcome State Fault Refusal :=
  work (fun s => s.doTokenSelect unit.val lane.val) s

/-- WEIGHT_FETCH_COMPLETE (R110, R111). -/
def execWeightFetchComplete (unit : Fin 8) (lane : Fin 4) (s : State) : Host.Outcome State Fault Refusal :=
  work (fun s => s.doFetchComplete unit.val lane.val) s

/-- BANK_LOAD_COMPLETE (R93). -/
def execBankLoadComplete (unit : Fin 8) (readErr : Bool) (s : State) : Host.Outcome State Fault Refusal :=
  work (fun s => s.doBankLoad unit.val readErr) s

/-- BANK_SWITCH (R94). -/
def execBankSwitch (unit : Fin 8) (s : State) : Host.Outcome State Fault Refusal := work (fun s => s.doBankSwitch unit.val) s

/-- INV: a write of DRV_CMD.INV (R96). -/
def execInv (r : Req) (unit : Fin 8) (s : State) : Host.Outcome State Fault Refusal :=
  run (fun s => s.regSet r (Pg.drv unit.val) Reg.drvCmd 1) s

/-- LOAD_HINT (R103). -/
def execLoadHint (pkt : Packet) (s : State) : Host.Outcome State Fault Refusal := work (fun s => s.doLoadHint pkt) s

/-- DROVER_PARITY (R113). -/
def execDroverParity (unit : Fin 8) (s : State) : Host.Outcome State Fault Refusal := run (fun s => s.doDroverParity unit.val) s

end Sys2Proof.Machine
end

