-- ==== Sys2Proof/Machine/ExecFabric.lean ====
section
/-! DEFINITION. The meanings of the commands of the fabric, the router and the spine ports (R255 to R287). -/
namespace Sys2Proof.Machine

/-- PACKET_INJECT (R261). -/
def execPacketInject (p : Part) (pkt : Packet) (s : State) : Host.Outcome State Fault Refusal :=
  run (fun s => s.inject p.val pkt) s

/-- PACKET_RECEIVE (R272). -/
def execPacketReceive (input : Fin 11) (pkt : Packet) (s : State) : Host.Outcome State Fault Refusal :=
  run (fun s => s.receive input.val pkt) s

/-- PACKET_FORWARD (R266 to R271). -/
def execPacketForward (input : Fin 11) (vc : BitVec 3) (s : State) : Host.Outcome State Fault Refusal :=
  run (fun s => s.forward input.val vc.toNat) s

/-- ESCAPE_TIMEOUT (R268). -/
def execEscapeTimeout (input : Fin 11) (vc : BitVec 3) (s : State) : Host.Outcome State Fault Refusal :=
  run (fun s => s.escapeTimeout input.val vc.toNat) s

/-- STALL_WATCHDOG (R278). -/
def execStallWatchdog (input : Fin 11) (vc : BitVec 3) (s : State) : Host.Outcome State Fault Refusal :=
  run (fun s => s.stallDrop input.val vc.toNat) s

/-- FLIT_GROUP_SEND (R275). -/
def execFlitGroupSend (port : Fin 8) (s : State) : Host.Outcome State Fault Refusal := run (fun s => s.sendGroup port.val) s

/-- FLIT_GROUP_RECEIVE (R276). -/
def execFlitGroupReceive (port : Fin 8) (grp : FlitGroup) (s : State) : Host.Outcome State Fault Refusal :=
  run (fun s => s.recvGroup port.val grp) s

/-- LINK_LOST (R284). -/
def execLinkLost (port : Fin 8) (cause : LossCause) (s : State) : Host.Outcome State Fault Refusal :=
  run (fun s => s.linkLost port.val cause) s

/-- ROUTER_NOTICE (R279, R284). -/
def execRouterNotice (input : Fin 8) (pkt : Packet) (s : State) : Host.Outcome State Fault Refusal :=
  run (fun s => s.notice input.val pkt) s

/-- REINJECT_WAIT_TIMEOUT (R285). -/
def execReinjectWaitTimeout (port : Fin 8) (s : State) : Host.Outcome State Fault Refusal :=
  run (fun s => s.reinjectTimeout port.val) s

/-- EPOCH_ARM: a write of RTE_EPCMD with ARM (R280). -/
def execEpochArm (r : Req) (fclr : Bool) (s : State) : Host.Outcome State Fault Refusal :=
  run (fun s => s.regSet r Pg.rte Reg.rteEpcmd (w32 (1 + 2 * fclr.toNat))) s

/-- EPOCH_DISARM: a write of RTE_EPCMD with DISARM (R280). -/
def execEpochDisarm (r : Req) (s : State) : Host.Outcome State Fault Refusal := run (fun s => s.regSet r Pg.rte Reg.rteEpcmd 4) s

/-- EPOCH_SWITCH (R280). -/
def execEpochSwitch (s : State) : Host.Outcome State Fault Refusal := run (fun s => s.epochSwitch) s

/-- OVERRIDE_WRITE: a write of RTE_OENT3 (R280). -/
def execOverrideWrite (r : Req) (word3 : W32) (s : State) : Host.Outcome State Fault Refusal :=
  run (fun s => s.regSet r Pg.rte (Reg.rteOent 3) word3) s

/-- FAULT_CLEAR: a write of RTE_FCLR (R279). -/
def execFaultClear (r : Req) (data : W32) (s : State) : Host.Outcome State Fault Refusal :=
  run (fun s => s.regSet r Pg.rte Reg.rteFclr data) s

/-- SPINE_FRAME_RECEIVE (R282, R283). -/
def execSpineFrameReceive (port : Fin 2) (frame : SpineFrame) (s : State) : Host.Outcome State Fault Refusal :=
  run (fun s => s.spineReceive port.val frame) s

/-- SPINE_LINK_DOWN (R286). -/
def execSpineLinkDown (port : Fin 2) (s : State) : Host.Outcome State Fault Refusal := run (fun s => s.spineDown port.val) s

/-- SPINE_LINK_UP (R340). -/
def execSpineLinkUp (port : Fin 2) (s : State) : Host.Outcome State Fault Refusal := run (fun s => s.spineUp port.val) s

/-- ROUTER_PARITY (R353). -/
def execRouterParity (s : State) : Host.Outcome State Fault Refusal := run (fun s => s.routerParity) s

/-- LINK_TRAINED (R333). -/
def execLinkTrained (port : LinkPort) (info : TrainInfo) (s : State) : Host.Outcome State Fault Refusal :=
  run (fun s => s.doLinkTrained port info) s

end Sys2Proof.Machine
end

