-- ==== Sys2Proof/Machine/ExecFaults.lean ====
section
/-! DEFINITION. The meanings of the commands of Faults, Checkpoints and Recovery (R351 to R379). -/
namespace Sys2Proof.Machine

/-- SUSPECT_EXPIRE (R354). -/
def execSuspectExpire (entry : Fin 64) (s : State) : Host.Outcome State Fault Refusal := run (fun s => s.doSuspectExpire entry.val) s

/-- SUSPECT_CLEAR: a write of FLT_CLR (Table 15.7). -/
def execSuspectClear (r : Req) (data : W32) (s : State) : Host.Outcome State Fault Refusal :=
  run (fun s => s.regSet r Pg.flt Reg.fltClr data) s

/-- AGGREGATION_ROUND (R355, R356). -/
def execAggregationRound (s : State) : Host.Outcome State Fault Refusal := run (fun s => s.doAggRound) s

/-- AGGREGATION_CHILD_WAIT (R357). -/
def execAggregationChildWait (step : W32) (opidx : Byte) (s : State) : Host.Outcome State Fault Refusal :=
  run (fun s => s.doChildWait step opidx.toNat) s

/-- AGG_CLEAR: a write of FLT_AGG_STAT (R358). -/
def execAggClear (r : Req) (data : W32) (s : State) : Host.Outcome State Fault Refusal :=
  run (fun s => s.regSet r Pg.flt Reg.fltAggStat data) s

/-- ABORT (R360). -/
def execAbort (pkt : Packet) (s : State) : Host.Outcome State Fault Refusal := run (fun s => s.doAbort pkt) s

/-- RECOMPUTE (R362). -/
def execRecompute (p : Part) (s : State) : Host.Outcome State Fault Refusal := work (fun s => s.doRecompute p.val) s

/-- CHECKPOINT_ARM: a write of CKP_ARMp (R372). -/
def execCheckpointArm (r : Req) (p : Part) (step : W32) (s : State) : Host.Outcome State Fault Refusal :=
  run (fun s => s.regSet r Pg.ckp (Reg.ckpArmp p.val) step) s

/-- CK_WRITE (R374). -/
def execCkWrite (pkt : Packet) (s : State) : Host.Outcome State Fault Refusal := work (fun s => s.doCkWrite pkt) s

/-- CK_ACK (R372). -/
def execCkAck (pkt : Packet) (s : State) : Host.Outcome State Fault Refusal := work (fun s => s.doCkAck pkt) s

/-- CK_READ (R374). -/
def execCkRead (pkt : Packet) (s : State) : Host.Outcome State Fault Refusal := work (fun s => s.doCkRead pkt) s

/-- CK_DATA (R375). -/
def execCkData (pkt : Packet) (s : State) : Host.Outcome State Fault Refusal := work (fun s => s.doCkData pkt) s

/-- CHECKPOINT_TIMEOUT (R372, R375). -/
def execCheckpointTimeout (p : Part) (s : State) : Host.Outcome State Fault Refusal := work (fun s => s.doCkpTimeout p.val) s

/-- RESTORE: a write of CKP_CMDp with RESTORE (R375). -/
def execRestore (r : Req) (p : Part) (s : State) : Host.Outcome State Fault Refusal :=
  run (fun s => s.regSet r Pg.ckp (Reg.ckpCmdp p.val) 1) s

/-- RESTORE_ABORT: a write of CKP_CMDp with ABORT (R375). -/
def execRestoreAbort (r : Req) (p : Part) (s : State) : Host.Outcome State Fault Refusal :=
  run (fun s => s.regSet r Pg.ckp (Reg.ckpCmdp p.val) 2) s

end Sys2Proof.Machine
end

