-- ==== Sys2Proof/Machine/ExecGraph.lean ====
section
/-! DEFINITION. The meanings of the commands of Task Graphs, Scoreboards and Launch (R68 to R87). -/
namespace Sys2Proof.Machine

/-- LAUNCH_SET (R83). -/
def execLaunchSet (r : Req) (slot : BitVec 9) (entry : BitVec 128) (s : State) : Host.Outcome State Fault Refusal :=
  run (fun s => s.doLaunchSet r slot.toNat entry) s

/-- LAUNCH_WINDOW_WRITE: a write of LNT_E3 (R83). -/
def execLaunchWindowWrite (r : Req) (word3 : W32) (s : State) : Host.Outcome State Fault Refusal :=
  run (fun s => s.regSet r Pg.lnt (Reg.lntE 3) word3) s

/-- LAUNCH_DUE (R82, R84). -/
def execLaunchDue (slot : BitVec 9) (s : State) : Host.Outcome State Fault Refusal := run (fun s => s.doLaunchDue slot.toNat) s

/-- DEFERRED_LAUNCH (R82). -/
def execDeferredLaunch (p : Part) (s : State) : Host.Outcome State Fault Refusal := work (fun s => s.doDeferredLaunch p.val) s

/-- TASK_ISSUE (R76). -/
def execTaskIssue (p : Part) (s : State) : Host.Outcome State Fault Refusal := work (fun s => s.doTaskIssue p.val) s

/-- TASK_COMPLETE (R72). -/
def execTaskComplete (core : Fin 64) (s : State) : Host.Outcome State Fault Refusal := work (fun s => s.doTaskComplete core.val) s

/-- GRAPH_COMPLETE (R81). -/
def execGraphComplete (p : Part) (background : Bool) (s : State) : Host.Outcome State Fault Refusal :=
  work (fun s => s.doGraphComplete p.val background) s

/-- GRAPH_LIMIT (R81). -/
def execGraphLimit (p : Part) (background : Bool) (s : State) : Host.Outcome State Fault Refusal :=
  work (fun s => s.doGraphLimit p.val background) s

/-- PARTITION_RESET: a write of SCH_PRST with GO (R86). -/
def execPartitionReset (r : Req) (p : Part) (s : State) : Host.Outcome State Fault Refusal :=
  run (fun s => s.regSet r Pg.sch Reg.schPrst (w32 (at_ 8 1 + p.val))) s

/-- PARTITION_RESET_COMPLETE (R86). -/
def execPartitionResetComplete (p : Part) (s : State) : Host.Outcome State Fault Refusal :=
  run (fun s => s.doPrstComplete p.val) s

end Sys2Proof.Machine
end

