-- ==== Sys2Proof/Machine/ExecMemory.lean ====
section
/-! DEFINITION. The meanings of the commands of GDDR7, the CXL tier and migration (R231 to R254). -/
namespace Sys2Proof.Machine

/-- HALF_REMOVE: a write of TIR_HREMOVE_HI (R235). -/
def execHalfRemove (r : Req) (hi : W32) (s : State) : Host.Outcome State Fault Refusal :=
  run (fun s => s.regSet r Pg.tir Reg.tirHremoveHi hi) s

/-- EDC_ERROR (R236). -/
def execEdcError (gmc : Fin 32) (out : EdcOutcome) (s : State) : Host.Outcome State Fault Refusal :=
  run (fun s => s.doEdc gmc.val out) s

/-- REFRESH (R237): a refresh command to the device; contents and registers are as before. -/
def execRefresh (_gmc : Fin 32) (s : State) : Host.Outcome State Fault Refusal := .next s

/-- DETECTION_FAILURE (Table 10.6). -/
def execDetectionFailure (addr : BitVec 44) (secondFails : Bool) (reader : Reader) (s : State) : Host.Outcome State Fault Refusal :=
  run (fun s => s.doDetection addr.toNat secondFails reader) s

/-- REFETCH_COMPLETE (R250). -/
def execRefetchComplete (addr : BitVec 44) (out : CxlResult) (s : State) : Host.Outcome State Fault Refusal :=
  run (fun s => s.doRefetch addr.toNat out) s

/-- MIGRATION_START (R243). -/
def execMigrationStart (p : Part) (s : State) : Host.Outcome State Fault Refusal := work (fun s => s.doMigration p.val) s

/-- FILL_PAGE_COMPLETE (R243). -/
def execFillPageComplete (p : Part) (entry : W16) (out : CxlResult) (s : State) : Host.Outcome State Fault Refusal :=
  work (fun s => s.doFillPage p.val entry.toNat out) s

/-- STORE_PAGE_COMPLETE (R244). -/
def execStorePageComplete (p : Part) (entry : W16) (s : State) : Host.Outcome State Fault Refusal :=
  work (fun s => s.doStorePage p.val entry.toNat) s

/-- CXL_READ_COMPLETE (R249). -/
def execCxlReadComplete (addr : BitVec 44) (reader : CxlReader) (out : CxlResult) (s : State) : Host.Outcome State Fault Refusal :=
  run (fun s => s.doCxlRead addr.toNat reader out) s

/-- CXL_LINK_LOSS (R249). -/
def execCxlLinkLoss (port : Fin 2) (s : State) : Host.Outcome State Fault Refusal := run (fun s => s.doCxlLoss port.val) s

/-- CXL_IO_ACCESS: a read or a write of CXL_IO_DATA, with what the far end answers (Table 10.9). -/
def execCxlIoAccess (r : Req) (port : Fin 2) (wr : Option W32) (res : IoResult) (s : State) : Host.Outcome State Fault Refusal :=
  run (fun s =>
    let env : Env := { Env.none with io := res }
    match wr with
    | some v => s.askWrite r (regKey (Pg.cxl port.val) Reg.cxlIoData) v env
    | none => s.askRead r (regKey (Pg.cxl port.val) Reg.cxlIoData) env) s

/-- GDDR7_HOT (R237). -/
def execGddr7Hot (gmc : Fin 32) (temp : Int) (s : State) : Host.Outcome State Fault Refusal := run (fun s => s.doHot gmc.val temp) s

/-- IDE_ACTIVE_LOST (R387). -/
def execIdeActiveLost (port : Fin 2) (s : State) : Host.Outcome State Fault Refusal := run (fun s => s.doIdeLost port.val) s

end Sys2Proof.Machine
end

