-- ==== Sys2Proof/Machine/ExecPages.lean ====
section
/-! DEFINITION. The meanings of the commands of Register Pages and Block Control (R23 to R39). -/
namespace Sys2Proof.Machine

/-- CFG_RD (R24). -/
def execCfgRd (r : Req) (addr : BitVec 24) (s : State) : Host.Outcome State Fault Refusal :=
  run (fun s => s.doCfgRd r addr.toNat) s

/-- CFG_WR (R24). -/
def execCfgWr (r : Req) (addr : BitVec 24) (data : W32) (s : State) : Host.Outcome State Fault Refusal :=
  run (fun s => s.doCfgWr r addr.toNat data) s

/-- PAGE_ENABLE: a write of PG_CTRL with EN 1 (R36). -/
def execPageEnable (r : Req) (page : BitVec 12) (halt : Bool) (s : State) : Host.Outcome State Fault Refusal :=
  run (fun s => s.regSet r page.toNat 0x008 (w32 (4 * halt.toNat + 1))) s

/-- PAGE_DISABLE: a write of PG_CTRL with EN 0 (R36). -/
def execPageDisable (r : Req) (page : BitVec 12) (halt : Bool) (s : State) : Host.Outcome State Fault Refusal :=
  run (fun s => s.regSet r page.toNat 0x008 (w32 (4 * halt.toNat))) s

/-- PAGE_HALT: a write of PG_CTRL.HALT (R39). -/
def execPageHalt (r : Req) (page : BitVec 12) (en halt : Bool) (s : State) : Host.Outcome State Fault Refusal :=
  run (fun s => s.regSet r page.toNat 0x008 (w32 (4 * halt.toNat + en.toNat))) s

/-- PAGE_SOFT_RESET: a write of PG_CTRL.SRST, with the outcome of a quarantined page's self-test (R35, R37). -/
def execPageSoftReset (r : Req) (page : BitVec 12) (bist : TestResult) (s : State) : Host.Outcome State Fault Refusal :=
  run (fun s => s.askWrite r (regKey page.toNat 0x008) 2 ⟨bist, ⟨0, 0⟩⟩) s

/-- START_SEQUENCE_COMPLETE (R36, R38). -/
def execStartSequenceComplete (page : BitVec 12) (res : TestResult) (s : State) : Host.Outcome State Fault Refusal :=
  run (fun s => s.doStartComplete page.toNat res) s

/-- STOP_SEQUENCE_COMPLETE (R36). -/
def execStopSequenceComplete (page : BitVec 12) (s : State) : Host.Outcome State Fault Refusal :=
  run (fun s => s.doStopComplete page.toNat) s

/-- START_TIMEOUT (R38). -/
def execStartTimeout (page : BitVec 12) (s : State) : Host.Outcome State Fault Refusal :=
  run (fun s => s.doStartTimeout page.toNat) s

/-- STOP_TIMEOUT (R38). -/
def execStopTimeout (page : BitVec 12) (s : State) : Host.Outcome State Fault Refusal :=
  run (fun s => s.doStopTimeout page.toNat) s

/-- SNAPSHOT_TAKE: a write of PG_SNAP.TAKE (R34). -/
def execSnapshotTake (r : Req) (page : BitVec 12) (s : State) : Host.Outcome State Fault Refusal :=
  run (fun s => s.regSet r page.toNat 0x028 1) s

/-- SNAPSHOT_COMPLETE (R34). -/
def execSnapshotComplete (page : BitVec 12) (s : State) : Host.Outcome State Fault Refusal :=
  run (fun s => s.doSnapComplete page.toNat) s

/-- ERROR_COUNT_CLEAR: a write of PG_ERR_CNT (R33). -/
def execErrorCountClear (r : Req) (page : BitVec 12) (data : W32) (s : State) : Host.Outcome State Fault Refusal :=
  run (fun s => s.regSet r page.toNat 0x01C data) s

/-- EVENT: a block event sets its status bit (R32). Reserved positions of PG_IRQ_STAT hold none. -/
def execEvent (page : BitVec 12) (bit : Fin 32) (s : State) : Host.Outcome State Fault Refusal :=
  run (fun s => if (rowOf page.toNat).isSome ∧ (bit.val < 4 ∨ 16 ≤ bit.val) then s.irq page.toNat bit.val else s) s

end Sys2Proof.Machine
end

