-- ==== Sys2Proof/Machine/ExecPorts.lean ====
section
/-! DEFINITION. The meanings of the commands of the optical engines and the control ports (R327 to R350), and of
attestation and sessions (R392, R393). -/
namespace Sys2Proof.Machine

/-- LASER_SAMPLE (R329, R330). -/
def execLaserSample (eng : Fin 12) (power : Int) (s : State) : Host.Outcome State Fault Refusal :=
  run (fun s => s.doLaserSample eng.val power) s

/-- LANE_FAIL (R335). -/
def execLaneFail (eng : Fin 12) (lane : Fin 9) (degraded : Bool) (s : State) : Host.Outcome State Fault Refusal :=
  run (fun s => s.doLaneFail eng.val lane.val degraded) s

/-- OPE_SWAP: a write of OPE_SWAP (R335, R336). -/
def execOpeSwap (r : Req) (eng : Fin 12) (data : W32) (s : State) : Host.Outcome State Fault Refusal :=
  run (fun s => s.regSet r (Pg.ope eng.val) Reg.opeSwap data) s

/-- SWAP: a SWAP control unit arrives (R336, R337). -/
def execSwap (eng : Fin 12) (kind : SwapKind) (logical : Fin 8) (spare : Fin 9) (s : State) : Host.Outcome State Fault Refusal :=
  run (fun s => s.doSwap eng.val kind logical.val spare.val) s

/-- LANE_ALIGN (R333, R336). -/
def execLaneAlign (eng : Fin 12) (lane : Fin 9) (s : State) : Host.Outcome State Fault Refusal :=
  run (fun s => s.doLaneAlign eng.val lane.val) s

/-- CONTROL_FLIT (R344). -/
def execControlFlit (port : Fin 4) (flit : BitVec 512) (s : State) : Host.Outcome State Fault Refusal :=
  run (fun s => s.doControlFlit port.val flit) s

/-- CONTROL_LINK_LOSS (R344). -/
def execControlLinkLoss (port : Fin 4) (s : State) : Host.Outcome State Fault Refusal := run (fun s => s.doControlLoss port.val) s

/-- MEM_RD (R346). -/
def execMemRd (r : Req) (addr : W64) (len : W32) (s : State) : Host.Outcome State Fault Refusal :=
  run (fun s => s.doMemRd r addr len) s

/-- MEM_WR (R346). -/
def execMemWr (r : Req) (addr : W64) (data : List Byte) (s : State) : Host.Outcome State Fault Refusal :=
  run (fun s => s.doMemWr r addr data) s

/-- FW_LOAD (R384). -/
def execFwLoad (r : Req) (off : W32) (data : List Byte) (last : Bool) (s : State) : Host.Outcome State Fault Refusal :=
  run (fun s => s.doFwLoad r off data last) s

/-- HEARTBEAT, of the node (R349). -/
def execHeartbeat (r : Req) (s : State) : Host.Outcome State Fault Refusal := run (fun s => s.doHeartbeat r) s

/-- HEARTBEAT_TIMER (R349). -/
def execHeartbeatTimer (port : Fin 4) (s : State) : Host.Outcome State Fault Refusal := run (fun s => s.doHbTimer port.val) s

/-- NODE_SILENT (R349). -/
def execNodeSilent (port : Fin 4) (s : State) : Host.Outcome State Fault Refusal := run (fun s => s.doNodeSilent port.val) s

/-- GET_KEY: ATTEST with SUB 0 (R392). -/
def execGetKey (r : Req) (s : State) : Host.Outcome State Fault Refusal := run (fun s => s.doHeldReq (.getKey r)) s

/-- REPORT: ATTEST with SUB 1 (R392). -/
def execReport (r : Req) (nonce : BitVec 256) (s : State) : Host.Outcome State Fault Refusal :=
  run (fun s => s.doHeldReq (.report r nonce)) s

/-- SESSION_START: SESSION with SUB 0 (R393). -/
def execSessionStart (r : Req) (nodeKey : BitVec 776) (nonce : BitVec 256) (s : State) : Host.Outcome State Fault Refusal :=
  run (fun s => s.doHeldReq (.sessionStart r nodeKey nonce)) s

/-- SESSION_END: SESSION with SUB 1 (R393). -/
def execSessionEnd (r : Req) (s : State) : Host.Outcome State Fault Refusal := run (fun s => s.doHeldReq (.sessionEnd r)) s

end Sys2Proof.Machine
end

