-- ==== Sys2Proof/Machine/ExecPower.lean ====
section
/-! DEFINITION. The meanings of the commands of power, clocks, reset and start-up (R407 to R426) and of the service
bus (R432 to R434). -/
namespace Sys2Proof.Machine

/-- UNDERVOLT (R409). -/
def execUndervolt (millivolts : Nat) (s : State) : Host.Outcome State Fault Refusal :=
  run (fun s => s.doUndervolt millivolts) s

/-- SUPPLY_FAIL (R409). -/
def execSupplyFail (millivolts : Nat) (s : State) : Host.Outcome State Fault Refusal :=
  always (fun s => s.doSupplyFail millivolts) s

/-- PLL_UNLOCK (R410). -/
def execPllUnlock (bit : Fin 32) (s : State) : Host.Outcome State Fault Refusal := run (fun s => s.doPllUnlock bit.val) s

/-- THROTTLE (R411). -/
def execThrottle (die : Fin 2) (tj : Int) (p10 : Nat) (s : State) : Host.Outcome State Fault Refusal :=
  run (fun s => s.doThrottle die.val tj p10) s

/-- PEAK_LIMIT (R412). -/
def execPeakLimit (watts : Nat) (s : State) : Host.Outcome State Fault Refusal := run (fun s => s.doPeak watts) s

/-- PEAK_LIMIT_RELEASE (R412). -/
def execPeakLimitRelease (watts : Nat) (s : State) : Host.Outcome State Fault Refusal := run (fun s => s.doPeakRelease watts) s

/-- TEMP_SAMPLE (R413). -/
def execTempSample (east west fabric : Int) (s : State) : Host.Outcome State Fault Refusal :=
  always (fun s => s.doTempSample east west fabric) s

/-- ALERT_IBI_RETRY (R434). -/
def execAlertIbiRetry (acked : Bool) (s : State) : Host.Outcome State Fault Refusal := always (fun s => s.doIbiRetry acked) s

/-- POWER_STATE_REQUEST: a write of PWR_CMD with GO (R415). -/
def execPowerStateRequest (r : Req) (target : BitVec 2) (s : State) : Host.Outcome State Fault Refusal :=
  run (fun s => s.regSet r Pg.pwr Reg.pwrCmd (w32 (at_ 8 1 + target.toNat))) s

/-- STATE_DONE (R415, R417). -/
def execStateDone (s : State) : Host.Outcome State Fault Refusal := run (fun s => s.doStateDone) s

/-- A1_WAKE (R416). -/
def execA1Wake (s : State) : Host.Outcome State Fault Refusal := run (fun s => s.doA1Wake) s

/-- POWER_ON (R418, R422). -/
def execPowerOn (millivolts : Nat) (s : State) : Host.Outcome State Fault Refusal :=
  always (fun s => s.doPowerOn millivolts) s

/-- DEVRST: a write of PWR_CMD with DEVRST and a key (R418). -/
def execDevrst (r : Req) (key : Byte) (s : State) : Host.Outcome State Fault Refusal :=
  run (fun s => s.regSet r Pg.pwr Reg.pwrCmd (w32 (at_ 31 1 + at_ 16 key.toNat))) s

/-- RST_N_ASSERT (R418, R419). -/
def execRstNAssert (s : State) : Host.Outcome State Fault Refusal := always (fun s => s.doRstAssert) s

/-- RST_N_RELEASE (R418, R419). -/
def execRstNRelease (s : State) : Host.Outcome State Fault Refusal := always (fun s => s.doRstRelease) s

/-- PFW (R420). -/
def execPfw (s : State) : Host.Outcome State Fault Refusal := run (fun s => s.doPfw) s

/-- PFW_RELEASE (R421). -/
def execPfwRelease (s : State) : Host.Outcome State Fault Refusal := always (fun s => s.setPwr (fun x => { x with pfwIn := false })) s

/-- STARTUP_STEP (R422, R423). -/
def execStartupStep (tests : List PageTest) (s : State) : Host.Outcome State Fault Refusal := run (fun s => s.doStartupStep tests) s

/-- BOOT_GO: a write of PWR_BOOT (R423). -/
def execBootGo (r : Req) (data : W32) (s : State) : Host.Outcome State Fault Refusal :=
  run (fun s => s.regSet r Pg.pwr Reg.pwrBoot data) s

/-- CTP_START_RETRY (R423). -/
def execCtpStartRetry (port : Fin 4) (s : State) : Host.Outcome State Fault Refusal := run (fun s => s.doCtpRetry port.val) s

/-- SETDASA (R432). -/
def execSetdasa (addr : BitVec 7) (s : State) : Host.Outcome State Fault Refusal := always (fun s => s.assignAddr addr) s

/-- ENTDAA (R432). -/
def execEntdaa (addr : BitVec 7) (s : State) : Host.Outcome State Fault Refusal := always (fun s => s.assignAddr addr) s

/-- SERVICE_BUS_READ (R432, R433). -/
def execServiceBusRead (s : State) : Host.Outcome State Fault Refusal := always (fun s => s.doSvcRead) s

/-- SERVICE_BUS_WRITE (R432, R433). -/
def execServiceBusWrite (index : Byte) (data : List Byte) (s : State) : Host.Outcome State Fault Refusal :=
  always (fun s => s.doSvcWrite index data) s

end Sys2Proof.Machine
end

