-- ==== Sys2Proof/Machine/ExecRemote.lean ====
section
/-! DEFINITION. The meanings of the commands of remote memory and the gateway (R288 to R302). -/
namespace Sys2Proof.Machine

/-- REMOTE_ENTRY_START (R290). -/
def execRemoteEntryStart (eng : Fin 16) (s : State) : Host.Outcome State Fault Refusal := work (fun s => s.doEntryStart eng.val) s

/-- REMOTE_REQUEST (R293). -/
def execRemoteRequest (pkt : Packet) (s : State) : Host.Outcome State Fault Refusal := work (fun s => s.doRemoteRequest pkt) s

/-- REMOTE_RESPONSE (R295). -/
def execRemoteResponse (pkt : Packet) (s : State) : Host.Outcome State Fault Refusal := work (fun s => s.doRemoteResponse pkt) s

/-- REMOTE_TIMEOUT (R297). -/
def execRemoteTimeout (eng : Fin 16) (slot : BitVec 9) (s : State) : Host.Outcome State Fault Refusal :=
  work (fun s => s.doRemoteTimeout eng.val slot.toNat) s

/-- WINDOW_WRITE: a write of RMO_WENT3 (R291). -/
def execWindowWrite (r : Req) (word3 : W32) (s : State) : Host.Outcome State Fault Refusal :=
  run (fun s => s.regSet r Pg.rmo (Reg.rmoWent 3) word3) s

/-- GATEWAY_HOLD_EXPIRE (R299). -/
def execGatewayHoldExpire (eng : Fin 16) (s : State) : Host.Outcome State Fault Refusal := work (fun s => s.doHoldExpire eng.val) s

/-- GATEWAY_WRITE_FRAGMENT (R300). -/
def execGatewayWriteFragment (pkt : Packet) (s : State) : Host.Outcome State Fault Refusal := work (fun s => s.doGwFragment pkt) s

/-- GATEWAY_SEGMENT_TIMEOUT (R300). -/
def execGatewaySegmentTimeout (eng : Fin 16) (slot : BitVec 9) (s : State) : Host.Outcome State Fault Refusal :=
  work (fun s => s.doSegTimeout eng.val slot.toNat) s

end Sys2Proof.Machine
end

