-- ==== Sys2Proof/Machine/ExecSecurity.lean ====
section
/-! DEFINITION. The meanings of the commands of identity, partitions and debug (R380 to R406). -/
namespace Sys2Proof.Machine

/-- SCRUB: a write of PAR_CMD.SCRUB (R390). -/
def execScrub (r : Req) (p : Part) (s : State) : Host.Outcome State Fault Refusal :=
  run (fun s => s.regSet r (Pg.par p.val) Reg.parCmd 1) s

/-- SCRUB_DONE (R390). -/
def execScrubDone (p : Part) (s : State) : Host.Outcome State Fault Refusal := run (fun s => s.doScrubDone p.val) s

/-- MANAGEMENT_HANDOVER: a write of SEC_MGMT (R385). -/
def execManagementHandover (r : Req) (data : W32) (s : State) : Host.Outcome State Fault Refusal :=
  run (fun s => s.regSet r Pg.sec Reg.secMgmt data) s

/-- SWAP_COMMAND: a write of MGT_CMD.SWAP (R386). -/
def execSwapCommand (r : Req) (s : State) : Host.Outcome State Fault Refusal := run (fun s => s.regSet r Pg.mgt Reg.mgtCmd 1) s

/-- FIRMWARE_SWAP_COMPLETE (R386). -/
def execFirmwareSwapComplete (s : State) : Host.Outcome State Fault Refusal := run (fun s => s.doSwapComplete) s

/-- BUNDLE_OPEN: a write of SEC_BCMD with GO (R400). -/
def execBundleOpen (r : Req) (p : Part) (s : State) : Host.Outcome State Fault Refusal :=
  run (fun s => s.regSet r Pg.sec Reg.secBcmd (w32 (at_ 31 1 + p.val))) s

/-- BUNDLE_OPEN_COMPLETE (R400). -/
def execBundleOpenComplete (s : State) : Host.Outcome State Fault Refusal := run (fun s => s.doBundleDone) s

/-- APPLY: a write of DBG_CMD.APPLY (R401). -/
def execApply (r : Req) (s : State) : Host.Outcome State Fault Refusal := run (fun s => s.regSet r Pg.dbg Reg.dbgCmd 1) s

/-- REVOKE: a write of DBG_CMD.REVOKE (R401). -/
def execRevoke (r : Req) (s : State) : Host.Outcome State Fault Refusal := run (fun s => s.regSet r Pg.dbg Reg.dbgCmd 2) s

/-- DEBUG_EXPIRY (R401). -/
def execDebugExpiry (s : State) : Host.Outcome State Fault Refusal := run (fun s => s.doDebugExpiry) s

/-- DEBUG_ACCESS: a read or a write of DBG_ADATA (R403). -/
def execDebugAccess (r : Req) (wr : Option W32) (s : State) : Host.Outcome State Fault Refusal :=
  run (fun s => match wr with
    | some v => s.regSet r Pg.dbg Reg.dbgAdata v
    | none => s.askRead r (regKey Pg.dbg Reg.dbgAdata) Env.none) s

end Sys2Proof.Machine
end

