-- ==== Sys2Proof/Machine/ExecTime.lean ====
section
/-! DEFINITION. The meanings of the commands of Stream Time, Ingest and Replay (R40 to R67). -/
namespace Sys2Proof.Machine

/-- MARKER_ACCEPT: a marker on the rack reference lane (R42, R342). -/
def execMarkerAccept (m : W64) (src : W16) (crcOk : Bool) (s : State) : Host.Outcome State Fault Refusal :=
  run (fun s => s.doMarker m src crcOk) s

/-- REF_LOSS_TIMEOUT (R41). -/
def execRefLossTimeout (s : State) : Host.Outcome State Fault Refusal := run (fun s => s.doRefLoss) s

/-- HOLDOVER_SERVO (R46). -/
def execHoldoverServo (s : State) : Host.Outcome State Fault Refusal := run (fun s => s.doHoldoverServo) s

/-- REF_EN_WRITE: a write of WST_CTRL (R41). -/
def execRefEnWrite (r : Req) (data : W32) (s : State) : Host.Outcome State Fault Refusal :=
  run (fun s => s.regSet r Pg.wst Reg.wstCtrl data) s

/-- WAYSTONE_COPY_CORRECT (R15). -/
def execWaystoneCopyCorrect (die : Fin 2) (s : State) : Host.Outcome State Fault Refusal :=
  run (fun s => s.doCopyCorrect die.val) s

/-- TIMING_EXCHANGE (R44). -/
def execTimingExchange (port : Fin 8) (s : State) : Host.Outcome State Fault Refusal :=
  run (fun s => s.doTimingExchange port.val) s

/-- TIMING_REQUEST (R44). -/
def execTimingRequest (port : Fin 8) (xnum : W16) (s : State) : Host.Outcome State Fault Refusal :=
  run (fun s => s.doTimingRequest port.val xnum) s

/-- TIMING_REPLY (R44, R45). -/
def execTimingReply (port : Fin 8) (mode : BitVec 3) (t2 t3 : W64) (xnum : W16) (s : State) : Host.Outcome State Fault Refusal :=
  run (fun s => s.doTimingReply port.val mode t2 t3 xnum) s

/-- STREAM_DESCRIPTOR_WRITE: a write of STR_DWIN (R50, R51). -/
def execStreamDescriptorWrite (r : Req) (word : Fin 32) (data : W32) (s : State) : Host.Outcome State Fault Refusal :=
  run (fun s => s.regSet r Pg.str (Reg.strDwin word.val) data) s

/-- STR_DSEL_WRITE (R50). -/
def execStrDselWrite (r : Req) (data : W32) (s : State) : Host.Outcome State Fault Refusal :=
  run (fun s => s.regSet r Pg.str Reg.strDsel data) s

/-- ARM: a write of STR_CMD (R52). -/
def execArm (r : Req) (stream : BitVec 13) (s : State) : Host.Outcome State Fault Refusal :=
  run (fun s => s.regSet r Pg.str Reg.strCmd (w32 (at_ 16 1 + stream.toNat))) s

/-- CLOSE: a write of STR_CMD (R52). -/
def execClose (r : Req) (stream : BitVec 13) (s : State) : Host.Outcome State Fault Refusal :=
  run (fun s => s.regSet r Pg.str Reg.strCmd (w32 (at_ 16 2 + stream.toNat))) s

/-- REPLAY: a write of STR_CMD (R66). -/
def execReplay (r : Req) (stream : BitVec 13) (s : State) : Host.Outcome State Fault Refusal :=
  run (fun s => s.regSet r Pg.str Reg.strCmd (w32 (at_ 16 3 + stream.toNat))) s

/-- RESYNC: a write of STR_CMD (R52). -/
def execResync (r : Req) (stream : BitVec 13) (s : State) : Host.Outcome State Fault Refusal :=
  run (fun s => s.regSet r Pg.str Reg.strCmd (w32 (at_ 16 4 + stream.toNat))) s

/-- STREAM_EVENT_POP: a write of STR_EVPOPp (Table 3.8). -/
def execStreamEventPop (r : Req) (p : Part) (s : State) : Host.Outcome State Fault Refusal :=
  run (fun s => s.regSet r Pg.str (Reg.strEvpopp p.val) 1) s

/-- STREAM_ORIGIN (Table 3.4). -/
def execStreamOrigin (stream : BitVec 13) (s : State) : Host.Outcome State Fault Refusal :=
  run (fun s => s.doOrigin stream.toNat) s

/-- FRAME_FRAGMENT (R56, R59). -/
def execFrameFragment (pkt : Packet) (s : State) : Host.Outcome State Fault Refusal := run (fun s => s.doFragment pkt) s

/-- FRAME_REASSEMBLY_TIMEOUT (R56). -/
def execFrameReassemblyTimeout (stream : BitVec 13) (seq : W32) (s : State) : Host.Outcome State Fault Refusal :=
  run (fun s => s.doReassemblyTimeout stream.toNat seq) s

/-- STREAM_TICK (R54, R61). -/
def execStreamTick (stream : BitVec 13) (s : State) : Host.Outcome State Fault Refusal :=
  work (fun s => s.doTick stream.toNat) s

/-- BINDING_COMPLETE (R62). -/
def execBindingComplete (p : Part) (s : State) : Host.Outcome State Fault Refusal :=
  work (fun s => s.doBindingComplete p.val) s

/-- STREAM_DEADLINE (R64). -/
def execStreamDeadline (stream : BitVec 13) (step : W32) (s : State) : Host.Outcome State Fault Refusal :=
  run (fun s => s.doDeadline stream.toNat step) s

/-- REPLAY_PRESENT (R66). -/
def execReplayPresent (stream : BitVec 13) (s : State) : Host.Outcome State Fault Refusal :=
  work (fun s => s.doPresent stream.toNat) s

/-- STREAM_CLOSE_COMPLETE (Table 3.4). -/
def execStreamCloseComplete (stream : BitVec 13) (s : State) : Host.Outcome State Fault Refusal :=
  run (fun s => s.doCloseComplete stream.toNat) s

end Sys2Proof.Machine
end

