-- ==== Sys2Proof/Machine/Dispatch.lean ====
section
/-! DEFINITION. One arm for each command: a direct call of its meaning. -/
namespace Sys2Proof.Machine

/-- The effect of a command on everything but the queue. -/
def exec (i : Instr) (s : State) : Host.Outcome State Fault Refusal :=
  match i with
  | .cfgRd r addr => Sys2Proof.Machine.execCfgRd r addr s
  | .cfgWr r addr data => Sys2Proof.Machine.execCfgWr r addr data s
  | .pageEnable r page halt => Sys2Proof.Machine.execPageEnable r page halt s
  | .pageDisable r page halt => Sys2Proof.Machine.execPageDisable r page halt s
  | .pageHalt r page en halt => Sys2Proof.Machine.execPageHalt r page en halt s
  | .pageSoftReset r page bist => Sys2Proof.Machine.execPageSoftReset r page bist s
  | .startSequenceComplete page res => Sys2Proof.Machine.execStartSequenceComplete page res s
  | .stopSequenceComplete page => Sys2Proof.Machine.execStopSequenceComplete page s
  | .startTimeout page => Sys2Proof.Machine.execStartTimeout page s
  | .stopTimeout page => Sys2Proof.Machine.execStopTimeout page s
  | .snapshotTake r page => Sys2Proof.Machine.execSnapshotTake r page s
  | .snapshotComplete page => Sys2Proof.Machine.execSnapshotComplete page s
  | .errorCountClear r page data => Sys2Proof.Machine.execErrorCountClear r page data s
  | .event page bit => Sys2Proof.Machine.execEvent page bit s
  | .markerAccept m src crcOk => Sys2Proof.Machine.execMarkerAccept m src crcOk s
  | .refLossTimeout => Sys2Proof.Machine.execRefLossTimeout s
  | .holdoverServo => Sys2Proof.Machine.execHoldoverServo s
  | .refEnWrite r data => Sys2Proof.Machine.execRefEnWrite r data s
  | .waystoneCopyCorrect die => Sys2Proof.Machine.execWaystoneCopyCorrect die s
  | .timingExchange port => Sys2Proof.Machine.execTimingExchange port s
  | .timingRequest port xnum => Sys2Proof.Machine.execTimingRequest port xnum s
  | .timingReply port mode t2 t3 xnum => Sys2Proof.Machine.execTimingReply port mode t2 t3 xnum s
  | .streamDescriptorWrite r word data => Sys2Proof.Machine.execStreamDescriptorWrite r word data s
  | .strDselWrite r data => Sys2Proof.Machine.execStrDselWrite r data s
  | .arm r stream => Sys2Proof.Machine.execArm r stream s
  | .close r stream => Sys2Proof.Machine.execClose r stream s
  | .replay r stream => Sys2Proof.Machine.execReplay r stream s
  | .resync r stream => Sys2Proof.Machine.execResync r stream s
  | .streamEventPop r p => Sys2Proof.Machine.execStreamEventPop r p s
  | .streamOrigin stream => Sys2Proof.Machine.execStreamOrigin stream s
  | .frameFragment pkt => Sys2Proof.Machine.execFrameFragment pkt s
  | .frameReassemblyTimeout stream seq => Sys2Proof.Machine.execFrameReassemblyTimeout stream seq s
  | .streamTick stream => Sys2Proof.Machine.execStreamTick stream s
  | .bindingComplete p => Sys2Proof.Machine.execBindingComplete p s
  | .streamDeadline stream step => Sys2Proof.Machine.execStreamDeadline stream step s
  | .replayPresent stream => Sys2Proof.Machine.execReplayPresent stream s
  | .streamCloseComplete stream => Sys2Proof.Machine.execStreamCloseComplete stream s
  | .launchSet r slot entry => Sys2Proof.Machine.execLaunchSet r slot entry s
  | .launchWindowWrite r word3 => Sys2Proof.Machine.execLaunchWindowWrite r word3 s
  | .launchDue slot => Sys2Proof.Machine.execLaunchDue slot s
  | .deferredLaunch p => Sys2Proof.Machine.execDeferredLaunch p s
  | .taskIssue p => Sys2Proof.Machine.execTaskIssue p s
  | .taskComplete core => Sys2Proof.Machine.execTaskComplete core s
  | .graphComplete p background => Sys2Proof.Machine.execGraphComplete p background s
  | .graphLimit p background => Sys2Proof.Machine.execGraphLimit p background s
  | .partitionReset r p => Sys2Proof.Machine.execPartitionReset r p s
  | .partitionResetComplete p => Sys2Proof.Machine.execPartitionResetComplete p s
  | .laneGrant unit lane => Sys2Proof.Machine.execLaneGrant unit lane s
  | .tokenSelect unit lane => Sys2Proof.Machine.execTokenSelect unit lane s
  | .weightFetchComplete unit lane => Sys2Proof.Machine.execWeightFetchComplete unit lane s
  | .bankLoadComplete unit readErr => Sys2Proof.Machine.execBankLoadComplete unit readErr s
  | .bankSwitch unit => Sys2Proof.Machine.execBankSwitch unit s
  | .inv r unit => Sys2Proof.Machine.execInv r unit s
  | .loadHint pkt => Sys2Proof.Machine.execLoadHint pkt s
  | .droverParity unit => Sys2Proof.Machine.execDroverParity unit s
  | .convoyDispatchRecord unit => Sys2Proof.Machine.execConvoyDispatchRecord unit s
  | .convoyTokenRecord unit => Sys2Proof.Machine.execConvoyTokenRecord unit s
  | .convoyEndRecord unit => Sys2Proof.Machine.execConvoyEndRecord unit s
  | .closeSend ctx => Sys2Proof.Machine.execCloseSend ctx s
  | .seraiDispatchBale pkt => Sys2Proof.Machine.execSeraiDispatchBale pkt s
  | .seraiCloseBale pkt => Sys2Proof.Machine.execSeraiCloseBale pkt s
  | .queueTimeout queue next => Sys2Proof.Machine.execQueueTimeout queue next s
  | .returnBale pkt => Sys2Proof.Machine.execReturnBale pkt s
  | .ackSend coord eng man => Sys2Proof.Machine.execAckSend coord eng man s
  | .ackBale pkt => Sys2Proof.Machine.execAckBale pkt s
  | .manifestTimeout unit man => Sys2Proof.Machine.execManifestTimeout unit man s
  | .ledgerAlloc r data => Sys2Proof.Machine.execLedgerAlloc r data s
  | .ledgerFree r hi => Sys2Proof.Machine.execLedgerFree r hi s
  | .convoyParity unit => Sys2Proof.Machine.execConvoyParity unit s
  | .seraiParity queue => Sys2Proof.Machine.execSeraiParity queue s
  | .ledgerParity => Sys2Proof.Machine.execLedgerParity s
  | .passCheck core array mismatch => Sys2Proof.Machine.execPassCheck core array mismatch s
  | .range core => Sys2Proof.Machine.execRange core s
  | .scratchpadParity core => Sys2Proof.Machine.execScratchpadParity core s
  | .halfRemove r hi => Sys2Proof.Machine.execHalfRemove r hi s
  | .edcError gmc out => Sys2Proof.Machine.execEdcError gmc out s
  | .refresh gmc => Sys2Proof.Machine.execRefresh gmc s
  | .detectionFailure addr secondFails reader => Sys2Proof.Machine.execDetectionFailure addr secondFails reader s
  | .refetchComplete addr out => Sys2Proof.Machine.execRefetchComplete addr out s
  | .migrationStart p => Sys2Proof.Machine.execMigrationStart p s
  | .fillPageComplete p entry out => Sys2Proof.Machine.execFillPageComplete p entry out s
  | .cxlReadComplete addr reader out => Sys2Proof.Machine.execCxlReadComplete addr reader out s
  | .cxlLinkLoss port => Sys2Proof.Machine.execCxlLinkLoss port s
  | .cxlIoAccess r port wr res => Sys2Proof.Machine.execCxlIoAccess r port wr res s
  | .packetInject p pkt => Sys2Proof.Machine.execPacketInject p pkt s
  | .packetReceive input pkt => Sys2Proof.Machine.execPacketReceive input pkt s
  | .packetForward input vc => Sys2Proof.Machine.execPacketForward input vc s
  | .escapeTimeout input vc => Sys2Proof.Machine.execEscapeTimeout input vc s
  | .stallWatchdog input vc => Sys2Proof.Machine.execStallWatchdog input vc s
  | .flitGroupSend port => Sys2Proof.Machine.execFlitGroupSend port s
  | .flitGroupReceive port grp => Sys2Proof.Machine.execFlitGroupReceive port grp s
  | .linkLost port cause => Sys2Proof.Machine.execLinkLost port cause s
  | .routerNotice input pkt => Sys2Proof.Machine.execRouterNotice input pkt s
  | .reinjectWaitTimeout port => Sys2Proof.Machine.execReinjectWaitTimeout port s
  | .epochArm r fclr => Sys2Proof.Machine.execEpochArm r fclr s
  | .epochDisarm r => Sys2Proof.Machine.execEpochDisarm r s
  | .epochSwitch => Sys2Proof.Machine.execEpochSwitch s
  | .overrideWrite r word3 => Sys2Proof.Machine.execOverrideWrite r word3 s
  | .faultClear r data => Sys2Proof.Machine.execFaultClear r data s
  | .spineFrameReceive port frame => Sys2Proof.Machine.execSpineFrameReceive port frame s
  | .spineLinkDown port => Sys2Proof.Machine.execSpineLinkDown port s
  | .linkTrained port info => Sys2Proof.Machine.execLinkTrained port info s
  | .remoteEntryStart eng => Sys2Proof.Machine.execRemoteEntryStart eng s
  | .remoteRequest pkt => Sys2Proof.Machine.execRemoteRequest pkt s
  | .remoteResponse pkt => Sys2Proof.Machine.execRemoteResponse pkt s
  | .remoteTimeout eng slot => Sys2Proof.Machine.execRemoteTimeout eng slot s
  | .windowWrite r word3 => Sys2Proof.Machine.execWindowWrite r word3 s
  | .gatewayHoldExpire eng => Sys2Proof.Machine.execGatewayHoldExpire eng s
  | .gatewayWriteFragment pkt => Sys2Proof.Machine.execGatewayWriteFragment pkt s
  | .gatewaySegmentTimeout eng slot => Sys2Proof.Machine.execGatewaySegmentTimeout eng slot s
  | .tollgateUp pkt => Sys2Proof.Machine.execTollgateUp pkt s
  | .tollgateDown pkt => Sys2Proof.Machine.execTollgateDown pkt s
  | .tollgateSlotTimeout slot => Sys2Proof.Machine.execTollgateSlotTimeout slot s
  | .opTimeout group step opidx => Sys2Proof.Machine.execOpTimeout group step opidx s
  | .twinDigest pkt => Sys2Proof.Machine.execTwinDigest pkt s
  | .twinMissing p => Sys2Proof.Machine.execTwinMissing p s
  | .collStart core => Sys2Proof.Machine.execCollStart core s
  | .colKick r hi => Sys2Proof.Machine.execColKick r hi s
  | .chunkReceive pkt => Sys2Proof.Machine.execChunkReceive pkt s
  | .chunkNak pkt => Sys2Proof.Machine.execChunkNak pkt s
  | .collectiveTimeout ctx => Sys2Proof.Machine.execCollectiveTimeout ctx s
  | .broadcastChunk pkt => Sys2Proof.Machine.execBroadcastChunk pkt s
  | .broadcastEnd pkt => Sys2Proof.Machine.execBroadcastEnd pkt s
  | .broadcastRoundTimeout ctx => Sys2Proof.Machine.execBroadcastRoundTimeout ctx s
  | .resume r data => Sys2Proof.Machine.execResume r data s
  | .broadcastResumeTimeout ctx => Sys2Proof.Machine.execBroadcastResumeTimeout ctx s
  | .laserSample eng power => Sys2Proof.Machine.execLaserSample eng power s
  | .laneFail eng lane degraded => Sys2Proof.Machine.execLaneFail eng lane degraded s
  | .opeSwap r eng data => Sys2Proof.Machine.execOpeSwap r eng data s
  | .swap eng kind logical spare => Sys2Proof.Machine.execSwap eng kind logical spare s
  | .controlFlit port flit => Sys2Proof.Machine.execControlFlit port flit s
  | .controlLinkLoss port => Sys2Proof.Machine.execControlLinkLoss port s
  | .memRd r addr len => Sys2Proof.Machine.execMemRd r addr len s
  | .memWr r addr data => Sys2Proof.Machine.execMemWr r addr data s
  | .fwLoad r off data last => Sys2Proof.Machine.execFwLoad r off data last s
  | .heartbeat r => Sys2Proof.Machine.execHeartbeat r s
  | .heartbeatTimer port => Sys2Proof.Machine.execHeartbeatTimer port s
  | .nodeSilent port => Sys2Proof.Machine.execNodeSilent port s
  | .getKey r => Sys2Proof.Machine.execGetKey r s
  | .report r nonce => Sys2Proof.Machine.execReport r nonce s
  | .sessionStart r nodeKey nonce => Sys2Proof.Machine.execSessionStart r nodeKey nonce s
  | .sessionEnd r => Sys2Proof.Machine.execSessionEnd r s
  | .suspectExpire entry => Sys2Proof.Machine.execSuspectExpire entry s
  | .suspectClear r data => Sys2Proof.Machine.execSuspectClear r data s
  | .aggregationRound => Sys2Proof.Machine.execAggregationRound s
  | .aggregationChildWait step opidx => Sys2Proof.Machine.execAggregationChildWait step opidx s
  | .aggClear r data => Sys2Proof.Machine.execAggClear r data s
  | .abort pkt => Sys2Proof.Machine.execAbort pkt s
  | .recompute p => Sys2Proof.Machine.execRecompute p s
  | .checkpointArm r p step => Sys2Proof.Machine.execCheckpointArm r p step s
  | .ckWrite pkt => Sys2Proof.Machine.execCkWrite pkt s
  | .ckAck pkt => Sys2Proof.Machine.execCkAck pkt s
  | .ckRead pkt => Sys2Proof.Machine.execCkRead pkt s
  | .ckData pkt => Sys2Proof.Machine.execCkData pkt s
  | .checkpointTimeout p => Sys2Proof.Machine.execCheckpointTimeout p s
  | .restore r p => Sys2Proof.Machine.execRestore r p s
  | .restoreAbort r p => Sys2Proof.Machine.execRestoreAbort r p s
  | .scrub r p => Sys2Proof.Machine.execScrub r p s
  | .scrubDone p => Sys2Proof.Machine.execScrubDone p s
  | .managementHandover r data => Sys2Proof.Machine.execManagementHandover r data s
  | .swapCommand r => Sys2Proof.Machine.execSwapCommand r s
  | .firmwareSwapComplete => Sys2Proof.Machine.execFirmwareSwapComplete s
  | .bundleOpen r p => Sys2Proof.Machine.execBundleOpen r p s
  | .bundleOpenComplete => Sys2Proof.Machine.execBundleOpenComplete s
  | .apply r => Sys2Proof.Machine.execApply r s
  | .revoke r => Sys2Proof.Machine.execRevoke r s
  | .debugExpiry => Sys2Proof.Machine.execDebugExpiry s
  | .debugAccess r wr => Sys2Proof.Machine.execDebugAccess r wr s
  | .undervolt millivolts => Sys2Proof.Machine.execUndervolt millivolts s
  | .supplyFail millivolts => Sys2Proof.Machine.execSupplyFail millivolts s
  | .pllUnlock bit => Sys2Proof.Machine.execPllUnlock bit s
  | .throttle die tj p10 => Sys2Proof.Machine.execThrottle die tj p10 s
  | .peakLimit watts => Sys2Proof.Machine.execPeakLimit watts s
  | .tempSample east west fabric => Sys2Proof.Machine.execTempSample east west fabric s
  | .alertIbiRetry acked => Sys2Proof.Machine.execAlertIbiRetry acked s
  | .powerStateRequest r target => Sys2Proof.Machine.execPowerStateRequest r target s
  | .stateDone => Sys2Proof.Machine.execStateDone s
  | .a1Wake => Sys2Proof.Machine.execA1Wake s
  | .powerOn millivolts => Sys2Proof.Machine.execPowerOn millivolts s
  | .devrst r key => Sys2Proof.Machine.execDevrst r key s
  | .rstNAssert => Sys2Proof.Machine.execRstNAssert s
  | .rstNRelease => Sys2Proof.Machine.execRstNRelease s
  | .pfw => Sys2Proof.Machine.execPfw s
  | .pfwRelease => Sys2Proof.Machine.execPfwRelease s
  | .startupStep tests => Sys2Proof.Machine.execStartupStep tests s
  | .bootGo r data => Sys2Proof.Machine.execBootGo r data s
  | .ctpStartRetry port => Sys2Proof.Machine.execCtpStartRetry port s
  | .setdasa addr => Sys2Proof.Machine.execSetdasa addr s
  | .entdaa addr => Sys2Proof.Machine.execEntdaa addr s
  | .serviceBusRead => Sys2Proof.Machine.execServiceBusRead s
  | .serviceBusWrite index data => Sys2Proof.Machine.execServiceBusWrite index data s
  | .peakLimitRelease watts => Sys2Proof.Machine.execPeakLimitRelease watts s
  | .spineLinkUp port => Sys2Proof.Machine.execSpineLinkUp port s
  | .routerParity => Sys2Proof.Machine.execRouterParity s
  | .tollgateSlotParity => Sys2Proof.Machine.execTollgateSlotParity s
  | .storePageComplete p entry => Sys2Proof.Machine.execStorePageComplete p entry s
  | .gddr7Hot gmc temp => Sys2Proof.Machine.execGddr7Hot gmc temp s
  | .ideActiveLost port => Sys2Proof.Machine.execIdeActiveLost port s
  | .laneAlign eng lane => Sys2Proof.Machine.execLaneAlign eng lane s

end Sys2Proof.Machine
end

