-- ==== Sys2Proof/Safety.lean ====
section
/-! DEFINITION. What counts as a safe run, and the words the statements use: a step that answers a next state, a
request that its port takes up, a configuration write that reaches its register, and a state after which nothing
more follows. -/
namespace Sys2Proof.Machine

/-! Runs -/

/-- A step answers a next state. -/
def Safe (o : Host.Outcome State Fault Refusal) : Prop := ∃ t, o = .next t

/-- A command that no reset, no Off and no thermal shutdown keeps from its effect: supply and reset pins, temperature
sensors, and the service bus. -/
def unconditional : Instr → Bool
  | .supplyFail _ => true
  | .tempSample _ _ _ => true
  | .alertIbiRetry _ => true
  | .powerOn _ => true
  | .rstNAssert => true
  | .rstNRelease => true
  | .pfwRelease => true
  | .setdasa _ => true
  | .entdaa _ => true
  | .serviceBusRead => true
  | .serviceBusWrite _ _ => true
  | _ => false

/-- A command by which the engines, the scheduler or the memory movers start, carry on or end work; after a power-fail
warning none of that happens (R420). -/
def engineWork : Instr → Bool
  | .streamTick _ => true
  | .bindingComplete _ => true
  | .replayPresent _ => true
  | .deferredLaunch _ => true
  | .taskIssue _ => true
  | .taskComplete _ => true
  | .graphComplete _ _ => true
  | .graphLimit _ _ => true
  | .laneGrant _ _ => true
  | .tokenSelect _ _ => true
  | .weightFetchComplete _ _ => true
  | .bankLoadComplete _ _ => true
  | .bankSwitch _ => true
  | .loadHint _ => true
  | .convoyDispatchRecord _ => true
  | .convoyTokenRecord _ => true
  | .convoyEndRecord _ => true
  | .closeSend _ => true
  | .seraiDispatchBale _ => true
  | .seraiCloseBale _ => true
  | .queueTimeout _ _ => true
  | .returnBale _ => true
  | .ackSend _ _ _ => true
  | .ackBale _ => true
  | .manifestTimeout _ _ => true
  | .passCheck _ _ _ => true
  | .range _ => true
  | .migrationStart _ => true
  | .fillPageComplete _ _ _ => true
  | .remoteEntryStart _ => true
  | .remoteRequest _ => true
  | .remoteResponse _ => true
  | .remoteTimeout _ _ => true
  | .gatewayHoldExpire _ => true
  | .gatewayWriteFragment _ => true
  | .gatewaySegmentTimeout _ _ => true
  | .collStart _ => true
  | .chunkReceive _ => true
  | .chunkNak _ => true
  | .collectiveTimeout _ => true
  | .broadcastChunk _ => true
  | .broadcastEnd _ => true
  | .broadcastRoundTimeout _ => true
  | .broadcastResumeTimeout _ => true
  | .recompute _ => true
  | .ckWrite _ => true
  | .ckAck _ => true
  | .ckRead _ => true
  | .ckData _ => true
  | .checkpointTimeout _ => true
  | .storePageComplete _ _ => true
  | _ => false

/-! Requests of a control port (R346 to R349) -/

/-- The port takes the request up as a new one: it can carry messages, the protection check holds, and MSEQ is the
expected number or the first since the port came ON. -/
def State.takesUp (s : State) (r : Req) (type : Nat) : Bool :=
  s.ctlUp r.port &&
    let t := s.takeMsg r type
    !t.authFails r type && (t.ctlPort r.port).expect.all (fun e => decide (r.mseq = e))

/-- The state in which such a request is carried out: it is received and its number taken. -/
def State.received (s : State) (r : Req) (type : Nat) : State :=
  let t := s.takeMsg r type
  t.setCtlPort r.port { t.ctlPort r.port with expect := some (r.mseq + 1) }

/-- The answer to a new request: its first status is kept, the last number applied is noted, and the response goes
out. -/
def State.replied (s : State) (r : Req) (type : Nat) (k : ReqKind) (a : Resp) : State :=
  let c := s.ctlPort r.port
  let entry := (r.mseq, a.status, if k = .whole then a.data else [])
  let s := s.setCtlPort r.port
    { c with firsts := (entry :: c.firsts.filter (fun x => decide (x.1 ≠ r.mseq))).take 64,
             applied := if a.status < 7 then r.mseq else c.applied }
  (s.answer r type a).countIn r

/-! Configuration accesses (R23 to R29) -/

/-- The state in which a configuration request is carried out: a held _LO word of the port is discarded (R27). -/
def State.begun (s : State) (r : Req) (type : Nat) : State :=
  let t := s.received r type
  { t with holds := t.holds.set none r.port none }

/-- A write of a register at 0x100 or above, not one of a pair, reaches the register: the page is mapped, the port
may write it, it is not locked, its die is powered, and the block's state does not refuse it. -/
def State.granted (u : State) (port pg off : Nat) (v : W32) : Bool :=
  (rowOf pg).isSome && u.mayWrite port pg off v && decide (off % 4 = 0 ∧ 0x100 ≤ off ∧ off < 0x1000) && !isLow pg off
    && !isHigh pg off && !u.lockedReg pg off && !u.dark pg && (regDef pg off).isSome
    && !u.stateRefused (u.isMgmt port) pg off v

/-- A write of a register of the common header reaches it. -/
def State.headerGranted (u : State) (port pg off : Nat) (v : W32) : Bool :=
  (rowOf pg).isSome && u.mayWrite port pg off v && decide (off % 4 = 0 ∧ off < 0x100) && !isLow pg off
    && !isHigh pg off && !u.lockedReg pg off && !u.dark pg

/-- The write of a pair's _HI register reaches the pair in the state t that the write of its _LO leaves: the port's held
word is the pair's _LO (R27), that word is accepted, and neither lock nor state refuses the _HI. -/
def State.pairGranted (s t : State) (r : Req) (pg off : Nat) (lo hi : W32) : Prop :=
  let u := s.begun r 2
  (s.received r 2).holds.get none r.port = some (regKey pg (off - 4), lo) ∧ (rowOf pg).isSome = true ∧
    u.mayWrite r.port pg off hi = true ∧ off % 4 = 0 ∧ 0x104 ≤ off ∧ off < 0x1000 ∧ isLow pg off = false ∧
    isHigh pg off = true ∧ u.regWrite r.port pg (off - 4) lo Env.none = (0, t) ∧ t.lockedReg pg off = false ∧
    t.dark pg = false ∧ (regDef pg off).isSome = true ∧ t.stateRefused (t.isMgmt r.port) pg off hi = false

/-! What a command does: each of these says that exec answers a next state, and which. The hypotheses are on the
state and the operands alone; E is the command's own effect; done adds what follows every command. -/

/-- In a live device, where H holds, the command's own effect is E. -/
def EventDoes (c : Instr) (H : State → Prop) (E : State → State) : Prop :=
  ∀ s : State, s.live = true → H s.hush → exec c s = .next (s.done (E s.hush))

/-- The same of a command of the engines, which need that no power-fail warning holds (R420). -/
def WorkDoes (c : Instr) (H : State → Prop) (E : State → State) : Prop :=
  ∀ s : State, s.live = true → s.pwr.pfw = false → H s.hush → exec c s = .next (s.done (E s.hush))

/-- The same of a command that acts in every power state. -/
def AlwaysDoes (c : Instr) (H : State → Prop) (E : State → State) : Prop :=
  ∀ s : State, H s.hush → exec c s = .next (s.done (E s.hush))

/-- A write of a register at 0x100 or above by a request that its port takes up, where the write reaches the register
and H holds: the register's effect is E, and the request is answered with STATUS st. -/
def WriteDoes (c : Instr) (r : Req) (pg off : Nat) (v : W32) (st : Nat) (H : State → Prop) (E : State → State) : Prop :=
  ∀ s : State, s.live = true → s.hush.takesUp r 2 = true → r.len = 8 →
    (s.hush.begun r 2).granted r.port pg off v = true → H (s.hush.begun r 2) →
      exec c s = .next (s.done ((E (s.hush.begun r 2)).replied r 2 .keep (Resp.of st)))

/-- The same of a register of the common header. -/
def HeaderDoes (c : Instr) (r : Req) (pg off : Nat) (v : W32) (st : Nat) (H : State → Prop) (E : State → State) : Prop :=
  ∀ s : State, s.live = true → s.hush.takesUp r 2 = true → r.len = 8 →
    (s.hush.begun r 2).headerGranted r.port pg off v = true → H (s.hush.begun r 2) →
      exec c s = .next (s.done ((E (s.hush.begun r 2)).replied r 2 .keep (Resp.of st)))

/-- A write of the _HI register of a pair whose _LO word the port holds: both take effect together, E in the state that
the _LO leaves, with STATUS 0. -/
def HighDoes (c : Instr) (r : Req) (pg off : Nat) (lo hi : W32) (H : State → Prop) (E : State → State) : Prop :=
  ∀ s t : State, s.live = true → s.hush.takesUp r 2 = true → r.len = 8 → s.hush.pairGranted t r pg off lo hi → H t →
    exec c s = .next (s.done ((E t).replied r 2 .keep (Resp.of 0)))

/-- The refusal of such a write: the registers stay as they were. -/
def HighRefused (c : Instr) (r : Req) (pg off : Nat) (lo hi : W32) (st : Nat) (H : State → Prop) : Prop :=
  ∀ s t : State, s.live = true → s.hush.takesUp r 2 = true → r.len = 8 → s.hush.pairGranted t r pg off lo hi → H t →
    exec c s = .next (s.done ((s.hush.begun r 2).replied r 2 .keep (Resp.of st)))

/-- Another request that its port takes up: A is its answer and its effect. -/
def RequestDoes (c : Instr) (r : Req) (type : Nat) (k : ReqKind) (H : State → Prop) (A : State → Resp × State) : Prop :=
  ∀ s : State, s.live = true → s.hush.takesUp r type = true → H (s.hush.received r type) →
    exec c s = .next (s.done ((A (s.hush.received r type)).2.replied r type k (A (s.hush.received r type)).1))

/-! Nothing more follows -/

/-- The core holds no task, or its page still lets it work. -/
def State.coreQuiet (s : State) (c : Nat) : Bool := (s.core c).run.isNone || !s.pageDown (Pg.cor c)

/-- The Drover unit and the Convoy engine hold no work, or their pages still let them. -/
def State.unitQuiet (s : State) (n : Nat) : Bool :=
  (!s.pageDown (Pg.drv n) || (List.range 4).all (fun l => (vget (s.drvUnit n).lanes l).core.isNone)) &&
  (!s.pageDown (Pg.cnv n) ||
    ((s.cnvEng n).comb.isEmpty && (s.cnvEng n).tasks.isEmpty && (s.cnvEng n).mans.toList.all (·.isNone)))

/-- The optical engine is ON, or none of its ports carries a link. -/
def State.engineQuiet (s : State) (n : Nat) : Bool :=
  s.isOn (Pg.ope n) ||
    if n < 8 then !(s.isOn (Pg.trp n) && s.torusUp n)
    else if n = 8 then !(s.spine 0).up && !(s.spine 1).up
    else if n < 11 then !s.isOn (Pg.cxl (n - 9))
    else (List.range 4).all (fun k => !(s.isOn (Pg.ctp k) && decide ((s.ctlPort k).link = .up)))

/-- Nothing waits for the Tollgate. -/
def State.tolQuiet (s : State) : Bool := s.tol.results.isEmpty && s.tol.ops.all (fun o => o.startedAt.isSome)

/-- No reset, handover, error, page that has left ON, or Tollgate result waits to take its effect. -/
def State.quiet (s : State) : Bool :=
  !s.pwr.rstReq && s.sec.handover.isNone && s.stops.isEmpty && (List.range 64).all s.coreQuiet
    && (List.range 8).all s.unitQuiet && (List.range 12).all s.engineQuiet && s.tolQuiet

/-- The state after a command whose own effect is t, where nothing follows. -/
def State.plain (s t : State) : State :=
  { t with pending := s.pending, now := s.now, outbox := t.outbox ++ s.outbox, mem := Memory.tidy t.mem }

end Sys2Proof.Machine
end

