-- ==== Sys2Proof/Certificates/Slice0/Obligations.lean ====
section
/-! DEFINITION. The obligations: what the commands of the block and the machine do, stated from the numbered rules of
the spec over every state that meets the hypotheses on the state and the operands alone. A clause of the form
`EventDoes c H E` concludes that exec c answers the next state that E makes, in every state that meets H. -/

open Sys2Proof Sys2Proof.Machine

/-- A page with the state machine that is not ON and not on its way there or from there begins its start sequence when
EN is written 1; ON or STARTING it takes EN; STOPPING it takes EN and starts again once it has stopped; in FAULT and
QUARANTINED the write is answered STATE and changes nothing (R36, Table 2.10). EN written 0: a page that is ON begins
its stop sequence, but a partition with work in progress (STATE); a STOPPING page no longer starts again; any other
keeps its state (R36, R388, Table 2.10). HALT written with EN 1 to a page that is ON: the page stays ON and its HALT
bit takes the written value where the block has one; with PG_CAP.SM 0 only HALT is taken (R39). -/
def Obligations.PagesGoOnAndOff : Prop :=
  (∀ (r : Req) (page : BitVec 12) (halt : Bool), hasSM page.toNat = true →
     let pg := page.toNat
     let v := w32 (4 * halt.toNat + 1)
     HeaderDoes (.pageEnable r page halt) r pg 0x008 v 0
         (fun u => (u.page pg).st = .off ∧ u.startRefused pg = false) (fun u => (u.beginStart pg).haltWrite pg halt) ∧
       HeaderDoes (.pageEnable r page halt) r pg 0x008 v 4
         (fun u => (u.page pg).st = .off ∧ u.startRefused pg = true) (fun u => u) ∧
       HeaderDoes (.pageEnable r page halt) r pg 0x008 v 0
         (fun u => (u.page pg).st = .on ∨ (u.page pg).st = .starting)
         (fun u => (u.setPage pg { u.page pg with en := true }).haltWrite pg halt) ∧
       HeaderDoes (.pageEnable r page halt) r pg 0x008 v 0 (fun u => (u.page pg).st = .stopping)
         (fun u => (u.setPage pg { u.page pg with en := true, reen := true }).haltWrite pg halt) ∧
       HeaderDoes (.pageEnable r page halt) r pg 0x008 v 4
         (fun u => (u.page pg).st = .fault ∨ (u.page pg).st = .quarantined) (fun u => u)) ∧
  (∀ (r : Req) (page : BitVec 12) (halt : Bool), hasSM page.toNat = true →
     let pg := page.toNat
     let v := w32 (4 * halt.toNat)
     HeaderDoes (.pageDisable r page halt) r pg 0x008 v 0
         (fun u => (u.page pg).st = .on ∧ (blkOf pg = .par → (u.partSec (instOf pg)).quiet = true))
         (fun u => ((u.setPage pg { u.page pg with en := false }).enter pg .stopping).haltWrite pg halt) ∧
       HeaderDoes (.pageDisable r page halt) r pg 0x008 v 4
         (fun u => (u.page pg).st = .on ∧ blkOf pg = .par ∧ (u.partSec (instOf pg)).quiet = false) (fun u => u) ∧
       HeaderDoes (.pageDisable r page halt) r pg 0x008 v 0 (fun u => (u.page pg).st = .stopping)
         (fun u => (u.setPage pg { u.page pg with en := false, reen := false }).haltWrite pg halt) ∧
       HeaderDoes (.pageDisable r page halt) r pg 0x008 v 0
         (fun u => (u.page pg).st ≠ .on ∧ (u.page pg).st ≠ .stopping)
         (fun u => (u.setPage pg { u.page pg with en := false }).haltWrite pg halt)) ∧
  (∀ (r : Req) (page : BitVec 12) (halt : Bool),
     let pg := page.toNat
     HeaderDoes (.pageHalt r page true halt) r pg 0x008 (w32 (4 * halt.toNat + 1)) 0
         (fun u => hasSM pg = true ∧ (u.page pg).st = .on ∧ hasHalt (blkOf pg) = true ∧ blkOf pg ≠ .cnv)
         (fun u => (u.setPage pg { u.page pg with en := true }).setPage pg
           { (u.setPage pg { u.page pg with en := true }).page pg with halt := halt }) ∧
       HeaderDoes (.pageHalt r page true halt) r pg 0x008 (w32 (4 * halt.toNat + 1)) 0
         (fun u => hasSM pg = true ∧ (u.page pg).st = .on ∧ hasHalt (blkOf pg) = false)
         (fun u => u.setPage pg { u.page pg with en := true }) ∧
       HeaderDoes (.pageHalt r page false halt) r pg 0x008 (w32 (4 * halt.toNat)) 0
         (fun u => hasSM pg = true ∧ (u.page pg).st = .on ∧ hasHalt (blkOf pg) = false ∧ blkOf pg ≠ .par)
         (fun u => (u.setPage pg { u.page pg with en := false }).enter pg .stopping))

/-- A page soft reset (R35, R37, Table 2.9): from OFF and FAULT the block's work and registers are cleared and the page
is OFF; from ON, STARTING and STOPPING it is answered STATE; a quarantined page is reset by the management port alone,
and only where its self-test passes. -/
def Obligations.PageSoftResetByState : Prop :=
  ∀ (r : Req) (page : BitVec 12) (bist : TestResult) (s : State), hasSM page.toNat = true → s.live = true →
    s.hush.takesUp r 2 = true → r.len = 8 →
    let pg := page.toNat
    let u := s.hush.begun r 2
    u.headerGranted r.port pg 0x008 2 = true →
      ((u.page pg).st = .off ∨ (u.page pg).st = .fault →
        exec (.pageSoftReset r page bist) s = .next (s.done (((((u.srstHook pg).resetRegs pg).setPage pg
          { u.page pg with en := false, halt := false, reen := false, irq := 0, err := 0, errCnt := 0, snapSeq := 0,
                           snapValid := false, snapTake := false }).enter pg .off).replied r 2 .keep (Resp.of 0)))) ∧
      ((u.page pg).st = .on ∨ (u.page pg).st = .starting ∨ (u.page pg).st = .stopping →
        exec (.pageSoftReset r page bist) s = .next (s.done (u.replied r 2 .keep (Resp.of 4)))) ∧
      ((u.page pg).st = .quarantined ∧ u.isMgmt r.port = false →
        exec (.pageSoftReset r page bist) s = .next (s.done (u.replied r 2 .keep (Resp.of 2)))) ∧
      ((u.page pg).st = .quarantined ∧ u.isMgmt r.port = true ∧ blkOf pg ≠ .cor ∧ blkOf pg ≠ .ope ∧
          bist.passed = true →
        exec (.pageSoftReset r page bist) s = .next (s.done ((u.softReset pg).replied r 2 .keep (Resp.of 0)))) ∧
      ((u.page pg).st = .quarantined ∧ u.isMgmt r.port = true ∧ blkOf pg ≠ .cor ∧ blkOf pg ≠ .ope ∧
          bist.passed = false →
        exec (.pageSoftReset r page bist) s = .next (s.done ((u.testFails pg).replied r 2 .keep (Resp.of 0))))

/-- How start and stop sequences end (R37, R38, Table 2.10): a block without an engine and without a start rule of its
own goes ON where its self-test passes and EN is still 1, STOPPING where EN is 0, and to FAULT with class 0b110 where
the test fails; a core passes with at most two failed columns in each array; a stop sequence ends OFF, or in a new
start where EN was written again. The bounds of R38: a start sequence that has outlasted its bound is a start fault,
with code 0x01, or 0x10 of a controller and of a port whose link is not UP; a stop sequence that has outlasted
1,000,000 ticks is an error of class 0b011 with code 0x02 and goes to FAULT. Where an event is not due nothing changes:
the model's choice (log 4). Choices of the model it rests on: log 113. -/
def Obligations.SequencesEndOrTimeOut : Prop :=
  ((∀ (page : BitVec 12) (res : TestResult),
     let pg := page.toNat
     let simple := hasSM pg = true ∧ engineOf pg = none ∧
       blkOf pg ≠ .par ∧ blkOf pg ≠ .cor ∧ blkOf pg ≠ .gmc ∧ blkOf pg ≠ .ope ∧ blkOf pg ≠ .ldg
     EventDoes (.startSequenceComplete page res)
         (fun u => simple ∧ (u.page pg).st = .starting ∧ (u.page pg).en = true ∧ res.passed = true)
         (fun u => u.enter pg .on) ∧
       EventDoes (.startSequenceComplete page res)
         (fun u => simple ∧ (u.page pg).st = .starting ∧ (u.page pg).en = false ∧ res.passed = true)
         (fun u => u.enter pg .stopping) ∧
       EventDoes (.startSequenceComplete page res)
         (fun u => simple ∧ (u.page pg).st = .starting ∧ res.passed = false ∧ selfTestCode (blkOf pg) = some 0x13)
         (fun u => ((u.errorOpen pg Cls.start 0 0x13).trainEnds pg).enter pg .fault) ∧
       EventDoes (.startSequenceComplete page res)
         (fun u => blkOf pg = .cor ∧ hasSM pg = true ∧ (u.page pg).st = .starting ∧ corePasses res = false)
         (fun u => (u.coreTest (instOf pg) res).startFault pg 0x13)) ∧
   (∀ (page : BitVec 12),
     let pg := page.toNat
     let free := blkOf pg ≠ .cor ∧ blkOf pg ≠ .par ∧ blkOf pg ≠ .trp ∧ blkOf pg ≠ .spn ∧ blkOf pg ≠ .cxl ∧
       blkOf pg ≠ .ctp ∧ blkOf pg ≠ .ope ∧ blkOf pg ≠ .tol ∧ blkOf pg ≠ .col
     EventDoes (.stopSequenceComplete page)
         (fun u => free ∧ (u.page pg).st = .stopping ∧ (u.page pg).reen = false) (fun u => u.enter pg .off) ∧
       EventDoes (.stopSequenceComplete page)
         (fun u => free ∧ (u.page pg).st = .stopping ∧ (u.page pg).reen = true) (fun u => u.beginStart pg) ∧
       EventDoes (.stopSequenceComplete page)
         (fun u => blkOf pg = .cor ∧ (u.page pg).st = .stopping ∧ (u.core (instOf pg)).run.isSome = true) (fun u => u))) ∧
  ((∀ (page : BitVec 12),
     let pg := page.toNat
     EventDoes (.startTimeout page)
         (fun u => (u.page pg).st = .starting ∧ (u.page pg).since + startBound (blkOf pg) ≤ u.now ∧ blkOf pg ≠ .gmc ∧
           blkOf pg ≠ .ope ∧ engineOf pg = none)
         (fun u => u.startFault pg 0x01) ∧
       EventDoes (.startTimeout page)
         (fun u => (u.page pg).st = .starting ∧ (u.page pg).since + 3000000000 ≤ u.now ∧ blkOf pg = .gmc)
         (fun u => u.startFault pg 0x10) ∧
       EventDoes (.startTimeout page)
         (fun u => (u.page pg).st = .starting ∧ u.now < (u.page pg).since + startBound (blkOf pg)) (fun u => u)) ∧
   (∀ (page : BitVec 12),
     let pg := page.toNat
     EventDoes (.stopTimeout page)
         (fun u => (u.page pg).st = .stopping ∧ (u.page pg).since + 1000000 ≤ u.now ∧ u.stopPartOf pg = none)
         (fun u => (u.errorOpen pg Cls.task 0 0x02).enter pg .fault) ∧
       EventDoes (.stopTimeout page)
         (fun u => (u.page pg).st = .stopping ∧ u.now < (u.page pg).since + 1000000) (fun u => u)))

/-- Captures, error counts and events (R32 to R34): a write of PG_SNAP.TAKE asks for a capture; the capture copies
every snapshotted counter of the page and advances SEQ; any write of PG_ERR_CNT clears it; an event raises its bit. -/
def Obligations.HeaderCommands : Prop :=
  (∀ (r : Req) (page : BitVec 12),
    HeaderDoes (.snapshotTake r page) r page.toNat 0x028 1 0 (fun _ => True)
      (fun u => u.setPage page.toNat { u.page page.toNat with snapTake := true })) ∧
  (∀ (page : BitVec 12),
    let pg := page.toNat
    EventDoes (.snapshotComplete page) (fun u => (u.page pg).snapTake = true)
      (fun u => ((snapOffsets pg).foldl
          (fun s off => { s with snaps := s.snaps.set 0 (regKey pg off) (s.reg pg off) }) u).setPage pg
        { u.page pg with snapTake := false, snapValid := true, snapSeq := (u.page pg).snapSeq + 1 })) ∧
  (∀ (r : Req) (page : BitVec 12) (data : W32),
    HeaderDoes (.errorCountClear r page data) r page.toNat 0x01C data 0 (fun _ => True)
      (fun u => u.setPage page.toNat { u.page page.toNat with errCnt := 0 })) ∧
  (∀ (page : BitVec 12) (b : Fin 32), (rowOf page.toNat).isSome = true → (b.val < 4 ∨ 16 ≤ b.val) →
    EventDoes (.event page b) (fun _ => True) (fun u => u.irq page.toNat b.val))

/-- What a CFG_RD answers (R24, Table 2.1): STATUS 1 and zeros where no page is mapped, 2 where the port may not read,
5 for an address that is not a multiple of 4; else STATUS 0 with the register's value. -/
def Obligations.CfgReadAnswers : Prop :=
  ∀ (r : Req) (addr : BitVec 24), r.len = 4 →
    let pg := addr.toNat / 0x1000
    let off := addr.toNat % 0x1000
    let drop := fun (u : State) => { u with holds := u.holds.set none r.port none }
    actsOnRead pg off = false →
      RequestDoes (.cfgRd r addr) r 1 .redo (fun _ => rowOf pg = none) (fun u => (⟨1, toLE 4 0⟩, drop u)) ∧
      RequestDoes (.cfgRd r addr) r 1 .redo (fun u => (rowOf pg).isSome = true ∧ (drop u).mayRead r.port pg off = false)
        (fun u => (⟨2, toLE 4 0⟩, drop u)) ∧
      RequestDoes (.cfgRd r addr) r 1 .redo
        (fun u => (rowOf pg).isSome = true ∧ (drop u).mayRead r.port pg off = true ∧ off % 4 ≠ 0)
        (fun u => (⟨5, toLE 4 0⟩, drop u)) ∧
      RequestDoes (.cfgRd r addr) r 1 .redo
        (fun u => (rowOf pg).isSome = true ∧ (drop u).mayRead r.port pg off = true ∧ off % 4 = 0 ∧ isLow pg off = false ∧
          u.latches.get none (latchKey r.port pg off) = none)
        (fun u => (⟨0, toLE 4 ((drop u).regRead r.port pg off).toNat⟩, drop u))

/-- The reads of a 64-bit pair (R27): a read of the _LO register latches the _HI register's value for the port, and the
port's next read of the _HI register returns the latched value. The writes of a 64-bit pair (R27): a permitted write of
the _LO register is held and changes no register; the port's next access, if it is the write of the _HI register, makes
both take effect; any other access of the port discards the held word, so that a write of another register, or of the
_HI of another pair, acts as if none had been held. -/
def Obligations.PairsLatchAndHold : Prop :=
  (∀ (r : Req) (addr : BitVec 24), r.len = 4 →
     let pg := addr.toNat / 0x1000
     let off := addr.toNat % 0x1000
     let drop := fun (u : State) => { u with holds := u.holds.set none r.port none }
     actsOnRead pg off = false →
       RequestDoes (.cfgRd r addr) r 1 .redo
         (fun u => (rowOf pg).isSome = true ∧ (drop u).mayRead r.port pg off = true ∧ off % 4 = 0 ∧ isLow pg off = true)
         (fun u => (⟨0, toLE 4 ((drop u).regRead r.port pg off).toNat⟩,
           { drop u with latches := u.latches.set none (latchKey r.port pg (off + 4))
                                      (some ((drop u).regRead r.port pg (off + 4))) })) ∧
       ∀ w : W32, RequestDoes (.cfgRd r addr) r 1 .redo
         (fun u => (rowOf pg).isSome = true ∧ (drop u).mayRead r.port pg off = true ∧ off % 4 = 0 ∧ isLow pg off = false ∧
           u.latches.get none (latchKey r.port pg off) = some w)
         (fun u => (⟨0, toLE 4 w.toNat⟩,
           { drop u with latches := u.latches.set none (latchKey r.port pg off) none }))) ∧
  (∀ (r : Req) (addr : BitVec 24) (v : W32) (s : State), s.live = true → s.hush.takesUp r 2 = true → r.len = 8 →
     asksEnv addr.toNat = false →
     let pg := addr.toNat / 0x1000
     let off := addr.toNat % 0x1000
     let u := s.hush.begun r 2
     (rowOf pg).isSome = true → u.mayWrite r.port pg off v = true → off % 4 = 0 →
     (isLow pg off = true ∧ (u.regWrite r.port pg off v Env.none).1 = 0 →
       exec (.cfgWr r addr v) s = .next (s.done
         ({ u with holds := u.holds.set none r.port (some (addr.toNat, v)) }.replied r 2 .keep (Resp.of 0)))) ∧
     (∀ (a : Nat) (lo : W32) (t t' : State), isLow pg off = false ∧ isHigh pg off = true ∧
       (s.hush.received r 2).holds.get none r.port = some (a, lo) ∧ a + 4 = addr.toNat ∧
       u.regWrite r.port pg (off - 4) lo Env.none = (0, t) ∧ t.regWrite r.port pg off v Env.none = (0, t') →
       exec (.cfgWr r addr v) s = .next (s.done (t'.replied r 2 .keep (Resp.of 0)))) ∧
     u.holds = (s.hush.received r 2).holds.set none r.port none ∧
     (isLow pg off = false ∧ (∀ (a : Nat) (lo : W32), (s.hush.received r 2).holds.get none r.port = some (a, lo) →
         isHigh pg off = true → a + 4 ≠ addr.toNat) →
       exec (.cfgWr r addr v) s = .next (s.done ((u.regWrite r.port pg off v Env.none).2.replied r 2 .keep
         (Resp.of (u.regWrite r.port pg off v Env.none).1)))))

/-- What a CFG_WR does (R24, R25, R35, Tables 2.1 and 2.2): STATUS 1 where no page is mapped, 2 where the port may not
write, 5 for an address that is not a multiple of 4, 3 for a locked register, and nothing changes; a reserved offset
takes nothing and answers 0; and in a block whose registers have no rule of their own, the RW fields take the value and
the RW1C fields clear. -/
def Obligations.CfgWriteAnswers : Prop :=
  ∀ (r : Req) (addr : BitVec 24) (v : W32) (s : State), s.live = true → s.hush.takesUp r 2 = true → r.len = 8 →
    asksEnv addr.toNat = false →
    let pg := addr.toNat / 0x1000
    let off := addr.toNat % 0x1000
    let u := s.hush.begun r 2
    let answers := fun (t : State) (st : Nat) => exec (.cfgWr r addr v) s = .next (s.done (t.replied r 2 .keep (Resp.of st)))
    (rowOf pg = none → answers u 1) ∧
    ((rowOf pg).isSome = true ∧ u.mayWrite r.port pg off v = false → answers u 2) ∧
    ((rowOf pg).isSome = true ∧ u.mayWrite r.port pg off v = true ∧ off % 4 ≠ 0 → answers u 5) ∧
    ((rowOf pg).isSome = true ∧ u.mayWrite r.port pg off v = true ∧ off % 4 = 0 ∧ isLow pg off = false ∧
      isHigh pg off = false ∧ u.lockedReg pg off = true → answers u 3) ∧
    ((rowOf pg).isSome = true ∧ u.mayWrite r.port pg off v = true ∧ off % 4 = 0 ∧ 0x100 ≤ off ∧ isLow pg off = false ∧
      isHigh pg off = false ∧ u.lockedReg pg off = false ∧ u.dark pg = false ∧ regDef pg off = none → answers u 0) ∧
    (u.granted r.port pg off v = true ∧ blkOf pg ∈ [Blk.dev, .clk, .ctp, .scb, .rpl, .cor, .cnv, .sri, .gmc, .trp, .gwy] →
      answers (u.plainWrite r.port pg off v) 0)

/-- A marker on the rack reference lane (R42, R43, R342): while OPE11 is not ON it is not seen; one whose CRC fails is
counted in OPE_CNT_MKERR; in FREE an accepted one enters ACQUIRE, loads the count with M + REF_DLY and runs the servo
with the offset that is left; in LOCKED one that comes within 999,000 ticks of the last, or outside the window, is
refused with REF_JUMP and the mode is HOLDOVER. Where an event is not due nothing changes: the model's choice (log 4).
Choices of the model it rests on: log 19. -/
def Obligations.MarkerByMode : Prop :=
  ∀ (m : W64) (src : W16) (ok : Bool),
    let seen := fun (u : State) =>
      (u.setReg (Pg.ope 11) Reg.opeRefsrc (setFld (u.reg (Pg.ope 11) Reg.opeRefsrc) 15 0 src.toNat)).bump (Pg.ope 11) Reg.opeCntMarker
    let early := fun (t : State) => ∃ a, t.way.lastAccept = some a ∧ t.now < a + 999000
    let out := fun (t : State) =>
      ((t.rf Pg.wst Reg.wstLock 31 16 * 256 : Nat) : Int) < t.markOff m.toNat ∨
        t.markOff m.toNat < -((t.rf Pg.wst Reg.wstLock 31 16 * 256 : Nat) : Int)
    EventDoes (.markerAccept m src ok) (fun u => u.isOn (Pg.ope 11) = false) (fun u => u) ∧
      EventDoes (.markerAccept m src false) (fun u => u.isOn (Pg.ope 11) = true)
        (fun u => u.bump (Pg.ope 11) Reg.opeCntMkerr) ∧
      EventDoes (.markerAccept m src true)
        (fun u => u.isOn (Pg.ope 11) = true ∧ (seen u).rb Pg.wst Reg.wstCtrl 6 = true ∧ (seen u).way.mode = .free ∧
          ¬early (seen u))
        (fun u =>
          let t := { seen u with way := { (seen u).way with mode := .acquire, lockRun := 0 } }
          let t := t.setWst ((m.toNat + divEven (t.reg Pg.wst Reg.wstRefDly).toNat 256) * 2 ^ 40)
          let off := t.markOff m.toNat
          let t := { t with way := { t.way with lastAccept := some t.now, off := off } }
          { t with pwr := { t.pwr with firstMarker := some (t.pwr.firstMarker.getD t.now) } }.servoStep off) ∧
      EventDoes (.markerAccept m src true)
        (fun u => u.isOn (Pg.ope 11) = true ∧ (seen u).rb Pg.wst Reg.wstCtrl 6 = true ∧ (seen u).way.mode = .locked ∧
          (early (seen u) ∨ out (seen u)))
        (fun u =>
          let t := ((seen u).bump Pg.wst Reg.wstCntRef).irq Pg.wst 18
          if t.way.mode = .locked then t.wstEnter .holdover else t)

/-- The loss of the reference and HOLDOVER (R41, R43, R46): 3,000,000 ticks after the last accepted marker ACQUIRE
falls to FREE, where ADJ and ADJ_I are 0, and LOCKED to HOLDOVER; in HOLDOVER the servo runs every 1,000,000 ticks, on
the negated neighbour mean where NBR_EN is 1 and two neighbours are in use, else with ADJ = ADJ_I. A write of WST_CTRL
(R41): where REF_EN is not cleared it only stores; REF_EN cleared in LOCKED enters HOLDOVER, and in ACQUIRE FREE. Where
an event is not due nothing changes: the model's choice (log 4). Choices of the model it rests on: log 19. -/
def Obligations.ReferenceLostOrDisabled : Prop :=
  (EventDoes .refLossTimeout
       (fun u => (∃ t, u.way.lastAccept = some t ∧ t + 3000000 ≤ u.now) ∧ u.way.mode = .acquire)
       (fun u => { u with way := { u.way with mode := .free, lockRun := 0, adj := 0, adjI := 0 } }) ∧
     EventDoes .refLossTimeout
       (fun u => (∃ t, u.way.lastAccept = some t ∧ t + 3000000 ≤ u.now) ∧ u.way.mode = .locked)
       (fun u => ({ u with way := { u.way with mode := .holdover, lockRun := 0, holdSince := u.now, lastServo := u.now }
         }.bump Pg.wst Reg.wstCntHold).irq Pg.wst 17) ∧
     EventDoes .refLossTimeout
       (fun u => ∀ t, u.way.lastAccept = some t → u.now < t + 3000000) (fun u => u) ∧
     EventDoes .holdoverServo
       (fun u => u.way.mode = .holdover ∧ u.way.lastServo + 1000000 ≤ u.now ∧ u.rb Pg.wst Reg.wstCtrl 4 = true ∧
         2 ≤ u.nbrUse.length)
       (fun u => { u with way := { u.way with lastServo := u.now } }.servoStep (-u.nbrMean)) ∧
     EventDoes .holdoverServo
       (fun u => u.way.mode = .holdover ∧ u.way.lastServo + 1000000 ≤ u.now ∧ u.rb Pg.wst Reg.wstCtrl 4 = false)
       (fun u => { u with way := { u.way with lastServo := u.now, adj := u.way.adjI } })) ∧
  (∀ (r : Req) (data : W32),
     let stored := fun (u : State) => u.plainWrite r.port Pg.wst Reg.wstCtrl data
     WriteDoes (.refEnWrite r data) r Pg.wst Reg.wstCtrl data 0
         (fun u => u.rb Pg.wst Reg.wstCtrl 6 = false ∨ bit data 6 = true) stored ∧
       WriteDoes (.refEnWrite r data) r Pg.wst Reg.wstCtrl data 0
         (fun u => u.rb Pg.wst Reg.wstCtrl 6 = true ∧ bit data 6 = false ∧ (stored u).way.mode = .locked)
         (fun u => ({ stored u with way := { (stored u).way with mode := .holdover, lockRun := 0, holdSince := (stored u).now,
                                                                 lastServo := (stored u).now } }.bump Pg.wst Reg.wstCntHold).irq Pg.wst 17) ∧
       WriteDoes (.refEnWrite r data) r Pg.wst Reg.wstCtrl data 0
         (fun u => u.rb Pg.wst Reg.wstCtrl 6 = true ∧ bit data 6 = false ∧ (stored u).way.mode = .acquire)
         (fun u => { stored u with way := { (stored u).way with mode := .free, lockRun := 0, adj := 0, adjI := 0 } }))

/-- The compute-die copies and the timing exchanges (R15, R44, R45): a correction makes a copy equal the count with its
fraction; every 100,000 ticks a port that is UP sends a request with the next number; a request is answered at once
with the stamps and the mode of this device; a reply that answers the request in hand gives one more of the ten samples
of the port, in which an offset beyond 50 ns excludes the port with NBR_OUTLIER. Where an event is not due nothing
changes: the model's choice (log 4). Choices of the model it rests on: log 26. -/
def Obligations.TimingExchanges : Prop :=
  (∀ die : Fin 2, EventDoes (.waystoneCopyCorrect die) (fun _ => True)
    (fun u => { u with way := { u.way with copies := vset u.way.copies die (u.way.count * 2 ^ 40 + u.way.frac) } })) ∧
  (∀ port : Fin 8, EventDoes (.timingExchange port)
    (fun u => u.torusUp port = true ∧ ∀ t, (u.nbr port).lastAt = some t → t + 100000 ≤ u.now)
    (fun u => (u.setNbr port { u.nbr port with
        t1 := some ((u.way.count * 2 ^ 40 + u.way.frac) / 2 ^ 32 % 2 ^ 64, (u.nbr port).xnum),
        xnum := (u.nbr port).xnum + 1, lastAt := some u.now }).send (.ctlUnit port (.timingReq (u.nbr port).xnum)))) ∧
  (∀ (port : Fin 8) (xnum : W16), EventDoes (.timingRequest port xnum) (fun u => u.torusUp port = true)
    (fun u => u.send (.ctlUnit port (.timingReply (BitVec.ofNat 3 (modeCode u.way.mode)) (BitVec.ofNat 64 u.stamp)
      (BitVec.ofNat 64 u.stamp) xnum)))) ∧
  (∀ (port : Fin 8) (mode : BitVec 3) (t2 t3 : W64) (xnum : W16) (t1 : Nat),
    let t4 := fun (u : State) => BitVec.ofNat 64 u.stamp
    let dly := fun (u : State) => ((t4 u - BitVec.ofNat 64 t1) - (t3 - t2)).toInt.tdiv 2
    let off := fun (u : State) => ((t2 - BitVec.ofNat 64 t1) - (t4 u - t3)).toInt.tdiv 2
      - signed 32 (u.reg Pg.wst (Reg.wstPasym port)).toNat
    let y := fun (u : State) => { u.nbr port with
      t1 := none, mode := mode.toNat,
      samples := ((u.nbr port).samples ++ [(dly u, off u)]).drop ((u.nbr port).samples.length - 9) }
    let answers := fun (u : State) => u.torusUp port = true ∧ (u.nbr port).t1 = some (t1, xnum) ∧ (u.nbr port).excluded = false
    EventDoes (.timingReply port mode t2 t3 xnum) (fun u => answers u ∧ outlier (y u).off = false)
        (fun u => u.setNbr port (y u)) ∧
      EventDoes (.timingReply port mode t2 t3 xnum) (fun u => answers u ∧ outlier (y u).off = true)
        (fun u => (u.setNbr port { y u with excluded := true, okRun := 0 }).irq Pg.wst 21) ∧
      EventDoes (.timingReply port mode t2 t3 xnum) (fun u => (u.nbr port).t1 = none) (fun u => u))

/-- The servo keeps ADJ and ADJ_I within ±219,902,325, which is ±200 ppm, whatever the offset (R40, R46). -/
def Obligations.ServoStaysWithin200ppm : Prop :=
  let within := fun (s : State) =>
    -219902325 ≤ s.way.adj ∧ s.way.adj ≤ 219902325 ∧ -219902325 ≤ s.way.adjI ∧ s.way.adjI ≤ 219902325
  ∀ (s : State) (off : Int), within s → within (s.servo off) ∧ within s.doHoldoverServo ∧
    within s.doRefLoss

/-- With no command waiting one tick passes (log 1): the count of ticks since reset grows by one; in a live device
whose Waystone PLL is locked the Waystone count, with its 40-bit fraction, grows by 1 + ADJ · 2^-40 ticks (R6, R40),
and in any other it stands; memory, what has been sent and the queue stay, and where Drover holds no intake every
register does. -/
def Obligations.TickCounts : Prop :=
  ∀ s : State, s.pending = [] →
    (s.live = true ∧ bit s.pwr.pll 7 = true →
      ∃ t, step s = .next t ∧ t.now = s.now + 1 ∧ t.pending = s.pending ∧ t.outbox = s.outbox ∧ t.mem = s.mem ∧
        t.way.count = (s.wstVal + ((2 ^ 40 : Nat) + s.way.adj : Int).toNat) / 2 ^ 40 % 2 ^ 64 ∧
        t.way.frac = (s.wstVal + ((2 ^ 40 : Nat) + s.way.adj : Int).toNat) % 2 ^ 40 ∧
        t.way.copies = s.way.copies.map (edgeOf ((2 ^ 40 : Nat) + s.way.adj : Int).toNat) ∧
        t.way.mode = s.way.mode ∧ t.way.adj = s.way.adj ∧
        ((List.range 8).all (fun n => !s.drvHeld n) = true → t.regs = s.regs)) ∧
    (s.live = false ∨ bit s.pwr.pll 7 = false → step s = .next { s with now := s.now + 1 })

/-- The stream window (R50, R51, Table 3.3): a write that would change a field its stream's state does not permit is
answered STATE and changes nothing; any other takes the fields that may change, and clears a counter word. STR_DSEL
stores the stream a port's window shows. The stream commands (R52, Table 3.4): a command that the stream's state does
not list is answered STATE and changes nothing; ARM of a stream that is not derived sets its bucket full, NEXT_TICK to
ORIGIN with no fraction, and the state ARMED; CLOSE of an ARMED stream without derived streams frees it with event
0x0D, and of a running one makes it CLOSING; REPLAY starts at the BIND of the oldest bound record; RESYNC asks that the
next frame re-anchor. Choices of the model it rests on: logs 25, 27. -/
def Obligations.StreamWritesAndCommands : Prop :=
  ((∀ (r : Req) (word : Fin 32) (data : W32),
     let k := fun (u : State) => fld (u.portReg r.port Pg.str Reg.strDsel) 12 0
     WriteDoes (.streamDescriptorWrite r word data) r Pg.str (Reg.strDwin word) data 4
         (fun u => u.dwinRefused (k u) word data = true) (fun u => u) ∧
       WriteDoes (.streamDescriptorWrite r word data) r Pg.str (Reg.strDwin word) data 0
         (fun u => u.dwinRefused (k u) word data = false ∧ word.val < 0x19)
         (fun u => u.setSw (k u) word ((dwinFields word).foldl
           (fun x (f : Nat × Nat × Nat) => if f.2.2.testBit (u.strState (k u)) then setFld x f.1 f.2.1 (fld data f.1 f.2.1) else x)
           (u.sw (k u) word))) ∧
       WriteDoes (.streamDescriptorWrite r word data) r Pg.str (Reg.strDwin word) data 0
         (fun u => u.dwinRefused (k u) word data = false ∧ 0x19 ≤ word.val) (fun u => u.setSw (k u) word 0)) ∧
   (∀ (r : Req) (data : W32),
     WriteDoes (.strDselWrite r data) r Pg.str Reg.strDsel data 0 (fun _ => True)
       (fun u => u.plainWrite r.port Pg.str Reg.strDsel data))) ∧
  ((∀ (r : Req) (n : BitVec 13),
     let n' := n.toNat
     let armed := fun (u : State) =>
       u.setStrAux n' { StreamAux.init with evTimes := (u.strAux n').evTimes, bound := (u.strAux n').bound, bucketAt := u.count }
     let filled := fun (t : State) => t.setSf n' 0x60 31 0 (t.sf n' 4 27 24 * 2 ^ 16)
     let origin := fun (t : State) => (t.setSf64 n' 0x48 (t.sf64 n' 0x10)).setSf n' 0x50 31 0 0
     let out := fun (u : State) => (origin (filled (armed u))).setSf n' 0 2 0 Str.armed
     WriteDoes (.arm r n) r Pg.str Reg.strCmd (w32 (at_ 16 1 + n')) 0
         (fun u => u.strCmdOk 1 n' = true ∧ (out u).strDerived n' = false) out ∧
       WriteDoes (.arm r n) r Pg.str Reg.strCmd (w32 (at_ 16 1 + n')) 4 (fun u => u.strCmdOk 1 n' = false) (fun u => u)) ∧
   (∀ (r : Req) (n : BitVec 13),
     let n' := n.toNat
     let alone := fun (u : State) => u.strCmdOk 2 n' = true ∧ (u.strAux n').reasm = []
     let closing := fun (u : State) => (u.setStrAux n' { u.strAux n' with replay := none }).setSf n' 0 2 0 Str.closing
     WriteDoes (.close r n) r Pg.str Reg.strCmd (w32 (at_ 16 2 + n')) 0
         (fun u => alone u ∧ u.strState n' = Str.armed ∧ u.children n' = []) (fun u => u.strFree n') ∧
       WriteDoes (.close r n) r Pg.str Reg.strCmd (w32 (at_ 16 2 + n')) 0
         (fun u => alone u ∧ u.strState n' ≠ Str.armed ∧ u.children n' = []) closing ∧
       WriteDoes (.close r n) r Pg.str Reg.strCmd (w32 (at_ 16 2 + n')) 4 (fun u => u.strCmdOk 2 n' = false) (fun u => u)) ∧
   (∀ (r : Req) (n : BitVec 13),
     let n' := n.toNat
     WriteDoes (.replay r n) r Pg.str Reg.strCmd (w32 (at_ 16 3 + n')) 0 (fun u => u.strCmdOk 3 n' = true)
         (fun u => ((u.setStrAux n' { u.strAux n' with
           replay := some ⟨u.count, none, u.sf n' 0x3C 31 0, []⟩ }).strEnter n' Str.replay none).replayCheck n') ∧
       WriteDoes (.replay r n) r Pg.str Reg.strCmd (w32 (at_ 16 3 + n')) 4 (fun u => u.strCmdOk 3 n' = false) (fun u => u)) ∧
   (∀ (r : Req) (n : BitVec 13),
     let n' := n.toNat
     WriteDoes (.resync r n) r Pg.str Reg.strCmd (w32 (at_ 16 4 + n')) 0 (fun u => u.strCmdOk 4 n' = true)
         (fun u => u.setStrAux n' { u.strAux n' with resync := true }) ∧
       WriteDoes (.resync r n) r Pg.str Reg.strCmd (w32 (at_ 16 4 + n')) 4 (fun u => u.strCmdOk 4 n' = false) (fun u => u)) ∧
   (∀ (r : Req) (p : Part),
     WriteDoes (.streamEventPop r p) r Pg.str (Reg.strEvpopp p) 1 0 (fun _ => True)
       (fun u => { u with str := { u.str with evq := vset u.str.evq p ((vget u.str.evq p).drop 1),
                                              evOvf := setBit u.str.evOvf p false } })))

/-- When a stream runs and ends (Table 3.4): at its ORIGIN an ARMED stream that is not derived is RUNNING with event
0x01, and not before; a CLOSING stream whose bound steps are all over is FREE, and not before. Where an event is not
due nothing changes: the model's choice (log 4). -/
def Obligations.StreamRunsAndEnds : Prop :=
  ∀ n : BitVec 13,
    let n' := n.toNat
    EventDoes (.streamOrigin n)
        (fun u => u.strState n' = Str.armed ∧ u.strDerived n' = false ∧ u.sf64 n' 0x10 ≤ u.count)
        (fun u => u.strEnter n' Str.running (some 0x01)) ∧
      EventDoes (.streamOrigin n) (fun u => u.count < u.sf64 n' 0x10) (fun u => u) ∧
      EventDoes (.streamCloseComplete n)
        (fun u => u.strState n' = Str.closing ∧ (u.strAux n').bound.all (·.done) = true) (fun u => u.strFree n') ∧
      EventDoes (.streamCloseComplete n) (fun u => (u.strAux n').bound.all (·.done) = false) (fun u => u)

/-- Frame fragments (R56, R59): a fragment for a stream that may take none counts in STR_CNT_NOSTREAM; a second copy of
a fragment counts in STR_CNT_FRAG; a further fragment of a frame in reassembly goes to its place in the ring record,
8,160 bytes a fragment; and one nominal period after its first fragment a frame that has not completed is discarded.
Where an event is not due nothing changes: the model's choice (log 4). Choices of the model it rests on: logs 76, 77.
-/
def Obligations.FrameFragments : Prop :=
  (∀ (pkt : Packet) (t : State),
    let h := fragHdr pkt.payload
    let n := h.stream
    EventDoes (.frameFragment pkt) (fun u => u.takeEjected pkt = none) (fun u => u) ∧
      EventDoes (.frameFragment pkt) (fun u => u.takeEjected pkt = some t ∧ t.frameAllowed n pkt.tag = false)
        (fun _ => t.bump Pg.str Reg.strCntNostream) ∧
      (∀ f : Reasm, (t.strAux n).reasm.find? (fun x => decide (x.seq = h.seq)) = some f →
        EventDoes (.frameFragment pkt)
            (fun u => u.takeEjected pkt = some t ∧ t.frameAllowed n pkt.tag = true ∧ f.got.contains h.idx = true)
            (fun _ => t.bump Pg.str Reg.strCntFrag) ∧
          EventDoes (.frameFragment pkt)
            (fun u => u.takeEjected pkt = some t ∧ t.frameAllowed n pkt.tag = true ∧ f.got.contains h.idx = false ∧
              f.full = false ∧ h.cnt = f.fragCnt ∧ h.len = f.len ∧ h.idx < f.fragCnt ∧
              h.idx * 8160 + (pkt.payload.drop 32).length ≤ f.len ∧ f.got.length + 1 ≠ f.fragCnt)
            (fun _ =>
              let w := t.strWrite (t.strPart n) (t.ringBase n + f.roff + 64 + h.idx * 8160) (pkt.payload.drop 32) n
              w.setStrAux n { w.strAux n with
                reasm := (w.strAux n).reasm.map (fun x => if x.seq = f.seq then { f with got := h.idx :: f.got } else x) }))) ∧
  (∀ (n : BitVec 13) (seq : W32) (f : Reasm),
    EventDoes (.frameReassemblyTimeout n seq)
        (fun u => (u.strAux n.toNat).reasm.find? (fun x => decide (x.seq = seq)) = some f ∧
          f.started * 2 ^ 32 + u.periodNom n.toNat ≤ u.now * 2 ^ 32)
        (fun u => u.frameDiscard n.toNat f) ∧
      EventDoes (.frameReassemblyTimeout n seq)
        (fun u => (u.strAux n.toNat).reasm.find? (fun x => decide (x.seq = seq)) = some f ∧
          u.now * 2 ^ 32 < f.started * 2 ^ 32 + u.periodNom n.toNat) (fun u => u))

/-- A stream's tick (R54, R57, R61): a RUNNING stream whose NEXT_TICK the count has reached gains the entry of the
frame in its slot, with ABSENT_RUN 0, or an ABSENT entry; NEXT_SEQ grows by one, and NEXT_TICK by PERIOD_NOM + TRIM and
the phase of its frame; before NEXT_TICK, and for a derived stream, nothing happens. Where an event is not due nothing
changes: the model's choice (log 4). Choices of the model it rests on: log 23. -/
def Obligations.StreamTickAdvances : Prop :=
  ∀ n : BitVec 13,
    let n' := n.toNat
    let due := fun (u : State) => u.strDerived n' = false ∧ u.strState n' = Str.running ∧ u.sf64 n' 0x48 ≤ u.count
    let next := fun (t : State) (seq : W32) (ph : Int) =>
      let t := t.setSw n' 0x15 (seq + 1)
      t.setNextAcc n' ((t.nextAcc n' : Int) + ((t.periodNom n' : Int) + t.trim n' + ph))
    WorkDoes (.streamTick n)
        (fun u => due u ∧ (u.strAux n').slots.find? (fun e => decide (e.seq = u.nextSeq n')) = none)
        (fun u => next (u.tickAbsent n' (u.nextSeq n') (u.sf64 n' 0x48)) (u.nextSeq n') 0) ∧
      (∀ e : Entry, WorkDoes (.streamTick n)
        (fun u => due u ∧ (u.strAux n').slots.find? (fun x => decide (x.seq = u.nextSeq n')) = some e ∧
          e.tick = u.sf64 n' 0x48)
        (fun u => next ((u.setStrAux n' { u.strAux n' with
            slots := (u.strAux n').slots.filter (fun x => decide (x.seq ≠ u.nextSeq n')),
            entries := (u.strAux n').entries ++ [{ e with tick := u.sf64 n' 0x48 }] }).setSf n' 0x64 15 0 0)
          (u.nextSeq n') e.phase)) ∧
      WorkDoes (.streamTick n) (fun u => u.count < u.sf64 n' 0x48 ∨ u.strDerived n' = true) (fun u => u)

/-- Bindings, deadlines and replay (R62, R64, R66): the entries of the oldest step that waits are written, each where
its stream's entry lies, and STR_BINDp_SIG is signalled with the step; at its deadline a binding whose step has not
completed is counted and raised as LATE, or with DROP_LATE as DROPPED; a replayed record whose CRC holds is presented,
and one whose CRC fails ends the replay in IDLE with RPL code 0x10. Where an event is not due nothing changes: the
model's choice (log 4). Choices of the model it rests on: logs 21, 24. -/
def Obligations.BindingsAndReplay : Prop :=
  (∀ (p : Part) (step : W32) (rest : List W32),
    WorkDoes (.bindingComplete p) (fun u => (u.schPart p).binds = step :: rest)
        (fun u =>
          let t := u.setSchPart p { u.schPart p with binds := rest }
          let t := ((t.str.aux.map (·.1)).filter (fun n => decide (t.strPart n = p))).foldl
            (fun t n =>
              ((t.strAux n).bound.filter (fun b => !b.written && decide (b.step = step))).foldl
                (fun t b =>
                  let t := t.strWrite p b.addr (bindBytes b) n
                  let t := t.mapBound n (fun x => if x.step = b.step then { x with written := true } else x)
                  let t := t.setStrAux n { t.strAux n with bound := (t.strAux n).bound.filter (fun x => !(x.written && x.done)) }
                  if b.latePhys then t.strEvent n 0x0F else t) t) t
          t.signal p step (t.rf Pg.str (Reg.strBindpSig p) 14 0) 1) ∧
      WorkDoes (.bindingComplete p) (fun u => (u.schPart p).binds = []) (fun u => u)) ∧
  (∀ (n : BitVec 13) (step : W32) (b : Bound),
    let n' := n.toNat
    let bound := fun (u : State) =>
      (u.schPart (u.strPart n')).voting.any (fun g => sameBase g.step step) = false ∧
      (u.strAux n').bound.find? (fun x => sameBase x.step step && !x.passed && !x.done) = some b ∧ b.passed = false
    EventDoes (.streamDeadline n step) (fun u => bound u ∧ b.deadline ≤ u.count ∧ u.sf n' 0 9 9 ≠ 1)
        (fun u => ((u.mapBound n' (fun x => if x.launch = b.launch then { x with passed := true } else x)).sBump n' 0x68 31 0
          ).strEvent n' 0x03) ∧
      EventDoes (.streamDeadline n step) (fun u => bound u ∧ b.deadline ≤ u.count ∧ u.sf n' 0 9 9 = 1 ∧ b.written = false)
        (fun u => ((u.mapBound n' (fun x => if x.launch = b.launch then { x with passed := true, dropped := true } else x)
          ).sBump n' 0x6C 31 0).strEvent n' 0x04) ∧
      EventDoes (.streamDeadline n step) (fun u => bound u ∧ u.count < b.deadline) (fun u => u)) ∧
  (∀ (n : BitVec 13) (r : Replay) (off : Nat) (h : RecHdr) (bs : Except MemErr (List Byte)) (t : State),
    let n' := n.toNat
    let due := fun (u : State) => (u.strAux n').replay = some r ∧
      u.nextReplay n' (u.ringSize n' / 64 + 1) r.ptr = some (off, h) ∧ u.strState n' = Str.replay ∧
      r.start + (h.bind - r.first.getD h.bind) / 2 ^ u.sf n' 0 15 12 ≤ u.count ∧
      u.read (u.strPart n') (u.ringBase n' + off + 64) h.len = (bs, t)
    WorkDoes (.replayPresent n) (fun u => due u ∧ crcGood bs h.crc = true)
        (fun u => t.setStrAux n' { u.strAux n' with
          replay := some { r with first := some (r.first.getD h.bind),
                                  ptr := (off + 64 + up64 h.len) % max 1 (t.ringSize n'),
                                  presented := r.presented ++ [⟨u.ringBase n' + off, h.typ, h.seq, h.tick⟩] } }) ∧
      WorkDoes (.replayPresent n) (fun u => due u ∧ crcGood bs h.crc = false)
        (fun u =>
          let t := (t.bump Pg.rpl Reg.rplCntCrc).irq Pg.rpl 17
          let t := t.error Pg.rpl Cls.task (t.strPart n') 0x10 n'
          (t.setStrAux n' { u.strAux n' with replay := none }).strEnter n' Str.idle (some 0x0C)))

/-- The launch table's answers (R83, Table 4.6): 3 where the port may not write the slot or the entry names another
partition; 4 while the partition is reset or stopped, and in A2 and A3; 2 for a slot whose entry is 10,000 ticks from
its count; 1 for an entry that would be; each counts in LNT_CNT_REF with LAUNCH_REF and leaves the slot. Else 0: a
valid entry is taken and QUIET falls, one with VALID 0 empties the slot. The launch window (R83, Table 4.9): a write of
LNT_E3 writes the entry the port's words E0 to E2 and this word spell to the slot LNT_SEL names; LNT_WSTAT takes the
status, and the write is answered OK where it is 0 and STATE where not. Choices of the model it rests on: logs 28, 56.
-/
def Obligations.LaunchTableAndWindow : Prop :=
  (∀ (r : Req) (slot : BitVec 9) (e : BitVec 128), r.len = 20 →
     let k := slot.toNat
     let p := k / 64
     let refused := fun (u : State) => (u.bump Pg.lnt Reg.lntCntRef).irq Pg.lnt 16
     let may := fun (u : State) => u.mayLaunch r.port p = true ∧ lePart e = p
     let open_ := fun (u : State) => u.partHalted p = false ∧ u.pwr.state < 2
     let near := fun (u : State) => leValid (u.slotEntry k) = true ∧ leCount (u.slotEntry k) ≤ u.count + 10000
     let late := fun (u : State) => leValid e = true ∧ leCount e < u.count + 10000
     RequestDoes (.launchSet r slot e) r 5 .keep (fun u => u.mayLaunch r.port p = false ∨ lePart e ≠ p)
         (fun u => (Resp.of 3, refused u)) ∧
       RequestDoes (.launchSet r slot e) r 5 .keep (fun u => may u ∧ (u.partHalted p = true ∨ 2 ≤ u.pwr.state))
         (fun u => (Resp.of 4, refused u)) ∧
       RequestDoes (.launchSet r slot e) r 5 .keep (fun u => may u ∧ open_ u ∧ near u) (fun u => (Resp.of 2, refused u)) ∧
       RequestDoes (.launchSet r slot e) r 5 .keep (fun u => may u ∧ open_ u ∧ ¬near u ∧ late u)
         (fun u => (Resp.of 1, refused u)) ∧
       RequestDoes (.launchSet r slot e) r 5 .keep (fun u => may u ∧ open_ u ∧ ¬near u ∧ ¬late u ∧ leValid e = true)
         (fun u => (Resp.of 0, (u.setSlotEntry k e).setPartSec p { u.partSec p with quiet := false })) ∧
       RequestDoes (.launchSet r slot e) r 5 .keep (fun u => may u ∧ open_ u ∧ ¬near u ∧ leValid e = false)
         (fun u => (Resp.of 0, u.setSlotEntry k 0))) ∧
  (∀ (r : Req) (word3 : W32),
     let slot := fun (u : State) => fld (u.portReg r.port Pg.lnt Reg.lntSel) 8 0
     let entry := fun (u : State) => BitVec.ofNat 128 (u.windowWords r.port Pg.lnt (Reg.lntE 0) word3)
     let set := fun (u : State) => u.setLaunch r.port (slot u) (entry u)
     WriteDoes (.launchWindowWrite r word3) r Pg.lnt (Reg.lntE 3) word3 0 (fun u => (set u).1 = 0)
         (fun u => (set u).2.setPortReg r.port Pg.lnt Reg.lntWstat 0) ∧
       ∀ st : Nat, st ≠ 0 → WriteDoes (.launchWindowWrite r word3) r Pg.lnt (Reg.lntE 3) word3 4 (fun u => (set u).1 = st)
         (fun u => (set u).2.setPortReg r.port Pg.lnt Reg.lntWstat (w32 st)))

/-- A launch that falls due (R82, R84): the entry leaves its slot; with the scheduler ON and no live graph a live
launch starts; with one active it waits, counted in SCH_CNT_DEFER with LAUNCH_DEFER; a second one waiting, and a
scheduler that is not ON, skip it with LAUNCH_SKIP; a background launch over a background graph is skipped without an
event; and a deferred launch starts once the live graph is over. Where an event is not due nothing changes: the model's
choice (log 4). Choices of the model it rests on: log 78. -/
def Obligations.LaunchesFallDue : Prop :=
  (∀ slot : BitVec 9,
    let k := slot.toNat
    let p := k / 64
    let e := fun (u : State) => u.slotEntry k
    let due := fun (u : State) => leValid (e u) = true ∧ leCount (e u) ≤ u.count ∧ u.slotFirst k = true
    let taken := fun (u : State) => (u.setSlotEntry k 0).leaveA1
    let runs := fun (u : State) => (taken u).isOn Pg.sch = true ∧ (taken u).pwr.pfw = false
    EventDoes (.launchDue slot)
        (fun u => due u ∧ runs u ∧ leBg (e u) = false ∧ ((taken u).schPart p).deferred = none ∧ (taken u).liveBusy p = false)
        (fun u => (taken u).launch p false (leGraph (e u)) (leStep (e u)) (leCount (e u)) false) ∧
      EventDoes (.launchDue slot)
        (fun u => due u ∧ runs u ∧ leBg (e u) = false ∧ ((taken u).schPart p).deferred = none ∧ (taken u).liveBusy p = true)
        (fun u => (((taken u).setSchPart p { (taken u).schPart p with
          deferred := some ⟨leGraph (e u), leStep (e u), leCount (e u)⟩ }).bump Pg.sch Reg.schCntDefer).irq Pg.sch 18) ∧
      EventDoes (.launchDue slot)
        (fun u => due u ∧ runs u ∧ leBg (e u) = false ∧ ((taken u).schPart p).deferred.isSome = true)
        (fun u => ((taken u).bump Pg.sch Reg.schCntLskip).irq Pg.sch 19) ∧
      EventDoes (.launchDue slot)
        (fun u => due u ∧ runs u ∧ leBg (e u) = true ∧ ((taken u).schPart p).bg.isSome = true)
        (fun u => (taken u).bump Pg.sch Reg.schCntLskip) ∧
      EventDoes (.launchDue slot)
        (fun u => due u ∧ runs u ∧ leBg (e u) = true ∧ ((taken u).schPart p).bg = none)
        (fun u => (taken u).launch p true (leGraph (e u)) (leStep (e u)) (leCount (e u)) false) ∧
      EventDoes (.launchDue slot) (fun u => due u ∧ (taken u).isOn Pg.sch = false)
        (fun u => ((taken u).bump Pg.sch Reg.schCntLskip).irq Pg.sch 19) ∧
      EventDoes (.launchDue slot) (fun u => leValid (e u) = false ∨ u.count < leCount (e u)) (fun u => u)) ∧
  (∀ (p : Part) (l : Launch),
    WorkDoes (.deferredLaunch p)
        (fun u => (u.schPart p).deferred = some l ∧ u.partHalted p = false ∧ u.liveBusy p = false ∧ u.pwr.pfw = false ∧
          (u.setSchPart p { u.schPart p with deferred := none }).isOn Pg.sch = true)
        (fun u => (u.setSchPart p { u.schPart p with deferred := none }).launch p false l.index l.step l.count false) ∧
      WorkDoes (.deferredLaunch p) (fun u => (u.schPart p).deferred = none ∨ u.liveBusy p = true) (fun u => u))

/-- Tasks (R72, R76, R77): the task that the scan picks is issued to its core, or is skipped and signals; with no core
that may run it the graph fails with code 0x14; nothing is issued while the scheduler is not ON or the partition is
reset or stopped. A core's task whose outputs are written and whose checks pass completes: COR_CNT_TASKS counts it, it
is done, and its signals are sent. Where an event is not due nothing changes: the model's choice (log 4). Choices of
the model it rests on: logs 20, 90. -/
def Obligations.TasksIssueAndComplete : Prop :=
  (∀ (p : Part) (i : Nat) (g : Graph),
    let runs := fun (u : State) => u.isOn Pg.sch = true ∧ u.partHalted p = false
    (∀ c : Nat, WorkDoes (.taskIssue p) (fun u => runs u ∧ u.pickLive p = some (i, .issue c) ∧ u.graph p false = some g)
        (fun u => u.issueTask p false g i c)) ∧
      (∀ c : Nat, WorkDoes (.taskIssue p)
        (fun u => runs u ∧ u.pickLive p = none ∧ u.pickBg p = some (i, .issue c) ∧ u.graph p true = some g)
        (fun u => u.issueTask p true g i c)) ∧
      WorkDoes (.taskIssue p) (fun u => runs u ∧ u.pickLive p = some (i, .skip) ∧ u.graph p false = some g)
        (fun u => ((u.setGraph p false (some (g.setTask i .skipped))).bump Pg.sch Reg.schCntSkip).taskSignals p (g.desc i)) ∧
      WorkDoes (.taskIssue p) (fun u => runs u ∧ u.pickLive p = some (i, .noCore) ∧ u.graph p false = some g)
        (fun u => u.failGraph p false 0x14 i i) ∧
      WorkDoes (.taskIssue p) (fun u => u.isOn Pg.sch = false ∨ u.partHalted p = true) (fun u => u)) ∧
  (∀ (core : Fin 64) (r : Run) (o : Option GrpOut) (ev : Ev) (t t' : State),
    let c := core.val
    let ends := fun (u : State) => (u.core c).run = some r ∧ u.coreWorks c = true ∧ u.mayEnd c r = true ∧ dfld r.desc 0 7 0 ≠ 0x51
    WorkDoes (.taskComplete core)
        (fun u => ends u ∧ u.evalTask r (runTask r) = (.ok o, ev) ∧ u.canReturn r o = true ∧
          ev.s.endTiles c r.index (ev.tiles.drop r.tiles) = (none, t) ∧
          (t.coreCounts c r ev o).taskWrites c r.part r.index ev.writes.reverse = (true, t'))
        (fun _ => (t'.grpEffects r o).finishTask c r) ∧
      WorkDoes (.taskComplete core) (fun u => (u.core c).run = none) (fun u => u))

/-- The end of a graph (R81): once every task is done, skipped or the graph has failed and none runs, the graph ends;
at its run-time limit it fails with code 0x11; before, nothing happens. Partition reset (R86): while one runs another
is answered STATE; the reset clears the partition's slots and runs and stops its blocks; as it completes, the
partition's streams, counters and contexts are cleared, its pages and Drover units take their reset, it is quiet and no
longer stopped, and PRST_DONE is raised. Where an event is not due nothing changes: the model's choice (log 4). Choices
of the model it rests on: logs 20, 51, 82. -/
def Obligations.GraphsEndAndPartitionsReset : Prop :=
  (∀ (p : Part) (bg : Bool) (g : Graph),
     WorkDoes (.graphComplete p bg)
         (fun u => u.graph p bg = some g ∧ u.partHalted p = false ∧ g.busy = false ∧ (g.failed = true ∨ g.doneCount = g.count))
         (fun u => u.graphEnd p bg) ∧
       WorkDoes (.graphComplete p bg)
         (fun u => u.graph p bg = some g ∧ (g.busy = true ∨ g.failed = false ∧ g.doneCount ≠ g.count)) (fun u => u) ∧
       WorkDoes (.graphLimit p bg)
         (fun u => u.graph p bg = some g ∧ u.partHalted p = false ∧ g.limit ≠ 0 ∧ g.limit ≤ u.runTime g ∧ g.failed = false)
         (fun u => (u.error Pg.sch Cls.task p 0x11 g.index).markFailed p bg 0 true) ∧
       WorkDoes (.graphLimit p bg) (fun u => u.graph p bg = some g ∧ (g.limit = 0 ∨ u.runTime g < g.limit)) (fun u => u)) ∧
  ((∀ (r : Req) (p : Part),
     let v := w32 (at_ 8 1 + p.val)
     let written := fun (u : State) => u.plainWrite r.port Pg.sch Reg.schPrst v
     WriteDoes (.partitionReset r p) r Pg.sch Reg.schPrst v 0
         (fun u => (List.range 8).any (fun q => (u.schPart q).resetting) = false)
         (fun u => ((((written u).setSchPart p { (written u).schPart p with resetting := true }).clearSlots p).stopRuns p
           ).stopBlocks p) ∧
       WriteDoes (.partitionReset r p) r Pg.sch Reg.schPrst v 4
         (fun u => (List.range 8).any (fun q => (u.schPart q).resetting) = true) (fun u => u)) ∧
   (∀ p : Part,
     EventDoes (.partitionResetComplete p) (fun u => (u.schPart p).resetting = true)
         (fun u =>
           let t := (((u.clearPart p).prstPages p).foldl (fun t pg => t.pagePrst pg) (u.clearPart p))
           let t := (List.range 8).foldl (fun t n => if t.owns p (Pg.drv n) then t.drvEmpty n else t) t
           let t := t.setPartSec p { t.partSec p with quiet := true }
           { t with stopped := setBit t.stopped p false }.irq Pg.sch 20) ∧
       EventDoes (.partitionResetComplete p) (fun u => (u.schPart p).resetting = false) (fun u => u)))

/-- The lanes of a Drover unit (R90, R94, R111): a free lane of a unit that is ON goes to the lowest core whose gate
task asks for it; a token whose route is not in the active bank makes the lane wait and the unit load the bank; with
the route's bank active the token is evaluated, its outputs are written and its experts are selected; and with all of
its weights fetched an issued task's gate ends. A lane that is held, or a unit that is not ON, does nothing. Where an
event is not due nothing changes: the model's choice (log 4). -/
def Obligations.DroverLanes : Prop :=
  ∀ (n : Fin 8) (l : Fin 4) (c : Nat) (r : Run) (g : GateRun),
    let lane := fun (u : State) => vget (u.drvUnit n).lanes l
    let asks := fun (u : State) => (List.range 64).find? (fun c => (u.gateRun c).any (fun g =>
      decide (g.2.unit = n.val ∧ g.2.lane = l.val) && !g.2.granted))
    let fetched := fun (u : State) => (List.range 64).find? (fun c => (u.gateRun c).any (fun g =>
      decide (g.2.unit = n.val ∧ g.2.lane = l.val) && g.2.issued && !g.2.ended))
    let token := fun (u : State) => (lane u).core = some c ∧ u.gateRun c = some (r, g) ∧ u.isOn (Pg.drv n) = true ∧
      (u.page (Pg.drv n)).halt = false ∧ g.issued = false ∧ g.unread < 256 ∧ u.drvHeld n = false ∧ u.coreWorks c = true
    let route := fun (u : State) => (u.activeBank n).filter (fun b => decide ((u.bank n b).addr = g.route))
    let eval := fun (u : State) => u.evalTask r (do
      let x ← readGate r.desc
      gateToken x ({ op := 0x03, desc := r.desc, blk := 0 } : Task).conv g.next)
    WorkDoes (.laneGrant n l)
        (fun u => u.isOn (Pg.drv n) = true ∧ (lane u).core = none ∧ asks u = some c ∧ u.gateRun c = some (r, g))
        (fun u => (u.setDrv n { u.drvUnit n with lanes := vset (u.drvUnit n).lanes l { lane u with core := some c } }).setGate
          c { g with granted := true }) ∧
      WorkDoes (.laneGrant n l)
        (fun u => u.isOn (Pg.drv n) = false ∨ (lane u).core.isSome = true ∨ asks u = none) (fun u => u) ∧
      WorkDoes (.tokenSelect n l) (fun u => token u ∧ route u = none ∧ (u.drvUnit n).waits.contains l.val = false)
        (fun u => (u.setDrv n { u.drvUnit n with waits := (u.drvUnit n).waits ++ [l.val] }).demand n) ∧
      WorkDoes (.tokenSelect n l) (fun u => token u ∧ route u = none ∧ (u.drvUnit n).waits.contains l.val = true)
        (fun u => u.demand n) ∧
      (∀ (b : Nat) (vec : List Byte) (vs : List Val) (e : Ev) (t : State),
        WorkDoes (.tokenSelect n l)
          (fun u => token u ∧ route u = some b ∧ eval u = (.ok (vec, vs), e) ∧
            e.s.taskWrites c r.part r.index e.writes.reverse = (true, t))
          (fun _ => (t.setCore c { t.core c with run := (t.core c).run.map (fun y => { y with once := true }) }).selectToken
            n l b c { r with once := true } g vec vs)) ∧
      (∀ (b : Nat) (st : Stop) (e : Ev),
        WorkDoes (.tokenSelect n l) (fun u => token u ∧ route u = some b ∧ eval u = (.error st, e))
          (fun _ => e.s.stopTask c st)) ∧
      WorkDoes (.tokenSelect n l) (fun u => (lane u).core = none) (fun u => u) ∧
      WorkDoes (.weightFetchComplete n l) (fun u => fetched u = some c) (fun u => u.gateEnd n c) ∧
      WorkDoes (.weightFetchComplete n l) (fun u => fetched u = none) (fun u => u)

/-- The banks of a Drover unit (R92 to R96): a load whose record lies outside its partition's memory, or names lists
that do, fails with code 0x11, one whose reads fail with 0x12, one with a field that R93 does not permit with 0x10; a
good one makes the bank READY with its record, locations and biases. A READY bank that a lane waits for becomes ACTIVE
once no lane uses the active one, which empties, and its lanes no longer wait. Where an event is not due nothing
changes: the model's choice (log 4). Choices of the model it rests on: logs 49, 83. -/
def Obligations.DroverBanks : Prop :=
  ∀ (n : Fin 8) (b : Nat),
    let loading := fun (u : State) => [0, 1].find? (fun b => decide ((u.bank n b).st = .loading)) = some b
    let at_ := fun (u : State) => (u.bank n b).addr
    let p := fun (u : State) => (u.bank n b).part
    WorkDoes (.bankLoadComplete n true) (fun u => loading u ∧ u.inGdr (p u) (at_ u) 128 = true)
        (fun u => u.loadFail n b 0x12 none) ∧
      (∀ e : Bool, WorkDoes (.bankLoadComplete n e) (fun u => loading u ∧ u.inGdr (p u) (at_ u) 128 = false)
        (fun u => u.loadFail n b 0x11 none)) ∧
      (∀ (bs : List Byte) (t : State) (f : Nat), WorkDoes (.bankLoadComplete n false)
        (fun u => loading u ∧ u.inGdr (p u) (at_ u) 128 = true ∧ u.read (p u) (at_ u) 128 = (.ok bs, t) ∧
          recordBad (wordsOf 1024 bs) = some f)
        (fun _ => t.loadFail n b 0x10 (some f))) ∧
      (∀ (bs ls cs : List Byte) (q : Nat) (t t' t'' : State),
        let w := wordsOf 1024 bs
        WorkDoes (.bankLoadComplete n false)
          (fun u => loading u ∧ p u = q ∧ u.inGdr q (at_ u) 128 = true ∧ u.read q (at_ u) 128 = (.ok bs, t) ∧
            recordBad w = none ∧ t.inGdr q (rrLoc w) (8 * rrNexp w) = true ∧ rrBiasEn w = true ∧
            t.inGdr q (rrBias w) (4 * rrNexp w) = true ∧ (rrFetch w = true → t.inScb q (rrWfSig w) = true) ∧
            t.read q (rrLoc w) (8 * rrNexp w) = (.ok ls, t') ∧ t'.read q (rrBias w) (4 * rrNexp w) = (.ok cs, t''))
          (fun u => t''.setBank n b { Bank.init with
            st := .ready, addr := at_ u, part := q, words := w, locs := (chunks 8 (rrNexp w) ls).map leNat,
            bias := (chunks 4 (cs.length / 4) cs).map (fun c => w32 (leNat c)) })) ∧
      (∀ e : Bool, WorkDoes (.bankLoadComplete n e)
        (fun u => [0, 1].find? (fun b => decide ((u.bank n b).st = .loading)) = none) (fun u => u)) ∧
      (let wanted := fun (t : State) => [0, 1].find? (fun b => decide ((t.bank n b).st = .ready) &&
        (t.drvUnit n).waits.any (fun l => decide (t.laneRoute n l = some (t.bank n b).addr)))
       let inUse := fun (t : State) (a : Nat) => (List.range 4).any (fun l => decide (t.laneRoute n l = some (t.bank n a).addr))
       (∀ act : Option Nat, WorkDoes (.bankSwitch n)
          (fun u =>
            let t := u.trimWaits n
            u.isOn (Pg.drv n) = true ∧ wanted t = some b ∧ t.activeBank n = act ∧ act.any (inUse t) = false)
          (fun u =>
            let x := (u.trimWaits n).bank n b
            let t := match act with
              | some a => (u.trimWaits n).setBank n a Bank.init
              | none => u.trimWaits n
            let t := t.setBank n b { x with st := .active }
            let t := t.setDrv n { t.drvUnit n with
              waits := (t.drvUnit n).waits.filter (fun l => decide (t.laneRoute n l ≠ some x.addr)) }
            let t :=
              if rrNext x.words ≠ 0 ∧ t.rb (Pg.drv n) Reg.drvCtrl 1 ∧ !t.bankHolds n (rrNext x.words) then
                t.startLoad n (1 - b) (rrNext x.words) x.part
              else t
            t.demand n)) ∧
       WorkDoes (.bankSwitch n) (fun u => u.isOn (Pg.drv n) = true ∧ wanted (u.trimWaits n) = none) (fun u => u.trimWaits n) ∧
       WorkDoes (.bankSwitch n) (fun u => u.isOn (Pg.drv n) = false) (fun u => u))

/-- Drover's INV, LOAD_HINT and parity (R96, R103, R113): INV empties both banks, and is answered STATE while a lane is
held; a good hint for the layer of an active record with prefetch policy 3 marks the expert hot or not; one that fails
its check counts as a bad bale; a parity error of a unit raises PARITY and code 0x14, ends its gate tasks and empties
it, and quarantines it at the second within a second. Where an event is not due nothing changes: the model's choice
(log 4). Choices of the model it rests on: log 83. -/
def Obligations.DroverCommands : Prop :=
  (∀ (r : Req) (n : Fin 8),
    let held := fun (u : State) => (List.range 4).any (fun l => (vget (u.drvUnit n).lanes l).core.isSome)
    WriteDoes (.inv r n) r (Pg.drv n) Reg.drvCmd 1 0 (fun u => held u = false)
        (fun u => u.setDrv n { u.drvUnit n with banks := Vector.replicate 2 Bank.init, waits := [] }) ∧
      WriteDoes (.inv r n) r (Pg.drv n) Reg.drvCmd 1 4 (fun u => held u = true) (fun u => u)) ∧
  (∀ (pkt : Packet) (t : State) (p : Nat),
    WorkDoes (.loadHint pkt) (fun u => pkt.vc = 2 ∧ pkt.type = 4 ∧ u.takeEjected pkt = some t ∧ pkt.crcOk = false)
        (fun _ => t.baleCrc) ∧
      WorkDoes (.loadHint pkt)
        (fun u => pkt.vc = 2 ∧ pkt.type = 4 ∧ u.takeEjected pkt = some t ∧ pkt.crcOk = true ∧ t.balePart pkt = some p)
        (fun _ => (List.range 8).foldl
          (fun s n =>
            match s.activeBank n with
            | some b =>
              let x := s.bank n b
              if s.owns p (Pg.drv n) ∧ s.isOn (Pg.drv n) ∧ s.rb (Pg.drv n) Reg.drvCtrl 0 ∧ rrPol x.words = 3 ∧
                  x.part = p ∧ rrLayer x.words = pkt.layerOf then
                s.setBank n b { x with hot := x.hot.set false (pkt.fld 0x1C 13 0) (decide (pkt.fld 0x1C 15 15 = 1)) }
              else s
            | none => s) t) ∧
      WorkDoes (.loadHint pkt) (fun u => u.takeEjected pkt = none) (fun u => u)) ∧
  (∀ n : Fin 8,
    let noted := fun (u : State) => (u.setDrv n { u.drvUnit n with parityAt := some u.now }).irq (Pg.drv n) 22
    let gates := fun (t : State) => (List.range 64).filterMap (fun c => (t.gateRun c).bind (fun g =>
      if g.2.unit = n.val ∧ g.2.granted ∧ !g.2.ended then some (c, g.1.index) else none))
    let again := fun (u : State) => (u.drvUnit n).parityAt.any (fun t => decide (u.now ≤ t + 1000000000))
    EventDoes (.droverParity n) (fun u => gates (noted u) = [] ∧ again u = false)
        (fun u => ((noted u).errorOpen (Pg.drv n) Cls.task (u.partOf (Pg.drv n)) 0x14).drvEmpty n) ∧
      EventDoes (.droverParity n) (fun u => gates (noted u) = [] ∧ again u = true)
        (fun u => (((noted u).errorOpen (Pg.drv n) Cls.task (u.partOf (Pg.drv n)) 0x14).drvEmpty n).quarantine (Pg.drv n)) ∧
      (∀ (c i : Nat) (more : List (Nat × Nat)), EventDoes (.droverParity n)
        (fun u => gates (noted u) = (c, i) :: more ∧ again u = false)
        (fun u => (((c, i) :: more).foldl (fun s x => s.taskEnd x.1)
          ((noted u).error (Pg.drv n) Cls.task (u.partOf (Pg.drv n)) 0x14 i)).drvEmpty n)))

/-- The records that Drover hands to a Convoy engine (R118, R122 to R124, R139): a dispatch record is kept for its
lane's combine and counts its rank in the dispatch context of its step and layer, which it may not do twice (code
0x11); a token record takes the kept records of its token to the combine entry and to the bales, and with no expert
combines to zero at once; an end record counts an end of its context, which is due at the END_EXPECT-th; a further one,
or one that names another number, is code 0x12. With no record that may be taken, nothing happens. Where an event is
not due nothing changes: the model's choice (log 4). Choices of the model it rests on: logs 53, 85. -/
def Obligations.ConvoyRecords : Prop :=
  ∀ (n : Fin 8) (r : CnvRec) (t : State) (i : Nat) (c : CloseCtx),
    let w := r.word
    let lane := recLane w
    let e := t.cnvEng n
    let kept := t.setCnv n { e with kept := vset e.kept lane (vget e.kept lane ++ [w]) }
    let count := fun (v : State) =>
      kept.ctxFor n r.part (recStep w) (recLayer w) (some (recToken w)) = (some i, v) ∧ vget v.sri.ctxs i = some c ∧ c.bad = false
    let endsIn := fun (v : State) => (t.laneEnd n w).ctxFor n r.part (recStep w) (recLayer w) none = (some i, v) ∧ vget v.sri.ctxs i = some c
    let expect := max 1 (recEndExpect w)
    (∀ (v : State) (es : List (Nat × Nat × Nat)),
      WorkDoes (.convoyDispatchRecord n)
        (fun u => u.takeRecord n 0 = some (r, t) ∧ count v ∧ countRank (recDest w) (recQueue w) c.entries = some es)
        (fun _ => v.setCtx i (some { c with entries := es }))) ∧
      (∀ v : State, WorkDoes (.convoyDispatchRecord n)
        (fun u => u.takeRecord n 0 = some (r, t) ∧ count v ∧ countRank (recDest w) (recQueue w) c.entries = none)
        (fun _ => v.cnvErr n r.part 0x11 (some (recQueue w)) (recStep w))) ∧
      WorkDoes (.convoyDispatchRecord n) (fun u => u.takeRecord n 0 = none) (fun u => u) ∧
      (∀ (id : Nat) (v : State),
        let recs := (vget e.kept lane).filter (fun x => decide (recToken x = recToken w ∧ recStep x = recStep w))
        let taken := (v.mapGateTask n id (fun t => { t with unwritten := t.unwritten + 1 })).vectorDone r
        let task := fun (u : State) => u.takeRecord n 1 = some (r, t) ∧
          (t.setCnv n { e with kept := vset e.kept lane [] }).laneTaskFor n lane r.part (recStep w) (recLayer w) = (id, v)
        WorkDoes (.convoyTokenRecord n) (fun u => task u ∧ recMask w = 0) (fun _ => taken.zeroToken n r id) ∧
          (∀ (m : Nat) (v' : State), WorkDoes (.convoyTokenRecord n)
            (fun u => task u ∧ recMask w ≠ 0 ∧
              (taken.combEnter n r id recs).manFor n r.part false (recStep w) (recLayer w)
                (((taken.combEnter n r id recs).ctxOf r.part (recStep w) (recLayer w)).bind
                  (fun i => (vget (taken.combEnter n r id recs).sri.ctxs i).bind (·.fence))) = (m, v'))
            (fun _ => v'.scatter n r.part m recs r.vec))) ∧
      WorkDoes (.convoyTokenRecord n) (fun u => u.takeRecord n 1 = none) (fun u => u) ∧
      (∀ v : State,
        let first := if c.ends = 0 then expect else c.expect
        let next := v.setCtx i (some { c with ends := c.ends + 1, expect := first, due := first ≤ c.ends + 1 })
        WorkDoes (.convoyEndRecord n)
            (fun u => u.takeRecord n 2 = some (r, t) ∧ endsIn v ∧ c.due = false ∧ expect = first) (fun _ => next) ∧
          WorkDoes (.convoyEndRecord n)
            (fun u => u.takeRecord n 2 = some (r, t) ∧ endsIn v ∧ c.due = false ∧ expect ≠ first)
            (fun _ => next.cnvErr n r.part 0x12 none (recStep w)) ∧
          WorkDoes (.convoyEndRecord n) (fun u => u.takeRecord n 2 = some (r, t) ∧ endsIn v ∧ c.due = true)
            (fun _ => v.cnvErr n r.part 0x12 none (recStep w))) ∧
      WorkDoes (.convoyEndRecord n) (fun u => u.takeRecord n 2 = none) (fun u => u)

/-- What Convoy sends and takes back (R123, R133, R137, R140 to R142, R149): a context that is due and not busy sends
its CLOSE bales, one group of ranks a destination, and is done; a return bale with a good CRC counts in CNV_CNT_RETIN,
is matched to its entries unless its step has retired (CNV_CNT_STALE), and is acknowledged; an acknowledgement with a
good CRC takes its count from its manifest; a sealed manifest that CNV_MTMO has passed is given up with code 0x15, its
destinations suspects; a bale that fails its CRC is counted and dropped; a parity error raises PARITY and code 0x14 and
fails the step. Where an event is not due nothing changes: the model's choice (log 4). Choices of the model it rests
on: logs 43, 44, 85. -/
def Obligations.ConvoyBales : Prop :=
  (∀ (i : Fin 8) (c : CloseCtx) (eng man : Nat) (t : State),
    let ready := fun (u : State) => vget u.sri.ctxs i = some c ∧ c.due = true ∧ u.ctxBusy c = false
    WorkDoes (.closeSend i) (fun u => ready u ∧ c.entries = []) (fun u => u.ctxDone i c) ∧
      WorkDoes (.closeSend i)
        (fun u => ready u ∧ c.entries.isEmpty = false ∧ u.firstEng c.part = some eng ∧
          u.manRoom eng c.part false c.step c.layer = true ∧
          u.manFor eng c.part false c.step c.layer c.fence = (man, t))
        (fun _ => ((closeBales c.entries).foldl
          (fun s g => (s.manAdd eng man [g.1]).sendOne c.part 1 2 (BitVec.ofNat 16 g.1)
            [(0, 31, 24, c.layer), (0x10, 31, 0, c.step.toNat), (0x18, 24, 22, eng), (0x18, 31, 25, man),
             (0x1C, 15, 0, g.2.length)]
            (g.2.flatMap (fun e => toLE 8 (e.2.1 + at_ 32 e.2.2)))) t).ctxDone i c) ∧
      WorkDoes (.closeSend i) (fun u => vget u.sri.ctxs i = some c ∧ c.due = false) (fun u => u)) ∧
  (∀ (pkt : Packet) (t : State) (p : Nat),
    let came := fun (u : State) => pkt.vc = 2 ∧ pkt.type ≠ 3 ∧ pkt.type ≠ 4 ∧ u.takeEjected pkt = some t ∧
      t.isOn (Pg.cnv pkt.engOf) = true
    let counted := t.bump (Pg.cnv pkt.engOf) Reg.cnvCntRetin
    WorkDoes (.returnBale pkt) (fun u => came u ∧ (pkt.crcOk = false ∨ pkt.type ≠ 1)) (fun _ => t.baleCrc) ∧
      WorkDoes (.returnBale pkt)
        (fun u => came u ∧ pkt.crcOk = true ∧ pkt.type = 1 ∧ t.balePart pkt = some p ∧
          counted.retiredStep p pkt.stepOf = true)
        (fun _ => (counted.bump (Pg.cnv pkt.engOf) Reg.cnvCntStale).ackBale p pkt) ∧
      WorkDoes (.returnBale pkt)
        (fun u => came u ∧ pkt.crcOk = true ∧ pkt.type = 1 ∧ t.balePart pkt = some p ∧
          counted.retiredStep p pkt.stepOf = false)
        (fun _ => (counted.matchReturn pkt.engOf p pkt).ackBale p pkt) ∧
      WorkDoes (.returnBale pkt) (fun u => u.takeEjected pkt = none) (fun u => u)) ∧
  (∀ (pkt : Packet) (t : State) (p eng : Nat) (m : Man),
    let came := fun (u : State) => pkt.vc = 2 ∧ pkt.type = 3 ∧ u.takeEjected pkt = some t
    let man := pkt.fld 0x18 31 25
    let counted := t.bump (Pg.cnv eng) Reg.cnvCntAck
    WorkDoes (.ackBale pkt) (fun u => came u ∧ pkt.crcOk = false) (fun _ => t.baleCrc) ∧
      WorkDoes (.ackBale pkt)
        (fun u => came u ∧ pkt.crcOk = true ∧ t.balePart pkt = some p ∧ t.ackedEng pkt.engOf man = some eng ∧
          t.man eng man = some m ∧ m.part = p)
        (fun _ => (counted.setMan eng man (some (m.sub pkt.src.toNat (pkt.fld 0x1C 15 0)))).checkMan eng man) ∧
      WorkDoes (.ackBale pkt) (fun u => u.takeEjected pkt = none) (fun u => u)) ∧
  (∀ (n : Fin 8) (i : BitVec 7) (m : Man) (at_ : Nat),
    let sealedM := fun (u : State) => u.man n i.toNat = some m ∧ m.sealedAt = some at_
    WorkDoes (.manifestTimeout n i) (fun u => sealedM u ∧ at_ + (u.reg (Pg.cnv n) Reg.cnvMtmo).toNat ≤ u.now)
        (fun u =>
          let t := u.setMan n i.toNat none
          let sh := t.tagShape ((t.ptag m.part).getD 0)
          let t := m.dests.foldl (fun s kv => s.suspect (s.toPhys sh (BitVec.ofNat 16 kv.1)) Cause.manifest) t
          let t := if 0 < m.other then t.suspectBit Cause.other else t
          t.cnvErr n m.part 0x15 (some i.toNat) m.step) ∧
      WorkDoes (.manifestTimeout n i) (fun u => sealedM u ∧ u.now < at_ + (u.reg (Pg.cnv n) Reg.cnvMtmo).toNat)
        (fun u => u) ∧
      WorkDoes (.manifestTimeout n i) (fun u => u.man n i.toNat = none) (fun u => u)) ∧
  (∀ n : Fin 8,
    let noted := fun (u : State) => ((u.setCnv n { u.cnvEng n with parityAt := some u.now }).irq (Pg.cnv n) 19).errorOpen
      (Pg.cnv n) Cls.task (u.partOf (Pg.cnv n)) 0x14
    let again := fun (u : State) => (u.cnvEng n).parityAt.any (fun t => decide (u.now ≤ t + 1000000000))
    EventDoes (.convoyParity n) (fun u => again u = false ∧ ((noted u).schPart (u.partOf (Pg.cnv n))).live = none) noted ∧
      EventDoes (.convoyParity n) (fun u => again u = true ∧ ((noted u).schPart (u.partOf (Pg.cnv n))).live = none)
        (fun u => (noted u).quarantine (Pg.cnv n)) ∧
      (∀ g : Graph, EventDoes (.convoyParity n)
        (fun u => again u = false ∧ ((noted u).schPart (u.partOf (Pg.cnv n))).live = some g ∧
          (noted u).owns (u.partOf (Pg.cnv n)) (Pg.cnv n) = true)
        (fun u => (noted u).failStep (u.partOf (Pg.cnv n)) g.step)))

/-- Serai's bales and its Ledger commands (R126, R131 to R133, R140, R147): a DISPATCH bale with a cell to hold it
counts in SRI_CNT_BALES, its payload is written and each of its ranks is taken, and without one each is refused; a
CLOSE bale closes its queues; a generation still open after SRI_QTMO fails with code 0x15; acknowledgements 500 ticks
old are sent; parity errors are recorded, Serai's with code 0x18 and the Ledger's with code 0x12. ALLOC grants a chain
from a pool that can serve it, else answers 1, or 2 to a port that may not; FREE frees a chain of the host class, else
answers 1 or 2 and counts. Where an event is not due nothing changes: the model's choice (log 4). Choices of the model
it rests on: logs 87, 88, 89. -/
def Obligations.SeraiAndLedger : Prop :=
  (∀ (pkt : Packet) (t : State),
    let enters := fun (s : State) (p : Nat) (ts : List Target) =>
      match s.alloc p Cl.serai 0 pkt.len with
      | (none, s) => ts.foldl (fun s t => s.takeRank p pkt none false t) s
      | (some (a, pool), s) =>
        let s := ((if pkt.len = 0 then s else s.noteSpill pool).bump Pg.sri Reg.sriCntBales).chainWrite pkt.stepOf a pkt.payload
        (ts.foldl (fun s t => s.takeRank p pkt (some a) (1 < ts.length) t) s).freeUnused p [a]
    WorkDoes (.seraiDispatchBale pkt) (fun u => pkt.vc = 1 ∧ pkt.type = 0 ∧ u.takeEjected pkt = some t)
        (fun _ => t.baleArrive pkt (t.dispatchTargets pkt) enters) ∧
      WorkDoes (.seraiDispatchBale pkt)
        (fun u => pkt.vc = 1 ∧ pkt.type ≠ 0 ∧ pkt.type ≠ 2 ∧ u.takeEjected pkt = some t ∧ t.isOn Pg.sri = true)
        (fun _ => t.baleCrc) ∧
      WorkDoes (.seraiDispatchBale pkt) (fun u => u.takeEjected pkt = none) (fun u => u) ∧
      WorkDoes (.seraiCloseBale pkt) (fun u => pkt.vc = 1 ∧ pkt.type = 2 ∧ u.takeEjected pkt = some t)
        (fun _ => t.baleArrive pkt (closeTargets pkt) fun s p ts => ts.foldl (fun s t => s.takeClose p pkt t) s) ∧
      WorkDoes (.seraiCloseBale pkt) (fun u => u.takeEjected pkt = none) (fun u => u)) ∧
  (∀ (q : BitVec 12) (next : Bool) (g : Gen),
    let gen := fun (u : State) => if next then (u.queue q.toNat).nxt else (u.queue q.toNat).cur
    let late := fun (u : State) => g.st = .opened ∧ g.openedAt + (u.reg Pg.sri Reg.sriQtmo).toNat ≤ u.now
    WorkDoes (.queueTimeout q next) (fun u => gen u = some g ∧ late u)
        (fun u => (u.genErr q.toNat g 0x15).suspectBit Cause.other) ∧
      WorkDoes (.queueTimeout q next) (fun u => gen u = none ∨ gen u = some g ∧ ¬late u) (fun u => u)) ∧
  (∀ (c : Coord) (eng : Fin 8) (man : BitVec 7) (a : Ack),
    let due := fun (u : State) => u.sri.acks.filter
      (fun a => decide (a.coord = c ∧ a.eng = eng.val ∧ a.man = man.toNat ∧ a.since + 500 ≤ u.now))
    WorkDoes (.ackSend c eng man) (fun u => due u = [a]) (fun u => u.sendAck a) ∧
      WorkDoes (.ackSend c eng man) (fun u => due u = []) (fun u => u)) ∧
  (∀ (q : BitVec 12) (p : Nat),
    let owner := fun (u : State) => (List.range 8).find? (fun p => u.inSri p q.toNat)
    EventDoes (.seraiParity q) (fun u => owner u = some p)
        (fun u => (u.irq Pg.sri 20).errorOpen Pg.sri Cls.partition p 0x18) ∧
      EventDoes (.seraiParity q) (fun u => owner u = none) (fun u => u)) ∧
  EventDoes .ledgerParity (fun _ => True) (fun u => (u.irq Pg.ldg 19).errorOpen Pg.ldg Cls.device 0 0x12) ∧
  (∀ (r : Req) (data : W32),
    let p := fld data 14 12
    let pool := fld data 11 10
    let n := (fld data 9 0 + 1) * cellSize pool
    let may := fun (u : State) => (u.isMgmt r.port || u.ownsPart r.port p) = true
    WriteDoes (.ledgerAlloc r data) r Pg.ldg Reg.ldgAreq data 0 (fun u => ¬may u) (fun u => u.setAstat r.port 1 0 2) ∧
      WriteDoes (.ledgerAlloc r data) r Pg.ldg Reg.ldgAreq data 0
        (fun u => may u ∧ (pool = 3 ∨ u.servingPool p Cl.host pool n = none))
        (fun u => (u.bump Pg.ldg Reg.ldgCntFail).setAstat r.port 1 0 1) ∧
      (∀ (q h : Nat) (t : State), WriteDoes (.ledgerAlloc r data) r Pg.ldg Reg.ldgAreq data 0
        (fun u => may u ∧ pool ≠ 3 ∧ u.servingPool p Cl.host pool n = some q ∧ u.grant p Cl.host pool n q = (h, t))
        (fun _ =>
          let t := (t.setAstat r.port 1 0 0).setAstat r.port 3 2 q
          (t.setPortReg r.port Pg.ldg Reg.ldgAresLo (w32 (h % 2 ^ 32))).setPortReg r.port Pg.ldg Reg.ldgAresHi
            (w32 (h / 2 ^ 32))))) ∧
  (∀ (r : Req) (lo hi : W32) (c : Chain),
    let a := fun (t : State) => (t.portReg r.port Pg.ldg Reg.ldgFreeLo).toNat + 2 ^ 32 * fld hi 11 0
    let taken := fun (t : State) => t.setPortReg r.port Pg.ldg Reg.ldgFreeLo 0
    let may := fun (t : State) (p : Nat) => (t.isMgmt r.port || t.ownsPart r.port p) = true
    HighDoes (.ledgerFree r hi) r Pg.ldg Reg.ldgFreeHi lo hi (fun t => (taken t).chainAt (a t) = none)
        (fun t => ((taken t).bump Pg.ldg Reg.ldgCntBadptr).setAstat r.port 5 4 1) ∧
      HighDoes (.ledgerFree r hi) r Pg.ldg Reg.ldgFreeHi lo hi
        (fun t => (taken t).chainAt (a t) = some c ∧ ¬may t c.part)
        (fun t => ((taken t).bump Pg.ldg Reg.ldgCntBadptr).setAstat r.port 5 4 2) ∧
      HighDoes (.ledgerFree r hi) r Pg.ldg Reg.ldgFreeHi lo hi
        (fun t => (taken t).chainAt (a t) = some c ∧ may t c.part ∧ c.cls ≠ Cl.host)
        (fun t => ((taken t).bump Pg.ldg Reg.ldgCntBadptr).setAstat r.port 5 4 1) ∧
      HighDoes (.ledgerFree r hi) r Pg.ldg Reg.ldgFreeHi lo hi
        (fun t => (taken t).chainAt (a t) = some c ∧ may t c.part ∧ c.cls = Cl.host)
        (fun t => ((taken t).setChain (a t) none).setAstat r.port 5 4 0))

/-- The checks of a core (R187, R188, R177): with the residue checker on, a mismatch counts in COR_CNT_RMISS, is noted
in COR_RES_LAST and raises RESIDUE, the pass is recomputed at the first and the second and at the third the page is
quarantined with code 0x1A; a pass that agrees counts in COR_CNT_PASSES, and in COR_CNT_RCHK where it was checked. A
scratchpad parity error counts in COR_CNT_PAR, ends the task with code 0x14, and quarantines the core at the second
within a second. A tile of the range monitor that ends adds its counts of the six classes to COR_RM_CNT; where
thresholds are exceeded (R173) their number goes to COR_RM_TILES, COR_RM_LAST takes the task and the first class while
it is not valid, an event is raised, and the task ends with code 0x20 where ENDTASK is set for such a class. A core
that holds no task, or does not work, is left as it is. Where an event is not due nothing changes: the model's choice
(log 4). Choices of the model it rests on: logs 89, 126. -/
def Obligations.CoreChecks : Prop :=
  (∀ (core : Fin 64) (array : Fin 4) (r : Run),
    let c := core.val
    let pg := Pg.cor c
    let k := r.tries.get 0 array + 1
    let checked := fun (u : State) => (u.core c).run = some r ∧ u.coreWorks c = true ∧ u.rb pg Reg.corCtrl 0 = true
    let noted := fun (u : State) =>
      (((u.setCore c { u.core c with run := some { r with tries := r.tries.set 0 array (k % 3) } }).bump pg Reg.corCntRmiss
        ).setReg pg Reg.corResLast
          (w32 (at_ 31 1 + at_ 16 (r.index % 2 ^ 14) + at_ 4 (min r.passes 0xFFF) + at_ 2 array + min k 3))).irq pg 16
    let passed := fun (u : State) => (u.setCore c { u.core c with
      run := some { r with passes := r.passes + 1, tries := r.tries.set 0 array 0 } }).bump pg Reg.corCntPasses
    WorkDoes (.passCheck core array true) (fun u => checked u ∧ k < 3) (fun u => (noted u).bump pg Reg.corCntRecomp) ∧
      WorkDoes (.passCheck core array true) (fun u => checked u ∧ 3 ≤ k)
        (fun u => (((noted u).error pg Cls.recomputed r.part 0x1A r.index).quarantine pg).coreLeaves c) ∧
      WorkDoes (.passCheck core array false) (fun u => checked u ∧ (passed u).rb pg Reg.corCtrl 0 = true)
        (fun u => (passed u).bump pg Reg.corCntRchk) ∧
      WorkDoes (.passCheck core array false)
        (fun u => (u.core c).run = some r ∧ u.coreWorks c = true ∧ (passed u).rb pg Reg.corCtrl 0 = false) passed ∧
      (∀ bad : Bool, WorkDoes (.passCheck core array bad) (fun u => (u.core c).run = none) (fun u => u))) ∧
  (∀ (core : Fin 64) (r : Run),
    let c := core.val
    let pg := Pg.cor c
    let again := fun (u : State) => (u.core c).parityAt.any (fun t => decide (u.now ≤ t + 1000000000))
    let noted := fun (u : State) => ((u.setCore c { u.core c with parityAt := some u.now }).bump pg Reg.corCntPar).irq pg 17
    EventDoes (.scratchpadParity core)
        (fun u => u.coreWorks c = true ∧ again u = false ∧ (u.core c).run = some r)
        (fun u => (noted u).taskError c 0x14 r.index) ∧
      EventDoes (.scratchpadParity core)
        (fun u => u.coreWorks c = true ∧ again u = true ∧ (u.core c).run = some r)
        (fun u => (((noted u).taskError c 0x14 r.index).quarantine pg).coreLeaves c) ∧
      EventDoes (.scratchpadParity core) (fun u => u.coreWorks c = true ∧ again u = false ∧ (u.core c).run = none)
        (fun u => (noted u).errorOpen pg Cls.task ((noted u).partOf pg) 0x14) ∧
      EventDoes (.scratchpadParity core) (fun u => u.coreWorks c = false) (fun u => u)) ∧
  (∀ (core : Fin 64) (r : Run) (m : Mon),
    let c := core.val
    let pg := Pg.cor c
    let ends := fun (u : State) => (u.core c).run = some r ∧ u.coreWorks c = true ∧
      ((u.evalTask r (runTask r)).2.tiles)[r.tiles]? = some m
    let counted := fun (u : State) => (List.range 6).foldl (fun t k => t.bumpBy pg (Reg.corRmCnt k) (m.cls k))
      (u.setCore c { u.core c with run := some { r with tiles := r.tiles + 1 } })
    let beyond := fun (u : State) => (counted u).rmOver c m
    let tiles := fun (u : State) => (counted u).bumpBy pg Reg.corRmTiles (beyond u).length
    let noted := fun (u : State) => ((if (tiles u).rb pg Reg.corRmLast 31 = true then tiles u else
      (tiles u).setReg pg Reg.corRmLast (w32 (at_ 31 1 + at_ 16 (r.index % 2 ^ 14) + (beyond u).headD 0)))).irq pg 24
    let ending := fun (u : State) => (beyond u).find? fun k => ((if (tiles u).rb pg Reg.corRmLast 31 = true then tiles u else
      (tiles u).setReg pg Reg.corRmLast (w32 (at_ 31 1 + at_ 16 (r.index % 2 ^ 14) + (beyond u).headD 0)))).rb pg Reg.corRmCtrl k
    WorkDoes (.range core) (fun u => ends u ∧ beyond u = []) counted ∧
      WorkDoes (.range core) (fun u => ends u ∧ beyond u ≠ [] ∧ ending u = none) noted ∧
      (∀ k : Nat, WorkDoes (.range core) (fun u => ends u ∧ beyond u ≠ [] ∧ ending u = some k)
        (fun u => (noted u).taskError c 0x20 k)) ∧
      WorkDoes (.range core) (fun u => (u.core c).run = none) (fun u => u))

/-- GDDR7 (R235 to R237, R250): a transfer corrected by retries counts in GMC_CNT_EDC, one corrected by retraining also
in GMC_CNT_RETRAIN, and one that is not is an error of the class "detected and fatal to a task" with code 0x12, and
quarantines the controller at the second within a second; a detection failure whose second read passes counts in
GMC_CNT_TRANSIENT with code 0x16; one that fails twice is refetched from CXL where the block lies in a frame, and
poisons the block where it does not; a refetched page takes its lines from CXL. Refresh changes nothing. At 85 °C
GMC_STAT.HOT is set, with an event as it rises. A removal of more than two halves is answered STATE. Where an event is
not due nothing changes: the model's choice (log 4). Choices of the model it rests on: logs 2, 46, 93. -/
def Obligations.MemoryErrors : Prop :=
  (∀ gmc : Fin 32,
    let pg := Pg.gmc gmc
    let counted := fun (u : State) => u.bump pg Reg.gmcCntEdc
    let trained := fun (u : State) => ((counted u).bump pg Reg.gmcCntRetrain).irq pg 18
    let failed := fun (u : State) =>
      let t := (((trained u).freeBits 3).2).errorOpen pg Cls.task ((trained u).freeBits 3).1 0x12
      (t.setGmc gmc { t.gmc gmc with edcAt := [t.now] }, (t.gmc gmc).edcAt.any (fun x => decide (t.now ≤ x + 1000000000)))
    (∀ k : Fin 3, EventDoes (.edcError gmc (.retried k)) (fun u => u.isOn pg = true)
        (fun u => (counted u).error pg Cls.corrected 0 0 0)) ∧
      EventDoes (.edcError gmc .retrained) (fun u => u.isOn pg = true) (fun u => (trained u).error pg Cls.corrected 0 0 0) ∧
      EventDoes (.edcError gmc .exhausted) (fun u => u.isOn pg = true ∧ (failed u).2 = false) (fun u => (failed u).1) ∧
      EventDoes (.edcError gmc .exhausted) (fun u => u.isOn pg = true ∧ (failed u).2 = true)
        (fun u => ((failed u).1.quarantine pg).errorOpen pg Cls.device 0 0x15) ∧
      (∀ o : EdcOutcome, EventDoes (.edcError gmc o) (fun u => u.isOn pg = false) (fun u => u)) ∧
      (∀ s : State, exec (.refresh gmc) s = .next s) ∧
      (∀ temp : Int, EventDoes (.gddr7Hot gmc temp) (fun u => 85 ≤ temp ∧ (u.gmc gmc).hot = false)
          (fun u => (u.setGmc gmc { u.gmc gmc with temp := twos 8 temp, hot := true }).irq pg 19) ∧
        EventDoes (.gddr7Hot gmc temp) (fun u => 85 ≤ temp ∧ (u.gmc gmc).hot = true)
          (fun u => u.setGmc gmc { u.gmc gmc with temp := twos 8 temp, hot := true }) ∧
        EventDoes (.gddr7Hot gmc temp) (fun _ => temp < 85)
          (fun u => u.setGmc gmc { u.gmc gmc with temp := twos 8 temp, hot := false }))) ∧
  (∀ (addr : BitVec 44) (r : Reader) (f : Nat),
    let a := addr.toNat
    let p := fun (u : State) => u.readerPart r
    let inData := fun (u : State) => a < cxlBase ∧ a < u.dataEnd
    let framed := fun (u : State) => cxlBase ≤ a ∧ u.frameOf (p u) a .resident = some f
    let seen := fun (u : State) (g : Nat) => ((u.bump (u.gmcPage g) Reg.gmcCntDet).irq (u.gmcPage g) 16).setReg64 (u.gmcPage g)
      Reg.gmcErraddrLo Reg.gmcErraddrHi (g / 512 * 512)
    let place := f * 2 ^ 21 + a % 2 ^ 21
    EventDoes (.detectionFailure addr false r) inData
        (fun u => ((seen u a).bump (u.gmcPage a) Reg.gmcCntTransient).errorOpen (u.gmcPage a) Cls.recomputed (p u) 0x16) ∧
      EventDoes (.detectionFailure addr true r) inData (fun u => (seen u a).blockFails a r) ∧
      EventDoes (.detectionFailure addr true r) framed
        (fun u =>
          let t := (((seen u place).bump Pg.tir Reg.tirCntRefetch).irq Pg.tir 19).errorOpen (u.gmcPage place) Cls.recomputed (p u)
            0x16
          { t with tier := { t.tier with refetch := t.tier.refetch ++ [⟨a / 4096 * 4096, f, r⟩] } }) ∧
      (∀ b : Bool, EventDoes (.detectionFailure addr b r) (fun u => a < cxlBase ∧ u.dataEnd ≤ a) (fun u => u))) ∧
  (∀ (addr : BitVec 44) (x : Refetch),
    let taken := fun (u : State) => { u with tier := { u.tier with refetch := u.tier.refetch.erase x } }
    let there := fun (u : State) => u.tier.refetch.find? (fun x => decide (x.addr = addr.toNat / 4096 * 4096)) = some x
    EventDoes (.refetchComplete addr .data)
        (fun u => there u ∧ (taken u).frameOf ((taken u).readerPart x.reader) x.addr .resident = some x.frame)
        (fun u => ((taken u).cxlLines x.addr 4096 false).cxlCopyIn x.addr (x.frame * 2 ^ 21 + x.addr % 2 ^ 21) 4096) ∧
      (∀ o : CxlResult, EventDoes (.refetchComplete addr o)
        (fun u => there u ∧ (taken u).frameOf ((taken u).readerPart x.reader) x.addr .resident ≠ some x.frame) taken) ∧
      (∀ o : CxlResult, EventDoes (.refetchComplete addr o)
        (fun u => u.tier.refetch.find? (fun x => decide (x.addr = addr.toNat / 4096 * 4096)) = none) (fun u => u))) ∧
  (∀ (r : Req) (lo hi : W32),
    let halves := fun (t : State) => popcount 64 ((t.reg Pg.tir Reg.tirHremoveLo).toNat + 2 ^ 32 * hi.toNat)
    HighDoes (.halfRemove r hi) r Pg.tir Reg.tirHremoveHi lo hi (fun t => halves t ≤ 2)
        (fun t => t.plainWrite r.port Pg.tir Reg.tirHremoveHi hi) ∧
      HighRefused (.halfRemove r hi) r Pg.tir Reg.tirHremoveHi lo hi 4 (fun t => 2 < halves t))

/-- Migration and CXL (R242 to R245, R248, R249, R254): the next entry of a partition's list starts once its wait is
met, with at most 8 running; an invalid one, or one that cannot be read, halts the list and fails the live graph; pages
are filled and stored one at a time; a CXL read that is poisoned or fails IDE reaches no requester and ends what asked
for it; a lost CXL link is code 0x14 and quarantines its port, and a lost IDE stream with a Confidential partition on
the window code 0x12; a CXL.io access stores what the port answers. Where an event is not due nothing changes: the
model's choice (log 4). Choices of the model it rests on: logs 47, 93, 94. -/
def Obligations.MigrationAndCxl : Prop :=
  (∀ (p : Part) (bs : List Byte) (t : State),
    let count := fun (u : State) => u.rf Pg.tir (Reg.tirMigpCnt p) 15 0
    let starts := fun (u : State) => u.isOn Pg.tir = true ∧ (u.mig p).halted = false ∧ (u.mig p).pos < count u ∧
      (u.mig p).running.length < 8 ∧ u.parOff p = false ∧ bit u.stopped p = false
    let read := fun (u : State) => u.blockRead p (u.reg64 Pg.tir (Reg.tirMigpLo p) (Reg.tirMigpHi p) + 32 * (u.mig p).pos) 32
      (u.mig p).pos
    let d := wordsOf 256 bs
    let w := listWait (d.truncate 512) 4
    WorkDoes (.migrationStart p)
        (fun u => starts u ∧ read u = (some bs, t) ∧ t.listWaitBad p w = false ∧ t.migOk p d = true ∧
          t.listWaitMet p w = true)
        (fun u => (t.setMig p { u.mig p with pos := (u.mig p).pos + 1 }).migBegin p (u.mig p).pos d) ∧
      WorkDoes (.migrationStart p)
        (fun u => starts u ∧ read u = (some bs, t) ∧ t.listWaitBad p w = false ∧ t.migOk p d = true ∧
          t.listWaitMet p w = false)
        (fun _ => t) ∧
      WorkDoes (.migrationStart p) (fun u => starts u ∧ read u = (some bs, t) ∧ t.migOk p d = false)
        (fun u => t.migHalt p (u.mig p).pos) ∧
      WorkDoes (.migrationStart p) (fun u => starts u ∧ read u = (none, t))
        (fun _ => (t.setMig p { t.mig p with halted := true }).failLive p) ∧
      WorkDoes (.migrationStart p) (fun u => count u ≤ (u.mig p).pos ∨ (u.mig p).halted = true) (fun u => u)) ∧
  (∀ (p : Part) (entry : W16) (r : MigRun) (next : Option MigRun) (t : State),
    let e := entry.toNat
    let running := fun (u : State) (op : Nat) => (u.mig p).running.find? (fun r => decide (r.entry = e ∧ r.op = op))
    WorkDoes (.fillPageComplete p entry .data)
        (fun u => running u 1 = some r ∧
          (u.fillDone p r).fillSetup p (r.npage + 1) { r with done := r.done + 1 } = (next, t))
        (fun _ => t.setMigRun p e next) ∧
      WorkDoes (.fillPageComplete p entry .poison)
        (fun u => running u 1 = some r ∧
          (((u.setFrame (r.gdr / 2 ^ 21 + r.done) none).cxlBad (r.cxl + r.done * 2 ^ 21) p .poison).error Pg.tir Cls.task p
            0x12 e).fillSetup p (r.npage + 1) { r with done := r.done + 1 } = (next, t))
        (fun _ => t.setMigRun p e next) ∧
      (∀ o : CxlResult, WorkDoes (.fillPageComplete p entry o) (fun u => running u 1 = none) (fun u => u)) ∧
      (∀ bs : List Byte, WorkDoes (.storePageComplete p entry)
        (fun u => running u 3 = some r ∧ u.blockRead p (r.gdr + r.done * 2 ^ 21) (2 ^ 21) e = (some bs, t))
        (fun _ =>
          let a := r.cxl + r.done * 2 ^ 21
          ((t.cxlPut p a bs).cxlLines a (2 ^ 21) true).setMigRun p e
            (if r.done + 1 < r.npage then some { r with done := r.done + 1 } else none))) ∧
      WorkDoes (.storePageComplete p entry) (fun u => running u 3 = none) (fun u => u)) ∧
  (∀ (addr : BitVec 44) (bad : CxlResult), bad ≠ .data →
    (∀ r : CxlReader, EventDoes (.cxlReadComplete addr r .data) (fun _ => True) (fun u => u)) ∧
      (∀ (c : Fin 64) (x : Run), EventDoes (.cxlReadComplete addr (.core c) bad) (fun u => (u.core c).run = some x)
        (fun u => (u.cxlBad addr.toNat x.part bad).cxlTaskEnd c)) ∧
      (∀ (p : Part), EventDoes (.cxlReadComplete addr (.other p) bad) (fun _ => True)
        (fun u => (u.cxlBad addr.toNat p bad).failLive p)) ∧
      (∀ (p : Part) (e : W16), EventDoes (.cxlReadComplete addr (.fill p e) bad) (fun _ => True)
        (fun u => u.doFillPage p e.toNat bad)) ∧
      (∀ f : W16, EventDoes (.cxlReadComplete addr (.refetch f) bad) (fun _ => True)
        (fun u => u.doRefetch addr.toNat bad))) ∧
  (∀ (n : Fin 2) (p : Nat),
    let pg := Pg.cxl n
    let conf := fun (t : State) => (List.range 8).find? (fun p => !t.parOff p && t.parConf p && decide (t.cxlLo p < t.cxlHi p))
    let lost := fun (u : State) => u.setCxlPort n { u.cxlPort n with ide := false }
    EventDoes (.cxlLinkLoss n) (fun u => u.isOn pg = true)
        (fun u => (((u.setCxlPort n { u.cxlPort n with up := false, ide := false }).irq pg 16).errorOpen pg Cls.recomputed 0
          0x14).quarantine pg) ∧
      EventDoes (.cxlLinkLoss n) (fun u => u.isOn pg = false) (fun u => u) ∧
      EventDoes (.ideActiveLost n) (fun u => u.isOn pg = true ∧ (u.cxlPort n).ide = true ∧ conf (lost u) = some p)
        (fun u => (((lost u).irq pg 18).errorOpen pg Cls.task p 0x12).quarantine pg) ∧
      EventDoes (.ideActiveLost n) (fun u => u.isOn pg = true ∧ (u.cxlPort n).ide = true ∧ conf (lost u) = none) lost ∧
      EventDoes (.ideActiveLost n) (fun u => u.isOn pg = false ∨ (u.cxlPort n).ide = false) (fun u => u) ∧
      (∀ (r : Req) (v : W32) (res : IoResult),
        WriteDoes (.cxlIoAccess r n (some v) res) r pg Reg.cxlIoData v 0 (fun _ => True)
          (fun u => (u.plainWrite r.port pg Reg.cxlIoData v).ioDone n res)) ∧
      (∀ (r : Req) (res : IoResult), r.len = 4 →
        RequestDoes (.cxlIoAccess r n none res) r 1 .redo
          (fun u => ({ u with holds := u.holds.set none r.port none } : State).mayRead r.port pg Reg.cxlIoData = true)
          (fun u => (⟨0, toLE 4 res.data.toNat⟩, ({ u with holds := u.holds.set none r.port none } : State).ioDone n res))))

/-- Packets at the router (R261, R272, R266 to R270, R273): a packet that injection refuses counts and fails the
partition's live graph, and any other enters the local buffer; an arriving packet whose tag is allowed enters its
buffer, and one whose tag is not is dropped and its credit returned; the packet at the head of its buffer is ejected,
sent on a spine port, or sent on the torus port its route gives once that port has room and the turn is its own, and on
a port that is not UP it is discarded with code 0x11; a multicast packet is sent on all of its branches at once or not
at all. After the adaptive wait an adaptive packet takes the deterministic route, and after RTE_WDOG its head is
discarded with code 0x12. Where an event is not due nothing changes: the model's choice (log 4). Choices of the model
it rests on: logs 16, 17, 95, 96. -/
def Obligations.RouterForwarding : Prop :=
  (∀ (p : Part) (pkt : Packet),
    EventDoes (.packetInject p pkt) (fun u => u.injectRefused p pkt = true) (fun u => (u.refuseInject p).failLive p) ∧
      EventDoes (.packetInject p pkt) (fun u => u.injectRefused p pkt = false) (fun u => u.injectGo pkt)) ∧
  (∀ (i : Fin 11) (pkt : Packet), ¬(pkt.vc = 7 ∧ pkt.type = 15 ∧ pkt.tag = 0) →
    let took := fun (u : State) => { u with rte := { u.rte with arrived := u.rte.arrived.erase (i.val, pkt) } }
    EventDoes (.packetReceive i pkt) (fun u => u.rte.arrived.contains (i.val, pkt) = true ∧ (took u).tagOk pkt = true)
        (fun u => (took u).bufPush i pkt) ∧
      EventDoes (.packetReceive i pkt) (fun u => u.rte.arrived.contains (i.val, pkt) = true ∧ (took u).tagOk pkt = false)
        (fun u => ((took u).tagDrop pkt).owe i pkt.vc pkt.flits) ∧
      EventDoes (.packetReceive i pkt) (fun u => u.rte.arrived.contains (i.val, pkt) = false) (fun u => u)) ∧
  (∀ (i : Fin 11) (vc : BitVec 3) (b : Buffered) (pkt : Packet) (t : State),
    let v := vc.toNat
    let head := fun (u : State) => u.routerRuns = true ∧ u.headOf i v = some b
    let one := fun (u : State) => head u ∧ b.pkt.mcast = false ∧ u.reepoch b.pkt = (pkt, t) ∧ pkt.mcast = false
    let gone := fun (s : State) => (s.bufPop i v).owe i v b.pkt.flits
    let on := gone (t.bump Pg.rte Reg.rteCntFwd)
    (∀ ad : Bool, EventDoes (.packetForward i vc) (fun u => one u ∧ t.route pkt b.escape = (.eject, ad))
        (fun _ => (on.deliver pkt).checkDrain)) ∧
      (∀ (n : Nat) (dest : Coord) (ad : Bool), EventDoes (.packetForward i vc)
        (fun u => one u ∧ t.route pkt b.escape = (.spine n dest, ad) ∧ t.spineReady n = true)
        (fun _ => ((on.bump (Pg.spn n) Reg.spnCntTxfrm).send (.spine n (t.spineFrame n dest pkt))).checkDrain)) ∧
      (∀ (n : Nat) (ad : Bool), EventDoes (.packetForward i vc)
        (fun u => one u ∧ t.route pkt b.escape = (.torus n, ad) ∧ t.torusUp n = false)
        (fun _ => (((gone (t.bump Pg.rte Reg.rteCntNoroute)).errorOpen Pg.rte Cls.task 0 0x11).irq Pg.rte 18).checkDrain)) ∧
      (∀ (n : Nat) (ad : Bool), EventDoes (.packetForward i vc)
        (fun u => one u ∧ t.route pkt b.escape = (.torus n, ad) ∧ t.torusUp n = true ∧ needed i n ad pkt ≤ u.creditOf n v ∧
          u.isTurn i v n = true)
        (fun _ =>
          let s := if b.escape then on.bump Pg.rte Reg.rteCntEscape else on
          ((({ s with rte := { s.rte with lastIn := s.rte.lastIn.set 10 (n * 8 + v) i } } : State).toTorus n pkt).checkDrain))) ∧
      (∀ (n : Nat) (ad : Bool), EventDoes (.packetForward i vc)
        (fun u => one u ∧ t.route pkt b.escape = (.torus n, ad) ∧ t.torusUp n = true ∧ u.creditOf n v < needed i n ad pkt)
        (fun u => u)) ∧
      EventDoes (.packetForward i vc)
        (fun u => head u ∧ b.pkt.mcast = true ∧
          (u.branches b.pkt (u.toLog (u.tagShape b.pkt.tag) u.selfCoord) 5 (mcastPhase i).1 (mcastPhase i).2).all
            (u.branchReady i b.pkt) = true)
        (fun u => ((u.branches b.pkt (u.toLog (u.tagShape b.pkt.tag) u.selfCoord) 5 (mcastPhase i).1 (mcastPhase i).2).foldl
          (fun s x => s.doBranch b.pkt x) (gone (u.bump Pg.rte Reg.rteCntFwd))).checkDrain) ∧
      EventDoes (.packetForward i vc) (fun u => u.headOf i v = none ∨ u.routerRuns = false) (fun u => u)) ∧
  (∀ (i : Fin 11) (vc : BitVec 3) (b : Buffered) (rest : List Buffered),
    let k := i.val * 8 + vc.toNat
    let waits := fun (u : State) => u.rte.bufs.get [] k = b :: rest ∧ (vc = 1 ∨ vc = 3) ∧ b.pkt.mcast = false ∧
      b.escape = false ∧ u.rb Pg.rte Reg.rteCtrl 12 = true
    EventDoes (.escapeTimeout i vc) (fun u => waits u ∧ u.rf Pg.rte Reg.rteCtrl 11 0 ≤ 2 * (u.now - b.headAt))
        (fun u => { u with rte := { u.rte with bufs := u.rte.bufs.set [] k ({ b with escape := true } :: rest) } }) ∧
      EventDoes (.escapeTimeout i vc) (fun u => waits u ∧ 2 * (u.now - b.headAt) < u.rf Pg.rte Reg.rteCtrl 11 0) (fun u => u) ∧
      EventDoes (.escapeTimeout i vc) (fun u => u.rte.bufs.get [] k = []) (fun u => u) ∧
      EventDoes (.stallWatchdog i vc)
        (fun u => u.headOf i vc.toNat = some b ∧ (u.reg Pg.rte Reg.rteWdog).toNat ≤ u.now - b.headAt)
        (fun u => (((((u.bufPop i vc.toNat).owe i vc.toNat b.pkt.flits).bump Pg.rte Reg.rteCntStall).errorOpen Pg.rte Cls.task 0
          0x12).irq Pg.rte 22).checkDrain) ∧
      EventDoes (.stallWatchdog i vc)
        (fun u => u.headOf i vc.toNat = some b ∧ u.now - b.headAt < (u.reg Pg.rte Reg.rteWdog).toNat) (fun u => u) ∧
      EventDoes (.stallWatchdog i vc) (fun u => u.headOf i vc.toNat = none) (fun u => u))

/-- A torus link (R275, R276, R284, R285): a group takes up to 8 waiting flits, carries RX_LAST and NAK, and is kept in
the retry buffer when it holds flits; a group that fails its CRC is answered with NAK; one out of order is discarded;
one in order frees what it acknowledges, returns its credit and delivers its flits. A port that is not UP takes and
sends nothing. Where an event is not due nothing changes: the model's choice (log 4). Choices of the model it rests on:
log 18. -/
def Obligations.TorusGroups : Prop :=
  ∀ (n : Fin 8) (g : FlitGroup),
    let up := fun (u : State) => (u.torus n).link = .up
    let next := fun (t : State) (vk : Nat × Nat) (fs : List Flit) =>
      let x := t.torus n
      let g : FlitGroup := { seq := if fs.isEmpty then x.txNext - 1 else x.txNext, ack := x.rxLast, nak := x.nak,
                             cvc := BitVec.ofNat 3 vk.1, credit := BitVec.ofNat 12 vk.2, flits := fs, crcOk := true }
      let x := if fs.isEmpty then { x with nak := false }
        else { x with nak := false, txNext := x.txNext + 1, retry := x.retry ++ [g] }
      ((t.setTorus n x).bumpBy (Pg.trp n) Reg.trpCntTxflit fs.length).send (.group n g)
    (∀ (fs : List Flit) (vk : Nat × Nat) (t t' : State),
      EventDoes (.flitGroupSend n)
          (fun u => up u ∧ (u.torus n).retry.length < 512 ∧ u.takeFlits n 8 = (fs, t) ∧ t.takeCredit n = (vk, t'))
          (fun _ => next t' vk fs) ∧
        EventDoes (.flitGroupSend n) (fun u => up u ∧ 512 ≤ (u.torus n).retry.length ∧ u.takeCredit n = (vk, t'))
          (fun _ => next t' vk [])) ∧
      EventDoes (.flitGroupSend n) (fun u => ¬up u) (fun u => u) ∧
      EventDoes (.flitGroupReceive n g) (fun u => up u ∧ g.crcOk = false)
        (fun u => (u.setTorus n { u.torus n with nak := true }).bump (Pg.trp n) Reg.trpCntCrcerr) ∧
      EventDoes (.flitGroupReceive n g)
        (fun u => up u ∧ g.crcOk = true ∧ g.flits ≠ [] ∧ g.seq ≠ expectSeq (u.torus n))
        (fun u => u.setTorus n { u.torus n with
          nak := decide (g.seq ≠ (u.torus n).rxLast) || !(u.torus n).rxValid, lastGroup := u.now }) ∧
      (let heard := fun (u : State) =>
        let x := u.torus n
        let left := unacked g.ack x.retry
        let x := { x with retry := left, lastGroup := u.now, resends := if left.length < x.retry.length then 0 else x.resends }
        let t := u.setTorus n (if g.flits.isEmpty then x else { x with rxLast := g.seq, rxValid := true })
        let cv := g.cvc.toNat
        let t := { t with rte := { t.rte with
          credit := t.rte.credit.set bufFlits (n.val * 8 + cv) (min bufFlits (t.creditOf n cv + g.credit.toNat)) } }
        g.flits.foldl (fun s f => s.takeIn n f) (t.bumpBy (Pg.trp n) Reg.trpCntRxflit g.flits.length)
       let good := fun (u : State) => up u ∧ g.crcOk = true ∧ (g.flits = [] ∨ g.seq = expectSeq (u.torus n))
       EventDoes (.flitGroupReceive n g) (fun u => good u ∧ g.nak = false) (fun u => (heard u).checkDrain) ∧
        EventDoes (.flitGroupReceive n g) (fun u => good u ∧ g.nak = true) (fun u => ((heard u).resend n).checkDrain)) ∧
      EventDoes (.flitGroupReceive n g) (fun u => ¬up u) (fun u => u)

/-- Torus links lost and trained (R277, R279, R284, R285): a link of a port that is ON is lost after TRP_LOSS ticks (at
most 9,000) without a group, at the configured number of resends, or when its lanes fail, and not before while no lane
swap runs; a notice of a new fault is entered and sent on with its TTL one lower; a lost port that has waited for the
far end's notice in vain re-injects what is not yet acknowledged; a training that meets its neighbour check brings the
port UP with event 0x10, and one that does not fails a start with code 0x11. Where an event is not due nothing changes:
the model's choice (log 4). Choices of the model it rests on: log 97. -/
def Obligations.LinksLostAndTrained : Prop :=
  (∀ n : Fin 8,
    let pg := Pg.trp n
    let up := fun (u : State) => u.isOn pg = true ∧ (u.torus n).link = .up
    let still := fun (u : State) => (u.engine n).swaps = []
    let silent := fun (u : State) => min 9000 (u.rf pg Reg.trpLoss 15 0) ≤ u.now - (u.torus n).lastGroup
    let tried := fun (u : State) => max 1 (min 8 (u.rf pg Reg.trpLoss 23 16)) ≤ (u.torus n).resends
    EventDoes (.linkLost n .lanes) up (fun u => u.loseLink n) ∧
      EventDoes (.linkLost n .noGroup) (fun u => up u ∧ still u ∧ silent u) (fun u => u.loseLink n) ∧
      EventDoes (.linkLost n .noGroup) (fun u => ¬silent u) (fun u => u) ∧
      EventDoes (.linkLost n .retries) (fun u => up u ∧ still u ∧ tried u) (fun u => u.loseLink n) ∧
      EventDoes (.linkLost n .retries) (fun u => ¬tried u) (fun u => u) ∧
      (∀ c : LossCause, EventDoes (.linkLost n c) (fun u => ¬up u) (fun u => u)) ∧
      (∀ d : Nat, EventDoes (.reinjectWaitTimeout n) (fun u => (u.torus n).waitNotice = some d ∧ d ≤ u.now)
          (fun u => ((u.emptyPort n).reinject n (u.unsent n (u.torus n).retry) true).checkDrain) ∧
        EventDoes (.reinjectWaitTimeout n) (fun u => (u.torus n).waitNotice = some d ∧ u.now < d) (fun u => u)) ∧
      EventDoes (.reinjectWaitTimeout n) (fun u => (u.torus n).waitNotice = none) (fun u => u)) ∧
  (∀ (i : Fin 8) (pkt : Packet),
    let took := fun (u : State) =>
      ({ u with rte := { u.rte with arrived := u.rte.arrived.erase (i.val, pkt) } } : State).owe i 7 1
    let f := pkt.fld 0x10 11 0
    let ttl := pkt.fld 0x10 23 16
    let rep := BitVec.ofNat 16 (pkt.fld 0x14 15 0)
    let came := fun (u : State) => u.rte.arrived.contains (i.val, pkt) = true ∧ pkt.vc = 7 ∧ pkt.type = 15 ∧ pkt.tag = 0
    let awaits := fun (t : State) => (List.range 8).find? (fun n => decide ((t.torus n).waitNotice.isSome ∧
      (t.torus n).nbr = rep ∧ t.rf (Pg.trp n) Reg.trpFault 11 0 = f ∧ (t.torus n).nbrPort = pkt.fld 0x14 18 16))
    let entered := fun (u : State) =>
      let t := if 1 < ttl ∧ !(took u).hasReporter f rep then
        (took u).sendNotice (pkt.set 0x10 23 16 (ttl - 1)).seal (some i.val) else took u
      (t.enterFault f rep).2
    let room := fun (u : State) => (took u).hasFault f = true ∨ (took u).rte.faults.length < 16
    EventDoes (.routerNotice i pkt) (fun u => came u ∧ room u ∧ awaits (entered u) = none) entered ∧
      (∀ n : Nat, EventDoes (.routerNotice i pkt) (fun u => came u ∧ room u ∧ awaits (entered u) = some n)
        (fun u => (entered u).resolve n (decide (pkt.fld 0x14 19 19 = 1)) (pkt.fld 0x18 15 0))) ∧
      EventDoes (.routerNotice i pkt) (fun u => u.rte.arrived.contains (i.val, pkt) = false) (fun u => u)) ∧
  (∀ (n : Fin 8) (i : TrainInfo),
    let pg := Pg.trp n
    let met := fun (u : State) => u.setTorus n { u.torus n with nbr := i.coord, nbrPort := i.port.toNat }
    let may := fun (u : State) => u.isOn (Pg.ope n) = true ∧
      u.trains pg (decide ((u.torus n).link = .lost)) (u.rb pg Reg.trpCtrl 0) = true ∧ (u.torus n).link ≠ .up
    let wrong := fun (t : State) => t.rb pg Reg.trpNbr 31 = true ∧
      ¬(t.rf pg Reg.trpNbr 15 0 = i.coord.toNat ∧ t.rf pg Reg.trpNbr 18 16 = i.port.toNat)
    EventDoes (.linkTrained (.torus n) i) (fun u => may u ∧ wrong (met u) ∧ ((met u).page pg).st = .starting)
        (fun u => (met u).startFault pg 0x11) ∧
      EventDoes (.linkTrained (.torus n) i) (fun u => may u ∧ wrong (met u) ∧ ((met u).page pg).st ≠ .starting) met ∧
      EventDoes (.linkTrained (.torus n) i) (fun u => may u ∧ ¬wrong (met u) ∧ (u.torus n).link = .down)
        (fun u =>
          let t := met u
          let t := { t with rte := { t.rte with credit := t.rte.credit.dropRange (8 * n.val) (8 * n.val + 8),
                                                owed := t.rte.owed.dropRange (8 * n.val) (8 * n.val + 8) } }
          let t := t.setTorus n { t.torus n with link := .up, rxValid := false, txNext := 0, resends := 0,
                                                 lastGroup := t.now, waitNotice := none, nak := false }
          ((t.lanesUp n (List.range 8)).irq pg 16).checkDrain) ∧
      EventDoes (.linkTrained (.torus n) i) (fun u => (u.torus n).link = .up) (fun u => u)) ∧
  (∀ i : TrainInfo, EventDoes (.linkTrained .reference i) (fun _ => True) (fun u => u))

/-- Routing epochs, overrides, the fault set and the spine (R278 to R283, R288, R353): ARM is answered STATE while a
switch is armed or held or would fall within 10,000 ticks; at RTE_EPSW the armed switch takes the other bank, holds the
old one and raises event 0x14; an override entry may be written in a bank that is not active, held or awaited; a fault
is removed from the set by its number or all are; a spine frame that fails a check is dropped and counted, and a good
one enters its buffer; a third loss of a spine link within a second quarantines its page; a router parity error stops
the device with code 0x15. Where an event is not due nothing changes: the model's choice (log 4). -/
def Obligations.RoutingEpochsAndSpine : Prop :=
  (∀ (r : Req) (fclr : Bool),
    let busy := fun (u : State) => u.reg64 Pg.rte Reg.rteEpswLo Reg.rteEpswHi < u.count + 10000 ∨ u.rte.held = true ∨
      u.rte.armed = true
    WriteDoes (.epochArm r fclr) r Pg.rte Reg.rteEpcmd (w32 (1 + 2 * fclr.toNat)) 4 busy (fun u => u) ∧
      WriteDoes (.epochArm r fclr) r Pg.rte Reg.rteEpcmd (w32 (1 + 2 * fclr.toNat)) 0 (fun u => ¬busy u)
        (fun u => { u with rte := { u.rte with armed := true, armFclr := fclr } }) ∧
      WriteDoes (.epochDisarm r) r Pg.rte Reg.rteEpcmd 4 0 (fun _ => True)
        (fun u => { u with rte := { u.rte with armed := false, armFclr := false } })) ∧
  EventDoes .epochSwitch (fun u => u.rte.armed = true ∧ u.reg64 Pg.rte Reg.rteEpswLo Reg.rteEpswHi ≤ u.count)
    (fun u =>
      (({ u with rte := { u.rte with active := !u.rte.active, held := true, armed := false, armFclr := false,
                                     faults := if u.rte.armFclr then [] else u.rte.faults } } : State).irq Pg.rte 20).checkDrain) ∧
  EventDoes .epochSwitch (fun u => u.rte.armed = false ∨ u.count < u.reg64 Pg.rte Reg.rteEpswLo Reg.rteEpswHi) (fun u => u) ∧
  (∀ (r : Req) (w : W32),
    let sel := fun (u : State) => u.portReg r.port Pg.rte Reg.rteOsel
    let locked := fun (u : State) => bit (sel u) 12 = u.rte.active ∨ u.rte.held = true ∨ u.rte.armed = true
    WriteDoes (.overrideWrite r w) r Pg.rte (Reg.rteOent 3) w 4 locked (fun u => u) ∧
      WriteDoes (.overrideWrite r w) r Pg.rte (Reg.rteOent 3) w 0 (fun u => ¬locked u)
        (fun u =>
          let k := (bit (sel u) 12).toNat * 4096 + fld (sel u) 11 0
          let e := BitVec.ofNat 128 (u.windowWords r.port Pg.rte (Reg.rteOent 0) w)
          { u with rte := { u.rte with ovr := u.rte.ovr.set 0 k e } }) ∧
      WriteDoes (.faultClear r w) r Pg.rte Reg.rteFclr w 0 (fun _ => bit w 31 = true)
        (fun u => { u with rte := { u.rte with
          faults := if bit w 12 then [] else u.rte.faults.filter (fun x => decide (x.fault ≠ fld w 11 0)) } }) ∧
      WriteDoes (.faultClear r w) r Pg.rte Reg.rteFclr w 0 (fun _ => bit w 31 = false) (fun u => u)) ∧
  (∀ (n : Fin 2) (f : SpineFrame),
    let pg := Pg.spn n
    let open_ := fun (u : State) => (u.isOn pg && (u.spine n).up && u.rb pg Reg.spnCtrl 1) = true
    let mine := fun (u : State) => open_ u ∧ f.fcsOk = true ∧ f.dst = spineMac (u.rf pg Reg.spnMacpfx 23 0) n u.selfCoord
    let typed := fun (u : State) => mine u ∧ f.vlan = false ∧ f.etype.toNat = u.rf pg Reg.spnEtype 15 0
    let drop := fun (off : Nat) (u : State) => (u.bump pg off).irq pg 18
    let counted := fun (u : State) => u.bump pg Reg.spnCntRxfrm
    EventDoes (.spineFrameReceive n f) (fun u => ¬open_ u) (fun u => u) ∧
      EventDoes (.spineFrameReceive n f) (fun u => open_ u ∧ f.fcsOk = false) (drop Reg.spnCntFcserr) ∧
      EventDoes (.spineFrameReceive n f)
        (fun u => open_ u ∧ f.fcsOk = true ∧ f.dst ≠ spineMac (u.rf pg Reg.spnMacpfx 23 0) n u.selfCoord)
        (drop Reg.spnCntDadrop) ∧
      EventDoes (.spineFrameReceive n f) (fun u => mine u ∧ f.vlan = true) (drop Reg.spnCntFmtdrop) ∧
      EventDoes (.spineFrameReceive n f) (fun u => mine u ∧ f.vlan = false ∧ f.etype.toNat ≠ u.rf pg Reg.spnEtype 15 0)
        (drop Reg.spnCntEtdrop) ∧
      EventDoes (.spineFrameReceive n f) (fun u => typed u ∧ f.bytes ≠ 64 + (f.pkt.carried + 63) / 64 * 64)
        (drop Reg.spnCntFmtdrop) ∧
      EventDoes (.spineFrameReceive n f)
        (fun u => typed u ∧ f.bytes = 64 + (f.pkt.carried + 63) / 64 * 64 ∧ (counted u).tagOk f.pkt = true)
        (fun u => (counted u).bufPush (8 + n) f.pkt) ∧
      EventDoes (.spineFrameReceive n f)
        (fun u => typed u ∧ f.bytes = 64 + (f.pkt.carried + 63) / 64 * 64 ∧ (counted u).tagOk f.pkt = false)
        (fun u => (counted u).tagDrop f.pkt)) ∧
  (∀ n : Fin 2,
    let pg := Pg.spn n
    let recent := fun (u : State) => (u.spine n).losses.filter (fun x => decide (u.now - x < 1000000000)) ++ [u.now]
    let down := fun (u : State) => (u.setSpine n ⟨false, recent u⟩).irq pg 17
    EventDoes (.spineLinkDown n) (fun u => (u.spine n).up = true ∧ (recent u).length < 3) down ∧
      EventDoes (.spineLinkDown n) (fun u => (u.spine n).up = true ∧ 3 ≤ (recent u).length)
        (fun u => ((down u).quarantine pg).errorOpen pg Cls.recomputed 0 0x14) ∧
      EventDoes (.spineLinkDown n) (fun u => (u.spine n).up = false) (fun u => u) ∧
      EventDoes (.spineLinkUp n)
        (fun u => (u.isOn pg = true ∨ (u.page pg).st = .starting) ∧ (u.spine n).up = false ∧ u.isOn (Pg.ope 8) = true)
        (fun u => (u.setSpine n { u.spine n with up := true }).irq pg 16) ∧
      EventDoes (.spineLinkUp n) (fun u => (u.spine n).up = true ∨ u.isOn (Pg.ope 8) = false) (fun u => u)) ∧
  EventDoes .routerParity (fun _ => True)
    (fun u => ({ u with rte := { u.rte with dead := true } } : State).errorOpen Pg.rte Cls.device 0 0x15)

/-- The sending side (R290, R291, R295, R297, R298, R300): the next entry of an engine starts while its partition has a
live graph, its wait is met, its fence holds and a slot is free; one that cannot be read halts the list and fails the
step. A response that fits its slot writes what it returns and frees the slot, one with a status fails the entries with
its code, and a stray one counts in RMO_CNT_STRAY; a slot without a response for RMO_TMO fails with code 0x14 and its
target is a suspect; a gateway segment after GWY_TMO is sent again; a held STORE goes after GWY_HOLD. A window is what
its four words say. Where an event is not due nothing changes: the model's choice (log 4). Choices of the model it
rests on: logs 40, 48. -/
def Obligations.RemoteRequests : Prop :=
  (∀ (n : Fin 16) (p : Nat) (g : Graph) (bs : List Byte) (t : State),
    let e := fun (u : State) => u.rmoEng n
    let starts := fun (u : State) => u.rmoPart n = some p ∧ (u.schPart p).live = some g ∧ u.isOn Pg.rmo = true ∧
      (e u).halted = false ∧ (e u).pos < u.rf Pg.rmo (Reg.rmoEngnCnt n) 15 0 ∧ (e u).room = true ∧ bit u.stopped p = false
    let read := fun (u : State) => u.blockRead p
      (u.reg64 Pg.rmo (Reg.rmoEngnListLo n) (Reg.rmoEngnListHi n) + 64 * (e u).pos) 64 (e u).pos
    let d := wordsOf 512 bs
    (∀ (r : RmoRun) (v : State), WorkDoes (.remoteEntryStart n)
        (fun u => starts u ∧ read u = (some bs, t) ∧ t.listWaitMet p (listWait d 0x28) = true ∧ rmFence d = false ∧
          (t.setRmo n { e u with pos := (e u).pos + 1 }).rmoEnter n (e u).pos none d p g.step = (r, v))
        (fun _ => v.rmoBegin n r)) ∧
      WorkDoes (.remoteEntryStart n) (fun u => starts u ∧ read u = (some bs, t) ∧ t.listWaitMet p (listWait d 0x28) = false)
        (fun _ => t) ∧
      WorkDoes (.remoteEntryStart n)
        (fun u => starts u ∧ read u = (some bs, t) ∧ rmFence d = true ∧ (e u).runs.all (fun r => r.fetch.isSome) = false)
        (fun _ => t) ∧
      WorkDoes (.remoteEntryStart n) (fun u => starts u ∧ read u = (none, t))
        (fun _ => (t.setRmo n { t.rmoEng n with halted := true }).failStep p g.step) ∧
      WorkDoes (.remoteEntryStart n) (fun u => u.rmoPart n = none) (fun u => u)) ∧
  (∀ (q : Packet) (t : State) (x : RmoSlot),
    let eng := q.fld 0x14 15 12
    let k := q.fld 0x14 8 0
    let came := fun (u : State) => q.vc = 5 ∧ u.takeEjected q = some t
    let fits := fun (u : State) => came u ∧ t.rmoSlot eng k = some x ∧ q.crcOk = true ∧ x.runs.isEmpty = false ∧ x.fits q = true
    let at_ := t.slotStep eng x
    WorkDoes (.remoteResponse q) (fun u => fits u ∧ q.fld 0x18 24 22 = 0 ∧ q.type = 0)
        (fun _ => (t.putReturned x at_.2 x.raddr at_.1 q.payload).slotDone eng k x) ∧
      WorkDoes (.remoteResponse q) (fun u => fits u ∧ q.fld 0x18 24 22 = 0 ∧ q.type = 1) (fun _ => t.slotDone eng k x) ∧
      WorkDoes (.remoteResponse q) (fun u => fits u ∧ q.fld 0x18 24 22 = 0 ∧ q.type = 2)
        (fun _ => (t.putReturned x at_.2 x.raddr at_.1 (toLE x.len (q.fld 0x30 63 0))).slotDone eng k x) ∧
      WorkDoes (.remoteResponse q) (fun u => fits u ∧ q.fld 0x18 24 22 ≠ 0)
        (fun _ => t.slotFail eng k x (statusCode (q.fld 0x18 24 22))) ∧
      WorkDoes (.remoteResponse q)
        (fun u => came u ∧ t.rmoSlot eng k = some x ∧ q.crcOk = true ∧ x.runs.isEmpty = false ∧ x.fits q = false)
        (fun _ => t.stray q) ∧
      WorkDoes (.remoteResponse q) (fun u => came u ∧ t.rmoSlot eng k = none ∧ q.crcOk = true) (fun _ => t.stray q) ∧
      WorkDoes (.remoteResponse q) (fun u => u.takeEjected q = none) (fun u => u)) ∧
  (∀ (n : Fin 16) (k : BitVec 9) (x : RmoSlot) (h : RmoHold),
    let slot := fun (u : State) => u.rmoSlot n k.toNat = some x
    let late := fun (u : State) => x.sentAt + (u.reg Pg.rmo Reg.rmoTmo).toNat ≤ u.now
    let late' := fun (u : State) => x.sentAt + (u.reg Pg.gwy Reg.gwyTmo).toNat ≤ u.now
    WorkDoes (.remoteTimeout n k) (fun u => slot u ∧ x.gw = false ∧ late u ∧ x.runs.isEmpty = false)
        (fun u =>
          let t := u.bump Pg.rmo Reg.rmoCntTmo
          (t.suspect (t.toPhys (t.tagShape ((t.ptag x.part).getD 0)) x.dest) Cause.remote).slotFail n k.toNat x 0x14) ∧
      WorkDoes (.remoteTimeout n k) (fun u => slot u ∧ (x.gw = true ∨ ¬late u)) (fun u => u) ∧
      WorkDoes (.gatewaySegmentTimeout n k) (fun u => slot u ∧ x.gw = true ∧ late' u ∧ x.runs.isEmpty = false)
        (fun u => u.segAgain n k.toNat x) ∧
      WorkDoes (.gatewaySegmentTimeout n k) (fun u => slot u ∧ (x.gw = false ∨ ¬late' u)) (fun u => u) ∧
      WorkDoes (.gatewayHoldExpire n)
        (fun u => (u.rmoEng n).held = some h ∧ h.since + (u.reg Pg.gwy Reg.gwyHold).toNat ≤ u.now) (fun u => u.flushHold n) ∧
      WorkDoes (.gatewayHoldExpire n)
        (fun u => (u.rmoEng n).held = none ∨
          (u.rmoEng n).held = some h ∧ u.now < h.since + (u.reg Pg.gwy Reg.gwyHold).toNat) (fun u => u)) ∧
  (∀ (r : Req) (w : W32),
    WriteDoes (.windowWrite r w) r Pg.rmo (Reg.rmoWent 3) w 0 (fun _ => True)
      (fun u =>
        let sel := u.portReg r.port Pg.rmo Reg.rmoWsel
        let e := BitVec.ofNat 128 (u.windowWords r.port Pg.rmo (Reg.rmoWent 0) w)
        { u with rmo := { u.rmo with wins := u.rmo.wins.set 0 (32 * fld sel 7 5 + fld sel 4 0) e } }))

/-- The target's side (R293, R294, R300, R301): a load is answered with its bytes and a store with status 0 once
written; a refused one with its status and a failed one with status 4; a packet that fails its CRC, or finds RMO not
ON, is discarded without an answer; each fragment of a bulk write is applied as it arrives, and the last one is
answered with the first status that was not 0. Where an event is not due nothing changes: the model's choice (log 4).
Choices of the model it rests on: log 99. -/
def Obligations.RemoteTargets : Prop :=
  (∀ (q : Packet) (t v : State) (bs : List Byte) (st : Nat),
    let a := q.fld 0x20 63 0
    let came := fun (u : State) => q.vc = 4 ∧ u.takeEjected q = some t
    let good := fun (u : State) => came u ∧ q.crcOk = true ∧ t.isOn Pg.rmo = true
    WorkDoes (.remoteRequest q)
        (fun u => good u ∧ q.type = 0 ∧ t.targetStatus a q.len 8 false = 0 ∧ t.targetRead a q.len = (some bs, v))
        (fun _ => (v.noteTarget 0).replyTo q 0 0 0 0 0 bs) ∧
      WorkDoes (.remoteRequest q)
        (fun u => good u ∧ q.type = 0 ∧ t.targetStatus a q.len 8 false = 0 ∧ t.targetRead a q.len = (none, v))
        (fun _ => (v.noteTarget 4).replyTo q 0 4 0 0 0 []) ∧
      WorkDoes (.remoteRequest q) (fun u => good u ∧ q.type = 0 ∧ t.targetStatus a q.len 8 false = st ∧ st ≠ 0)
        (fun _ => (t.noteTarget st).replyTo q 0 st 0 0 0 []) ∧
      WorkDoes (.remoteRequest q) (fun u => good u ∧ q.type = 1 ∧ t.targetPut a q = (st, v))
        (fun _ => (v.noteTarget st).replyTo q 1 st 0 0 0 []) ∧
      WorkDoes (.remoteRequest q) (fun u => good u ∧ q.type = 2) (fun _ => t.targetAtomic q) ∧
      WorkDoes (.remoteRequest q) (fun u => good u ∧ q.type = 5) (fun _ => t.targetGet q) ∧
      WorkDoes (.remoteRequest q) (fun u => came u ∧ q.type ≠ 4 ∧ (q.crcOk = false ∨ t.isOn Pg.rmo = false)) (fun _ => t) ∧
      WorkDoes (.remoteRequest q) (fun u => u.takeEjected q = none) (fun u => u)) ∧
  (∀ (q : Packet) (t v : State) (st : Nat),
    let x := (bulkIn q v.rmo.gwIn).fragment (q.fld 0x14 23 16) st
    let rest := v.rmo.gwIn.filter (fun y => !ofBulk q y)
    let came := fun (u : State) => q.vc = 4 ∧ q.type = 4 ∧ u.takeEjected q = some t
    let good := fun (u : State) => came u ∧ t.isOn Pg.rmo = true ∧ q.crcOk = true ∧ t.targetPut (q.fld 0x20 63 0) q = (st, v)
    WorkDoes (.gatewayWriteFragment q) (fun u => good u ∧ q.fld 0x14 31 24 + 1 ≤ x.frags.length)
        (fun _ => (({ v with rmo := { v.rmo with gwIn := rest } } : State).noteTarget x.status).replyTo q 4 x.status 0 0 0
          []) ∧
      WorkDoes (.gatewayWriteFragment q) (fun u => good u ∧ x.frags.length < q.fld 0x14 31 24 + 1)
        (fun _ => { v with rmo := { v.rmo with gwIn := rest ++ [x] } }) ∧
      WorkDoes (.gatewayWriteFragment q) (fun u => came u ∧ t.isOn Pg.rmo = true ∧ q.crcOk = false)
        (fun _ => t.bump Pg.gwy Reg.gwyCntCrc) ∧
      WorkDoes (.gatewayWriteFragment q) (fun u => came u ∧ t.isOn Pg.rmo = false) (fun _ => t) ∧
      WorkDoes (.gatewayWriteFragment q) (fun u => u.takeEjected q = none) (fun u => u))

/-- Tollgate packets (R306 to R308, R310): an UP packet of a child joins the slot of its key, once; one of a step that
has passed counts in TOL_CNT_STALE; a DOWN packet passes its result down its slot; a packet for a group that is not in
order, or from a device that is no child, is discarded. A slot is given up TOL_TMO ticks after it was taken; an
operation that has been outstanding for TOL_TMO fails with code 0x10; slot parity stops the device with code 0x14.
Where an event is not due nothing changes: the model's choice (log 4). Choices of the model it rests on: log 100. -/
def Obligations.TollgatePackets : Prop :=
  (∀ (pkt : Packet) (t : State) (i : Nat) (x : TolSlot),
    let g := tolGroup pkt
    let step := tolStep pkt
    let idx := tolIdx pkt
    let up := fun (u : State) => pkt.vc = 0 ∧ pkt.type = 0 ∧ u.takeEjected pkt = some t
    let mine := fun (u : State) => up u ∧ t.isOn Pg.tol = true ∧ t.grpOk g = true ∧ (t.grpKids g).contains pkt.src = true
    let stale := ((t.slotOf g step idx).isNone && t.tolStale g step) = true
    let key := fun (v : State) => t.keySlot g step idx = some (i, x) ∧ v = t.seeStep g step
    (∀ v : State, EventDoes (.tollgateUp pkt)
        (fun u => mine u ∧ ¬stale ∧ key v ∧ x.sent = false ∧ x.kids.any (fun kv => decide (kv.1 = pkt.src)) = false)
        (fun _ => ((v.setTolSlot i (some { x with kids := x.kids ++ [(pkt.src, tolContrib pkt)] })).trySlot i).tolPump) ∧
      EventDoes (.tollgateUp pkt)
        (fun u => mine u ∧ ¬stale ∧ key v ∧ (x.sent = true ∨ x.kids.any (fun kv => decide (kv.1 = pkt.src)) = true))
        (fun _ => v)) ∧
      EventDoes (.tollgateUp pkt) (fun u => mine u ∧ ¬stale ∧ t.keySlot g step idx = none) (fun _ => t) ∧
      EventDoes (.tollgateUp pkt) (fun u => mine u ∧ stale) (fun _ => t.bump Pg.tol Reg.tolCntStale) ∧
      EventDoes (.tollgateUp pkt)
        (fun u => up u ∧ (t.isOn Pg.tol = false ∨ t.grpOk g = false ∨ (t.grpKids g).contains pkt.src = false)) (fun _ => t) ∧
      (let down := fun (u : State) => pkt.vc = 0 ∧ pkt.type = 1 ∧ u.takeEjected pkt = some t
       let known := fun (u : State) => down u ∧ t.isOn Pg.tol = true ∧ t.grpOk g = true
       EventDoes (.tollgateDown pkt) (fun u => known u ∧ t.slotOf g step idx = some i)
          (fun _ => (t.passDown i (tolContrib pkt)).tolPump) ∧
        EventDoes (.tollgateDown pkt) (fun u => known u ∧ t.slotOf g step idx = none ∧ t.tolStale g step = true)
          (fun _ => t.bump Pg.tol Reg.tolCntStale) ∧
        EventDoes (.tollgateDown pkt) (fun u => down u ∧ (t.isOn Pg.tol = false ∨ t.grpOk g = false)) (fun _ => t) ∧
        EventDoes (.tollgateDown pkt) (fun u => u.takeEjected pkt = none) (fun u => u)) ∧
      EventDoes (.tollgateUp pkt) (fun u => u.takeEjected pkt = none) (fun u => u)) ∧
  (∀ (i : Fin 64) (x : TolSlot),
    let late := fun (u : State) => x.takenAt + (u.reg Pg.tol Reg.tolTmo).toNat ≤ u.now
    EventDoes (.tollgateSlotTimeout i) (fun u => u.tolSlot i = some x ∧ late u)
        (fun u => (u.setTolSlot i none).bump Pg.tol Reg.tolCntTmo) ∧
      EventDoes (.tollgateSlotTimeout i) (fun u => u.tolSlot i = none ∨ u.tolSlot i = some x ∧ ¬late u) (fun u => u)) ∧
  (∀ (g : Fin 16) (step : W32) (idx : Byte) (o : TolOp),
    let op := fun (u : State) => u.opOf g step idx.toNat
    let late := fun (u : State) => o.startedAt.getD u.now + (u.reg Pg.tol Reg.tolTmo).toNat ≤ u.now
    EventDoes (.opTimeout g step idx) (fun u => op u = some o ∧ late u)
        (fun u => ((((u.bump Pg.tol Reg.tolCntTmo).irq Pg.tol 16).errorOpen Pg.tol Cls.task
          (u.grpPart g) 0x10).opEnd o none).tolPump) ∧
      EventDoes (.opTimeout g step idx) (fun u => op u = none ∨ op u = some o ∧ ¬late u) (fun u => u)) ∧
  EventDoes .tollgateSlotParity (fun u => u.isOn Pg.tol = true) (fun u => u.errorOpen Pg.tol Cls.device 0 0x14) ∧
  EventDoes .tollgateSlotParity (fun u => u.isOn Pg.tol = false) (fun u => u)

/-- Twins (R321 to R323): of the counterpart digests of a partition the 8 newest are kept, one a step, and each is
compared with the own digest of its step; an own digest that TOL_TWTMO has passed counts in TOL_CNT_TWMISS and raises
TWIN_MISSING, and the LOSTN-th in a row makes the twin ALONE and its device a suspect. Where an event is not due
nothing changes: the model's choice (log 4). Choices of the model it rests on: log 102. -/
def Obligations.TwinDigests : Prop :=
  (∀ (pkt : Packet) (t : State),
    let c := tolContrib pkt
    let d := nth c.vals (0, 0) 0
    let l := (t.twin d.2).other.filter (fun x => decide (x.1 ≠ tolStep pkt)) ++ [(tolStep pkt, BitVec.ofNat 64 d.1)]
    let came := fun (u : State) => pkt.vc = 0 ∧ pkt.type = 2 ∧ u.takeEjected pkt = some t
    EventDoes (.twinDigest pkt) (fun u => came u ∧ t.isOn Pg.tol = true ∧ d.2 < 8)
        (fun _ => (t.setTwin d.2 { t.twin d.2 with other := l.drop (l.length - 8) }).twinCompare d.2) ∧
      EventDoes (.twinDigest pkt) (fun u => came u ∧ (t.isOn Pg.tol = false ∨ 8 ≤ d.2)) (fun _ => t) ∧
      EventDoes (.twinDigest pkt) (fun u => u.takeEjected pkt = none) (fun u => u)) ∧
  (∀ (p : Part) (x : W32 × BitVec 64 × Nat) (rest : List (W32 × BitVec 64 × Nat)),
    let own := fun (u : State) => (u.twin p).own = x :: rest
    let due := fun (u : State) => x.2.2 + (u.reg Pg.tol Reg.tolTwtmo).toNat ≤ u.now
    let missed := fun (u : State) =>
      ((u.setTwin p { u.twin p with own := rest, misses := (u.twin p).misses + 1 }).bump Pg.tol Reg.tolCntTwmiss).irq Pg.tol 18
    let lost := fun (u : State) => max 1 ((missed u).rf Pg.tol (Reg.tolTwinpDest p) 23 16) ≤ (u.twin p).misses + 1 ∧
      (missed u).twinAlone p = false
    EventDoes (.twinMissing p) (fun u => own u ∧ due u ∧ ¬lost u) missed ∧
      EventDoes (.twinMissing p) (fun u => own u ∧ due u ∧ lost u)
        (fun u =>
          let t := ((missed u).setRf Pg.tol (Reg.tolTwinp p) 30 30 1).irq Pg.tol 19
          let t := t.setTwin p { t.twin p with own := [] }
          t.suspect (t.toPhys (t.tagShape (t.rf Pg.tol (Reg.tolTwinp p) 11 0))
            (BitVec.ofNat 16 (t.rf Pg.tol (Reg.tolTwinpDest p) 15 0))) Cause.twin) ∧
      EventDoes (.twinMissing p) (fun u => own u ∧ ¬due u) (fun u => u) ∧
      EventDoes (.twinMissing p) (fun u => (u.twin p).own = []) (fun u => u))

/-- Collectives (R311, R313, R316 to R318, R324, R325): a COLLECTIVE task ends with its descriptor taken, waits while
no context is free, and ends in error where the descriptor is refused; COL_KICK does the same, answered STATE while
none is free; a chunk enters its context or the receive buffer, one of a retired step counts in COL_CNT_STALE; a NAK of
a broadcast chunk resends it to the member, counted, and one that names a chunk not sent fails with code 0x11; a bulk
collective without a chunk for COL_TMO fails with code 0x12 and its ring neighbour is a suspect; a member that has
waited 20,000 ticks in a round says so; RESUME of a stalled broadcast takes the round up, and without it within 1,000
times COL_TMO it fails with code 0x15. Where an event is not due nothing changes: the model's choice (log 4). Choices
of the model it rests on: logs 62, 104, 105. -/
def Obligations.CollectivesRun : Prop :=
  (∀ (core : Fin 64) (r : Run) (t : State),
    let c := core.val
    let task := fun (u : State) => (u.core c).run = some r ∧ u.coreWorks c = true ∧ dfld r.desc 0 7 0 = 0x51
    let asked := fun (u : State) => u.collAccept r.part r.step false (dfld r.desc 0x30 63 0)
    WorkDoes (.collStart core) (fun u => task u ∧ asked u = (.taken, t)) (fun _ => t.finishTask c r) ∧
      WorkDoes (.collStart core) (fun u => task u ∧ asked u = (.wait, t)) (fun _ => t) ∧
      WorkDoes (.collStart core) (fun u => task u ∧ asked u = (.bad, t)) (fun _ => t.taskEnd c) ∧
      WorkDoes (.collStart core) (fun u => (u.core c).run = none) (fun u => u)) ∧
  (∀ (r : Req) (lo hi : W32) (t' : State),
    let addr := fun (t : State) => (t.reg Pg.col Reg.colKickLo).toNat + 2 ^ 32 * fld hi 11 0
    HighDoes (.colKick r hi) r Pg.col Reg.colKickHi lo hi (fun t => t.collKick (addr t) = (.taken, t'))
        (fun _ => t'.setReg Pg.col Reg.colKickLo 0) ∧
      HighDoes (.colKick r hi) r Pg.col Reg.colKickHi lo hi (fun t => t.collKick (addr t) = (.bad, t'))
        (fun _ => t'.setReg Pg.col Reg.colKickLo 0) ∧
      HighRefused (.colKick r hi) r Pg.col Reg.colKickHi lo hi 4 (fun t => t.collKick (addr t) = (.wait, t'))) ∧
  (∀ (pkt : Packet) (t : State) (i : Nat) (x : CollCtx),
    let here := fun (u : State) => u.takeEjected pkt = some t ∧ t.isOn Pg.col = true
    let takes := fun (u : State) => here u ∧ t.collRetired pkt = false ∧ t.collOf pkt true = some i ∧ t.collCtx i = some x ∧
      t.canTake x pkt = true
    let took := (t.collTake i pkt).collGo i
    WorkDoes (.chunkReceive pkt) (fun u => pkt.vc = 3 ∧ pkt.type = 0 ∧ takes u) (fun _ => took) ∧
      WorkDoes (.broadcastChunk pkt) (fun u => pkt.vc = 6 ∧ pkt.type = 2 ∧ takes u) (fun _ => took) ∧
      WorkDoes (.broadcastEnd pkt) (fun u => pkt.vc = 6 ∧ pkt.type = 3 ∧ takes u) (fun _ => took) ∧
      WorkDoes (.chunkReceive pkt) (fun u => pkt.vc = 3 ∧ pkt.type = 0 ∧ here u ∧ t.collRetired pkt = true)
        (fun _ => t.bump Pg.col Reg.colCntStale) ∧
      WorkDoes (.chunkReceive pkt) (fun u => u.takeEjected pkt = none) (fun u => u) ∧
      (let nak := fun (u : State) => pkt.vc = 3 ∧ pkt.type = 1 ∧ here u ∧ t.collOf pkt true = some i ∧ t.collCtx i = some x
       let c := ckChunk pkt
       let sent := ckRstep pkt = x.round ∧ x.res.get 0 c ≠ 0
       WorkDoes (.chunkNak pkt) (fun u => nak u ∧ ckPhase pkt = 4 ∧ t.isRoot x.desc = true ∧ sent)
          (fun _ => (t.bcSend i c (some pkt.src) (some (x.res.get 0 c - 1))).bump Pg.col Reg.colCntResend) ∧
        WorkDoes (.chunkNak pkt) (fun u => nak u ∧ ckPhase pkt = 4 ∧ ¬(t.isRoot x.desc = true ∧ sent))
          (fun _ => t.collFail i (some 0x11)) ∧
        WorkDoes (.chunkNak pkt)
          (fun u => nak u ∧ ckPhase pkt ≠ 4 ∧ x.res.get 0 (sentKey (ckRstep pkt) (ckPart pkt) c) = 0)
          (fun _ => t.collFail i (some 0x11)) ∧
        WorkDoes (.chunkNak pkt) (fun u => u.takeEjected pkt = none) (fun u => u))) ∧
  (∀ (i : Fin 16) (x : CollCtx) (at_ : Nat),
    let live := fun (u : State) => u.collLive i = some x
    let bulk := 0x10 ≤ cdOp x.desc ∧ cdOp x.desc ≤ 0x13
    let late := fun (u : State) => at_ + (u.reg Pg.col Reg.colTmo).toNat < u.now
    (∀ h : Hop, WorkDoes (.collectiveTimeout i)
        (fun u => live u ∧ x.lastAt = some at_ ∧ bulk ∧ late u ∧ (u.collHops x.desc)[x.hop]? = some h)
        (fun u => ((u.suspect (u.toPhys (u.grpShape (cdGroup x.desc)) (u.ringPrev x.desc h.axis)) Cause.coll).bump Pg.col
          Reg.colCntTmo).collFail i (some 0x12))) ∧
      WorkDoes (.collectiveTimeout i) (fun u => live u ∧ x.lastAt = some at_ ∧ (¬bulk ∨ ¬late u)) (fun u => u) ∧
      (let waits := fun (u : State) => live u ∧ x.lastAt = some at_ ∧ cdOp x.desc = Coll.broadcast ∧
        u.isRoot x.desc = false ∧ x.told = false ∧ x.stalled = none
       WorkDoes (.broadcastRoundTimeout i) (fun u => waits u ∧ at_ + 20000 ≤ u.now) (fun u => u.bcTell i) ∧
        WorkDoes (.broadcastRoundTimeout i) (fun u => waits u ∧ u.now < at_ + 20000) (fun u => u)) ∧
      (let limit := fun (u : State) => at_ + 1000 * (u.reg Pg.col Reg.colTmo).toNat
       WorkDoes (.broadcastResumeTimeout i) (fun u => live u ∧ x.stalled = some at_ ∧ limit u ≤ u.now)
          (fun u => (u.bump Pg.col Reg.colCntTmo).collFail i (some 0x15)) ∧
        WorkDoes (.broadcastResumeTimeout i) (fun u => live u ∧ x.stalled = some at_ ∧ u.now < limit u) (fun u => u)) ∧
      (∀ r : Req, WriteDoes (.resume r (w32 (0x10 + i.val))) r Pg.col Reg.colBcmd (w32 (0x10 + i.val)) 0
          (fun u => live u ∧ x.stalled.isSome = true) (fun u => (u.setCollCtx i (some { x with stalled := none })).bcTell i) ∧
        WriteDoes (.resume r (w32 (0x10 + i.val))) r Pg.col Reg.colBcmd (w32 (0x10 + i.val)) 0
          (fun u => u.collLive i = none) (fun u => u)))

/-- Optical engines (R330, R335 to R338, R248): a laser sample sets the flags of Table 14.1 with their events, and the
third in a row below LOW_FAULT quarantines an engine that is ON with code 0x11 and its ports lose their links; a failed
lane in use is swapped for a spare, or is gone where there is none; a REQ takes the spare it names where it is free,
with an ACK, else it is answered NAK; NAK gives the swap up with event 0x15; an aligned spare ends its side of the swap
with DONE; OPE_SWAP starts one where a spare is free. A training that ends brings a CXL port and a control port UP.
Where an event is not due nothing changes: the model's choice (log 4). Choices of the model it rests on: log 111. -/
def Obligations.OpticalEngines : Prop :=
  (∀ (e : Fin 12) (pw : Int),
    let pg := Pg.ope e
    let f := fun (u : State) => u.laserFlags e pw
    let low := fun (u : State) => if bit (f u) 1 then (u.engine e).lowRun + 1 else 0
    let seen := fun (u : State) =>
      let t := u.setEngine e { u.engine e with power := pw, flags := f u, lowRun := low u }
      let t := if bit (f u) 1 && !bit (u.engine e).flags 1 then t.alert 6 else t
      let t := if bit (f u) 0 ∨ bit (f u) 2 then t.irq pg 16 else t
      if bit (f u) 3 then (t.irq pg 17).bump pg Reg.opeCntLaser else t
    EventDoes (.laserSample e pw) (fun u => low u < 3) seen ∧
      EventDoes (.laserSample e pw) (fun u => 3 ≤ low u ∧ (seen u).isOn pg = false) seen ∧
      EventDoes (.laserSample e pw) (fun u => 3 ≤ low u ∧ (seen u).isOn pg = true)
        (fun u =>
          let t := (((seen u).bump pg Reg.opeCntLaser).errorOpen pg Cls.recomputed 0 0x11).quarantine pg
          (t.setEngine e { t.engine e with lit := false }).portsLost e)) ∧
  (∀ (e : Fin 12) (lane : Fin 9) (l : Nat) (v : State), e.val ≠ 8 ∧ ¬(e.val = 11 ∧ l = 4) →
    let pg := Pg.ope e
    let noted := fun (u : State) => (u.bump pg Reg.opeCntLanefail).irq pg 18
    let fails := fun (u : State) => u.isOn pg = true ∧ u.lane e lane ≠ .failed ∧ (noted u).logicalOf e lane = some l ∧
      (noted u).swapOf e l = none
    EventDoes (.laneFail e lane false)
        (fun u => fails u ∧ (noted u).rb pg Reg.opeCtrl 0 = true ∧ (noted u).startSwap e l true = some v) (fun _ => v) ∧
      EventDoes (.laneFail e lane false)
        (fun u => fails u ∧ ((noted u).rb pg Reg.opeCtrl 0 = false ∨ (noted u).startSwap e l true = none))
        (fun u => (noted u).laneGone e l lane) ∧
      EventDoes (.laneFail e lane true)
        (fun u => u.isOn pg = true ∧ u.lane e lane ≠ .failed ∧ u.logicalOf e lane = some l ∧ u.swapOf e l = none ∧
          u.rb pg Reg.opeCtrl 0 = true ∧ u.startSwap e l false = some v)
        (fun _ => v) ∧
      (∀ d : Bool, EventDoes (.laneFail e lane d) (fun u => u.isOn pg = false ∨ u.lane e lane = .failed) (fun u => u))) ∧
  (∀ (e : Fin 12) (l : Fin 8) (n : Fin 9) (x : LaneSwap), e.val ≠ 8 →
    let on := fun (u : State) => u.isOn (Pg.ope e) = true
    let free := fun (u : State) => ((u.freeSpares e).contains n.val ||
      ((u.engine e).swaps.any (fun x => decide (x.spare = n.val) && !x.acked) && !u.swapPriority e)) = true
    EventDoes (.swap e .req l n) (fun u => on u ∧ u.swapOf e l = none ∧ u.canSwap e l = true ∧ free u)
        (fun u => (u.takeSpare e l n true (decide (u.lane e ((u.laneOf e l).getD 8) = .failed))).sendSwap e .ack l n) ∧
      EventDoes (.swap e .req l n) (fun u => on u ∧ u.swapOf e l = none ∧ ¬(u.canSwap e l = true ∧ free u))
        (fun u => u.sendSwap e .nak l n) ∧
      EventDoes (.swap e .req l n) (fun u => on u ∧ u.swapOf e l = some x ∧ x.acked = false)
        (fun u => u.setSwap e l (some { x with acked := true })) ∧
      EventDoes (.swap e .ack l n) (fun u => on u ∧ u.swapOf e l = some x)
        (fun u => u.setSwap e l (some { x with acked := true })) ∧
      EventDoes (.swap e .nak l n) (fun u => on u ∧ u.swapOf e l = some x ∧ x.acked = false ∧ x.oldFails = false)
        (fun u => (u.setSwap e l none).irq (Pg.ope e) 21) ∧
      EventDoes (.swap e .done l n) (fun u => on u ∧ u.swapOf e l = some x)
        (fun u => (u.setSwap e l (some { x with doneThere := true })).swapEnds e l) ∧
      (∀ k : SwapKind, EventDoes (.swap e k l n) (fun u => ¬on u) (fun u => u)) ∧
      EventDoes (.laneAlign e n)
        (fun u => on u ∧ u.lane e n ≠ .failed ∧
          (u.engine e).swaps.find? (fun x => decide (x.spare = n.val) && x.acked && !x.doneHere) = some x)
        (fun u => (((u.setLane e n .aligned).setSwap e x.logical (some { x with aligned := true, doneHere := true })).sendSwap e
          .done x.logical n).swapEnds e x.logical) ∧
      EventDoes (.laneAlign e n) (fun u => ¬on u ∨ u.lane e n = .failed) (fun u => u)) ∧
  (∀ (r : Req) (e : Fin 12) (data : W32) (v : State),
    WriteDoes (.opeSwap r e data) r (Pg.ope e) Reg.opeSwap data 0
        (fun u => bit data 31 = true ∧ u.startSwap e (fld data 2 0) false = some v) (fun _ => v) ∧
      WriteDoes (.opeSwap r e data) r (Pg.ope e) Reg.opeSwap data 0
        (fun u => bit data 31 = false ∨ u.startSwap e (fld data 2 0) false = none) (fun u => u)) ∧
  (∀ (n : Fin 2) (i : TrainInfo),
    EventDoes (.linkTrained (.cxl n) i) (fun u => u.isOn (Pg.ope (9 + n)) = true ∧ (u.page (Pg.cxl n)).st = .starting)
        (fun u => (u.setCxlPort n { u.cxlPort n with up := true, ide := u.rb (Pg.cxl n) Reg.cxlCtrl 0 }).lanesUp (9 + n)
          (List.range 8)) ∧
      EventDoes (.linkTrained (.cxl n) i) (fun u => (u.page (Pg.cxl n)).st ≠ .starting) (fun u => u)) ∧
  (∀ (n : Fin 4) (i : TrainInfo),
    let pg := Pg.ctp n
    let left := fun (u : State) => afterAck i.rxLast (u.ctlPort n).retry
    EventDoes (.linkTrained (.control n) i)
        (fun u => u.isOn (Pg.ope 11) = true ∧ (u.ctlPort n).link ≠ .up ∧
          u.trains pg (decide ((u.ctlPort n).link = .lost)) (u.rb pg Reg.ctpCtrl 0) = true)
        (fun u =>
          let t := u.setCtlPort n { u.ctlPort n with
            link := .up, nodeBuf := i.rxbuf.toNat, credit := i.rxbuf.toNat - (left u).length, retry := left u, resends := 0,
            lastFlit := u.now }
          State.pump ((((t.lanesUp 11 [n.val]).irq pg 16).resendFlits n).flushEvents n 1024) n 256) ∧
      EventDoes (.linkTrained (.control n) i) (fun u => (u.ctlPort n).link = .up) (fun u => u))

/-- The flit link of a control port (R343, R344, R349, R423): a flit that fails its check counts in CTP_CNT_CRCERR and
is answered NAK; one in order is taken, acknowledged and delivered, and one out of order is answered NAK; a flit that
carries no content acts on the link alone. The link is lost at RETRY_MAX resends or CTP_LOSS ticks without a flit, with
code 0x12; a heartbeat goes out every CTP_HB ticks; a node silent for CTP_NTMO raises event 0x12, once; a control port
whose start failed at step 4 starts again a second later while none is UP. Where an event is not due nothing changes:
the model's choice (log 4). Choices of the model it rests on: log 110. -/
def Obligations.ControlLinks : Prop :=
  (∀ (n : Fin 4) (f : BitVec 512),
    let heard := fun (u : State) => u.setCtlPort n { u.ctlPort n with lastFlit := u.now }
    let good := fun (u : State) => u.ctlUp n = true ∧ flitOk f = true
    let took := fun (u : State) =>
      let t := (heard u).setCtlPort n { (heard u).ctlPort n with fseqRx := flitSeq f }
      (t.flitLink n f).flitContent n f
    EventDoes (.controlFlit n f) (fun u => u.ctlUp n = true ∧ flitOk f = false)
        (fun u => (u.bump (Pg.ctp n) Reg.ctpCntCrcerr).idleFlit n true) ∧
      EventDoes (.controlFlit n f)
        (fun u => good u ∧ (flitFld f 0 1 0 = 1 ∨ flitFld f 0 1 0 = 2) ∧ flitSeq f = (u.ctlPort n).fseqRx + 1)
        (fun u => (State.pump (took u) n 256).idleFlit n false) ∧
      EventDoes (.controlFlit n f)
        (fun u => good u ∧ (flitFld f 0 1 0 = 1 ∨ flitFld f 0 1 0 = 2) ∧ flitSeq f ≠ (u.ctlPort n).fseqRx + 1)
        (fun u => (heard u).idleFlit n true) ∧
      EventDoes (.controlFlit n f) (fun u => good u ∧ flitFld f 0 1 0 = 0 ∧ flitSeq f = (u.ctlPort n).fseqRx)
        (fun u => State.pump ((heard u).flitLink n f) n 256) ∧
      EventDoes (.controlFlit n f) (fun u => good u ∧ flitFld f 0 1 0 = 0 ∧ flitSeq f ≠ (u.ctlPort n).fseqRx)
        (fun u => (heard u).idleFlit n true) ∧
      EventDoes (.controlFlit n f) (fun u => good u ∧ flitFld f 0 1 0 = 3) heard ∧
      EventDoes (.controlFlit n f) (fun u => u.ctlUp n = false) (fun u => u)) ∧
  (∀ n : Fin 4,
    let c := fun (u : State) => u.ctlPort n
    let worn := fun (u : State) => u.retryMax n ≤ (c u).resends ∨ (c u).lastFlit + u.rf (Pg.ctp n) Reg.ctpLoss 15 0 ≤ u.now
    let period := fun (u : State) => (u.reg (Pg.ctp n) Reg.ctpHb).toNat
    let beat := fun (u : State) => u.ctlUp n = true ∧ period u ≠ 0 ∧ (c u).hbAt + period u ≤ u.now
    let beaten := fun (u : State) => u.setCtlPort n { c u with hbAt := u.now }
    let silent := fun (u : State) => (c u).nodeAt + (u.reg (Pg.ctp n) Reg.ctpNtmo).toNat ≤ u.now
    EventDoes (.controlLinkLoss n) (fun u => u.ctlUp n = true ∧ u.ctlSwapping n = false ∧ worn u) (fun u => u.ctlLost n) ∧
      EventDoes (.controlLinkLoss n) (fun u => u.ctlUp n = false ∨ ¬worn u) (fun u => u) ∧
      EventDoes (.heartbeatTimer n) (fun u => beat u ∧ (beaten u).switching = false)
        (fun u =>
          let t := (beaten u).setCtlPort n { (beaten u).ctlPort n with devSeq := (c u).devSeq + 1 }
          t.sendMsg n ⟨7, false, false, false, (c u).devSeq, 0, 0, t.hbPayload n⟩ false) ∧
      EventDoes (.heartbeatTimer n) (fun u => beat u ∧ (beaten u).switching = true) beaten ∧
      EventDoes (.heartbeatTimer n) (fun u => u.ctlUp n = false ∨ u.now < (c u).hbAt + period u) (fun u => u) ∧
      EventDoes (.nodeSilent n) (fun u => u.ctlUp n = true ∧ (c u).silent = false ∧ silent u)
        (fun u => (u.setCtlPort n { c u with silent := true }).irq (Pg.ctp n) 18) ∧
      EventDoes (.nodeSilent n) (fun u => u.ctlUp n = false ∨ (c u).silent = true ∨ ¬silent u) (fun u => u) ∧
      EventDoes (.ctpStartRetry n)
        (fun u => u.pwr.step = 4 ∧ (u.page (Pg.ctp n)).st = .fault ∧ (List.range 4).any (fun n => u.ctlUp n) = false ∧
          (u.page (Pg.ctp n)).since + 1000000000 ≤ u.now ∧ u.pwr.pfw = false)
        (fun u => (u.softReset (Pg.ctp n)).beginStart (Pg.ctp n)) ∧
      EventDoes (.ctpStartRetry n) (fun u => u.pwr.step ≠ 4 ∨ u.now < (u.page (Pg.ctp n)).since + 1000000000) (fun u => u))

/-- Requests of a control port (R345 to R348, R389): one that fails the protection check is answered AUTH and counted;
one out of sequence SEQ and counted; a duplicate with its first status, and counted; a wrong length LENGTH. MEM_RD
answers ALIGN, LENGTH or DENIED where the access may not be made and else the bytes, or POISON; MEM_WR stores them,
POISON where they cannot be stored; HEARTBEAT answers the count, state and last request applied; FW_LOAD enters the
image being loaded, or the staging area in READY, and is of the wrong TYPE in any other state. Choices of the model it
rests on: logs 70, 71, 72, 73, 112. -/
def Obligations.ControlRequests : Prop :=
  (∀ (r : Req) (addr : W64) (data : List Byte) (s : State), s.live = true → s.hush.ctlUp r.port = true →
    let t := s.hush.takeMsg r 4
    let e := (t.ctlPort r.port).expect
    let answers := fun (u : State) => exec (.memWr r addr data) s = .next (s.done u)
    (t.authFails r 4 = true → answers (((t.bump Pg.sec Reg.secCntAuth).irq Pg.sec 17).answer r 4 (Resp.of 10))) ∧
      (∀ n : W32, t.authFails r 4 = false → e = some n → r.mseq ≠ n →
        (∀ x : W32 × Nat × List Byte, below64 n r.mseq = true → (t.ctlPort r.port).kept r.mseq = some x →
          answers (((t.bump (Pg.ctp r.port) Reg.ctpCntDup).answer r 4 ⟨x.2.1, []⟩).countIn r)) ∧
        ((below64 n r.mseq = false ∨ (t.ctlPort r.port).kept r.mseq = none) →
          answers (((t.bump (Pg.ctp r.port) Reg.ctpCntSeq).irq (Pg.ctp r.port) 19).answer r 4 (Resp.of 7))))) ∧
  (∀ (r : Req) (addr : W64) (len : W32), r.len = 12 →
    let a := addr.toNat
    let n := len.toNat
    let range := fun (u : State) => u.msgRange r.port a n false
    let whole := a % 4 = 0 ∧ n % 4 = 0 ∧ 4 ≤ n ∧ n ≤ 4096
    let does := fun (H : State → Prop) (A : State → Resp × State) => RequestDoes (.memRd r addr len) r 3 .redo H A
    does (fun _ => a % 4 ≠ 0 ∨ n % 4 ≠ 0) (fun u => (Resp.of 5, u)) ∧
      does (fun _ => a % 4 = 0 ∧ n % 4 = 0 ∧ (n < 4 ∨ 4096 < n)) (fun u => (Resp.of 9, u)) ∧
      does (fun u => whole ∧ range u = none) (fun u => (Resp.of 2, u)) ∧
      (∀ p : Option Nat, does (fun u => whole ∧ range u = some p ∧ a < cxlBase ∧ u.memShut a n = true)
        (fun u => (Resp.of 2, u))) ∧
      (∀ p : Nat, does (fun u => whole ∧ range u = some (some p) ∧ ¬(a < cxlBase ∧ u.memShut a n = true))
        (fun u => (readResp (u.read p a n).1.toOption, (u.read p a n).2))) ∧
      does (fun u => whole ∧ range u = some none ∧ ¬(a < cxlBase ∧ u.memShut a n = true))
        (fun u => (readResp (u.readStored a n).1, (u.readStored a n).2))) ∧
  (∀ (r : Req) (addr : W64) (data : List Byte), r.len = 8 + data.length → 4 ≤ data.length → data.length ≤ 4096 →
    let a := addr.toNat
    let n := data.length
    let does := fun (H : State → Prop) (A : State → Resp × State) => RequestDoes (.memWr r addr data) r 4 .keep H A
    let may := fun (u : State) (who : Option Nat) => a % 4 = 0 ∧ n % 4 = 0 ∧ u.msgRange r.port a n true = some who ∧
      u.memShut a n = false ∧ a < cxlBase ∧ u.touchesFrame a n = false
    does (fun _ => a % 4 ≠ 0 ∨ n % 4 ≠ 0) (fun u => (Resp.of 5, u)) ∧
      (∀ (p : Nat) (bad : Bool) (v : State), does (fun u => may u (some p) ∧ (u.cow p a n).put p a data = (bad, v))
        (fun _ => (Resp.of (if bad then 6 else 0), v))) ∧
      (∀ (bad : Bool) (v : State), does (fun u => may u none ∧ u.writeStored a data = (bad, v))
        (fun _ => (Resp.of (if bad then 6 else 0), v))) ∧
      does (fun u => a % 4 = 0 ∧ n % 4 = 0 ∧ u.msgRange r.port a n true = none ∧
          (u.portParts r.port).find? (fun p => u.inCxl p a n) = none) (fun u => (Resp.of 2, u))) ∧
  (∀ r : Req, r.len = 0 →
    RequestDoes (.heartbeat r) r 7 .redo (fun _ => True) (fun u => (⟨0, u.hbPayload r.port⟩, u))) ∧
  (∀ r : Req, r.len ≠ 0 → RequestDoes (.heartbeat r) r 7 .redo (fun _ => True) (fun u => (Resp.of 9, u))) ∧
  (∀ (r : Req) (off : W32) (data : List Byte) (last : Bool),
    r.len = 4 + data.length → 4 ≤ data.length → data.length ≤ 4096 →
    let does := fun (H : State → Prop) (A : State → Resp × State) => RequestDoes (.fwLoad r off data last) r 8 .keep H A
    does (fun u => u.pwr.dev = .fwload) (fun u => u.bootLoad r.port off.toNat data last) ∧
      does (fun u => u.pwr.dev = .ready) (fun u => u.stageLoad r.port off.toNat data last) ∧
      does (fun u => u.pwr.dev ≠ .fwload ∧ u.pwr.dev ≠ .ready) (fun u => (Resp.of 8, u)))

/-- Attestation and sessions (R386, R392, R393): GET_KEY answers the identity key; REPORT the report's body and its
signature, and notes that the session has had one; START a new session's key, nonce and signature; END destroys the
session. While an image switch runs a request that is in order is received and waits. Choices of the model it rests on:
log 74. -/
def Obligations.AttestationAndSessions : Prop :=
  (∀ r : Req,
    let still := fun (u : State) => u.hush.switching = false
    let does := fun (c : Instr) (type : Nat) (k : ReqKind) (A : State → Resp × State) =>
      ∀ s : State, s.live = true → s.hush.takesUp r type = true → still s →
        exec c s = .next (s.done ((A (s.hush.received r type)).2.replied r type k (A (s.hush.received r type)).1))
    (r.len = 36 →
      does (.getKey r) 9 .redo (fun u => (⟨0, identPub ++ List.replicate 3 0⟩, u)) ∧
        (∀ n : BitVec 256, does (.report r n) 9 .redo (fun u => u.attestReport r.port n))) ∧
      (r.len = 136 → ∀ (k : BitVec 776) (n : BitVec 256),
        does (.sessionStart r k n) 10 .whole (fun u => u.sessionBegin r.port k n)) ∧
      (r.len = 4 →
        does (.sessionEnd r) 10 .whole
          (fun u => (Resp.of 0, u.setCtlPort r.port { u.ctlPort r.port with session := none })))) ∧
  (∀ (port : Nat) (n : BitVec 256) (s : State) (x : Session), (s.ctlPort port).session = some x → port < 4 →
    let t := (s.freeBits 384).2
    s.attestReport port n =
      (⟨0, s.reportBody port n ++ ecdsaSign identKey (s.freeBits 384).1 (s.reportBody port n)⟩,
        t.setCtlPort port { t.ctlPort port with session := (t.ctlPort port).session.map (fun x => { x with reported := true }) })) ∧
  (∀ (r : Req) (s : State), s.live = true → s.hush.ctlUp r.port = true → s.hush.switching = true →
    ∀ t : State, (s.hush.takeMsg r 9).admission r 9 .redo = (.fresh, t) →
      exec (.getKey r) s =
        .next (s.done { t with sec := { t.sec with heldMsgs := t.sec.heldMsgs ++ [.getKey r] } }))

/-- The commands of the security pages (R385, R386, R390, R398 to R404): a handover names a port that is ON with its
link UP; SWAP switches to a staged image that verifies and has the running image's signer, and VERIFY_FAIL is code
0x10; the switch ends with the next generation and measurement; a bundle opens one at a time and sets the partition's
keys or fails with code 0x11; a scrub of a dirty partition whose page is OFF clears its memory and its poison; APPLY
and REVOKE grant and drop the debug level, which also expires; an access through the window that may not be made is
refused and counted. Where an event is not due nothing changes: the model's choice (log 4). Choices of the model it
rests on: logs 112, 114, 115. -/
def Obligations.SecurityCommands : Prop :=
  (∀ (r : Req) (data : W32),
    let n : Fin 4 := Fin.ofNat 4 (fld data 1 0)
    let ready := fun (u : State) => u.isOn (Pg.ctp n.val) = true ∧ (u.ctlPort n.val).link = .up
    WriteDoes (.managementHandover r data) r Pg.sec Reg.secMgmt data 0 ready
        (fun u => { u with sec := { u.sec with handover := some n } }) ∧
      WriteDoes (.managementHandover r data) r Pg.sec Reg.secMgmt data 4 (fun u => ¬ready u) (fun u => u)) ∧
  (∀ r : Req,
    let good := fun (u : State) => u.stagedWord 8 = 1 ∧ u.imageOk = true ∧ u.stagedWord 0x050 = u.sec.signer ∧
      (u.sec.signer = 1 → BitVec.ofNat 128 (leNat (u.staged 0x168 16)) = u.sec.certId)
    WriteDoes (.swapCommand r) r Pg.mgt Reg.mgtCmd 1 4 (fun u => u.sec.mgtState ≠ .staged) (fun u => u) ∧
      WriteDoes (.swapCommand r) r Pg.mgt Reg.mgtCmd 1 0 (fun u => u.sec.mgtState = .staged ∧ good u)
        (fun u => { u with sec := { u.sec with mgtState := .switching, swapAt := u.now, mgtNext := u.imageMeas } }) ∧
      WriteDoes (.swapCommand r) r Pg.mgt Reg.mgtCmd 1 0 (fun u => u.sec.mgtState = .staged ∧ ¬good u)
        (fun u => ({ u with sec := { u.sec with mgtState := .verifyFail } } : State).imageFail)) ∧
  EventDoes .firmwareSwapComplete (fun u => u.switching = true)
    (fun u =>
      let x := u.sec
      let t := { u with sec := { x with mgtState := .running, mgtGen := x.mgtGen + 1, mgtMeas := x.mgtNext,
                                        pause := u.now - x.swapAt, heldMsgs := [] } }
      x.heldMsgs.foldl State.runHeld ((List.range 4).foldl (fun s n => s.flushEvents n 1025) t)) ∧
  EventDoes .firmwareSwapComplete (fun u => u.switching = false) (fun u => u) ∧
  (∀ (r : Req) (p : Part),
    let may := fun (u : State) => u.sec.mgmt.map (·.val) = some r.port.val ∨
      (u.ctlPort r.port).session.isSome = true ∧ u.parPort p.val = r.port.val ∧ u.parOff p.val = false
    let word := w32 (at_ 31 1 + p.val)
    WriteDoes (.bundleOpen r p) r Pg.sec Reg.secBcmd word 2 (fun u => ¬may u) (fun u => u) ∧
      WriteDoes (.bundleOpen r p) r Pg.sec Reg.secBcmd word 4 (fun u => may u ∧ u.sec.opening.isSome = true) (fun u => u) ∧
      WriteDoes (.bundleOpen r p) r Pg.sec Reg.secBcmd word 0 (fun u => may u ∧ u.sec.opening = none)
        (fun u => { u with sec := { u.sec with opening := some p } })) ∧
  (∀ (p : Fin 8) (st : Nat) (k : BitVec 512) (id : BitVec 128),
    let tries := fun (u : State) => u.bundleTry p.val (u.reg64 Pg.sec Reg.secBaddrLo Reg.secBaddrHi)
    let ended := fun (u : State) => { u with sec := { u.sec with opening := none, bStat := st } }
    EventDoes .bundleOpenComplete (fun u => u.sec.opening = some p ∧ tries u = (st, some (k, id)))
        (fun u => (ended u).setPartSec p.val { (ended u).partSec p.val with kc := some k, bundle := some id }) ∧
      EventDoes .bundleOpenComplete (fun u => u.sec.opening = some p ∧ tries u = (st, none))
        (fun u => (((ended u).errorOpen Pg.sec Cls.task p.val 0x11).irq Pg.sec 18).bump Pg.sec Reg.secCntBfail) ∧
      EventDoes .bundleOpenComplete (fun u => u.sec.opening = none) (fun u => u)) ∧
  (∀ (r : Req) (p : Part),
    WriteDoes (.scrub r p) r (Pg.par p.val) Reg.parCmd 1 0
        (fun u => u.parOff p.val = true ∧ (u.partSec p.val).dirty = true ∧ (u.partSec p.val).scrubbing = false)
        (fun u => u.setPartSec p.val { u.partSec p.val with scrubbing := true, scrubbed := 0 }) ∧
      WriteDoes (.scrub r p) r (Pg.par p.val) Reg.parCmd 1 4
        (fun u => u.parOff p.val = false ∨ (u.partSec p.val).dirty = false) (fun u => u) ∧
      EventDoes (.scrubDone p) (fun u => (u.partSec p.val).scrubbing = true)
        (fun u =>
          let lo := u.gdrLo p.val
          let hi := u.gdrHi p.val
          let t := { u with mem := SMap.dropRange u.mem lo hi, poison := u.poison.dropRange (lo / 512) (hi / 512) }
          (t.setPartSec p.val { u.partSec p.val with
            scrubbing := false, dirty := false, scrubbed := (hi - lo) / 2 ^ 30 }).irq (Pg.par p.val) 16) ∧
      EventDoes (.scrubDone p) (fun u => (u.partSec p.val).scrubbing = false) (fun u => u)) ∧
  (∀ r : Req,
    WriteDoes (.apply r) r Pg.dbg Reg.dbgCmd 1 0 (fun _ => True) (fun u => u.applyToken) ∧
      WriteDoes (.revoke r) r Pg.dbg Reg.dbgCmd 2 0 (fun _ => True)
        (fun u => { u with sec := { u.sec with level := 0, pmask := 0 } }) ∧
      EventDoes .debugExpiry (fun u => u.sec.level ≠ 0 ∧ u.sec.expiry ≤ u.count)
        (fun u => ({ u with sec := { u.sec with level := 0, pmask := 0 } } : State).irq Pg.dbg 17) ∧
      EventDoes .debugExpiry (fun u => u.sec.level = 0 ∨ u.count < u.sec.expiry) (fun u => u) ∧
      (∀ v : W32,
        WriteDoes (.debugAccess r (some v)) r Pg.dbg Reg.dbgAdata v 0
            (fun u => (u.plainWrite r.port Pg.dbg Reg.dbgAdata v).dbgStatus ≠ 0)
            (fun u => ((u.plainWrite r.port Pg.dbg Reg.dbgAdata v).dbgRefuse
              (u.plainWrite r.port Pg.dbg Reg.dbgAdata v).dbgStatus).2) ∧
          WriteDoes (.debugAccess r (some v)) r Pg.dbg Reg.dbgAdata v 0
            (fun u => (u.plainWrite r.port Pg.dbg Reg.dbgAdata v).dbgStatus = 0)
            (fun u => ((u.plainWrite r.port Pg.dbg Reg.dbgAdata v).dbgAccess (some v)).2)) ∧
      (r.len = 4 →
        let freed := fun (u : State) => ({ u with holds := u.holds.set none r.port none } : State)
        RequestDoes (.debugAccess r none) r 1 .redo
          (fun u => (freed u).mayRead r.port Pg.dbg Reg.dbgAdata = true)
          (fun u => (⟨0, toLE 4 ((freed u).dbgAccess none).1.toNat⟩, ((freed u).dbgAccess none).2))))

/-- Suspects and fault aggregation (R354 to R358): an entry not seen for 1,000,000 ticks goes; FLT_CLR clears one or
all; at each round's count every member of group 15 contributes its pages once, counted in FLT_CNT_ROUND; a router that
has waited for a child makes it a suspect, counts the operation in FLT_CNT_PARTIAL and goes on without it; clearing
FLT_AGG_STAT clears the merged map. Where an event is not due nothing changes: the model's choice (log 4). Choices of
the model it rests on: logs 14, 107. -/
def Obligations.SuspectsAndAggregation : Prop :=
  (∀ i : Fin 64,
    let old := fun (u : State) => (u.suspectAt i).any (fun e => decide (e.seenAt + 1000000 ≤ u.now)) = true
    EventDoes (.suspectExpire i) old (fun u => u.setSuspect i none) ∧
      EventDoes (.suspectExpire i) (fun u => ¬old u) (fun u => u)) ∧
  (∀ (r : Req) (v : W32),
    WriteDoes (.suspectClear r v) r Pg.flt Reg.fltClr v 0 (fun _ => bit v 31 = true ∧ bit v 6 = true)
        (fun u => { u with suspects := Vector.replicate 64 none }) ∧
      WriteDoes (.suspectClear r v) r Pg.flt Reg.fltClr v 0 (fun _ => bit v 31 = true ∧ bit v 6 = false)
        (fun u => u.setSuspect (fld v 5 0) none) ∧
      WriteDoes (.suspectClear r v) r Pg.flt Reg.fltClr v 0 (fun _ => bit v 31 = false) (fun u => u) ∧
      WriteDoes (.aggClear r v) r Pg.flt Reg.fltAggStat v 0 (fun _ => bit v 31 = true)
        (fun u =>
          let t := (List.range 4).foldl (fun s i => s.setReg Pg.flt (Reg.fltAggPages i) 0) (u.setReg Pg.flt Reg.fltAggStat 0)
          { t with agg := { t.agg with map := [] } }) ∧
      WriteDoes (.aggClear r v) r Pg.flt Reg.fltAggStat v 0 (fun _ => bit v 31 = false) (fun u => u)) ∧
  (let period := fun (u : State) => (u.reg Pg.flt Reg.fltPeriod).toNat
   let round := fun (u : State) => u.count / period u
   let due := fun (u : State) => u.rb Pg.flt Reg.fltCtrl 0 = true ∧ period u ≠ 0 ∧ u.grpOk 15 = true
   EventDoes .aggregationRound (fun u => due u ∧ u.agg.last ≠ some (round u))
      (fun u =>
        let x := ({ u with agg := { u.agg with last := some (round u) } } : State).roundTake (round u)
        let pages := x.1.1.map (· / 512)
        let t := { x.2 with agg := { x.2.agg with rounds := x.2.agg.rounds ++ [(w32 (round u), x.1.1)] } }
        (t.bump Pg.flt Reg.fltCntRound).opAdd 15 (w32 (round u)) (some 0)
          (orOf [bits64 pages 0, bits64 pages 64, x.1.2.toNat]) (.agg (w32 (round u)) 0)) ∧
    EventDoes .aggregationRound (fun u => ¬due u ∨ u.agg.last = some (round u)) (fun u => u)) ∧
  (∀ (step : W32) (idx : Byte) (i : Nat) (x : TolSlot),
    let slot := fun (u : State) => u.slotOf 15 step idx.toNat = some i ∧ u.tolSlot i = some x
    let wait := fun (u : State) => x.ownAt + (u.rf Pg.flt Reg.fltTree 23 16 - u.aggDepth) * u.rf Pg.flt Reg.fltTree 15 0
    let gone := fun (u : State) => (u.grpKids 15).filter (fun k => !x.kids.any (fun kv => decide (kv.1 = k)))
    EventDoes (.aggregationChildWait step idx)
        (fun u => slot u ∧ x.sent = false ∧ x.own.isSome = true ∧ wait u ≤ u.now ∧ (gone u).isEmpty = false)
        (fun u => ((((gone u).foldl (fun s k => s.suspect (s.toPhys (s.grpShape 15) k) Cause.tree) u).bump Pg.flt
          Reg.fltCntPartial).slotUp i).tolPump) ∧
      EventDoes (.aggregationChildWait step idx) (fun u => slot u ∧ (x.sent = true ∨ u.now < wait u)) (fun u => u) ∧
      EventDoes (.aggregationChildWait step idx) (fun u => u.slotOf 15 step idx.toNat = none) (fun u => u))

/-- Aborts and recomputation (R360 to R362): an ABORT for the step of the active live graph fails it with code 0x13,
once; one for the step to be launched next is held; any other counts in FLT_CNT_ABORT_RX; a partition's recomputation,
once it may run, is counted, noted in FLT_RSTATp and launched, and waits while the partition is halted. Where an event
is not due nothing changes: the model's choice (log 4). Choices of the model it rests on: logs 79, 80. -/
def Obligations.AbortAndRecompute : Prop :=
  (∀ (pkt : Packet) (t : State) (q : Nat),
    let came := fun (u : State) => pkt.vc = 6 ∧ pkt.type = 9 ∧ u.takeEjected pkt = some t ∧ pkt.crcOk = true
    let x := t.schPart q
    let here := fun (u : State) => came u ∧ t.tagPart pkt.tag = some q
    let active := x.live.map (·.step) = some pkt.stepOf
    EventDoes (.abort pkt) (fun u => here u ∧ active ∧ x.live.any (·.failed) = false)
        (fun _ => (t.errorOpen Pg.flt Cls.task q 0x13).markFailed q false 0 false) ∧
      EventDoes (.abort pkt) (fun u => here u ∧ active ∧ x.live.any (·.failed) = true) (fun _ => t) ∧
      EventDoes (.abort pkt)
        (fun u => here u ∧ ¬active ∧ t.nextLaunch q = some pkt.stepOf ∧ x.heldAborts.contains pkt.stepOf = false)
        (fun _ => t.setSchPart q { x with heldAborts := x.heldAborts ++ [pkt.stepOf] }) ∧
      EventDoes (.abort pkt) (fun u => here u ∧ ¬active ∧ t.nextLaunch q ≠ some pkt.stepOf)
        (fun _ => t.bump Pg.flt Reg.fltCntAbortRx) ∧
      EventDoes (.abort pkt) (fun u => came u ∧ t.tagPart pkt.tag = none) (fun _ => t.bump Pg.flt Reg.fltCntAbortRx) ∧
      EventDoes (.abort pkt) (fun u => u.takeEjected pkt = none) (fun u => u)) ∧
  (∀ (p : Part) (l : Launch),
    let taken := fun (u : State) => u.setSchPart p { u.schPart p with rcmp := none }
    WorkDoes (.recompute p) (fun u => (u.schPart p).rcmp = some l ∧ u.partHalted p = false ∧ u.isOn Pg.sch = true)
        (fun u => ((((taken u).bump Pg.flt Reg.fltCntRcmp).setReg Pg.flt (Reg.fltRstatp p) l.step).irq Pg.flt 20).launch p false
          l.index l.step l.count true) ∧
      WorkDoes (.recompute p) (fun u => (u.schPart p).rcmp = none ∨ u.partHalted p = true ∨ u.isOn Pg.sch = false)
        (fun u => u))

/-- Checkpoints and restores (R370 to R376): arming reads and checks the shard list, with status 4 where a shard does
not fit; a CK_WRITE within the sender's GUEST slots is written and acknowledged, one outside is answered 1 and one that
meets poison 2; an acknowledgement of a copy in progress lets the snapshot go on, and one with a status fails the guest
copy; a CK_READ within the region is answered with its bytes; data that the restore asked for are taken; a guest copy
and a restore that wait longer than CKP_TMO fail; RESTORE starts a restore and ABORT ends it with status 4. Where an
event is not due nothing changes: the model's choice (log 4). Choices of the model it rests on: logs 108, 109. -/
def Obligations.CheckpointsAndRestores : Prop :=
  (∀ (r : Req) (p : Part) (step : W32) (l : List (Nat × Nat × Nat)) (v : State),
    let set := fun (u : State) => u.setReg Pg.ckp (Reg.ckpArmp p) step
    WriteDoes (.checkpointArm r p step) r Pg.ckp (Reg.ckpArmp p.val) step 0
        (fun u => (set u).shardList p = (some l, v) ∧ v.shardsFit p l = true)
        (fun _ => v.setCkpt p { v.ckpt p with armed := some step }) ∧
      WriteDoes (.checkpointArm r p step) r Pg.ckp (Reg.ckpArmp p.val) step 0
        (fun u => (set u).shardList p = (some l, v) ∧ v.shardsFit p l = false)
        (fun _ => v.setCkpt p { v.ckpt p with armed := none, sstat := 4 }) ∧
      WriteDoes (.checkpointArm r p step) r Pg.ckp (Reg.ckpArmp p.val) step 0 (fun u => (set u).shardList p = (none, v))
        (fun _ => (v.setCkpt p { v.ckpt p with armed := none }).snapFail p) ∧
      WriteDoes (.restore r p) r Pg.ckp (Reg.ckpCmdp p.val) 1 0 (fun _ => True)
        (fun u => (u.setCkpt p { u.ckpt p with rstat := 0 }).restoreBegin p 0) ∧
      WriteDoes (.restoreAbort r p) r Pg.ckp (Reg.ckpCmdp p.val) 2 0 (fun _ => True) (fun u => u.restoreFail p 4)) ∧
  (∀ (pkt : Packet) (t v : State) (q : Nat) (bs : List Byte),
    let off := pkt.fld 0x20 63 0
    let n := pkt.payload.length
    let guest := (List.range 8).find? fun q =>
      t.rb Pg.ckp (Reg.ckpGuestp q) 31 &&
        decide (t.rf Pg.ckp (Reg.ckpGuestp q) 27 16 = pkt.tag ∧ t.rf Pg.ckp (Reg.ckpGuestp q) 15 0 = pkt.src.toNat ∧
          2 * t.ckpSlot q ≤ off ∧ off + n ≤ 4 * t.ckpSlot q)
    let wr := fun (u : State) => pkt.vc = 6 ∧ pkt.type = 10 ∧ u.takeEjected pkt = some t ∧ pkt.crcOk = true ∧
      t.isOn Pg.ckp = true
    let rd := fun (u : State) => pkt.vc = 6 ∧ pkt.type = 12 ∧ u.takeEjected pkt = some t ∧ pkt.crcOk = true ∧
      t.isOn Pg.ckp = true
    let sel := [(0x14, 1, 0, pkt.fld 0x14 1 0)]
    let within := off + pkt.len ≤ 4 * t.ckpSlot q ∧ pkt.len ≤ 8192
    WorkDoes (.ckWrite pkt)
        (fun u => wr u ∧ guest = some q ∧ t.write q (t.ckpBase q + off) pkt.payload 0 = (none, v))
        (fun _ => v.ckReply pkt 11 0 [] []) ∧
      WorkDoes (.ckWrite pkt)
        (fun u => wr u ∧ guest = some q ∧ t.write q (t.ckpBase q + off) pkt.payload 0 = (some .poison, v))
        (fun _ => v.ckReply pkt 11 2 [] []) ∧
      WorkDoes (.ckWrite pkt) (fun u => wr u ∧ guest = none) (fun _ => t.ckReply pkt 11 1 [] []) ∧
      WorkDoes (.ckWrite pkt) (fun u => u.takeEjected pkt = none) (fun u => u) ∧
      WorkDoes (.ckRead pkt)
        (fun u => rd u ∧ t.tagPart pkt.tag = some q ∧ within ∧ t.read q (t.ckpBase q + off) pkt.len = (.ok bs, v))
        (fun _ => v.ckReply pkt 13 0 sel bs) ∧
      WorkDoes (.ckRead pkt) (fun u => rd u ∧ t.tagPart pkt.tag = some q ∧ ¬within) (fun _ => t.ckReply pkt 13 1 sel []) ∧
      WorkDoes (.ckRead pkt) (fun u => rd u ∧ t.tagPart pkt.tag = none) (fun _ => t.ckReply pkt 13 1 sel []) ∧
      WorkDoes (.ckRead pkt) (fun u => u.takeEjected pkt = none) (fun u => u)) ∧
  (∀ (pkt : Packet) (t v : State) (p : Nat) (x : Restore) (d : BitVec 256),
    let off := pkt.fld 0x20 63 0
    let mine := (List.range 8).find? fun p =>
      decide (t.rf Pg.ckp (Reg.ckpBuddyp p) 27 16 = pkt.tag ∧ t.rf Pg.ckp (Reg.ckpBuddyp p) 15 0 = pkt.src.toNat) &&
        ((t.ckpt p).snap.any (fun x => x.acks.any (fun a => decide (a.1 = off))))
    let ack := fun (u : State) => pkt.vc = 6 ∧ pkt.type = 11 ∧ u.takeEjected pkt = some t
    let acked := t.updSnap p fun x =>
      let x := { x with acks := x.acks.eraseP (fun a => decide (a.1 = off)) }
      if !x.opened then { x with opened := true } else if x.guestHdr then { x with guestDone := true } else x
    let data := fun (u : State) => pkt.vc = 6 ∧ pkt.type = 13 ∧ u.takeEjected pkt = some t ∧ t.tagPart pkt.tag = some p ∧
      (t.ckpt p).restore = some x ∧ pkt.crcOk = true ∧ x.asked.map (·.1) = some off ∧
      t.restoreEntry p x.entry = (none, d, v) ∧ rsHolder d = pkt.src
    WorkDoes (.ckAck pkt) (fun u => ack u ∧ mine = some p ∧ pkt.crcOk = true ∧ pkt.fld 0x18 24 22 ≠ 0) (fun _ => t.guestFail p) ∧
      WorkDoes (.ckAck pkt)
        (fun u => ack u ∧ mine = some p ∧ pkt.crcOk = true ∧ pkt.fld 0x18 24 22 = 0 ∧
          (acked.ckpt p).snap.any (·.guestDone) = true)
        (fun _ => (acked.bump Pg.ckp Reg.ckpCntCommit).snapNext p) ∧
      WorkDoes (.ckAck pkt)
        (fun u => ack u ∧ mine = some p ∧ pkt.crcOk = true ∧ pkt.fld 0x18 24 22 = 0 ∧
          (acked.ckpt p).snap.any (·.guestDone) = false)
        (fun _ => acked.snapNext p) ∧
      WorkDoes (.ckAck pkt) (fun u => ack u ∧ (mine = none ∨ pkt.crcOk = false)) (fun _ => t) ∧
      WorkDoes (.ckAck pkt) (fun u => u.takeEjected pkt = none) (fun u => u) ∧
      WorkDoes (.ckData pkt)
        (fun u => data u ∧ pkt.fld 0x18 24 22 = 0 ∧ pkt.payload.length = (if x.stage = 3 then 4096 else 64))
        (fun _ => v.restoreTake p x d pkt.payload) ∧
      WorkDoes (.ckData pkt) (fun u => data u ∧ pkt.fld 0x18 24 22 = 2) (fun _ => v.restoreFail p 5) ∧
      WorkDoes (.ckData pkt) (fun u => data u ∧ pkt.fld 0x18 24 22 = 1) (fun _ => v.restoreFail p 1) ∧
      WorkDoes (.ckData pkt) (fun u => u.takeEjected pkt = none) (fun u => u)) ∧
  (∀ p : Part,
    let late := fun (u : State) (at_ : Nat) => decide (at_ + (u.reg Pg.ckp Reg.ckpTmo).toNat ≤ u.now)
    let guest := fun (u : State) => (u.ckpt p).snap.any (fun x => x.guest && x.acks.any (fun a => late u a.2))
    let asked := fun (u : State) => (u.ckpt p).restore.any (fun r => r.asked.any (fun a => late u a.2))
    WorkDoes (.checkpointTimeout p) (fun u => guest u = true ∧ asked u = false) (fun u => u.guestFail p) ∧
      WorkDoes (.checkpointTimeout p) (fun u => guest u = false ∧ asked u = true) (fun u => u.restoreFail p 4) ∧
      WorkDoes (.checkpointTimeout p) (fun u => guest u = true ∧ asked u = true) (fun u => (u.guestFail p).restoreFail p 4) ∧
      WorkDoes (.checkpointTimeout p) (fun u => guest u = false ∧ asked u = false) (fun u => u))

/-- Supply, clocks and limits (R409 to R413): an input is noted; below 48.0 V it raises UV, is counted and stops the
device as a power-fail warning does, with an error; below 45.0 V or above 62.0 V every group is off; a PLL in use that
loses lock is counted and recorded; the throttle loop sets k of a die that has power; the fast limit holds from above
2,100 W to below 1,950 W; and a temperature sample sets THERM_N and turns off a die at 105 °C. Where an event is not
due nothing changes: the model's choice (log 4). Choices of the model it rests on: logs 75, 119. -/
def Obligations.SupplyClocksAndLimits : Prop :=
  (∀ mv : Nat,
    let at_ := fun (u : State) => u.setPwr (fun x => { x with supply := mv })
    EventDoes (.undervolt mv) (fun _ => 48000 ≤ mv) at_ ∧
      EventDoes (.undervolt mv) (fun _ => mv < 48000)
        (fun u => (((((at_ u).irq Pg.pwr 22).bump Pg.pwr Reg.pwrCntUv).alert 2).errorOpen Pg.pwr Cls.device 0 0x11).pfwNow) ∧
      AlwaysDoes (.supplyFail mv) (fun _ => mv < 45000 ∨ 62000 < mv) (fun u => u.toOff mv) ∧
      AlwaysDoes (.supplyFail mv) (fun _ => 45000 ≤ mv ∧ mv ≤ 62000) at_) ∧
  (∀ b : Fin 32,
    let lost := fun (u : State) => u.setPwr (fun x => { x with pll := setBit x.pll b false })
    EventDoes (.pllUnlock b) (fun u => u.pllUsed b = true)
        (fun u => (((lost u).bump Pg.clk Reg.clkCntUnlock).irq Pg.clk 16).error Pg.clk Cls.device 0 0x10 b) ∧
      EventDoes (.pllUnlock b) (fun u => u.pllUsed b = false) (fun u => u)) ∧
  (∀ (tj : Int) (p10 : Nat),
    let east := fun (u : State) => u.throttleStep u.pwr.kEast u.pwr.downEast tj p10
    let west := fun (u : State) => u.throttleStep u.pwr.kWest u.pwr.downWest tj p10
    let atEast := fun (u : State) =>
      u.setPwr (fun x => { x with kEast := (east u).1, downEast := (east u).2, tEast := tj, p10 := p10 })
    let atWest := fun (u : State) =>
      u.setPwr (fun x => { x with kWest := (west u).1, downWest := (west u).2, tWest := tj, p10 := p10 })
    EventDoes (.throttle 0 tj p10) (fun u => u.pwr.groupE = true ∧ (east u).1 = u.pwr.kEast) atEast ∧
      EventDoes (.throttle 0 tj p10) (fun u => u.pwr.groupE = true ∧ (east u).1 ≠ u.pwr.kEast)
        (fun u =>
          let t := (atEast u).bump Pg.clk Reg.clkCntStep
          if u.pwr.kEast = 16 then t.irq Pg.pwr 19 else t) ∧
      EventDoes (.throttle 0 tj p10) (fun u => u.pwr.groupE = false) (fun u => u) ∧
      EventDoes (.throttle 1 tj p10) (fun u => u.pwr.groupW = true ∧ (west u).1 = u.pwr.kWest) atWest ∧
      EventDoes (.throttle 1 tj p10) (fun u => u.pwr.groupW = true ∧ (west u).1 ≠ u.pwr.kWest)
        (fun u =>
          let t := (atWest u).bump Pg.clk Reg.clkCntStep
          if u.pwr.kWest = 16 then t.irq Pg.pwr 19 else t) ∧
      EventDoes (.throttle 1 tj p10) (fun u => u.pwr.groupW = false) (fun u => u)) ∧
  (∀ w : Nat,
    EventDoes (.peakLimit w) (fun u => 2100 < w ∧ u.pwr.fast = false)
        (fun u => ((u.setPwr (fun x => { x with fast := true })).bump Pg.pwr Reg.pwrCntPeak).irq Pg.pwr 23) ∧
      EventDoes (.peakLimit w) (fun u => w ≤ 2100 ∨ u.pwr.fast = true) (fun u => u) ∧
      EventDoes (.peakLimitRelease w) (fun _ => w < 1950) (fun u => u.setPwr (fun x => { x with fast := false })) ∧
      EventDoes (.peakLimitRelease w) (fun _ => 1950 ≤ w) (fun u => u)) ∧
  (∀ e w f : Int,
    let seen := fun (u : State) => u.setPwr (fun x => { x with tEast := e, tWest := w, tFabric := f })
    AlwaysDoes (.tempSample e w f) (fun u => u.pwr.tshut = true) seen ∧
      AlwaysDoes (.tempSample e w f) (fun u => u.pwr.tshut = false ∧ f < 105)
        (fun u => (((seen u).thermPin).dieTrip true).dieTrip false) ∧
      AlwaysDoes (.tempSample e w f) (fun u => u.pwr.tshut = false ∧ 105 ≤ f)
        (fun u =>
          let t := ((((seen u).thermPin).dieTrip true).dieTrip false).deviceReset 0 false
          (t.setPwr (fun x => { x with tshut := true, therm := true, groupE := false, groupW := false, groupF := false,
                                       pll := 0 })).alert 1))

/-- Power states (R414 to R417): a request is taken where none is pending and the entry conditions of the state hold,
and refused with STATUS 4 and a count otherwise; STATE_DONE reaches the target, through A0 where neither end is A0; and
a device leaves A1 in time for its next launch. Where an event is not due nothing changes: the model's choice (log 4).
Choices of the model it rests on: log 119. -/
def Obligations.PowerStates : Prop :=
  (∀ (r : Req) (t : BitVec 2),
    let v : W32 := w32 (at_ 8 1 + t.toNat)
    let may := fun (u : State) => u.pwr.pending = false ∧ u.pwr.pfw = false ∧ u.mayEnter t.toNat = true
    WriteDoes (.powerStateRequest r t) r Pg.pwr Reg.pwrCmd v 0 may
        (fun u => u.setPwr (fun x => { x with pending := true, target := t.toNat })) ∧
      WriteDoes (.powerStateRequest r t) r Pg.pwr Reg.pwrCmd v 4 (fun u => ¬may u)
        (fun u => (u.bump Pg.pwr Reg.pwrCntRefused).irq Pg.pwr 18)) ∧
  (let due := fun (u : State) => u.pwr.pending = true ∧ u.pwr.pfw = false
   let reach := fun (u : State) (t : Nat) => (u.setPwr (fun x => { x with state := t, pending := false })).irq Pg.pwr 17
   EventDoes .stateDone (fun u => due u ∧ (u.pwr.state = u.pwr.target ∨ (u.pwr.state < 2 ∧ u.pwr.target < 2)))
      (fun u => reach u u.pwr.target) ∧
    EventDoes .stateDone (fun u => due u ∧ u.pwr.state < 2 ∧ 2 ≤ u.pwr.target)
      (fun u => reach (u.enterSleep u.pwr.target) u.pwr.target) ∧
    EventDoes .stateDone (fun u => due u ∧ 2 ≤ u.pwr.state ∧ u.pwr.target < 2) (fun u => reach u.exitSleep u.pwr.target) ∧
    EventDoes .stateDone (fun u => u.pwr.pending = false ∨ u.pwr.pfw = true) (fun u => u)) ∧
  (let wake := fun (u : State) => u.launchNext ≤ u.count + (u.reg Pg.pwr Reg.pwrWake).toNat ∧ u.launchPend ≠ 0
   EventDoes .a1Wake wake (fun u => u.leaveA1) ∧ EventDoes .a1Wake (fun u => ¬wake u) (fun u => u))

/-- Resets, the power-fail warning and start-up (R418 to R423): a supply that reaches 50 V begins start-up at step 1;
RST_N low resets the device and holds it, and its release resumes at step 3 where no thermal shutdown holds; DEVRST
with its key resets it once the response is sent; PFW stops the device, and its release is noted; each start-up step
hands over to the next once what it waits for holds; and BOOT_GO releases step 7. Where an event is not due nothing
changes: the model's choice (log 4). Choices of the model it rests on: logs 118, 120. -/
def Obligations.ResetsAndStartup : Prop :=
  (∀ mv : Nat,
    AlwaysDoes (.powerOn mv) (fun u => u.pwr.powered = false ∧ 50000 ≤ mv)
        (fun u => (u.toOff mv).setPwr (fun x => { x with powered := true, step := 1 })) ∧
      AlwaysDoes (.powerOn mv) (fun u => u.pwr.powered = true ∨ mv < 50000) (fun u => u)) ∧
  (let free := fun (u : State) => u.setPwr (fun x => { x with inReset := false })
   AlwaysDoes .rstNAssert (fun u => u.pwr.powered = true ∧ ¬(u.pwr.dev = .boot ∧ u.pwr.step = 1))
      (fun u => u.deviceReset 2 true) ∧
    AlwaysDoes .rstNAssert (fun u => u.pwr.powered = true ∧ u.pwr.dev = .boot ∧ u.pwr.step = 1)
      (fun u => u.deviceReset 1 true) ∧
    AlwaysDoes .rstNAssert (fun u => u.pwr.powered = false) (fun u => u) ∧
    AlwaysDoes .rstNRelease
      (fun u => u.pwr.powered = true ∧ u.pwr.inReset = true ∧ u.pwr.step ≠ 1 ∧ (u.pwr.tshut = false ∨ u.diesCool = true))
      (fun u => (free u).setPwr (fun x =>
        { x with step := 3, tshut := false, therm := x.therm && !x.tshut, groupE := true, groupW := true, groupF := true,
                 pll := x.pll ||| pllEarly })) ∧
    AlwaysDoes .rstNRelease
      (fun u => u.pwr.powered = true ∧ u.pwr.inReset = true ∧ (u.pwr.step = 1 ∨ (u.pwr.tshut = true ∧ u.diesCool = false)))
      free ∧
    AlwaysDoes .rstNRelease (fun u => u.pwr.powered = false ∨ u.pwr.inReset = false) (fun u => u) ∧
    EventDoes .pfw (fun _ => True) (fun u => u.pfwNow.setPwr (fun x => { x with pfwIn := true })) ∧
    AlwaysDoes .pfwRelease (fun _ => True) (fun u => u.setPwr (fun x => { x with pfwIn := false }))) ∧
  (∀ (r : Req) (key : Byte) (data : W32),
    let kept := fun (u : State) => u.setReg Pg.pwr Reg.pwrBoot (data &&& 0x10FFF)
    let go := fun (u : State) => (kept u).setPwr (fun x => { x with bootGo := true })
    let ready := fun (u : State) => u.pwr.step = 6 ∧ u.pwr.tested = true ∧ u.pwr.pfw = false
    WriteDoes (.devrst r key) r Pg.pwr Reg.pwrCmd (w32 (at_ 31 1 + at_ 16 key.toNat)) 0 (fun _ => key = 0x5A)
        (fun u => u.setPwr (fun x => { x with rstReq := true })) ∧
      WriteDoes (.devrst r key) r Pg.pwr Reg.pwrCmd (w32 (at_ 31 1 + at_ 16 key.toNat)) 0 (fun _ => key ≠ 0x5A) (fun u => u) ∧
      WriteDoes (.bootGo r data) r Pg.pwr Reg.pwrBoot data 0 (fun _ => bit data 31 = false) kept ∧
      WriteDoes (.bootGo r data) r Pg.pwr Reg.pwrBoot data 0 (fun u => bit data 31 = true ∧ ready u) (fun u => (go u).beginStep7) ∧
      WriteDoes (.bootGo r data) r Pg.pwr Reg.pwrBoot data 0 (fun u => bit data 31 = true ∧ ¬ready u) go) ∧
  (∀ tests : List PageTest,
    let runs := fun (u : State) => u.pwr.pfw = false ∧ u.pwr.dev ≠ .stopped
    let goTo := fun (u : State) (k : Nat) (d : DevState) => u.setPwr (fun x => { x with step := k, dev := d })
    let tested := fun (u : State) =>
      if u.pwr.tested = true then u else (u.bootTests tests).setPwr (fun x => { x with tested := true })
    let Step := fun (k : Nat) (H : State → Prop) (E : State → State) =>
      EventDoes (.startupStep tests) (fun u => runs u ∧ u.pwr.step = k ∧ H u) E ∧
        EventDoes (.startupStep tests) (fun u => runs u ∧ u.pwr.step = k ∧ ¬H u) (fun u => u)
    Step 1 (fun _ => True)
        (fun u => goTo (u.setPwr (fun x => { x with groupE := true, groupW := true, groupF := true, pll := x.pll ||| pllEarly }))
          2 .boot) ∧
      Step 2 (fun u => u.pwr.inReset = false) (fun u => goTo u 3 .boot) ∧
      Step 3 (fun u => u.pwr.inReset = false)
        (fun u => (goTo (({ u with sec := { u.sec with identity := true } } : State).setPwr
          (fun x => { x with pll := x.pll ||| pllLate })) 4 .boot).newNonce.bootStart (Pg.ope 11)) ∧
      Step 4 (fun u => u.isOn (Pg.ope 11) = true ∧ (List.range 4).any (fun n => u.ctlUp n) = true) (fun u => goTo u 5 .fwload) ∧
      Step 5 (fun u => u.sec.mgmt.isSome = true) (fun u => goTo u 6 .selftest) ∧
      EventDoes (.startupStep tests) (fun u => runs u ∧ u.pwr.step = 6)
        (fun u => if (tested u).pwr.bootGo = true then (tested u).beginStep7 else tested u) ∧
      Step 7 (fun u => u.started ((List.range 32).map Pg.gmc) = true)
        (fun u => ((List.range 11).map Pg.ope ++ u.bootLinks).foldl (fun s g => s.bootStart g) (goTo u.copyImage 8 .training)) ∧
      Step 8 (fun u => u.started ((List.range 11).map Pg.ope ++ u.bootLinks) = true) (fun u => goTo u 9 .training) ∧
      Step 9 (fun u => u.way.mode = .locked ∨ u.rb Pg.pwr Reg.pwrBoot 16 = true ∨
          u.pwr.firstMarker.any (fun t => decide (t + 2000000000 ≤ u.now)) = true) (fun u => goTo u 10 .training) ∧
      Step 10 (fun _ => True) (fun u => ((goTo u 0 .ready).irq Pg.pwr 16).alert 4) ∧
      EventDoes (.startupStep tests) (fun u => ¬runs u) (fun u => u))

/-- The service bus (R432 to R434): an address is assigned while none is held; a read returns the indexed register and
moves the index on by 4; a write sets the index and, with four bytes, clears alerts or sets their enables; and an
in-band interrupt is repeated until it is acknowledged. Where an event is not due nothing changes: the model's choice
(log 4). Choices of the model it rests on: log 121. -/
def Obligations.ServiceBus : Prop :=
  (∀ a : BitVec 7,
    let takes := fun (u : State) => u.svcUp = true ∧ u.svc.dynAddr = none
    let took := fun (u : State) => ({ u with svc := { u.svc with dynAddr := some a } } : State)
    AlwaysDoes (.setdasa a) takes took ∧ AlwaysDoes (.setdasa a) (fun u => ¬takes u) (fun u => u) ∧
      AlwaysDoes (.entdaa a) takes took ∧ AlwaysDoes (.entdaa a) (fun u => ¬takes u) (fun u => u)) ∧
  (∀ (index : Byte) (data : List Byte),
    let on := fun (u : State) => u.svcUp = true ∧ u.svc.dynAddr.isSome = true
    let at_ := fun (u : State) => ({ u with svc := { u.svc with index := index.toNat } } : State)
    let v := leNat (data.take 4)
    AlwaysDoes .serviceBusRead on
        (fun u => ({ u with svc := { u.svc with index := (u.svc.index + 4) % 256 } } : State).send (.svcRead (u.svcReg u.svc.index))) ∧
      AlwaysDoes .serviceBusRead (fun u => ¬on u) (fun u => u) ∧
      AlwaysDoes (.serviceBusWrite index data) (fun u => on u ∧ 4 ≤ data.length ∧ index = 0x14)
        (fun u => { at_ u with svc := { (at_ u).svc with alert := u.svc.alert &&& ~~~(BitVec.ofNat 7 v) } }) ∧
      AlwaysDoes (.serviceBusWrite index data) (fun u => on u ∧ 4 ≤ data.length ∧ index = 0x18)
        (fun u => { at_ u with svc := { (at_ u).svc with alertEn := BitVec.ofNat 7 v } }) ∧
      AlwaysDoes (.serviceBusWrite index data) (fun u => on u ∧ (data.length < 4 ∨ (index ≠ 0x14 ∧ index ≠ 0x18))) at_ ∧
      AlwaysDoes (.serviceBusWrite index data) (fun u => ¬on u) (fun u => u)) ∧
  (∀ (d : Byte) (rest : List Byte) (acked : Bool),
    AlwaysDoes (.alertIbiRetry acked) (fun u => u.svc.ibis = d :: rest)
        (fun u => ({ u with svc := { u.svc with ibis := if acked then rest else d :: rest } } : State).send (.ibi d)) ∧
      AlwaysDoes (.alertIbiRetry acked) (fun u => u.svc.ibis = []) (fun u => u))

/-- A step takes the command at the front of the queue and runs it with the queue's rest (log 1 says what it does on an
empty queue). -/
def Obligations.StepRunsTheFrontCommand : Prop :=
  ∀ (c : Instr) (rest : List Instr) (s : State), s.pending = c :: rest → step s = exec c { s with pending := rest }

/-- Every command completes: it answers a next state, in which the waiting commands and the time are as they were, and
what has been sent is what had been sent with, perhaps, more. -/
def Obligations.EveryCommandCompletes : Prop :=
  ∀ (c : Instr) (s : State), ∃ t, exec c s = .next t ∧ t.pending = s.pending ∧ t.now = s.now ∧
    ∃ sent, t.outbox = sent ++ s.outbox

/-- Every step keeps memory in its canonical form: addresses strictly rising, and no byte listed that equals what the
address reads as unlisted. So equal memories are equal data after any run from a state that has the form. -/
def Obligations.StepKeepsMemoryCanonical : Prop :=
  ∀ s t : State, Memory.wf s.mem = true → step s = .next t → Memory.wf t.mem = true

/-- The machine after reset (R40, R418, R422): start-up step 1 in BOOT, every page header and register at its reset
value, the Waystone FREE at count 0, no session and no key, no command waiting, and memory in its canonical form.
Choices of the model it rests on: log 6. -/
def Obligations.ResetState : Prop :=
  let s := State.reset
  s.pwr.step = 1 ∧ s.pwr.dev = .boot ∧ s.way.mode = .free ∧ s.count = 0 ∧ s.pending = [] ∧ Memory.wf s.mem = true ∧
    (∀ pg, s.page pg = Page.init (hasSM pg)) ∧ (∀ pg off, s.reg pg off = regReset pg off) ∧
    (∀ n : Fin 4, (s.ctlPort n).session = none) ∧
    (∀ p : Fin 8, (s.partSec p).kg = none ∧ (s.partSec p).kc = none ∧ (s.partSec p).bundle = none) ∧
    s.sec.mgmt = none ∧ s.quiet = true

/-- In Off, in reset and in thermal shutdown nothing but the supply, the reset pin, the power-fail pin, the temperature
sensors and the service bus changes the device (R413, R418, R419); and once a power-fail warning has stopped it no
command starts, carries on or ends work of the engines (R420). Choices of the model it rests on: logs 11, 13. -/
def Obligations.StoppedDeviceIgnores : Prop :=
  (∀ (c : Instr) (s : State), unconditional c = false → s.live = false → exec c s = .next s) ∧
    (∀ (c : Instr) (s : State), engineWork c = true → s.live = true → s.pwr.pfw = true → exec c s = .next (s.done s.hush))

/-- Where no reset, handover, error, page that has left ON or Tollgate result waits, nothing follows a command's own
effect: the state after it is that effect, with the queue and the time as they were. Choices of the model it rests on:
log 122. -/
def Obligations.QuietCommandsEndThere : Prop :=
  ∀ s t : State, t.quiet = true → s.done t = s.plain t

/-- Memory reads back what was written (R7, R231, R234): one byte and many; and bytes stored in GDDR7 whose blocks hold
no poison are read back, with every other byte as it was. Choices of the model it rests on: log 5. -/
def Obligations.MemoryReadsBack : Prop :=
  (∀ (m : List Host.Cell) (a x : Nat) (b : Byte), Memory.wf m = true →
    Memory.wf (Memory.write m a b) = true ∧
      Memory.read (Memory.write m a b) x = if x = a then b else Memory.read m x) ∧
  (∀ (s : State) (a x : Nat) (bs : List Byte), Memory.wf s.mem = true →
    (blocksOf a bs.length).all (fun b => !s.poisoned b) = true →
      let r := s.storeBlocks a bs
      r.1 = false ∧ Memory.wf r.2.mem = true ∧
        Memory.read r.2.mem x = if a ≤ x ∧ x < a + bs.length then nth bs 0 (x - a) else Memory.read s.mem x)

/-- What the service-bus commands and the commands of stream time leave (R40 to R46, R432 to R434): where nothing waits
to follow, a service-bus command changes the service-bus registers and what is sent and nothing else; a command of
stream time has an effect of its own that changes the Waystone, when the first marker came, page headers, registers,
the ports' queues, what is sent and the open values drawn, and nothing else; and a command of the clocks, limits,
sensors, timers and the router's epochs has one that leaves streams, graphs, cores, tokens, chains, remote engines,
collectives and checkpoints, and all of memory but the trace ring that an error of a PLL or a controller is entered in.
-/
def Obligations.ServiceAndTimeFrames : Prop :=
  (∀ (c : Instr) (s t : State) (a : BitVec 7) (k : Bool) (i : Byte) (d : List Byte),
    c ∈ [Instr.setdasa a, .entdaa a, .serviceBusRead, .serviceBusWrite i d, .alertIbiRetry k] →
    s.quiet = true → Memory.wf s.mem = true → exec c s = .next t →
      t = { s with svc := t.svc, outbox := t.outbox }) ∧
  (∀ (c : Instr) (s : State) (m t2 t3 : W64) (src x : W16) (ok : Bool) (die : Fin 2) (port : Fin 8) (mode : BitVec 3),
    c ∈ [Instr.markerAccept m src ok, .refLossTimeout, .holdoverServo, .waystoneCopyCorrect die, .timingExchange port,
      .timingRequest port x, .timingReply port mode t2 t3 x] → s.live = true →
      ∃ u, exec c s = .next (s.done u) ∧
        u = { s.hush with way := u.way, pwr := { s.pwr with firstMarker := u.pwr.firstMarker }, pages := u.pages,
                          regs := u.regs, ctl := u.ctl, outbox := u.outbox, fresh := u.fresh }) ∧
  (∀ (c : Instr) (s : State) (pll b : Fin 32) (die : Fin 2) (tj : Int) (p w : Nat) (inp : Fin 11) (vc : BitVec 3)
      (gmc : Fin 32) (out : EdcOutcome) (port : Fin 4) (e : Fin 64) (page : BitVec 12),
    c ∈ [Instr.pllUnlock pll, .throttle die tj p, .peakLimit w, .peakLimitRelease w, .epochSwitch, .escapeTimeout inp vc,
      .gddr7Hot gmc tj, .edcError gmc out, .nodeSilent port, .heartbeatTimer port, .debugExpiry, .suspectExpire e,
      .event page b] → s.live = true →
      ∃ u, exec c s = .next (s.done u) ∧
        u = { s.hush with pages := u.pages, regs := u.regs, ctl := u.ctl, outbox := u.outbox, fresh := u.fresh,
                          sec := u.sec, suspects := u.suspects, nextCause := u.nextCause, stops := u.stops,
                          pwr := u.pwr, rte := u.rte, tier := u.tier, mem := u.mem } ∧
        (c ≠ .pllUnlock pll → c ≠ .edcError gmc out → u.mem = s.mem ∧ u.stops = s.stops))

/-- Reserved offsets and the management port's own page (R25, R29): a reserved offset of a mapped page that the port
may reach reads as 0 with STATUS 0, and a write to it changes no register and is answered 0; a write of PG_CTRL that
would disable or reset the management port's own CTP page, however it comes, is answered 2 and changes nothing. -/
def Obligations.ReservedOffsetsAndOwnPage : Prop :=
  (∀ (r : Req) (addr : BitVec 24) (v : W32),
    let pg := addr.toNat / 0x1000
    let off := addr.toNat % 0x1000
    let drop := fun (u : State) => { u with holds := u.holds.set none r.port none }
    let reserved := off % 4 = 0 ∧ isLow pg off = false ∧ isHigh pg off = false ∧
      ((0x02C ≤ off ∧ off < 0x100) ∨ (0x100 ≤ off ∧ regDef pg off = none))
    (rowOf pg).isSome = true → reserved →
      (r.len = 4 → actsOnRead pg off = false →
        RequestDoes (.cfgRd r addr) r 1 .redo
          (fun u => (drop u).mayRead r.port pg off = true ∧ u.latches.get none (latchKey r.port pg off) = none)
          (fun u => (⟨0, toLE 4 0⟩, drop u))) ∧
      (r.len = 8 → asksEnv addr.toNat = false →
        RequestDoes (.cfgWr r addr v) r 2 .keep
          (fun u => (drop u).mayWrite r.port pg off v = true ∧ u.dark pg = false) (fun u => (Resp.of 0, drop u)))) ∧
  (∀ (r : Req) (halt : Bool) (bist : TestResult) (s : State), s.live = true → s.hush.takesUp r 2 = true → r.len = 8 →
    let page : BitVec 12 := BitVec.ofNat 12 (Pg.ctp r.port)
    let u := s.hush.begun r 2
    u.isMgmt r.port = true →
      exec (.pageDisable r page halt) s = .next (s.done (u.replied r 2 .keep (Resp.of 2))) ∧
        exec (.pageHalt r page false halt) s = .next (s.done (u.replied r 2 .keep (Resp.of 2))) ∧
        exec (.pageSoftReset r page bist) s = .next (s.done (u.replied r 2 .keep (Resp.of 2)))) ∧
  (∀ (r : Req) (addr : BitVec 24) (v : W32) (s : State), s.live = true → s.hush.openEnv.2.takesUp r 2 = true → r.len = 8 →
    let u := s.hush.openEnv.2.begun r 2
    u.isMgmt r.port = true → addr.toNat = regKey (Pg.ctp r.port) 0x008 → bit v 0 = false ∨ bit v 1 = true →
      exec (.cfgWr r addr v) s = .next (s.done (u.replied r 2 .keep (Resp.of 2))))
end

