-- ==== Sys2Proof/Laws/Frames.lean ====
section
/-! SUPPORT. What the operations that every block shares leave as it was: raising an event, counting, sending, tracing,
recording an error. Each is said as one equation between states with the written parts blanked, from which the field
lemmas follow. -/
namespace Sys2Proof.Machine

/-! The parts that sending, counting and raising an event write -/

/-- The state without page headers, registers, control ports, what is sent and the open values drawn. -/
def State.offWire (s : State) : State :=
  { s with pages := [], regs := [], ctl := Vector.replicate 4 CtlPort.init, outbox := [], fresh := 0 }

theorem setPage_offWire (s : State) (g : Nat) (p : Page) : (s.setPage g p).offWire = s.offWire := rfl
theorem setReg_offWire (s : State) (g o : Nat) (v : W32) : (s.setReg g o v).offWire = s.offWire := rfl
theorem setRf_offWire (s : State) (g o h l v : Nat) : (s.setRf g o h l v).offWire = s.offWire := rfl
theorem setCtlPort_offWire (s : State) (n : Nat) (c : CtlPort) : (s.setCtlPort n c).offWire = s.offWire := rfl
theorem send_offWire (s : State) (o : Out) : (s.send o).offWire = s.offWire := rfl

theorem bumpBy_offWire (s : State) (g o n : Nat) : (s.bumpBy g o n).offWire = s.offWire := by
  unfold State.bumpBy
  extract_lets v
  split
  · rfl
  · split <;> rfl

theorem bump_offWire (s : State) (g o : Nat) : (s.bump g o).offWire = s.offWire := bumpBy_offWire s g o 1

theorem pump_offWire (s : State) (port n : Nat) : (s.pump port n).offWire = s.offWire := by
  induction n generalizing s with
  | zero => rfl
  | succ n ih =>
    unfold State.pump
    extract_lets c
    split
    · rfl
    · split
      · exact ih _
      · rfl

theorem sendMsg_offWire (s : State) (port : Nat) (m : Msg) (w : Bool) : (s.sendMsg port m w).offWire = s.offWire := by
  unfold State.sendMsg
  extract_lets c
  split
  rw [pump_offWire, send_offWire, bump_offWire, setCtlPort_offWire]

theorem flushEvents_offWire (s : State) (port n : Nat) : (s.flushEvents port n).offWire = s.offWire := by
  induction n generalizing s with
  | zero => rfl
  | succ n ih =>
    unfold State.flushEvents
    extract_lets c
    split
    · rfl
    · split
      · exact (ih _).trans (sendMsg_offWire _ _ _ _)
      · rfl

theorem queueEvent_offWire (s : State) (port g : Nat) : (s.queueEvent port g).2.offWire = s.offWire := by
  unfold State.queueEvent
  extract_lets c
  split
  · exact flushEvents_offWire _ _ _
  · exact bump_offWire _ _ _

theorem raiseN_offWire (n : Nat) (s : State) (g b : Nat) : (s.raiseN n g b).offWire = s.offWire := by
  induction n generalizing s g b with
  | zero => rfl
  | succ n ih =>
    unfold State.raiseN
    extract_lets p
    split
    · rfl
    · split
      · have key : ∀ (l : List Nat) (u : State), u.offWire = s.offWire →
            (l.foldl (fun s port => match s.queueEvent port g with
              | (true, s) => State.raiseN n s (Pg.ctp port) 20
              | (false, s) => s) u).offWire = s.offWire := by
          intro l
          induction l with
          | nil => intro u h; exact h
          | cons a l il =>
            intro u h
            rw [List.foldl_cons]
            apply il
            have hq := queueEvent_offWire u a g
            generalize u.queueEvent a g = x at hq
            obtain ⟨f, y⟩ := x
            cases f
            · exact hq.trans h
            · exact (ih _ _ _).trans (hq.trans h)
        exact key _ _ rfl
      · rfl

/-- Raising an event writes page headers, the ports' registers and queues, and what is sent, and nothing else. -/
theorem irq_offWire (s : State) (g b : Nat) : (s.irq g b).offWire = s.offWire := raiseN_offWire 6 s g b

/-- The state without those parts and the service bus. -/
def State.offAlert (s : State) : State := { s.offWire with svc := Service.init }

/-- An alert writes the service bus and what is sent, and nothing else. -/
theorem alert_offAlert (s : State) (b : Nat) : (s.alert b).offAlert = s.offAlert := by
  unfold State.alert
  split
  · rfl
  · extract_lets a x t d
    split <;> rfl

/-! The parts that recording an error writes besides -/

/-- The state without those parts and the trace ring, suspects and errors that wait. -/
def State.offErr (s : State) : State :=
  { s.offWire with mem := [], sec := Sec.init, suspects := Vector.replicate 64 none, nextCause := 0, stops := [] }

theorem offErr_of {s t : State} (h : s.offWire = t.offWire) : s.offErr = t.offErr := by
  unfold State.offErr
  rw [h]

theorem irq_offErr (s : State) (g b : Nat) : (s.irq g b).offErr = s.offErr := offErr_of (irq_offWire s g b)
theorem bump_offErr (s : State) (g o : Nat) : (s.bump g o).offErr = s.offErr := offErr_of (bump_offWire s g o)

theorem store_offErr (s : State) (a : Nat) (l : List Byte) : (s.store a l).offErr = s.offErr := rfl
theorem sec_offErr (s : State) (x : Sec) : ({ s with sec := x } : State).offErr = s.offErr := rfl

theorem ite_offErr {c : Prop} [Decidable c] {a b x : State} (ha : a.offErr = x) (hb : b.offErr = x) :
    (if c then a else b).offErr = x := by
  split
  · exact ha
  · exact hb

theorem trace_offErr (s : State) (k p g i v a : Nat) : (s.trace k p g i v a).offErr = s.offErr := by
  unfold State.trace
  split
  · exact ite_offErr (bump_offErr _ _ _) (by rw [bump_offErr, sec_offErr, store_offErr])
  · rfl

theorem suspect_offErr (s : State) (c : Coord) (k : Nat) : (s.suspect c k).offErr = s.offErr := by
  unfold State.suspect
  split
  · split
    · extract_lets t
      have ht : t.offErr = s.offErr := by
        unfold t
        split
        · exact bump_offErr _ _ _
        · rfl
      exact ht
    · rfl
  · split
    · rfl
    · rw [irq_offErr, bump_offErr]; rfl

theorem enter_offErr (s : State) (g : Nat) (st : PgState) : (s.enter g st).offErr = s.offErr := by
  unfold State.enter
  extract_lets p
  cases st
  · exact irq_offErr _ _ _
  · rfl
  · exact irq_offErr _ _ _
  · rfl
  · exact irq_offErr _ _ _
  · exact (suspect_offErr _ _ _).trans ((irq_offErr _ _ _).trans (irq_offErr _ _ _))

theorem countErr_offErr (s : State) (g : Nat) : (s.countErr g).offErr = s.offErr := by
  unfold State.countErr
  extract_lets p
  split
  · split
    · exact irq_offErr _ _ _
    · rfl
  · rfl

theorem recordErr_offErr (s : State) (g c p k d : Nat) : (s.recordErr g c p k d).offErr = s.offErr := by
  unfold State.recordErr
  extract_lets x w
  split
  · rfl
  · exact (trace_offErr _ _ _ _ _ _ _).trans (irq_offErr _ _ _)

theorem fltFirst_offErr (s : State) (g c p k : Nat) : (s.fltFirst g c p k).offErr = s.offErr := by
  unfold State.fltFirst
  split <;> rfl

/-- Recording an error writes page headers, the counters and queues of the ports, the trace, the suspects and the list of
what is to stop, and nothing else. -/
theorem error_offErr (s : State) (g c p k d : Nat) : (s.error g c p k d).offErr = s.offErr := by
  have h1 := countErr_offErr s g
  have h2 := (recordErr_offErr (s.countErr g) g c p k d).trans h1
  have h3 := (fltFirst_offErr ((s.countErr g).recordErr g c p k d) g c p k).trans h2
  unfold State.error
  split
  · exact h1
  · exact ite_offErr (ite_offErr ((enter_offErr _ _ _).trans h3) h3) h2

theorem errorOpen_offErr (s : State) (g c p k : Nat) : (s.errorOpen g c p k).offErr = s.offErr := by
  unfold State.errorOpen
  split
  rename_i d t h
  have : t = (s.freeBits 16).2 := by rw [h]
  subst this
  exact error_offErr _ _ _ _ _ _

/-! Fields that they leave -/

@[simp] theorem irq_pwr (s : State) (g b : Nat) : (s.irq g b).pwr = s.pwr := by
  have h := congrArg State.pwr (irq_offWire s g b)
  exact h
@[simp] theorem irq_mem (s : State) (g b : Nat) : (s.irq g b).mem = s.mem := by
  have h := congrArg State.mem (irq_offWire s g b)
  exact h
@[simp] theorem irq_now (s : State) (g b : Nat) : (s.irq g b).now = s.now := by
  have h := congrArg State.now (irq_offWire s g b)
  exact h
@[simp] theorem irq_way (s : State) (g b : Nat) : (s.irq g b).way = s.way := by
  have h := congrArg State.way (irq_offWire s g b)
  exact h
@[simp] theorem irq_sec (s : State) (g b : Nat) : (s.irq g b).sec = s.sec := by
  have h := congrArg State.sec (irq_offWire s g b)
  exact h
@[simp] theorem irq_str (s : State) (g b : Nat) : (s.irq g b).str = s.str := by
  have h := congrArg State.str (irq_offWire s g b)
  exact h
@[simp] theorem irq_sch (s : State) (g b : Nat) : (s.irq g b).sch = s.sch := by
  have h := congrArg State.sch (irq_offWire s g b)
  exact h
@[simp] theorem irq_rte (s : State) (g b : Nat) : (s.irq g b).rte = s.rte := by
  have h := congrArg State.rte (irq_offWire s g b)
  exact h
@[simp] theorem irq_tier (s : State) (g b : Nat) : (s.irq g b).tier = s.tier := by
  have h := congrArg State.tier (irq_offWire s g b)
  exact h
@[simp] theorem bump_pwr (s : State) (g o : Nat) : (s.bump g o).pwr = s.pwr := by
  have h := congrArg State.pwr (bump_offWire s g o)
  exact h
@[simp] theorem bump_way (s : State) (g o : Nat) : (s.bump g o).way = s.way := by
  have h := congrArg State.way (bump_offWire s g o)
  exact h
@[simp] theorem bump_mem (s : State) (g o : Nat) : (s.bump g o).mem = s.mem := by
  have h := congrArg State.mem (bump_offWire s g o)
  exact h
@[simp] theorem bump_pages (s : State) (g o : Nat) : (s.bump g o).pages = s.pages := by
  unfold State.bump State.bumpBy
  extract_lets v
  split
  · rfl
  · split <;> rfl
@[simp] theorem error_pwr (s : State) (g c p k d : Nat) : (s.error g c p k d).pwr = s.pwr := by
  have h := congrArg State.pwr (error_offErr s g c p k d)
  exact h
@[simp] theorem error_way (s : State) (g c p k d : Nat) : (s.error g c p k d).way = s.way := by
  have h := congrArg State.way (error_offErr s g c p k d)
  exact h
@[simp] theorem errorOpen_pwr (s : State) (g c p k : Nat) : (s.errorOpen g c p k).pwr = s.pwr := by
  have h := congrArg State.pwr (errorOpen_offErr s g c p k)
  exact h
@[simp] theorem alert_pwr (s : State) (b : Nat) : (s.alert b).pwr = s.pwr := by
  have h := congrArg State.pwr (alert_offAlert s b)
  exact h

end Sys2Proof.Machine
end

