-- ==== Sys2Proof/Laws/Memory.lean ====
section
/-! SUPPORT. Tables in canonical form, and memory: a read after a write, and that every operation on memory keeps its
canonical form. -/
namespace Sys2Proof.Machine

/-! Tables -/

theorem SMap.rising_mono {α : Type} (m : SMap α) {a b : Nat} (h : a ≤ b) (r : SMap.rising b m = true) :
    SMap.rising a m = true := by
  cases m with
  | nil => rfl
  | cons x m =>
    simp only [SMap.rising, Bool.and_eq_true, decide_eq_true_eq] at r ⊢
    exact ⟨Nat.le_trans h r.1, r.2⟩

theorem SMap.get_low {α : Type} (m : SMap α) (d : α) {lo k : Nat} (r : SMap.rising lo m = true) (h : k < lo) :
    SMap.get m d k = d := by
  induction m generalizing lo with
  | nil => rfl
  | cons x m ih =>
    simp only [SMap.rising, Bool.and_eq_true, decide_eq_true_eq] at r
    unfold SMap.get
    rw [if_neg (by omega)]
    exact ih r.2 (by omega)

theorem SMap.rising_insert {α : Type} (m : SMap α) (k : Nat) (v : α) {lo : Nat} (r : SMap.rising lo m = true) (h : lo ≤ k) :
    SMap.rising lo (SMap.insert m k v) = true := by
  induction m generalizing lo with
  | nil => simp [SMap.insert, SMap.rising, h]
  | cons x m ih =>
    have r' := r
    simp only [SMap.rising, Bool.and_eq_true, decide_eq_true_eq] at r
    unfold SMap.insert
    by_cases h1 : x.1 = k
    · simp only [h1, if_true, SMap.rising, Bool.and_eq_true, decide_eq_true_eq]
      exact ⟨h, h1 ▸ r.2⟩
    · rw [if_neg h1]
      by_cases h2 : k < x.1
      · simp only [h2, if_true, SMap.rising, Bool.and_eq_true, decide_eq_true_eq]
        exact ⟨h, h2, r.2⟩
      · simp only [h2, if_false, SMap.rising, Bool.and_eq_true, decide_eq_true_eq]
        exact ⟨r.1, ih r.2 (by omega)⟩

theorem SMap.rising_erase {α : Type} (m : SMap α) (k : Nat) {lo : Nat} (r : SMap.rising lo m = true) :
    SMap.rising lo (SMap.erase m k) = true := by
  induction m generalizing lo with
  | nil => rfl
  | cons x m ih =>
    have r' := r
    simp only [SMap.rising, Bool.and_eq_true, decide_eq_true_eq] at r
    unfold SMap.erase
    split
    · exact SMap.rising_mono m (by omega) r.2
    · split
      · exact r'
      · simp only [SMap.rising, Bool.and_eq_true, decide_eq_true_eq]
        exact ⟨r.1, ih r.2⟩

theorem SMap.get_insert {α : Type} (m : SMap α) (d : α) (k j : Nat) (v : α) :
    SMap.get (SMap.insert m k v) d j = if j = k then v else SMap.get m d j := by
  induction m with
  | nil =>
    simp only [SMap.insert, SMap.get]
    by_cases h : k = j
    · rw [if_pos h, if_pos h.symm]
    · rw [if_neg h, if_neg (Ne.symm h)]
  | cons x m ih =>
    unfold SMap.insert
    by_cases h1 : x.1 = k
    · simp only [h1, if_true, SMap.get]
      by_cases h : k = j
      · rw [if_pos h, if_pos h.symm]
      · rw [if_neg h, if_neg (Ne.symm h)]
        rw [if_neg h]
    · by_cases h2 : k < x.1
      · simp only [h1, h2, if_true, if_false, SMap.get]
        by_cases h : k = j
        · rw [if_pos h, if_pos h.symm]
        · rw [if_neg h, if_neg (Ne.symm h)]
      · simp only [h1, h2, if_false, SMap.get, ih]
        by_cases h : x.1 = j
        · have : ¬ j = k := fun c => h1 (h.trans c)
          rw [if_pos h, if_neg this, if_pos h]
        · rw [if_neg h, if_neg h]

theorem SMap.get_erase {α : Type} (m : SMap α) (d : α) (k j : Nat) {lo : Nat} (r : SMap.rising lo m = true) :
    SMap.get (SMap.erase m k) d j = if j = k then d else SMap.get m d j := by
  induction m generalizing lo with
  | nil => simp [SMap.erase, SMap.get]
  | cons x m ih =>
    simp only [SMap.rising, Bool.and_eq_true, decide_eq_true_eq] at r
    unfold SMap.erase
    by_cases h1 : x.1 = k
    · rw [if_pos h1]
      by_cases h : j = k
      · rw [if_pos h]
        exact SMap.get_low m d r.2 (by omega)
      · rw [if_neg h]
        simp only [SMap.get]
        rw [if_neg (fun c => h (c.symm.trans h1))]
    · rw [if_neg h1]
      by_cases h2 : k < x.1
      · rw [if_pos h2]
        by_cases h : j = k
        · rw [if_pos h]
          simp only [SMap.get]
          rw [if_neg (by omega)]
          exact SMap.get_low m d r.2 (by omega)
        · rw [if_neg h]
      · rw [if_neg h2]
        simp only [SMap.get, ih r.2]
        by_cases h : x.1 = j
        · have : ¬ j = k := fun c => h1 (h.trans c)
          rw [if_pos h, if_neg this, if_pos h]
        · rw [if_neg h, if_neg h]

/-- A read after a write of a table in canonical order. -/
theorem SMap.get_set {α : Type} [DecidableEq α] (m : SMap α) (d : α) (k j : Nat) (v : α) (r : SMap.rising 0 m = true) :
    SMap.get (SMap.set m d k v) d j = if j = k then v else SMap.get m d j := by
  unfold SMap.set
  split
  · rename_i h
    rw [SMap.get_erase m d k j r, h]
  · exact SMap.get_insert m d k j v

theorem SMap.mem_insert {α : Type} (m : SMap α) (k : Nat) (v : α) (x : Nat × α) (h : x ∈ SMap.insert m k v) :
    x = (k, v) ∨ x ∈ m := by
  induction m with
  | nil => simpa [SMap.insert] using h
  | cons y m ih =>
    unfold SMap.insert at h
    split at h
    · rcases List.mem_cons.1 h with h | h
      · exact .inl h
      · exact .inr (List.mem_cons_of_mem _ h)
    · split at h
      · rcases List.mem_cons.1 h with h | h
        · exact .inl h
        · exact .inr h
      · rcases List.mem_cons.1 h with h | h
        · exact .inr (h ▸ List.mem_cons_self)
        · rcases ih h with h | h
          · exact .inl h
          · exact .inr (List.mem_cons_of_mem _ h)

theorem SMap.mem_erase {α : Type} (m : SMap α) (k : Nat) (x : Nat × α) (h : x ∈ SMap.erase m k) : x ∈ m := by
  induction m with
  | nil => exact h
  | cons y m ih =>
    unfold SMap.erase at h
    split at h
    · exact List.mem_cons_of_mem _ h
    · split at h
      · exact h
      · rcases List.mem_cons.1 h with h | h
        · exact h ▸ List.mem_cons_self
        · exact List.mem_cons_of_mem _ (ih h)

/-! Memory -/

theorem Memory.wf_iff (m : List Host.Cell) :
    Memory.wf m = true ↔ SMap.rising 0 m = true ∧ ∀ c ∈ m, c.2 ≠ memDefault c.1 := by
  unfold Memory.wf
  simp [List.all_eq_true]

/-- A write keeps the canonical form. -/
theorem Memory.wf_write (m : List Host.Cell) (a : Nat) (b : Byte) (h : Memory.wf m = true) :
    Memory.wf (Memory.write m a b) = true := by
  rw [Memory.wf_iff] at h ⊢
  unfold Memory.write SMap.set
  split
  · exact ⟨SMap.rising_erase m a h.1, fun c hc => h.2 c (SMap.mem_erase m a c hc)⟩
  · rename_i hb
    refine ⟨SMap.rising_insert m a b h.1 (Nat.zero_le _), fun c hc => ?_⟩
    rcases SMap.mem_insert m a b c hc with e | e
    · rw [e]; exact hb
    · exact h.2 c e

theorem Memory.wf_writeBytes (bs : List Byte) (m : List Host.Cell) (a : Nat) (h : Memory.wf m = true) :
    Memory.wf (Memory.writeBytes m a bs) = true := by
  induction bs generalizing m a with
  | nil => exact h
  | cons b bs ih => exact ih _ _ (Memory.wf_write m a b h)

/-- Tidying leaves the canonical form. -/
theorem Memory.wf_tidy (m : List Host.Cell) : Memory.wf (Memory.tidy m) = true := by
  unfold Memory.tidy
  split
  · assumption
  · have key : ∀ (l t : List Host.Cell), Memory.wf t = true →
        Memory.wf (l.foldl (fun t c => Memory.write t c.1 c.2) t) = true := by
      intro l
      induction l with
      | nil => intro t h; exact h
      | cons c l ih => intro t h; exact ih _ (Memory.wf_write t c.1 c.2 h)
    exact key _ _ rfl

/-- Memory in its canonical form is left as it is. -/
theorem Memory.tidy_wf (m : List Host.Cell) (h : Memory.wf m = true) : Memory.tidy m = m := by
  unfold Memory.tidy
  rw [if_pos h]

/-- A read after a write of one byte. -/
theorem Memory.read_write (m : List Host.Cell) (a x : Nat) (b : Byte) (h : Memory.wf m = true) :
    Memory.read (Memory.write m a b) x = if x = a then b else Memory.read m x := by
  have r := ((Memory.wf_iff m).1 h).1
  unfold Memory.read Memory.write
  by_cases e : x = a
  · rw [if_pos e, e, SMap.get_set m (memDefault a) a a b r, if_pos rfl]
  · rw [if_neg e]
    unfold SMap.set
    split
    · rw [SMap.get_erase m (memDefault x) a x r, if_neg e]
    · rw [SMap.get_insert m (memDefault x) a x b, if_neg e]

/-- A read after a write of bytes. -/
theorem Memory.read_writeBytes (bs : List Byte) (m : List Host.Cell) (a x : Nat) (h : Memory.wf m = true) :
    Memory.read (Memory.writeBytes m a bs) x =
      if a ≤ x ∧ x < a + bs.length then nth bs 0 (x - a) else Memory.read m x := by
  induction bs generalizing m a with
  | nil =>
    rw [if_neg (by simp)]
    rfl
  | cons b bs ih =>
    show Memory.read (Memory.writeBytes (Memory.write m a b) (a + 1) bs) x = _
    rw [ih _ _ (Memory.wf_write m a b h), Memory.read_write m a x b h]
    rw [List.length_cons]
    by_cases e : x = a
    · subst e
      rw [if_neg (by omega), if_pos rfl, if_pos ⟨Nat.le_refl _, by omega⟩, Nat.sub_self]
      rfl
    · rw [if_neg e]
      by_cases f : a + 1 ≤ x ∧ x < a + 1 + bs.length
      · rw [if_pos f, if_pos ⟨by omega, by omega⟩]
        obtain ⟨k, hk⟩ : ∃ k, x - a = k + 1 := ⟨x - a - 1, by omega⟩
        have : x - (a + 1) = k := by omega
        rw [this, hk]
        rfl
      · rw [if_neg f, if_neg (by omega)]

/-- The state after a command holds its memory in canonical form. -/
theorem done_mem (s t : State) : (s.done t).mem = Memory.tidy t.settle.mem := by
  unfold State.done
  generalize t.settle = u
  rfl

theorem done_wf (s t : State) : Memory.wf (s.done t).mem = true := by
  rw [done_mem]
  exact Memory.wf_tidy _

end Sys2Proof.Machine
end

