-- ==== Sys2Proof/Laws/Requests.lean ====
section
/-! SUPPORT. What a command of a live device answers, and what becomes of a request that its port takes up (R346 to
R348) and of a configuration access that reaches its register (R23 to R29). -/
namespace Sys2Proof.Machine

/-- A command of a live device answers the state after its effect. -/
theorem run_live (f : State → State) (s : State) (h : s.live = true) : run f s = .next (s.done (f s.hush)) := by
  unfold run State.after
  rw [if_pos h]

/-- In Off, in reset and in thermal shutdown it answers the state as it was. -/
theorem run_dead (f : State → State) (s : State) (h : s.live = false) : run f s = .next s := by
  unfold run
  rw [if_neg (by simp [h])]

/-- A command of the engines, where no power-fail warning holds. -/
theorem work_live (f : State → State) (s : State) (h : s.live = true) (p : s.pwr.pfw = false) :
    work f s = .next (s.done (f s.hush)) := by
  unfold work
  rw [run_live _ _ h]
  have : s.hush.pwr.pfw = false := p
  simp [this]

/-- A command that no reset keeps from its effect. -/
theorem always_eq (f : State → State) (s : State) : always f s = .next (s.done (f s.hush)) := rfl

/-- A request that its port takes up is carried out in the state that has received it. -/
theorem request_taken (s : State) (r : Req) (type : Nat) (k : ReqKind) (ok : Bool) (act : State → Resp × State)
    (h : s.takesUp r type = true) :
    s.request r type k ok act =
      (s.received r type).carryOut r type k false (fun s => if ok then act s else (Resp.of St.length, s)) := by
  unfold State.takesUp at h
  simp only [Bool.and_eq_true] at h
  obtain ⟨h1, h2, h3⟩ := h
  unfold State.request State.received State.admission
  simp only [h1, Bool.not_true, Bool.false_eq_true, if_false]
  have h2' : (s.takeMsg r type).authFails r type = false := by simpa using h2
  simp only [h2', Bool.false_eq_true, if_false]
  cases he : ((s.takeMsg r type).ctlPort r.port).expect with
  | none => rfl
  | some e =>
    rw [he] at h3
    have : r.mseq = e := by simpa using h3
    subst this
    simp

/-- Carrying out a new request: its act, then its answer. -/
theorem carryOut_new (s : State) (r : Req) (type : Nat) (k : ReqKind) (act : State → Resp × State) :
    s.carryOut r type k false act = (act s).2.replied r type k (act s).1 := by
  unfold State.carryOut State.replied
  rfl

/-- A new request whose length is accepted. -/
theorem request_acts (s : State) (r : Req) (type : Nat) (k : ReqKind) (ok : Bool) (act : State → Resp × State)
    (h : s.takesUp r type = true) (l : ok = true) :
    s.request r type k ok act = (act (s.received r type)).2.replied r type k (act (s.received r type)).1 := by
  rw [request_taken _ _ _ _ _ _ h, carryOut_new]
  simp [l]

/-- A request that admission refuses is answered with the status of the refusal. -/
theorem request_refused (s t : State) (r : Req) (type : Nat) (k : ReqKind) (ok : Bool) (act : State → Resp × State) (st : Nat)
    (u : s.ctlUp r.port = true) (h : (s.takeMsg r type).admission r type k = (.refused st, t)) :
    s.request r type k ok act = t.answer r type (Resp.of st) := by
  unfold State.request
  rw [if_neg (by rw [u]; decide)]
  simp only [h]

/-- A duplicate that is not carried out again is answered with what was kept of its first answer. -/
theorem request_first (s t : State) (r : Req) (type : Nat) (k : ReqKind) (ok : Bool) (act : State → Resp × State) (st : Nat)
    (d : List Byte) (u : s.ctlUp r.port = true) (h : (s.takeMsg r type).admission r type k = (.first st d, t)) :
    s.request r type k ok act = (t.answer r type ⟨st, d⟩).countIn r := by
  unfold State.request
  rw [if_neg (by rw [u]; decide)]
  simp only [h]

/-- A configuration write that reaches a register at 0x100 or above has the register's effect, and its status is the
answer. -/
theorem askWrite_granted (s : State) (r : Req) (pg off : Nat) (v : W32) (env : Env) (h : s.takesUp r 2 = true)
    (l : r.len = 8) (g : (s.begun r 2).granted r.port pg off v = true) :
    s.askWrite r (regKey pg off) v env =
      ((s.begun r 2).regAct r.port pg off v env.io).2.replied r 2 .keep
        (Resp.of ((s.begun r 2).regAct r.port pg off v env.io).1) := by
  unfold State.askWrite
  rw [request_acts _ _ _ _ _ _ h (by simp [l])]
  unfold State.granted at g
  simp only [Bool.and_eq_true] at g
  obtain ⟨⟨⟨⟨⟨⟨⟨⟨g1, g2⟩, g3⟩, g4⟩, g5⟩, g6⟩, g7⟩, g8⟩, g9⟩ := g
  have g3' := of_decide_eq_true g3
  have hp : regKey pg off / 0x1000 = pg := by unfold regKey; omega
  have ho : regKey pg off % 0x1000 = off := by unfold regKey; omega
  have hb : (rowOf pg).isNone = false := by
    cases hr : rowOf pg with
    | none => rw [hr] at g1; simp at g1
    | some x => rfl
  have hd : (regDef pg off).isNone = false := by
    cases hr : regDef pg off with
    | none => rw [hr] at g8; simp at g8
    | some x => rfl
  have hw : (s.received r 2).cfgWrite r.port (regKey pg off) v env = (s.begun r 2).regAct r.port pg off v env.io := by
    unfold State.cfgWrite
    simp only [hp, ho, hb, Bool.false_eq_true, if_false]
    have e : ({ s.received r 2 with holds := (s.received r 2).holds.set none r.port none } : State) = s.begun r 2 := rfl
    rw [e]
    have n1 : off % 4 = 0 := g3'.1
    have n2 : ¬ off < 256 := by omega
    simp only [Bool.not_eq_true'] at g4 g5 g6 g7 g9
    simp only [g2, n1, g4, g5, Bool.not_true, Bool.false_eq_true, if_false, ne_eq, not_true_eq_false]
    unfold State.regWrite
    simp only [g6, n2, g7, hd, g9, Bool.false_eq_true, if_false]
  rw [hw]

/-- The same, as a register command says it. -/
theorem regSet_granted (s : State) (r : Req) (pg off : Nat) (v : W32) (h : s.takesUp r 2 = true)
    (l : r.len = 8) (g : (s.begun r 2).granted r.port pg off v = true) :
    s.regSet r pg off v =
      ((s.begun r 2).regAct r.port pg off v Env.none.io).2.replied r 2 .keep
        (Resp.of ((s.begun r 2).regAct r.port pg off v Env.none.io).1) :=
  askWrite_granted s r pg off v Env.none h l g

/-- A configuration write of the common header that reaches it. -/
theorem askWrite_header (s : State) (r : Req) (pg off : Nat) (v : W32) (env : Env) (h : s.takesUp r 2 = true)
    (l : r.len = 8) (g : (s.begun r 2).headerGranted r.port pg off v = true) :
    s.askWrite r (regKey pg off) v env =
      ((s.begun r 2).headerWrite pg off ((s.begun r 2).isMgmt r.port) v env.bist).2.replied r 2 .keep
        (Resp.of ((s.begun r 2).headerWrite pg off ((s.begun r 2).isMgmt r.port) v env.bist).1) := by
  unfold State.askWrite
  rw [request_acts _ _ _ _ _ _ h (by simp [l])]
  unfold State.headerGranted at g
  simp only [Bool.and_eq_true] at g
  obtain ⟨⟨⟨⟨⟨⟨g1, g2⟩, g3⟩, g4⟩, g5⟩, g6⟩, g7⟩ := g
  have g3' := of_decide_eq_true g3
  have hp : regKey pg off / 0x1000 = pg := by unfold regKey; omega
  have ho : regKey pg off % 0x1000 = off := by unfold regKey; omega
  have hb : (rowOf pg).isNone = false := by
    cases hr : rowOf pg with
    | none => rw [hr] at g1; simp at g1
    | some x => rfl
  have hw : (s.received r 2).cfgWrite r.port (regKey pg off) v env
      = (s.begun r 2).headerWrite pg off ((s.begun r 2).isMgmt r.port) v env.bist := by
    unfold State.cfgWrite
    simp only [hp, ho, hb, Bool.false_eq_true, if_false]
    have e : ({ s.received r 2 with holds := (s.received r 2).holds.set none r.port none } : State) = s.begun r 2 := rfl
    rw [e]
    have n1 : off % 4 = 0 := g3'.1
    have n2 : off < 256 := by omega
    simp only [Bool.not_eq_true'] at g4 g5 g6 g7
    simp only [g2, n1, g4, g5, Bool.not_true, Bool.false_eq_true, if_false, ne_eq, not_true_eq_false]
    unfold State.regWrite
    simp only [g6, n2, g7, Bool.false_eq_true, if_false, if_true]
  rw [hw]

/-! What a command does, from what its operation does -/

theorem eventDoes_of {c : Instr} {H : State → Prop} {E f : State → State} (e : ∀ s, exec c s = run f s)
    (h : ∀ u, H u → f u = E u) : EventDoes c H E := by
  intro s hl hh
  rw [e, run_live _ _ hl, h _ hh]

theorem workDoes_of {c : Instr} {H : State → Prop} {E f : State → State} (e : ∀ s, exec c s = work f s)
    (h : ∀ u, H u → f u = E u) : WorkDoes c H E := by
  intro s hl hp hh
  rw [e, work_live _ _ hl hp, h _ hh]

theorem alwaysDoes_of {c : Instr} {H : State → Prop} {E f : State → State} (e : ∀ s, exec c s = always f s)
    (h : ∀ u, H u → f u = E u) : AlwaysDoes c H E := by
  intro s hh
  rw [e, always_eq, h _ hh]

theorem writeDoes_of {c : Instr} {r : Req} {pg off : Nat} {v : W32} {st : Nat} {H : State → Prop} {E : State → State}
    (e : ∀ s, exec c s = run (fun s => s.regSet r pg off v) s)
    (h : ∀ u, u.granted r.port pg off v = true → H u → u.regAct r.port pg off v Env.none.io = (st, E u)) :
    WriteDoes c r pg off v st H E := by
  intro s hl ht hn hg hh
  rw [e, run_live _ _ hl, regSet_granted _ _ _ _ _ ht hn hg, h _ hg hh]

theorem headerDoes_of {c : Instr} {r : Req} {pg off : Nat} {v : W32} {st : Nat} {H : State → Prop} {E : State → State}
    (e : ∀ s, exec c s = run (fun s => s.regSet r pg off v) s)
    (h : ∀ u, u.headerGranted r.port pg off v = true → H u →
      u.headerWrite pg off (u.isMgmt r.port) v Env.none.bist = (st, E u)) :
    HeaderDoes c r pg off v st H E := by
  intro s hl ht hn hg hh
  rw [e, run_live _ _ hl]
  unfold State.regSet
  rw [askWrite_header _ _ _ _ _ _ ht hn hg, h _ hg hh]

/-- A write of a pair's _HI that reaches it, in the state that the _LO leaves. -/
theorem regSet_pair (s t : State) (r : Req) (pg off : Nat) (lo hi : W32) (h : s.takesUp r 2 = true) (l : r.len = 8)
    (g : s.pairGranted t r pg off lo hi) :
    s.regSet r pg off hi =
      (match t.regAct r.port pg off hi Env.none.io with
        | (0, u) => (St.ok, u)
        | (st, _) => (st, s.begun r 2)).2.replied r 2 .keep
        (Resp.of (match t.regAct r.port pg off hi Env.none.io with
          | (0, u) => (St.ok, u)
          | (st, _) => (st, s.begun r 2)).1) := by
  unfold State.regSet State.askWrite
  rw [request_acts _ _ _ _ _ _ h (by simp [l])]
  obtain ⟨g1, g2, g3, g4, g5, g6, g7, g8, g9, g10, g11, g12, g13⟩ := g
  have hp : regKey pg off / 0x1000 = pg := by unfold regKey; omega
  have ho : regKey pg off % 0x1000 = off := by unfold regKey; omega
  have hk : regKey pg (off - 4) + 4 = regKey pg off := by unfold regKey; omega
  have hw : t.regWrite r.port pg off hi Env.none = t.regAct r.port pg off hi Env.none.io := by
    unfold State.regWrite
    have : ¬ off < 0x100 := by omega
    have g12' : (regDef pg off).isNone = false := by cases hr : regDef pg off <;> simp_all
    simp only [g10, g11, g12', g13, this, Bool.false_eq_true, if_false]
  have e : ∀ {α : Type} (f : Nat × State → α),
      f ((s.received r 2).cfgWrite r.port (regKey pg off) hi Env.none) =
      f (match t.regAct r.port pg off hi Env.none.io with
        | (0, u) => (St.ok, u)
        | (st, _) => (st, s.begun r 2)) := by
    intro α f
    congr 1
    have g2' : (rowOf pg).isNone = false := by cases hr : rowOf pg <;> simp_all
    have eu : s.begun r 2 = { s.received r 2 with holds := (s.received r 2).holds.set none r.port none } := rfl
    unfold State.cfgWrite
    simp only [← eu, hp, ho, g1, g2', g3, g4, g7, g8, hk, g9, hw, Bool.false_eq_true, if_false, if_true, Bool.not_true,
      ne_eq, not_true_eq_false]
    all_goals
      generalize t.regAct r.port pg off hi Env.none.io = x
      obtain ⟨a, b⟩ := x
      cases a <;> rfl
  exact e (fun x => x.2.replied r 2 .keep (Resp.of x.1))

theorem highDoes_of {c : Instr} {r : Req} {pg off : Nat} {lo hi : W32} {H : State → Prop} {E : State → State}
    (e : ∀ s, exec c s = run (fun s => s.regSet r pg off hi) s)
    (h : ∀ u, H u → u.regAct r.port pg off hi Env.none.io = (0, E u)) : HighDoes c r pg off lo hi H E := by
  intro s t hl ht hn hg hh
  rw [e, run_live _ _ hl, regSet_pair _ _ _ _ _ _ _ ht hn hg, h _ hh]
  rfl

theorem highRefused_of {c : Instr} {r : Req} {pg off : Nat} {lo hi : W32} {st : Nat} {H : State → Prop}
    (e : ∀ s, exec c s = run (fun s => s.regSet r pg off hi) s)
    (h : ∀ u, H u → (u.regAct r.port pg off hi Env.none.io).1 = st + 1) :
    HighRefused c r pg off lo hi (st + 1) H := by
  intro s t hl ht hn hg hh
  rw [e, run_live _ _ hl, regSet_pair _ _ _ _ _ _ _ ht hn hg]
  have := h t hh
  revert this
  generalize t.regAct r.port pg off hi Env.none.io = x
  obtain ⟨a, b⟩ := x
  rintro rfl
  rfl

theorem requestDoes_of {c : Instr} {r : Req} {type : Nat} {k : ReqKind} {ok : Bool} {H : State → Prop}
    {A act : State → Resp × State} (e : ∀ s, exec c s = run (fun s => s.request r type k ok act) s)
    (h : ∀ u, H u → act u = A u) (l : ok = true) : RequestDoes c r type k H A := by
  intro s hl ht hh
  rw [e, run_live _ _ hl, request_acts _ _ _ _ _ _ ht l, h _ hh]

end Sys2Proof.Machine
end

