-- ==== Sys2Proof/Laws/Streams.lean ====
section
/-! SUPPORT. What the stream block's longer operations do, once (R62 to R66), and the Waystone's edge (R40). -/
namespace Sys2Proof.Machine

/-! The Waystone -/

theorem setWst_way (s : State) (v : Nat) :
    (s.setWst v).way = { s.way with count := v / 2 ^ 40 % 2 ^ 64, frac := v % 2 ^ 40 } := rfl

theorem setWst_copies (s : State) (v : Nat) : (s.setWst v).way.copies = s.way.copies := rfl

theorem setWst_mode (s : State) (v : Nat) : (s.setWst v).way.mode = s.way.mode := rfl

theorem wstEdge_way (s : State) :
    s.wstEdge.way =
      { (s.setWst (s.wstVal + ((2 ^ 40 : Nat) + s.way.adj : Int).toNat)).way with
        copies := (s.setWst (s.wstVal + ((2 ^ 40 : Nat) + s.way.adj : Int).toNat)).way.copies.map
          (edgeOf ((2 ^ 40 : Nat) + s.way.adj : Int).toNat) } := rfl

/-- What an edge of the Waystone clock makes of a Waystone: the count and its fraction grow by 1 + ADJ · 2^-40, the copies
step with them, and the mode and the rate stay (R40). -/
theorem wstEdge_count (t s : State) (w : t.way = s.way) :
    t.wstEdge.way.count = (s.wstVal + ((2 ^ 40 : Nat) + s.way.adj : Int).toNat) / 2 ^ 40 % 2 ^ 64 := by
  rw [wstEdge_way, setWst_way]
  unfold State.wstVal
  rw [w]

theorem wstEdge_frac (t s : State) (w : t.way = s.way) :
    t.wstEdge.way.frac = (s.wstVal + ((2 ^ 40 : Nat) + s.way.adj : Int).toNat) % 2 ^ 40 := by
  rw [wstEdge_way, setWst_way]
  unfold State.wstVal
  rw [w]

theorem wstEdge_copies (t s : State) (w : t.way = s.way) :
    t.wstEdge.way.copies = s.way.copies.map (edgeOf ((2 ^ 40 : Nat) + s.way.adj : Int).toNat) := by
  rw [wstEdge_way, setWst_way]
  unfold State.wstVal
  rw [w]

theorem wstEdge_mode (t s : State) (w : t.way = s.way) :
    t.wstEdge.way.mode = s.way.mode ∧ t.wstEdge.way.adj = s.way.adj := by
  rw [wstEdge_way, setWst_way]
  unfold State.wstVal
  rw [w]
  exact ⟨rfl, rfl⟩

theorem wstEdge_now (s : State) : s.wstEdge.now = s.now + 1 := by
  unfold State.wstEdge State.setWst
  exact rfl

theorem wstEdge_pending (s : State) : s.wstEdge.pending = s.pending := by
  unfold State.wstEdge State.setWst
  exact rfl

theorem wstEdge_outbox (s : State) : s.wstEdge.outbox = s.outbox := by
  unfold State.wstEdge State.setWst
  exact rfl

theorem wstEdge_mem (s : State) : s.wstEdge.mem = s.mem := by
  unfold State.wstEdge State.setWst
  exact rfl

theorem wstEdge_regs (s : State) : s.wstEdge.regs = s.regs := by
  unfold State.wstEdge State.setWst
  exact rfl

/-- The first marker of FREE: what it leaves of the mode and the servo. -/
theorem markAccepted_first (t : State) (m : Nat) (off : Int) (h : t.way.mode = .acquire) :
    t.markAccepted m off true =
      ({ t with way := { t.way with lastAccept := some t.now, off := off },
                pwr := { t.pwr with firstMarker := some (t.pwr.firstMarker.getD t.now) } } : State).servoStep off := by
  unfold State.markAccepted State.servo
  simp [h]

/-- A tick of a device in which no Drover unit holds its intake. -/
theorem tick_idle (s : State) (h1 : s.live = true) (h2 : bit s.pwr.pll 7 = true)
    (h3 : (List.range 8).all (fun n => !s.drvHeld n) = true) : s.tick = s.wstEdge := by
  have ht : (List.range 8).foldl State.tickUnit s = s := by
    have : ∀ l : List Nat, l.all (fun n => !s.drvHeld n) = true → l.foldl State.tickUnit s = s := by
      intro l
      induction l with
      | nil => intro _; rfl
      | cons a l ih =>
        intro h
        simp only [List.all_cons, Bool.and_eq_true] at h
        have : s.tickUnit a = s := by unfold State.tickUnit; simp at h; simp [h.1]
        rw [List.foldl_cons, this]
        exact ih h.2
    exact this _ h3
  unfold State.tick
  rw [if_pos ⟨h1, h2⟩, ht]

/-- On an empty queue a step is a tick. -/
theorem step_nil (s : State) (h : s.pending = []) : step s = .next s.tick := by
  unfold step
  split
  · rfl
  · rename_i hq
    rw [h] at hq
    cases hq

/-! Replay -/

/-- A record that is due in a replay: presented, or the end of the replay where its CRC fails. -/
theorem doPresent_due (u t : State) (n : Nat) (r : Replay) (off : Nat) (h : RecHdr) (bs : Except MemErr (List Byte)) (h1 : (u.strAux n).replay = some r) (h2 :
      u.nextReplay n (u.ringSize n / 64 + 1) r.ptr = some (off, h)) (h3 : u.strState n = Str.replay) (h4 : 
      r.start + (h.bind - r.first.getD h.bind) / 2 ^ u.sf n 0 15 12 ≤ u.count) (h5 : 
      u.read (u.strPart n) (u.ringBase n + off + 64) h.len = (bs, t))  :
   u.doPresent n = if crcGood bs h.crc = true then t.setStrAux n { u.strAux n with
          replay := some { r with first := some (r.first.getD h.bind),
                                  ptr := (off + 64 + up64 h.len) % max 1 (t.ringSize n),
                                  presented := r.presented ++ [⟨u.ringBase n + off, h.typ, h.seq, h.tick⟩] } }
     else (((((t.bump Pg.rpl Reg.rplCntCrc).irq Pg.rpl 17).error Pg.rpl Cls.task (((t.bump Pg.rpl Reg.rplCntCrc).irq Pg.rpl 17).strPart n) 0x10 n).setStrAux n { u.strAux n with replay := none }).strEnter n Str.idle (some 0x0C)) := by
    have c : ¬ (u.strState n ≠ Str.replay ∨ u.count < r.start + (h.bind - r.first.getD h.bind) / 2 ^ u.sf n 0 15 12) := by
      rintro (a | a)
      · exact a h3
      · exact Nat.not_le.2 a h4
    unfold State.doPresent
    extract_lets a
    split
    · rename_i hq; exact absurd (h1.symm.trans hq) (by simp)
    · rename_i r' hq
      cases (Option.some.inj (h1.symm.trans hq) : r = r')
      split
      · rename_i hq2; exact absurd (h2.symm.trans hq2) (by simp)
      · rename_i off' h' hq2
        cases Option.some.inj (h2.symm.trans hq2)
        rw [if_neg c]
        generalize hx : u.read (u.strPart n) (u.ringBase n + off + 64) h.len = x
        rw [hx] at h5
        subst h5
        rfl
end Sys2Proof.Machine
end

