-- ==== Sys2Proof/Laws/Commands.lean ====
section
/-! SUPPORT. The four forms a command's meaning has, once for every command; and what each form leaves. -/
namespace Sys2Proof.Machine

/-- A meaning that leaves the device as it was; one of a live device; one of the engines; one that acts in every power
state. -/
theorem exec_form (c : Instr) :
    ((∀ s, exec c s = .next s) ∧ engineWork c = false ∧ unconditional c = false) ∨
      (∃ f, (∀ s, exec c s = run f s) ∧ engineWork c = false ∧ unconditional c = false) ∨
      (∃ f, (∀ s, exec c s = work f s) ∧ engineWork c = true ∧ unconditional c = false) ∨
      (∃ f, (∀ s, exec c s = always f s) ∧ engineWork c = false ∧ unconditional c = true) :=
  match c with
  | .cfgRd _ _ => .inr (.inl ⟨_, fun _ => rfl, rfl, rfl⟩)
  | .cfgWr _ _ _ => .inr (.inl ⟨_, fun _ => rfl, rfl, rfl⟩)
  | .pageEnable _ _ _ => .inr (.inl ⟨_, fun _ => rfl, rfl, rfl⟩)
  | .pageDisable _ _ _ => .inr (.inl ⟨_, fun _ => rfl, rfl, rfl⟩)
  | .pageHalt _ _ _ _ => .inr (.inl ⟨_, fun _ => rfl, rfl, rfl⟩)
  | .pageSoftReset _ _ _ => .inr (.inl ⟨_, fun _ => rfl, rfl, rfl⟩)
  | .startSequenceComplete _ _ => .inr (.inl ⟨_, fun _ => rfl, rfl, rfl⟩)
  | .stopSequenceComplete _ => .inr (.inl ⟨_, fun _ => rfl, rfl, rfl⟩)
  | .startTimeout _ => .inr (.inl ⟨_, fun _ => rfl, rfl, rfl⟩)
  | .stopTimeout _ => .inr (.inl ⟨_, fun _ => rfl, rfl, rfl⟩)
  | .snapshotTake _ _ => .inr (.inl ⟨_, fun _ => rfl, rfl, rfl⟩)
  | .snapshotComplete _ => .inr (.inl ⟨_, fun _ => rfl, rfl, rfl⟩)
  | .errorCountClear _ _ _ => .inr (.inl ⟨_, fun _ => rfl, rfl, rfl⟩)
  | .event _ _ => .inr (.inl ⟨_, fun _ => rfl, rfl, rfl⟩)
  | .markerAccept _ _ _ => .inr (.inl ⟨_, fun _ => rfl, rfl, rfl⟩)
  | .refLossTimeout => .inr (.inl ⟨_, fun _ => rfl, rfl, rfl⟩)
  | .holdoverServo => .inr (.inl ⟨_, fun _ => rfl, rfl, rfl⟩)
  | .refEnWrite _ _ => .inr (.inl ⟨_, fun _ => rfl, rfl, rfl⟩)
  | .waystoneCopyCorrect _ => .inr (.inl ⟨_, fun _ => rfl, rfl, rfl⟩)
  | .timingExchange _ => .inr (.inl ⟨_, fun _ => rfl, rfl, rfl⟩)
  | .timingRequest _ _ => .inr (.inl ⟨_, fun _ => rfl, rfl, rfl⟩)
  | .timingReply _ _ _ _ _ => .inr (.inl ⟨_, fun _ => rfl, rfl, rfl⟩)
  | .streamDescriptorWrite _ _ _ => .inr (.inl ⟨_, fun _ => rfl, rfl, rfl⟩)
  | .strDselWrite _ _ => .inr (.inl ⟨_, fun _ => rfl, rfl, rfl⟩)
  | .arm _ _ => .inr (.inl ⟨_, fun _ => rfl, rfl, rfl⟩)
  | .close _ _ => .inr (.inl ⟨_, fun _ => rfl, rfl, rfl⟩)
  | .replay _ _ => .inr (.inl ⟨_, fun _ => rfl, rfl, rfl⟩)
  | .resync _ _ => .inr (.inl ⟨_, fun _ => rfl, rfl, rfl⟩)
  | .streamEventPop _ _ => .inr (.inl ⟨_, fun _ => rfl, rfl, rfl⟩)
  | .streamOrigin _ => .inr (.inl ⟨_, fun _ => rfl, rfl, rfl⟩)
  | .frameFragment _ => .inr (.inl ⟨_, fun _ => rfl, rfl, rfl⟩)
  | .frameReassemblyTimeout _ _ => .inr (.inl ⟨_, fun _ => rfl, rfl, rfl⟩)
  | .streamTick _ => .inr (.inr (.inl ⟨_, fun _ => rfl, rfl, rfl⟩))
  | .bindingComplete _ => .inr (.inr (.inl ⟨_, fun _ => rfl, rfl, rfl⟩))
  | .streamDeadline _ _ => .inr (.inl ⟨_, fun _ => rfl, rfl, rfl⟩)
  | .replayPresent _ => .inr (.inr (.inl ⟨_, fun _ => rfl, rfl, rfl⟩))
  | .streamCloseComplete _ => .inr (.inl ⟨_, fun _ => rfl, rfl, rfl⟩)
  | .launchSet _ _ _ => .inr (.inl ⟨_, fun _ => rfl, rfl, rfl⟩)
  | .launchWindowWrite _ _ => .inr (.inl ⟨_, fun _ => rfl, rfl, rfl⟩)
  | .launchDue _ => .inr (.inl ⟨_, fun _ => rfl, rfl, rfl⟩)
  | .deferredLaunch _ => .inr (.inr (.inl ⟨_, fun _ => rfl, rfl, rfl⟩))
  | .taskIssue _ => .inr (.inr (.inl ⟨_, fun _ => rfl, rfl, rfl⟩))
  | .taskComplete _ => .inr (.inr (.inl ⟨_, fun _ => rfl, rfl, rfl⟩))
  | .graphComplete _ _ => .inr (.inr (.inl ⟨_, fun _ => rfl, rfl, rfl⟩))
  | .graphLimit _ _ => .inr (.inr (.inl ⟨_, fun _ => rfl, rfl, rfl⟩))
  | .partitionReset _ _ => .inr (.inl ⟨_, fun _ => rfl, rfl, rfl⟩)
  | .partitionResetComplete _ => .inr (.inl ⟨_, fun _ => rfl, rfl, rfl⟩)
  | .laneGrant _ _ => .inr (.inr (.inl ⟨_, fun _ => rfl, rfl, rfl⟩))
  | .tokenSelect _ _ => .inr (.inr (.inl ⟨_, fun _ => rfl, rfl, rfl⟩))
  | .weightFetchComplete _ _ => .inr (.inr (.inl ⟨_, fun _ => rfl, rfl, rfl⟩))
  | .bankLoadComplete _ _ => .inr (.inr (.inl ⟨_, fun _ => rfl, rfl, rfl⟩))
  | .bankSwitch _ => .inr (.inr (.inl ⟨_, fun _ => rfl, rfl, rfl⟩))
  | .inv _ _ => .inr (.inl ⟨_, fun _ => rfl, rfl, rfl⟩)
  | .loadHint _ => .inr (.inr (.inl ⟨_, fun _ => rfl, rfl, rfl⟩))
  | .droverParity _ => .inr (.inl ⟨_, fun _ => rfl, rfl, rfl⟩)
  | .convoyDispatchRecord _ => .inr (.inr (.inl ⟨_, fun _ => rfl, rfl, rfl⟩))
  | .convoyTokenRecord _ => .inr (.inr (.inl ⟨_, fun _ => rfl, rfl, rfl⟩))
  | .convoyEndRecord _ => .inr (.inr (.inl ⟨_, fun _ => rfl, rfl, rfl⟩))
  | .closeSend _ => .inr (.inr (.inl ⟨_, fun _ => rfl, rfl, rfl⟩))
  | .seraiDispatchBale _ => .inr (.inr (.inl ⟨_, fun _ => rfl, rfl, rfl⟩))
  | .seraiCloseBale _ => .inr (.inr (.inl ⟨_, fun _ => rfl, rfl, rfl⟩))
  | .queueTimeout _ _ => .inr (.inr (.inl ⟨_, fun _ => rfl, rfl, rfl⟩))
  | .returnBale _ => .inr (.inr (.inl ⟨_, fun _ => rfl, rfl, rfl⟩))
  | .ackSend _ _ _ => .inr (.inr (.inl ⟨_, fun _ => rfl, rfl, rfl⟩))
  | .ackBale _ => .inr (.inr (.inl ⟨_, fun _ => rfl, rfl, rfl⟩))
  | .manifestTimeout _ _ => .inr (.inr (.inl ⟨_, fun _ => rfl, rfl, rfl⟩))
  | .ledgerAlloc _ _ => .inr (.inl ⟨_, fun _ => rfl, rfl, rfl⟩)
  | .ledgerFree _ _ => .inr (.inl ⟨_, fun _ => rfl, rfl, rfl⟩)
  | .convoyParity _ => .inr (.inl ⟨_, fun _ => rfl, rfl, rfl⟩)
  | .seraiParity _ => .inr (.inl ⟨_, fun _ => rfl, rfl, rfl⟩)
  | .ledgerParity => .inr (.inl ⟨_, fun _ => rfl, rfl, rfl⟩)
  | .passCheck _ _ _ => .inr (.inr (.inl ⟨_, fun _ => rfl, rfl, rfl⟩))
  | .range _ => .inr (.inr (.inl ⟨_, fun _ => rfl, rfl, rfl⟩))
  | .scratchpadParity _ => .inr (.inl ⟨_, fun _ => rfl, rfl, rfl⟩)
  | .halfRemove _ _ => .inr (.inl ⟨_, fun _ => rfl, rfl, rfl⟩)
  | .edcError _ _ => .inr (.inl ⟨_, fun _ => rfl, rfl, rfl⟩)
  | .refresh _ => .inl ⟨fun _ => rfl, rfl, rfl⟩
  | .detectionFailure _ _ _ => .inr (.inl ⟨_, fun _ => rfl, rfl, rfl⟩)
  | .refetchComplete _ _ => .inr (.inl ⟨_, fun _ => rfl, rfl, rfl⟩)
  | .migrationStart _ => .inr (.inr (.inl ⟨_, fun _ => rfl, rfl, rfl⟩))
  | .fillPageComplete _ _ _ => .inr (.inr (.inl ⟨_, fun _ => rfl, rfl, rfl⟩))
  | .cxlReadComplete _ _ _ => .inr (.inl ⟨_, fun _ => rfl, rfl, rfl⟩)
  | .cxlLinkLoss _ => .inr (.inl ⟨_, fun _ => rfl, rfl, rfl⟩)
  | .cxlIoAccess _ _ _ _ => .inr (.inl ⟨_, fun _ => rfl, rfl, rfl⟩)
  | .packetInject _ _ => .inr (.inl ⟨_, fun _ => rfl, rfl, rfl⟩)
  | .packetReceive _ _ => .inr (.inl ⟨_, fun _ => rfl, rfl, rfl⟩)
  | .packetForward _ _ => .inr (.inl ⟨_, fun _ => rfl, rfl, rfl⟩)
  | .escapeTimeout _ _ => .inr (.inl ⟨_, fun _ => rfl, rfl, rfl⟩)
  | .stallWatchdog _ _ => .inr (.inl ⟨_, fun _ => rfl, rfl, rfl⟩)
  | .flitGroupSend _ => .inr (.inl ⟨_, fun _ => rfl, rfl, rfl⟩)
  | .flitGroupReceive _ _ => .inr (.inl ⟨_, fun _ => rfl, rfl, rfl⟩)
  | .linkLost _ _ => .inr (.inl ⟨_, fun _ => rfl, rfl, rfl⟩)
  | .routerNotice _ _ => .inr (.inl ⟨_, fun _ => rfl, rfl, rfl⟩)
  | .reinjectWaitTimeout _ => .inr (.inl ⟨_, fun _ => rfl, rfl, rfl⟩)
  | .epochArm _ _ => .inr (.inl ⟨_, fun _ => rfl, rfl, rfl⟩)
  | .epochDisarm _ => .inr (.inl ⟨_, fun _ => rfl, rfl, rfl⟩)
  | .epochSwitch => .inr (.inl ⟨_, fun _ => rfl, rfl, rfl⟩)
  | .overrideWrite _ _ => .inr (.inl ⟨_, fun _ => rfl, rfl, rfl⟩)
  | .faultClear _ _ => .inr (.inl ⟨_, fun _ => rfl, rfl, rfl⟩)
  | .spineFrameReceive _ _ => .inr (.inl ⟨_, fun _ => rfl, rfl, rfl⟩)
  | .spineLinkDown _ => .inr (.inl ⟨_, fun _ => rfl, rfl, rfl⟩)
  | .linkTrained _ _ => .inr (.inl ⟨_, fun _ => rfl, rfl, rfl⟩)
  | .remoteEntryStart _ => .inr (.inr (.inl ⟨_, fun _ => rfl, rfl, rfl⟩))
  | .remoteRequest _ => .inr (.inr (.inl ⟨_, fun _ => rfl, rfl, rfl⟩))
  | .remoteResponse _ => .inr (.inr (.inl ⟨_, fun _ => rfl, rfl, rfl⟩))
  | .remoteTimeout _ _ => .inr (.inr (.inl ⟨_, fun _ => rfl, rfl, rfl⟩))
  | .windowWrite _ _ => .inr (.inl ⟨_, fun _ => rfl, rfl, rfl⟩)
  | .gatewayHoldExpire _ => .inr (.inr (.inl ⟨_, fun _ => rfl, rfl, rfl⟩))
  | .gatewayWriteFragment _ => .inr (.inr (.inl ⟨_, fun _ => rfl, rfl, rfl⟩))
  | .gatewaySegmentTimeout _ _ => .inr (.inr (.inl ⟨_, fun _ => rfl, rfl, rfl⟩))
  | .tollgateUp _ => .inr (.inl ⟨_, fun _ => rfl, rfl, rfl⟩)
  | .tollgateDown _ => .inr (.inl ⟨_, fun _ => rfl, rfl, rfl⟩)
  | .tollgateSlotTimeout _ => .inr (.inl ⟨_, fun _ => rfl, rfl, rfl⟩)
  | .opTimeout _ _ _ => .inr (.inl ⟨_, fun _ => rfl, rfl, rfl⟩)
  | .twinDigest _ => .inr (.inl ⟨_, fun _ => rfl, rfl, rfl⟩)
  | .twinMissing _ => .inr (.inl ⟨_, fun _ => rfl, rfl, rfl⟩)
  | .collStart _ => .inr (.inr (.inl ⟨_, fun _ => rfl, rfl, rfl⟩))
  | .colKick _ _ => .inr (.inl ⟨_, fun _ => rfl, rfl, rfl⟩)
  | .chunkReceive _ => .inr (.inr (.inl ⟨_, fun _ => rfl, rfl, rfl⟩))
  | .chunkNak _ => .inr (.inr (.inl ⟨_, fun _ => rfl, rfl, rfl⟩))
  | .collectiveTimeout _ => .inr (.inr (.inl ⟨_, fun _ => rfl, rfl, rfl⟩))
  | .broadcastChunk _ => .inr (.inr (.inl ⟨_, fun _ => rfl, rfl, rfl⟩))
  | .broadcastEnd _ => .inr (.inr (.inl ⟨_, fun _ => rfl, rfl, rfl⟩))
  | .broadcastRoundTimeout _ => .inr (.inr (.inl ⟨_, fun _ => rfl, rfl, rfl⟩))
  | .resume _ _ => .inr (.inl ⟨_, fun _ => rfl, rfl, rfl⟩)
  | .broadcastResumeTimeout _ => .inr (.inr (.inl ⟨_, fun _ => rfl, rfl, rfl⟩))
  | .laserSample _ _ => .inr (.inl ⟨_, fun _ => rfl, rfl, rfl⟩)
  | .laneFail _ _ _ => .inr (.inl ⟨_, fun _ => rfl, rfl, rfl⟩)
  | .opeSwap _ _ _ => .inr (.inl ⟨_, fun _ => rfl, rfl, rfl⟩)
  | .swap _ _ _ _ => .inr (.inl ⟨_, fun _ => rfl, rfl, rfl⟩)
  | .controlFlit _ _ => .inr (.inl ⟨_, fun _ => rfl, rfl, rfl⟩)
  | .controlLinkLoss _ => .inr (.inl ⟨_, fun _ => rfl, rfl, rfl⟩)
  | .memRd _ _ _ => .inr (.inl ⟨_, fun _ => rfl, rfl, rfl⟩)
  | .memWr _ _ _ => .inr (.inl ⟨_, fun _ => rfl, rfl, rfl⟩)
  | .fwLoad _ _ _ _ => .inr (.inl ⟨_, fun _ => rfl, rfl, rfl⟩)
  | .heartbeat _ => .inr (.inl ⟨_, fun _ => rfl, rfl, rfl⟩)
  | .heartbeatTimer _ => .inr (.inl ⟨_, fun _ => rfl, rfl, rfl⟩)
  | .nodeSilent _ => .inr (.inl ⟨_, fun _ => rfl, rfl, rfl⟩)
  | .getKey _ => .inr (.inl ⟨_, fun _ => rfl, rfl, rfl⟩)
  | .report _ _ => .inr (.inl ⟨_, fun _ => rfl, rfl, rfl⟩)
  | .sessionStart _ _ _ => .inr (.inl ⟨_, fun _ => rfl, rfl, rfl⟩)
  | .sessionEnd _ => .inr (.inl ⟨_, fun _ => rfl, rfl, rfl⟩)
  | .suspectExpire _ => .inr (.inl ⟨_, fun _ => rfl, rfl, rfl⟩)
  | .suspectClear _ _ => .inr (.inl ⟨_, fun _ => rfl, rfl, rfl⟩)
  | .aggregationRound => .inr (.inl ⟨_, fun _ => rfl, rfl, rfl⟩)
  | .aggregationChildWait _ _ => .inr (.inl ⟨_, fun _ => rfl, rfl, rfl⟩)
  | .aggClear _ _ => .inr (.inl ⟨_, fun _ => rfl, rfl, rfl⟩)
  | .abort _ => .inr (.inl ⟨_, fun _ => rfl, rfl, rfl⟩)
  | .recompute _ => .inr (.inr (.inl ⟨_, fun _ => rfl, rfl, rfl⟩))
  | .checkpointArm _ _ _ => .inr (.inl ⟨_, fun _ => rfl, rfl, rfl⟩)
  | .ckWrite _ => .inr (.inr (.inl ⟨_, fun _ => rfl, rfl, rfl⟩))
  | .ckAck _ => .inr (.inr (.inl ⟨_, fun _ => rfl, rfl, rfl⟩))
  | .ckRead _ => .inr (.inr (.inl ⟨_, fun _ => rfl, rfl, rfl⟩))
  | .ckData _ => .inr (.inr (.inl ⟨_, fun _ => rfl, rfl, rfl⟩))
  | .checkpointTimeout _ => .inr (.inr (.inl ⟨_, fun _ => rfl, rfl, rfl⟩))
  | .restore _ _ => .inr (.inl ⟨_, fun _ => rfl, rfl, rfl⟩)
  | .restoreAbort _ _ => .inr (.inl ⟨_, fun _ => rfl, rfl, rfl⟩)
  | .scrub _ _ => .inr (.inl ⟨_, fun _ => rfl, rfl, rfl⟩)
  | .scrubDone _ => .inr (.inl ⟨_, fun _ => rfl, rfl, rfl⟩)
  | .managementHandover _ _ => .inr (.inl ⟨_, fun _ => rfl, rfl, rfl⟩)
  | .swapCommand _ => .inr (.inl ⟨_, fun _ => rfl, rfl, rfl⟩)
  | .firmwareSwapComplete => .inr (.inl ⟨_, fun _ => rfl, rfl, rfl⟩)
  | .bundleOpen _ _ => .inr (.inl ⟨_, fun _ => rfl, rfl, rfl⟩)
  | .bundleOpenComplete => .inr (.inl ⟨_, fun _ => rfl, rfl, rfl⟩)
  | .apply _ => .inr (.inl ⟨_, fun _ => rfl, rfl, rfl⟩)
  | .revoke _ => .inr (.inl ⟨_, fun _ => rfl, rfl, rfl⟩)
  | .debugExpiry => .inr (.inl ⟨_, fun _ => rfl, rfl, rfl⟩)
  | .debugAccess _ _ => .inr (.inl ⟨_, fun _ => rfl, rfl, rfl⟩)
  | .undervolt _ => .inr (.inl ⟨_, fun _ => rfl, rfl, rfl⟩)
  | .supplyFail _ => .inr (.inr (.inr ⟨_, fun _ => rfl, rfl, rfl⟩))
  | .pllUnlock _ => .inr (.inl ⟨_, fun _ => rfl, rfl, rfl⟩)
  | .throttle _ _ _ => .inr (.inl ⟨_, fun _ => rfl, rfl, rfl⟩)
  | .peakLimit _ => .inr (.inl ⟨_, fun _ => rfl, rfl, rfl⟩)
  | .tempSample _ _ _ => .inr (.inr (.inr ⟨_, fun _ => rfl, rfl, rfl⟩))
  | .alertIbiRetry _ => .inr (.inr (.inr ⟨_, fun _ => rfl, rfl, rfl⟩))
  | .powerStateRequest _ _ => .inr (.inl ⟨_, fun _ => rfl, rfl, rfl⟩)
  | .stateDone => .inr (.inl ⟨_, fun _ => rfl, rfl, rfl⟩)
  | .a1Wake => .inr (.inl ⟨_, fun _ => rfl, rfl, rfl⟩)
  | .powerOn _ => .inr (.inr (.inr ⟨_, fun _ => rfl, rfl, rfl⟩))
  | .devrst _ _ => .inr (.inl ⟨_, fun _ => rfl, rfl, rfl⟩)
  | .rstNAssert => .inr (.inr (.inr ⟨_, fun _ => rfl, rfl, rfl⟩))
  | .rstNRelease => .inr (.inr (.inr ⟨_, fun _ => rfl, rfl, rfl⟩))
  | .pfw => .inr (.inl ⟨_, fun _ => rfl, rfl, rfl⟩)
  | .pfwRelease => .inr (.inr (.inr ⟨_, fun _ => rfl, rfl, rfl⟩))
  | .startupStep _ => .inr (.inl ⟨_, fun _ => rfl, rfl, rfl⟩)
  | .bootGo _ _ => .inr (.inl ⟨_, fun _ => rfl, rfl, rfl⟩)
  | .ctpStartRetry _ => .inr (.inl ⟨_, fun _ => rfl, rfl, rfl⟩)
  | .setdasa _ => .inr (.inr (.inr ⟨_, fun _ => rfl, rfl, rfl⟩))
  | .entdaa _ => .inr (.inr (.inr ⟨_, fun _ => rfl, rfl, rfl⟩))
  | .serviceBusRead => .inr (.inr (.inr ⟨_, fun _ => rfl, rfl, rfl⟩))
  | .serviceBusWrite _ _ => .inr (.inr (.inr ⟨_, fun _ => rfl, rfl, rfl⟩))
  | .peakLimitRelease _ => .inr (.inl ⟨_, fun _ => rfl, rfl, rfl⟩)
  | .spineLinkUp _ => .inr (.inl ⟨_, fun _ => rfl, rfl, rfl⟩)
  | .routerParity => .inr (.inl ⟨_, fun _ => rfl, rfl, rfl⟩)
  | .tollgateSlotParity => .inr (.inl ⟨_, fun _ => rfl, rfl, rfl⟩)
  | .storePageComplete _ _ => .inr (.inr (.inl ⟨_, fun _ => rfl, rfl, rfl⟩))
  | .gddr7Hot _ _ => .inr (.inl ⟨_, fun _ => rfl, rfl, rfl⟩)
  | .ideActiveLost _ => .inr (.inl ⟨_, fun _ => rfl, rfl, rfl⟩)
  | .laneAlign _ _ => .inr (.inl ⟨_, fun _ => rfl, rfl, rfl⟩)

/-! What done leaves -/

theorem done_pending (s t : State) : (s.done t).pending = s.pending := by
  unfold State.done
  generalize t.settle = u
  rfl

theorem done_now (s t : State) : (s.done t).now = s.now := by
  unfold State.done
  generalize t.settle = u
  rfl

theorem done_outbox (s t : State) : (s.done t).outbox = t.settle.outbox ++ s.outbox := by
  unfold State.done
  generalize t.settle = u
  rfl

/-! What a tick leaves -/

theorem tickUnits_offWire (s : State) (l : List Nat) : (l.foldl State.tickUnit s).offWire = s.offWire := by
  induction l generalizing s with
  | nil => rfl
  | cons a l ih =>
    rw [List.foldl_cons]
    have h : (s.tickUnit a).offWire = s.offWire := by
      unfold State.tickUnit
      split
      · exact bumpBy_offWire _ _ _ _
      · rfl
    exact (ih _).trans h

theorem tick_mem (s : State) : s.tick.mem = s.mem := by
  unfold State.tick
  split
  · have h := tickUnits_offWire s (List.range 8)
    generalize (List.range 8).foldl State.tickUnit s = t at h
    rw [wstEdge_mem]
    have := congrArg State.mem h
    exact this
  · rfl

end Sys2Proof.Machine
end

