-- ==== Sys2Proof/Laws/State.lean ====
section
/-! SUPPORT. What each operation on one part of State leaves: every other field, true by unfolding, so that no proof
unfolds a record update. -/
namespace Sys2Proof.Machine

variable (s : State)

/-! setPage writes pages -/

@[simp] theorem State.setPage_pending (g : Nat) (p : Page) : (s.setPage g p).pending = s.pending := rfl
@[simp] theorem State.setPage_outbox (g : Nat) (p : Page) : (s.setPage g p).outbox = s.outbox := rfl
@[simp] theorem State.setPage_now (g : Nat) (p : Page) : (s.setPage g p).now = s.now := rfl
@[simp] theorem State.setPage_fresh (g : Nat) (p : Page) : (s.setPage g p).fresh = s.fresh := rfl
@[simp] theorem State.setPage_regs (g : Nat) (p : Page) : (s.setPage g p).regs = s.regs := rfl
@[simp] theorem State.setPage_snaps (g : Nat) (p : Page) : (s.setPage g p).snaps = s.snaps := rfl
@[simp] theorem State.setPage_portRegs (g : Nat) (p : Page) : (s.setPage g p).portRegs = s.portRegs := rfl
@[simp] theorem State.setPage_latches (g : Nat) (p : Page) : (s.setPage g p).latches = s.latches := rfl
@[simp] theorem State.setPage_holds (g : Nat) (p : Page) : (s.setPage g p).holds = s.holds := rfl
@[simp] theorem State.setPage_stops (g : Nat) (p : Page) : (s.setPage g p).stops = s.stops := rfl
@[simp] theorem State.setPage_stopped (g : Nat) (p : Page) : (s.setPage g p).stopped = s.stopped := rfl
@[simp] theorem State.setPage_mem (g : Nat) (p : Page) : (s.setPage g p).mem = s.mem := rfl
@[simp] theorem State.setPage_poison (g : Nat) (p : Page) : (s.setPage g p).poison = s.poison := rfl
@[simp] theorem State.setPage_way (g : Nat) (p : Page) : (s.setPage g p).way = s.way := rfl
@[simp] theorem State.setPage_ctl (g : Nat) (p : Page) : (s.setPage g p).ctl = s.ctl := rfl
@[simp] theorem State.setPage_eng (g : Nat) (p : Page) : (s.setPage g p).eng = s.eng := rfl
@[simp] theorem State.setPage_str (g : Nat) (p : Page) : (s.setPage g p).str = s.str := rfl
@[simp] theorem State.setPage_sch (g : Nat) (p : Page) : (s.setPage g p).sch = s.sch := rfl
@[simp] theorem State.setPage_sec (g : Nat) (p : Page) : (s.setPage g p).sec = s.sec := rfl
@[simp] theorem State.setPage_pwr (g : Nat) (p : Page) : (s.setPage g p).pwr = s.pwr := rfl
@[simp] theorem State.setPage_svc (g : Nat) (p : Page) : (s.setPage g p).svc = s.svc := rfl
@[simp] theorem State.setPage_suspects (g : Nat) (p : Page) : (s.setPage g p).suspects = s.suspects := rfl
@[simp] theorem State.setPage_nextCause (g : Nat) (p : Page) : (s.setPage g p).nextCause = s.nextCause := rfl
@[simp] theorem State.setPage_rte (g : Nat) (p : Page) : (s.setPage g p).rte = s.rte := rfl
@[simp] theorem State.setPage_tier (g : Nat) (p : Page) : (s.setPage g p).tier = s.tier := rfl
@[simp] theorem State.setPage_ckp (g : Nat) (p : Page) : (s.setPage g p).ckp = s.ckp := rfl
@[simp] theorem State.setPage_cor (g : Nat) (p : Page) : (s.setPage g p).cor = s.cor := rfl
@[simp] theorem State.setPage_drv (g : Nat) (p : Page) : (s.setPage g p).drv = s.drv := rfl
@[simp] theorem State.setPage_cnv (g : Nat) (p : Page) : (s.setPage g p).cnv = s.cnv := rfl
@[simp] theorem State.setPage_sri (g : Nat) (p : Page) : (s.setPage g p).sri = s.sri := rfl
@[simp] theorem State.setPage_ldg (g : Nat) (p : Page) : (s.setPage g p).ldg = s.ldg := rfl
@[simp] theorem State.setPage_rmo (g : Nat) (p : Page) : (s.setPage g p).rmo = s.rmo := rfl
@[simp] theorem State.setPage_tol (g : Nat) (p : Page) : (s.setPage g p).tol = s.tol := rfl
@[simp] theorem State.setPage_col (g : Nat) (p : Page) : (s.setPage g p).col = s.col := rfl
@[simp] theorem State.setPage_agg (g : Nat) (p : Page) : (s.setPage g p).agg = s.agg := rfl

/-! setReg writes regs -/

@[simp] theorem State.setReg_pending (g o : Nat) (v : W32) : (s.setReg g o v).pending = s.pending := rfl
@[simp] theorem State.setReg_outbox (g o : Nat) (v : W32) : (s.setReg g o v).outbox = s.outbox := rfl
@[simp] theorem State.setReg_now (g o : Nat) (v : W32) : (s.setReg g o v).now = s.now := rfl
@[simp] theorem State.setReg_fresh (g o : Nat) (v : W32) : (s.setReg g o v).fresh = s.fresh := rfl
@[simp] theorem State.setReg_pages (g o : Nat) (v : W32) : (s.setReg g o v).pages = s.pages := rfl
@[simp] theorem State.setReg_snaps (g o : Nat) (v : W32) : (s.setReg g o v).snaps = s.snaps := rfl
@[simp] theorem State.setReg_portRegs (g o : Nat) (v : W32) : (s.setReg g o v).portRegs = s.portRegs := rfl
@[simp] theorem State.setReg_latches (g o : Nat) (v : W32) : (s.setReg g o v).latches = s.latches := rfl
@[simp] theorem State.setReg_holds (g o : Nat) (v : W32) : (s.setReg g o v).holds = s.holds := rfl
@[simp] theorem State.setReg_stops (g o : Nat) (v : W32) : (s.setReg g o v).stops = s.stops := rfl
@[simp] theorem State.setReg_stopped (g o : Nat) (v : W32) : (s.setReg g o v).stopped = s.stopped := rfl
@[simp] theorem State.setReg_mem (g o : Nat) (v : W32) : (s.setReg g o v).mem = s.mem := rfl
@[simp] theorem State.setReg_poison (g o : Nat) (v : W32) : (s.setReg g o v).poison = s.poison := rfl
@[simp] theorem State.setReg_way (g o : Nat) (v : W32) : (s.setReg g o v).way = s.way := rfl
@[simp] theorem State.setReg_ctl (g o : Nat) (v : W32) : (s.setReg g o v).ctl = s.ctl := rfl
@[simp] theorem State.setReg_eng (g o : Nat) (v : W32) : (s.setReg g o v).eng = s.eng := rfl
@[simp] theorem State.setReg_str (g o : Nat) (v : W32) : (s.setReg g o v).str = s.str := rfl
@[simp] theorem State.setReg_sch (g o : Nat) (v : W32) : (s.setReg g o v).sch = s.sch := rfl
@[simp] theorem State.setReg_sec (g o : Nat) (v : W32) : (s.setReg g o v).sec = s.sec := rfl
@[simp] theorem State.setReg_pwr (g o : Nat) (v : W32) : (s.setReg g o v).pwr = s.pwr := rfl
@[simp] theorem State.setReg_svc (g o : Nat) (v : W32) : (s.setReg g o v).svc = s.svc := rfl
@[simp] theorem State.setReg_suspects (g o : Nat) (v : W32) : (s.setReg g o v).suspects = s.suspects := rfl
@[simp] theorem State.setReg_nextCause (g o : Nat) (v : W32) : (s.setReg g o v).nextCause = s.nextCause := rfl
@[simp] theorem State.setReg_rte (g o : Nat) (v : W32) : (s.setReg g o v).rte = s.rte := rfl
@[simp] theorem State.setReg_tier (g o : Nat) (v : W32) : (s.setReg g o v).tier = s.tier := rfl
@[simp] theorem State.setReg_ckp (g o : Nat) (v : W32) : (s.setReg g o v).ckp = s.ckp := rfl
@[simp] theorem State.setReg_cor (g o : Nat) (v : W32) : (s.setReg g o v).cor = s.cor := rfl
@[simp] theorem State.setReg_drv (g o : Nat) (v : W32) : (s.setReg g o v).drv = s.drv := rfl
@[simp] theorem State.setReg_cnv (g o : Nat) (v : W32) : (s.setReg g o v).cnv = s.cnv := rfl
@[simp] theorem State.setReg_sri (g o : Nat) (v : W32) : (s.setReg g o v).sri = s.sri := rfl
@[simp] theorem State.setReg_ldg (g o : Nat) (v : W32) : (s.setReg g o v).ldg = s.ldg := rfl
@[simp] theorem State.setReg_rmo (g o : Nat) (v : W32) : (s.setReg g o v).rmo = s.rmo := rfl
@[simp] theorem State.setReg_tol (g o : Nat) (v : W32) : (s.setReg g o v).tol = s.tol := rfl
@[simp] theorem State.setReg_col (g o : Nat) (v : W32) : (s.setReg g o v).col = s.col := rfl
@[simp] theorem State.setReg_agg (g o : Nat) (v : W32) : (s.setReg g o v).agg = s.agg := rfl

/-! setRf writes regs -/

@[simp] theorem State.setRf_pending (g o h l v : Nat) : (s.setRf g o h l v).pending = s.pending := rfl
@[simp] theorem State.setRf_outbox (g o h l v : Nat) : (s.setRf g o h l v).outbox = s.outbox := rfl
@[simp] theorem State.setRf_now (g o h l v : Nat) : (s.setRf g o h l v).now = s.now := rfl
@[simp] theorem State.setRf_fresh (g o h l v : Nat) : (s.setRf g o h l v).fresh = s.fresh := rfl
@[simp] theorem State.setRf_pages (g o h l v : Nat) : (s.setRf g o h l v).pages = s.pages := rfl
@[simp] theorem State.setRf_snaps (g o h l v : Nat) : (s.setRf g o h l v).snaps = s.snaps := rfl
@[simp] theorem State.setRf_portRegs (g o h l v : Nat) : (s.setRf g o h l v).portRegs = s.portRegs := rfl
@[simp] theorem State.setRf_latches (g o h l v : Nat) : (s.setRf g o h l v).latches = s.latches := rfl
@[simp] theorem State.setRf_holds (g o h l v : Nat) : (s.setRf g o h l v).holds = s.holds := rfl
@[simp] theorem State.setRf_stops (g o h l v : Nat) : (s.setRf g o h l v).stops = s.stops := rfl
@[simp] theorem State.setRf_stopped (g o h l v : Nat) : (s.setRf g o h l v).stopped = s.stopped := rfl
@[simp] theorem State.setRf_mem (g o h l v : Nat) : (s.setRf g o h l v).mem = s.mem := rfl
@[simp] theorem State.setRf_poison (g o h l v : Nat) : (s.setRf g o h l v).poison = s.poison := rfl
@[simp] theorem State.setRf_way (g o h l v : Nat) : (s.setRf g o h l v).way = s.way := rfl
@[simp] theorem State.setRf_ctl (g o h l v : Nat) : (s.setRf g o h l v).ctl = s.ctl := rfl
@[simp] theorem State.setRf_eng (g o h l v : Nat) : (s.setRf g o h l v).eng = s.eng := rfl
@[simp] theorem State.setRf_str (g o h l v : Nat) : (s.setRf g o h l v).str = s.str := rfl
@[simp] theorem State.setRf_sch (g o h l v : Nat) : (s.setRf g o h l v).sch = s.sch := rfl
@[simp] theorem State.setRf_sec (g o h l v : Nat) : (s.setRf g o h l v).sec = s.sec := rfl
@[simp] theorem State.setRf_pwr (g o h l v : Nat) : (s.setRf g o h l v).pwr = s.pwr := rfl
@[simp] theorem State.setRf_svc (g o h l v : Nat) : (s.setRf g o h l v).svc = s.svc := rfl
@[simp] theorem State.setRf_suspects (g o h l v : Nat) : (s.setRf g o h l v).suspects = s.suspects := rfl
@[simp] theorem State.setRf_nextCause (g o h l v : Nat) : (s.setRf g o h l v).nextCause = s.nextCause := rfl
@[simp] theorem State.setRf_rte (g o h l v : Nat) : (s.setRf g o h l v).rte = s.rte := rfl
@[simp] theorem State.setRf_tier (g o h l v : Nat) : (s.setRf g o h l v).tier = s.tier := rfl
@[simp] theorem State.setRf_ckp (g o h l v : Nat) : (s.setRf g o h l v).ckp = s.ckp := rfl
@[simp] theorem State.setRf_cor (g o h l v : Nat) : (s.setRf g o h l v).cor = s.cor := rfl
@[simp] theorem State.setRf_drv (g o h l v : Nat) : (s.setRf g o h l v).drv = s.drv := rfl
@[simp] theorem State.setRf_cnv (g o h l v : Nat) : (s.setRf g o h l v).cnv = s.cnv := rfl
@[simp] theorem State.setRf_sri (g o h l v : Nat) : (s.setRf g o h l v).sri = s.sri := rfl
@[simp] theorem State.setRf_ldg (g o h l v : Nat) : (s.setRf g o h l v).ldg = s.ldg := rfl
@[simp] theorem State.setRf_rmo (g o h l v : Nat) : (s.setRf g o h l v).rmo = s.rmo := rfl
@[simp] theorem State.setRf_tol (g o h l v : Nat) : (s.setRf g o h l v).tol = s.tol := rfl
@[simp] theorem State.setRf_col (g o h l v : Nat) : (s.setRf g o h l v).col = s.col := rfl
@[simp] theorem State.setRf_agg (g o h l v : Nat) : (s.setRf g o h l v).agg = s.agg := rfl

/-! setPortReg writes portRegs -/

@[simp] theorem State.setPortReg_pending (n g o : Nat) (v : W32) : (s.setPortReg n g o v).pending = s.pending := rfl
@[simp] theorem State.setPortReg_outbox (n g o : Nat) (v : W32) : (s.setPortReg n g o v).outbox = s.outbox := rfl
@[simp] theorem State.setPortReg_now (n g o : Nat) (v : W32) : (s.setPortReg n g o v).now = s.now := rfl
@[simp] theorem State.setPortReg_fresh (n g o : Nat) (v : W32) : (s.setPortReg n g o v).fresh = s.fresh := rfl
@[simp] theorem State.setPortReg_pages (n g o : Nat) (v : W32) : (s.setPortReg n g o v).pages = s.pages := rfl
@[simp] theorem State.setPortReg_regs (n g o : Nat) (v : W32) : (s.setPortReg n g o v).regs = s.regs := rfl
@[simp] theorem State.setPortReg_snaps (n g o : Nat) (v : W32) : (s.setPortReg n g o v).snaps = s.snaps := rfl
@[simp] theorem State.setPortReg_latches (n g o : Nat) (v : W32) : (s.setPortReg n g o v).latches = s.latches := rfl
@[simp] theorem State.setPortReg_holds (n g o : Nat) (v : W32) : (s.setPortReg n g o v).holds = s.holds := rfl
@[simp] theorem State.setPortReg_stops (n g o : Nat) (v : W32) : (s.setPortReg n g o v).stops = s.stops := rfl
@[simp] theorem State.setPortReg_stopped (n g o : Nat) (v : W32) : (s.setPortReg n g o v).stopped = s.stopped := rfl
@[simp] theorem State.setPortReg_mem (n g o : Nat) (v : W32) : (s.setPortReg n g o v).mem = s.mem := rfl
@[simp] theorem State.setPortReg_poison (n g o : Nat) (v : W32) : (s.setPortReg n g o v).poison = s.poison := rfl
@[simp] theorem State.setPortReg_way (n g o : Nat) (v : W32) : (s.setPortReg n g o v).way = s.way := rfl
@[simp] theorem State.setPortReg_ctl (n g o : Nat) (v : W32) : (s.setPortReg n g o v).ctl = s.ctl := rfl
@[simp] theorem State.setPortReg_eng (n g o : Nat) (v : W32) : (s.setPortReg n g o v).eng = s.eng := rfl
@[simp] theorem State.setPortReg_str (n g o : Nat) (v : W32) : (s.setPortReg n g o v).str = s.str := rfl
@[simp] theorem State.setPortReg_sch (n g o : Nat) (v : W32) : (s.setPortReg n g o v).sch = s.sch := rfl
@[simp] theorem State.setPortReg_sec (n g o : Nat) (v : W32) : (s.setPortReg n g o v).sec = s.sec := rfl
@[simp] theorem State.setPortReg_pwr (n g o : Nat) (v : W32) : (s.setPortReg n g o v).pwr = s.pwr := rfl
@[simp] theorem State.setPortReg_svc (n g o : Nat) (v : W32) : (s.setPortReg n g o v).svc = s.svc := rfl
@[simp] theorem State.setPortReg_suspects (n g o : Nat) (v : W32) : (s.setPortReg n g o v).suspects = s.suspects := rfl
@[simp] theorem State.setPortReg_nextCause (n g o : Nat) (v : W32) : (s.setPortReg n g o v).nextCause = s.nextCause := rfl
@[simp] theorem State.setPortReg_rte (n g o : Nat) (v : W32) : (s.setPortReg n g o v).rte = s.rte := rfl
@[simp] theorem State.setPortReg_tier (n g o : Nat) (v : W32) : (s.setPortReg n g o v).tier = s.tier := rfl
@[simp] theorem State.setPortReg_ckp (n g o : Nat) (v : W32) : (s.setPortReg n g o v).ckp = s.ckp := rfl
@[simp] theorem State.setPortReg_cor (n g o : Nat) (v : W32) : (s.setPortReg n g o v).cor = s.cor := rfl
@[simp] theorem State.setPortReg_drv (n g o : Nat) (v : W32) : (s.setPortReg n g o v).drv = s.drv := rfl
@[simp] theorem State.setPortReg_cnv (n g o : Nat) (v : W32) : (s.setPortReg n g o v).cnv = s.cnv := rfl
@[simp] theorem State.setPortReg_sri (n g o : Nat) (v : W32) : (s.setPortReg n g o v).sri = s.sri := rfl
@[simp] theorem State.setPortReg_ldg (n g o : Nat) (v : W32) : (s.setPortReg n g o v).ldg = s.ldg := rfl
@[simp] theorem State.setPortReg_rmo (n g o : Nat) (v : W32) : (s.setPortReg n g o v).rmo = s.rmo := rfl
@[simp] theorem State.setPortReg_tol (n g o : Nat) (v : W32) : (s.setPortReg n g o v).tol = s.tol := rfl
@[simp] theorem State.setPortReg_col (n g o : Nat) (v : W32) : (s.setPortReg n g o v).col = s.col := rfl
@[simp] theorem State.setPortReg_agg (n g o : Nat) (v : W32) : (s.setPortReg n g o v).agg = s.agg := rfl

/-! send writes outbox -/

@[simp] theorem State.send_pending (o : Out) : (s.send o).pending = s.pending := rfl
@[simp] theorem State.send_now (o : Out) : (s.send o).now = s.now := rfl
@[simp] theorem State.send_fresh (o : Out) : (s.send o).fresh = s.fresh := rfl
@[simp] theorem State.send_pages (o : Out) : (s.send o).pages = s.pages := rfl
@[simp] theorem State.send_regs (o : Out) : (s.send o).regs = s.regs := rfl
@[simp] theorem State.send_snaps (o : Out) : (s.send o).snaps = s.snaps := rfl
@[simp] theorem State.send_portRegs (o : Out) : (s.send o).portRegs = s.portRegs := rfl
@[simp] theorem State.send_latches (o : Out) : (s.send o).latches = s.latches := rfl
@[simp] theorem State.send_holds (o : Out) : (s.send o).holds = s.holds := rfl
@[simp] theorem State.send_stops (o : Out) : (s.send o).stops = s.stops := rfl
@[simp] theorem State.send_stopped (o : Out) : (s.send o).stopped = s.stopped := rfl
@[simp] theorem State.send_mem (o : Out) : (s.send o).mem = s.mem := rfl
@[simp] theorem State.send_poison (o : Out) : (s.send o).poison = s.poison := rfl
@[simp] theorem State.send_way (o : Out) : (s.send o).way = s.way := rfl
@[simp] theorem State.send_ctl (o : Out) : (s.send o).ctl = s.ctl := rfl
@[simp] theorem State.send_eng (o : Out) : (s.send o).eng = s.eng := rfl
@[simp] theorem State.send_str (o : Out) : (s.send o).str = s.str := rfl
@[simp] theorem State.send_sch (o : Out) : (s.send o).sch = s.sch := rfl
@[simp] theorem State.send_sec (o : Out) : (s.send o).sec = s.sec := rfl
@[simp] theorem State.send_pwr (o : Out) : (s.send o).pwr = s.pwr := rfl
@[simp] theorem State.send_svc (o : Out) : (s.send o).svc = s.svc := rfl
@[simp] theorem State.send_suspects (o : Out) : (s.send o).suspects = s.suspects := rfl
@[simp] theorem State.send_nextCause (o : Out) : (s.send o).nextCause = s.nextCause := rfl
@[simp] theorem State.send_rte (o : Out) : (s.send o).rte = s.rte := rfl
@[simp] theorem State.send_tier (o : Out) : (s.send o).tier = s.tier := rfl
@[simp] theorem State.send_ckp (o : Out) : (s.send o).ckp = s.ckp := rfl
@[simp] theorem State.send_cor (o : Out) : (s.send o).cor = s.cor := rfl
@[simp] theorem State.send_drv (o : Out) : (s.send o).drv = s.drv := rfl
@[simp] theorem State.send_cnv (o : Out) : (s.send o).cnv = s.cnv := rfl
@[simp] theorem State.send_sri (o : Out) : (s.send o).sri = s.sri := rfl
@[simp] theorem State.send_ldg (o : Out) : (s.send o).ldg = s.ldg := rfl
@[simp] theorem State.send_rmo (o : Out) : (s.send o).rmo = s.rmo := rfl
@[simp] theorem State.send_tol (o : Out) : (s.send o).tol = s.tol := rfl
@[simp] theorem State.send_col (o : Out) : (s.send o).col = s.col := rfl
@[simp] theorem State.send_agg (o : Out) : (s.send o).agg = s.agg := rfl

/-! setCtlPort writes ctl -/

@[simp] theorem State.setCtlPort_pending (n : Nat) (x : CtlPort) : (s.setCtlPort n x).pending = s.pending := rfl
@[simp] theorem State.setCtlPort_outbox (n : Nat) (x : CtlPort) : (s.setCtlPort n x).outbox = s.outbox := rfl
@[simp] theorem State.setCtlPort_now (n : Nat) (x : CtlPort) : (s.setCtlPort n x).now = s.now := rfl
@[simp] theorem State.setCtlPort_fresh (n : Nat) (x : CtlPort) : (s.setCtlPort n x).fresh = s.fresh := rfl
@[simp] theorem State.setCtlPort_pages (n : Nat) (x : CtlPort) : (s.setCtlPort n x).pages = s.pages := rfl
@[simp] theorem State.setCtlPort_regs (n : Nat) (x : CtlPort) : (s.setCtlPort n x).regs = s.regs := rfl
@[simp] theorem State.setCtlPort_snaps (n : Nat) (x : CtlPort) : (s.setCtlPort n x).snaps = s.snaps := rfl
@[simp] theorem State.setCtlPort_portRegs (n : Nat) (x : CtlPort) : (s.setCtlPort n x).portRegs = s.portRegs := rfl
@[simp] theorem State.setCtlPort_latches (n : Nat) (x : CtlPort) : (s.setCtlPort n x).latches = s.latches := rfl
@[simp] theorem State.setCtlPort_holds (n : Nat) (x : CtlPort) : (s.setCtlPort n x).holds = s.holds := rfl
@[simp] theorem State.setCtlPort_stops (n : Nat) (x : CtlPort) : (s.setCtlPort n x).stops = s.stops := rfl
@[simp] theorem State.setCtlPort_stopped (n : Nat) (x : CtlPort) : (s.setCtlPort n x).stopped = s.stopped := rfl
@[simp] theorem State.setCtlPort_mem (n : Nat) (x : CtlPort) : (s.setCtlPort n x).mem = s.mem := rfl
@[simp] theorem State.setCtlPort_poison (n : Nat) (x : CtlPort) : (s.setCtlPort n x).poison = s.poison := rfl
@[simp] theorem State.setCtlPort_way (n : Nat) (x : CtlPort) : (s.setCtlPort n x).way = s.way := rfl
@[simp] theorem State.setCtlPort_eng (n : Nat) (x : CtlPort) : (s.setCtlPort n x).eng = s.eng := rfl
@[simp] theorem State.setCtlPort_str (n : Nat) (x : CtlPort) : (s.setCtlPort n x).str = s.str := rfl
@[simp] theorem State.setCtlPort_sch (n : Nat) (x : CtlPort) : (s.setCtlPort n x).sch = s.sch := rfl
@[simp] theorem State.setCtlPort_sec (n : Nat) (x : CtlPort) : (s.setCtlPort n x).sec = s.sec := rfl
@[simp] theorem State.setCtlPort_pwr (n : Nat) (x : CtlPort) : (s.setCtlPort n x).pwr = s.pwr := rfl
@[simp] theorem State.setCtlPort_svc (n : Nat) (x : CtlPort) : (s.setCtlPort n x).svc = s.svc := rfl
@[simp] theorem State.setCtlPort_suspects (n : Nat) (x : CtlPort) : (s.setCtlPort n x).suspects = s.suspects := rfl
@[simp] theorem State.setCtlPort_nextCause (n : Nat) (x : CtlPort) : (s.setCtlPort n x).nextCause = s.nextCause := rfl
@[simp] theorem State.setCtlPort_rte (n : Nat) (x : CtlPort) : (s.setCtlPort n x).rte = s.rte := rfl
@[simp] theorem State.setCtlPort_tier (n : Nat) (x : CtlPort) : (s.setCtlPort n x).tier = s.tier := rfl
@[simp] theorem State.setCtlPort_ckp (n : Nat) (x : CtlPort) : (s.setCtlPort n x).ckp = s.ckp := rfl
@[simp] theorem State.setCtlPort_cor (n : Nat) (x : CtlPort) : (s.setCtlPort n x).cor = s.cor := rfl
@[simp] theorem State.setCtlPort_drv (n : Nat) (x : CtlPort) : (s.setCtlPort n x).drv = s.drv := rfl
@[simp] theorem State.setCtlPort_cnv (n : Nat) (x : CtlPort) : (s.setCtlPort n x).cnv = s.cnv := rfl
@[simp] theorem State.setCtlPort_sri (n : Nat) (x : CtlPort) : (s.setCtlPort n x).sri = s.sri := rfl
@[simp] theorem State.setCtlPort_ldg (n : Nat) (x : CtlPort) : (s.setCtlPort n x).ldg = s.ldg := rfl
@[simp] theorem State.setCtlPort_rmo (n : Nat) (x : CtlPort) : (s.setCtlPort n x).rmo = s.rmo := rfl
@[simp] theorem State.setCtlPort_tol (n : Nat) (x : CtlPort) : (s.setCtlPort n x).tol = s.tol := rfl
@[simp] theorem State.setCtlPort_col (n : Nat) (x : CtlPort) : (s.setCtlPort n x).col = s.col := rfl
@[simp] theorem State.setCtlPort_agg (n : Nat) (x : CtlPort) : (s.setCtlPort n x).agg = s.agg := rfl

/-! setEngine writes eng -/

@[simp] theorem State.setEngine_pending (n : Nat) (x : Engine) : (s.setEngine n x).pending = s.pending := rfl
@[simp] theorem State.setEngine_outbox (n : Nat) (x : Engine) : (s.setEngine n x).outbox = s.outbox := rfl
@[simp] theorem State.setEngine_now (n : Nat) (x : Engine) : (s.setEngine n x).now = s.now := rfl
@[simp] theorem State.setEngine_fresh (n : Nat) (x : Engine) : (s.setEngine n x).fresh = s.fresh := rfl
@[simp] theorem State.setEngine_pages (n : Nat) (x : Engine) : (s.setEngine n x).pages = s.pages := rfl
@[simp] theorem State.setEngine_regs (n : Nat) (x : Engine) : (s.setEngine n x).regs = s.regs := rfl
@[simp] theorem State.setEngine_snaps (n : Nat) (x : Engine) : (s.setEngine n x).snaps = s.snaps := rfl
@[simp] theorem State.setEngine_portRegs (n : Nat) (x : Engine) : (s.setEngine n x).portRegs = s.portRegs := rfl
@[simp] theorem State.setEngine_latches (n : Nat) (x : Engine) : (s.setEngine n x).latches = s.latches := rfl
@[simp] theorem State.setEngine_holds (n : Nat) (x : Engine) : (s.setEngine n x).holds = s.holds := rfl
@[simp] theorem State.setEngine_stops (n : Nat) (x : Engine) : (s.setEngine n x).stops = s.stops := rfl
@[simp] theorem State.setEngine_stopped (n : Nat) (x : Engine) : (s.setEngine n x).stopped = s.stopped := rfl
@[simp] theorem State.setEngine_mem (n : Nat) (x : Engine) : (s.setEngine n x).mem = s.mem := rfl
@[simp] theorem State.setEngine_poison (n : Nat) (x : Engine) : (s.setEngine n x).poison = s.poison := rfl
@[simp] theorem State.setEngine_way (n : Nat) (x : Engine) : (s.setEngine n x).way = s.way := rfl
@[simp] theorem State.setEngine_ctl (n : Nat) (x : Engine) : (s.setEngine n x).ctl = s.ctl := rfl
@[simp] theorem State.setEngine_str (n : Nat) (x : Engine) : (s.setEngine n x).str = s.str := rfl
@[simp] theorem State.setEngine_sch (n : Nat) (x : Engine) : (s.setEngine n x).sch = s.sch := rfl
@[simp] theorem State.setEngine_sec (n : Nat) (x : Engine) : (s.setEngine n x).sec = s.sec := rfl
@[simp] theorem State.setEngine_pwr (n : Nat) (x : Engine) : (s.setEngine n x).pwr = s.pwr := rfl
@[simp] theorem State.setEngine_svc (n : Nat) (x : Engine) : (s.setEngine n x).svc = s.svc := rfl
@[simp] theorem State.setEngine_suspects (n : Nat) (x : Engine) : (s.setEngine n x).suspects = s.suspects := rfl
@[simp] theorem State.setEngine_nextCause (n : Nat) (x : Engine) : (s.setEngine n x).nextCause = s.nextCause := rfl
@[simp] theorem State.setEngine_rte (n : Nat) (x : Engine) : (s.setEngine n x).rte = s.rte := rfl
@[simp] theorem State.setEngine_tier (n : Nat) (x : Engine) : (s.setEngine n x).tier = s.tier := rfl
@[simp] theorem State.setEngine_ckp (n : Nat) (x : Engine) : (s.setEngine n x).ckp = s.ckp := rfl
@[simp] theorem State.setEngine_cor (n : Nat) (x : Engine) : (s.setEngine n x).cor = s.cor := rfl
@[simp] theorem State.setEngine_drv (n : Nat) (x : Engine) : (s.setEngine n x).drv = s.drv := rfl
@[simp] theorem State.setEngine_cnv (n : Nat) (x : Engine) : (s.setEngine n x).cnv = s.cnv := rfl
@[simp] theorem State.setEngine_sri (n : Nat) (x : Engine) : (s.setEngine n x).sri = s.sri := rfl
@[simp] theorem State.setEngine_ldg (n : Nat) (x : Engine) : (s.setEngine n x).ldg = s.ldg := rfl
@[simp] theorem State.setEngine_rmo (n : Nat) (x : Engine) : (s.setEngine n x).rmo = s.rmo := rfl
@[simp] theorem State.setEngine_tol (n : Nat) (x : Engine) : (s.setEngine n x).tol = s.tol := rfl
@[simp] theorem State.setEngine_col (n : Nat) (x : Engine) : (s.setEngine n x).col = s.col := rfl
@[simp] theorem State.setEngine_agg (n : Nat) (x : Engine) : (s.setEngine n x).agg = s.agg := rfl

/-! setTorus writes rte -/

@[simp] theorem State.setTorus_pending (n : Nat) (x : Torus) : (s.setTorus n x).pending = s.pending := rfl
@[simp] theorem State.setTorus_outbox (n : Nat) (x : Torus) : (s.setTorus n x).outbox = s.outbox := rfl
@[simp] theorem State.setTorus_now (n : Nat) (x : Torus) : (s.setTorus n x).now = s.now := rfl
@[simp] theorem State.setTorus_fresh (n : Nat) (x : Torus) : (s.setTorus n x).fresh = s.fresh := rfl
@[simp] theorem State.setTorus_pages (n : Nat) (x : Torus) : (s.setTorus n x).pages = s.pages := rfl
@[simp] theorem State.setTorus_regs (n : Nat) (x : Torus) : (s.setTorus n x).regs = s.regs := rfl
@[simp] theorem State.setTorus_snaps (n : Nat) (x : Torus) : (s.setTorus n x).snaps = s.snaps := rfl
@[simp] theorem State.setTorus_portRegs (n : Nat) (x : Torus) : (s.setTorus n x).portRegs = s.portRegs := rfl
@[simp] theorem State.setTorus_latches (n : Nat) (x : Torus) : (s.setTorus n x).latches = s.latches := rfl
@[simp] theorem State.setTorus_holds (n : Nat) (x : Torus) : (s.setTorus n x).holds = s.holds := rfl
@[simp] theorem State.setTorus_stops (n : Nat) (x : Torus) : (s.setTorus n x).stops = s.stops := rfl
@[simp] theorem State.setTorus_stopped (n : Nat) (x : Torus) : (s.setTorus n x).stopped = s.stopped := rfl
@[simp] theorem State.setTorus_mem (n : Nat) (x : Torus) : (s.setTorus n x).mem = s.mem := rfl
@[simp] theorem State.setTorus_poison (n : Nat) (x : Torus) : (s.setTorus n x).poison = s.poison := rfl
@[simp] theorem State.setTorus_way (n : Nat) (x : Torus) : (s.setTorus n x).way = s.way := rfl
@[simp] theorem State.setTorus_ctl (n : Nat) (x : Torus) : (s.setTorus n x).ctl = s.ctl := rfl
@[simp] theorem State.setTorus_eng (n : Nat) (x : Torus) : (s.setTorus n x).eng = s.eng := rfl
@[simp] theorem State.setTorus_str (n : Nat) (x : Torus) : (s.setTorus n x).str = s.str := rfl
@[simp] theorem State.setTorus_sch (n : Nat) (x : Torus) : (s.setTorus n x).sch = s.sch := rfl
@[simp] theorem State.setTorus_sec (n : Nat) (x : Torus) : (s.setTorus n x).sec = s.sec := rfl
@[simp] theorem State.setTorus_pwr (n : Nat) (x : Torus) : (s.setTorus n x).pwr = s.pwr := rfl
@[simp] theorem State.setTorus_svc (n : Nat) (x : Torus) : (s.setTorus n x).svc = s.svc := rfl
@[simp] theorem State.setTorus_suspects (n : Nat) (x : Torus) : (s.setTorus n x).suspects = s.suspects := rfl
@[simp] theorem State.setTorus_nextCause (n : Nat) (x : Torus) : (s.setTorus n x).nextCause = s.nextCause := rfl
@[simp] theorem State.setTorus_tier (n : Nat) (x : Torus) : (s.setTorus n x).tier = s.tier := rfl
@[simp] theorem State.setTorus_ckp (n : Nat) (x : Torus) : (s.setTorus n x).ckp = s.ckp := rfl
@[simp] theorem State.setTorus_cor (n : Nat) (x : Torus) : (s.setTorus n x).cor = s.cor := rfl
@[simp] theorem State.setTorus_drv (n : Nat) (x : Torus) : (s.setTorus n x).drv = s.drv := rfl
@[simp] theorem State.setTorus_cnv (n : Nat) (x : Torus) : (s.setTorus n x).cnv = s.cnv := rfl
@[simp] theorem State.setTorus_sri (n : Nat) (x : Torus) : (s.setTorus n x).sri = s.sri := rfl
@[simp] theorem State.setTorus_ldg (n : Nat) (x : Torus) : (s.setTorus n x).ldg = s.ldg := rfl
@[simp] theorem State.setTorus_rmo (n : Nat) (x : Torus) : (s.setTorus n x).rmo = s.rmo := rfl
@[simp] theorem State.setTorus_tol (n : Nat) (x : Torus) : (s.setTorus n x).tol = s.tol := rfl
@[simp] theorem State.setTorus_col (n : Nat) (x : Torus) : (s.setTorus n x).col = s.col := rfl
@[simp] theorem State.setTorus_agg (n : Nat) (x : Torus) : (s.setTorus n x).agg = s.agg := rfl

/-! setSpine writes rte -/

@[simp] theorem State.setSpine_pending (n : Nat) (x : Spine) : (s.setSpine n x).pending = s.pending := rfl
@[simp] theorem State.setSpine_outbox (n : Nat) (x : Spine) : (s.setSpine n x).outbox = s.outbox := rfl
@[simp] theorem State.setSpine_now (n : Nat) (x : Spine) : (s.setSpine n x).now = s.now := rfl
@[simp] theorem State.setSpine_fresh (n : Nat) (x : Spine) : (s.setSpine n x).fresh = s.fresh := rfl
@[simp] theorem State.setSpine_pages (n : Nat) (x : Spine) : (s.setSpine n x).pages = s.pages := rfl
@[simp] theorem State.setSpine_regs (n : Nat) (x : Spine) : (s.setSpine n x).regs = s.regs := rfl
@[simp] theorem State.setSpine_snaps (n : Nat) (x : Spine) : (s.setSpine n x).snaps = s.snaps := rfl
@[simp] theorem State.setSpine_portRegs (n : Nat) (x : Spine) : (s.setSpine n x).portRegs = s.portRegs := rfl
@[simp] theorem State.setSpine_latches (n : Nat) (x : Spine) : (s.setSpine n x).latches = s.latches := rfl
@[simp] theorem State.setSpine_holds (n : Nat) (x : Spine) : (s.setSpine n x).holds = s.holds := rfl
@[simp] theorem State.setSpine_stops (n : Nat) (x : Spine) : (s.setSpine n x).stops = s.stops := rfl
@[simp] theorem State.setSpine_stopped (n : Nat) (x : Spine) : (s.setSpine n x).stopped = s.stopped := rfl
@[simp] theorem State.setSpine_mem (n : Nat) (x : Spine) : (s.setSpine n x).mem = s.mem := rfl
@[simp] theorem State.setSpine_poison (n : Nat) (x : Spine) : (s.setSpine n x).poison = s.poison := rfl
@[simp] theorem State.setSpine_way (n : Nat) (x : Spine) : (s.setSpine n x).way = s.way := rfl
@[simp] theorem State.setSpine_ctl (n : Nat) (x : Spine) : (s.setSpine n x).ctl = s.ctl := rfl
@[simp] theorem State.setSpine_eng (n : Nat) (x : Spine) : (s.setSpine n x).eng = s.eng := rfl
@[simp] theorem State.setSpine_str (n : Nat) (x : Spine) : (s.setSpine n x).str = s.str := rfl
@[simp] theorem State.setSpine_sch (n : Nat) (x : Spine) : (s.setSpine n x).sch = s.sch := rfl
@[simp] theorem State.setSpine_sec (n : Nat) (x : Spine) : (s.setSpine n x).sec = s.sec := rfl
@[simp] theorem State.setSpine_pwr (n : Nat) (x : Spine) : (s.setSpine n x).pwr = s.pwr := rfl
@[simp] theorem State.setSpine_svc (n : Nat) (x : Spine) : (s.setSpine n x).svc = s.svc := rfl
@[simp] theorem State.setSpine_suspects (n : Nat) (x : Spine) : (s.setSpine n x).suspects = s.suspects := rfl
@[simp] theorem State.setSpine_nextCause (n : Nat) (x : Spine) : (s.setSpine n x).nextCause = s.nextCause := rfl
@[simp] theorem State.setSpine_tier (n : Nat) (x : Spine) : (s.setSpine n x).tier = s.tier := rfl
@[simp] theorem State.setSpine_ckp (n : Nat) (x : Spine) : (s.setSpine n x).ckp = s.ckp := rfl
@[simp] theorem State.setSpine_cor (n : Nat) (x : Spine) : (s.setSpine n x).cor = s.cor := rfl
@[simp] theorem State.setSpine_drv (n : Nat) (x : Spine) : (s.setSpine n x).drv = s.drv := rfl
@[simp] theorem State.setSpine_cnv (n : Nat) (x : Spine) : (s.setSpine n x).cnv = s.cnv := rfl
@[simp] theorem State.setSpine_sri (n : Nat) (x : Spine) : (s.setSpine n x).sri = s.sri := rfl
@[simp] theorem State.setSpine_ldg (n : Nat) (x : Spine) : (s.setSpine n x).ldg = s.ldg := rfl
@[simp] theorem State.setSpine_rmo (n : Nat) (x : Spine) : (s.setSpine n x).rmo = s.rmo := rfl
@[simp] theorem State.setSpine_tol (n : Nat) (x : Spine) : (s.setSpine n x).tol = s.tol := rfl
@[simp] theorem State.setSpine_col (n : Nat) (x : Spine) : (s.setSpine n x).col = s.col := rfl
@[simp] theorem State.setSpine_agg (n : Nat) (x : Spine) : (s.setSpine n x).agg = s.agg := rfl

/-! setSchPart writes sch -/

@[simp] theorem State.setSchPart_pending (n : Nat) (x : SchedPart) : (s.setSchPart n x).pending = s.pending := rfl
@[simp] theorem State.setSchPart_outbox (n : Nat) (x : SchedPart) : (s.setSchPart n x).outbox = s.outbox := rfl
@[simp] theorem State.setSchPart_now (n : Nat) (x : SchedPart) : (s.setSchPart n x).now = s.now := rfl
@[simp] theorem State.setSchPart_fresh (n : Nat) (x : SchedPart) : (s.setSchPart n x).fresh = s.fresh := rfl
@[simp] theorem State.setSchPart_pages (n : Nat) (x : SchedPart) : (s.setSchPart n x).pages = s.pages := rfl
@[simp] theorem State.setSchPart_regs (n : Nat) (x : SchedPart) : (s.setSchPart n x).regs = s.regs := rfl
@[simp] theorem State.setSchPart_snaps (n : Nat) (x : SchedPart) : (s.setSchPart n x).snaps = s.snaps := rfl
@[simp] theorem State.setSchPart_portRegs (n : Nat) (x : SchedPart) : (s.setSchPart n x).portRegs = s.portRegs := rfl
@[simp] theorem State.setSchPart_latches (n : Nat) (x : SchedPart) : (s.setSchPart n x).latches = s.latches := rfl
@[simp] theorem State.setSchPart_holds (n : Nat) (x : SchedPart) : (s.setSchPart n x).holds = s.holds := rfl
@[simp] theorem State.setSchPart_stops (n : Nat) (x : SchedPart) : (s.setSchPart n x).stops = s.stops := rfl
@[simp] theorem State.setSchPart_stopped (n : Nat) (x : SchedPart) : (s.setSchPart n x).stopped = s.stopped := rfl
@[simp] theorem State.setSchPart_mem (n : Nat) (x : SchedPart) : (s.setSchPart n x).mem = s.mem := rfl
@[simp] theorem State.setSchPart_poison (n : Nat) (x : SchedPart) : (s.setSchPart n x).poison = s.poison := rfl
@[simp] theorem State.setSchPart_way (n : Nat) (x : SchedPart) : (s.setSchPart n x).way = s.way := rfl
@[simp] theorem State.setSchPart_ctl (n : Nat) (x : SchedPart) : (s.setSchPart n x).ctl = s.ctl := rfl
@[simp] theorem State.setSchPart_eng (n : Nat) (x : SchedPart) : (s.setSchPart n x).eng = s.eng := rfl
@[simp] theorem State.setSchPart_str (n : Nat) (x : SchedPart) : (s.setSchPart n x).str = s.str := rfl
@[simp] theorem State.setSchPart_sec (n : Nat) (x : SchedPart) : (s.setSchPart n x).sec = s.sec := rfl
@[simp] theorem State.setSchPart_pwr (n : Nat) (x : SchedPart) : (s.setSchPart n x).pwr = s.pwr := rfl
@[simp] theorem State.setSchPart_svc (n : Nat) (x : SchedPart) : (s.setSchPart n x).svc = s.svc := rfl
@[simp] theorem State.setSchPart_suspects (n : Nat) (x : SchedPart) : (s.setSchPart n x).suspects = s.suspects := rfl
@[simp] theorem State.setSchPart_nextCause (n : Nat) (x : SchedPart) : (s.setSchPart n x).nextCause = s.nextCause := rfl
@[simp] theorem State.setSchPart_rte (n : Nat) (x : SchedPart) : (s.setSchPart n x).rte = s.rte := rfl
@[simp] theorem State.setSchPart_tier (n : Nat) (x : SchedPart) : (s.setSchPart n x).tier = s.tier := rfl
@[simp] theorem State.setSchPart_ckp (n : Nat) (x : SchedPart) : (s.setSchPart n x).ckp = s.ckp := rfl
@[simp] theorem State.setSchPart_cor (n : Nat) (x : SchedPart) : (s.setSchPart n x).cor = s.cor := rfl
@[simp] theorem State.setSchPart_drv (n : Nat) (x : SchedPart) : (s.setSchPart n x).drv = s.drv := rfl
@[simp] theorem State.setSchPart_cnv (n : Nat) (x : SchedPart) : (s.setSchPart n x).cnv = s.cnv := rfl
@[simp] theorem State.setSchPart_sri (n : Nat) (x : SchedPart) : (s.setSchPart n x).sri = s.sri := rfl
@[simp] theorem State.setSchPart_ldg (n : Nat) (x : SchedPart) : (s.setSchPart n x).ldg = s.ldg := rfl
@[simp] theorem State.setSchPart_rmo (n : Nat) (x : SchedPart) : (s.setSchPart n x).rmo = s.rmo := rfl
@[simp] theorem State.setSchPart_tol (n : Nat) (x : SchedPart) : (s.setSchPart n x).tol = s.tol := rfl
@[simp] theorem State.setSchPart_col (n : Nat) (x : SchedPart) : (s.setSchPart n x).col = s.col := rfl
@[simp] theorem State.setSchPart_agg (n : Nat) (x : SchedPart) : (s.setSchPart n x).agg = s.agg := rfl

/-! setSlotEntry writes sch -/

@[simp] theorem State.setSlotEntry_pending (k : Nat) (e : BitVec 128) : (s.setSlotEntry k e).pending = s.pending := rfl
@[simp] theorem State.setSlotEntry_outbox (k : Nat) (e : BitVec 128) : (s.setSlotEntry k e).outbox = s.outbox := rfl
@[simp] theorem State.setSlotEntry_now (k : Nat) (e : BitVec 128) : (s.setSlotEntry k e).now = s.now := rfl
@[simp] theorem State.setSlotEntry_fresh (k : Nat) (e : BitVec 128) : (s.setSlotEntry k e).fresh = s.fresh := rfl
@[simp] theorem State.setSlotEntry_pages (k : Nat) (e : BitVec 128) : (s.setSlotEntry k e).pages = s.pages := rfl
@[simp] theorem State.setSlotEntry_regs (k : Nat) (e : BitVec 128) : (s.setSlotEntry k e).regs = s.regs := rfl
@[simp] theorem State.setSlotEntry_snaps (k : Nat) (e : BitVec 128) : (s.setSlotEntry k e).snaps = s.snaps := rfl
@[simp] theorem State.setSlotEntry_portRegs (k : Nat) (e : BitVec 128) : (s.setSlotEntry k e).portRegs = s.portRegs := rfl
@[simp] theorem State.setSlotEntry_latches (k : Nat) (e : BitVec 128) : (s.setSlotEntry k e).latches = s.latches := rfl
@[simp] theorem State.setSlotEntry_holds (k : Nat) (e : BitVec 128) : (s.setSlotEntry k e).holds = s.holds := rfl
@[simp] theorem State.setSlotEntry_stops (k : Nat) (e : BitVec 128) : (s.setSlotEntry k e).stops = s.stops := rfl
@[simp] theorem State.setSlotEntry_stopped (k : Nat) (e : BitVec 128) : (s.setSlotEntry k e).stopped = s.stopped := rfl
@[simp] theorem State.setSlotEntry_mem (k : Nat) (e : BitVec 128) : (s.setSlotEntry k e).mem = s.mem := rfl
@[simp] theorem State.setSlotEntry_poison (k : Nat) (e : BitVec 128) : (s.setSlotEntry k e).poison = s.poison := rfl
@[simp] theorem State.setSlotEntry_way (k : Nat) (e : BitVec 128) : (s.setSlotEntry k e).way = s.way := rfl
@[simp] theorem State.setSlotEntry_ctl (k : Nat) (e : BitVec 128) : (s.setSlotEntry k e).ctl = s.ctl := rfl
@[simp] theorem State.setSlotEntry_eng (k : Nat) (e : BitVec 128) : (s.setSlotEntry k e).eng = s.eng := rfl
@[simp] theorem State.setSlotEntry_str (k : Nat) (e : BitVec 128) : (s.setSlotEntry k e).str = s.str := rfl
@[simp] theorem State.setSlotEntry_sec (k : Nat) (e : BitVec 128) : (s.setSlotEntry k e).sec = s.sec := rfl
@[simp] theorem State.setSlotEntry_pwr (k : Nat) (e : BitVec 128) : (s.setSlotEntry k e).pwr = s.pwr := rfl
@[simp] theorem State.setSlotEntry_svc (k : Nat) (e : BitVec 128) : (s.setSlotEntry k e).svc = s.svc := rfl
@[simp] theorem State.setSlotEntry_suspects (k : Nat) (e : BitVec 128) : (s.setSlotEntry k e).suspects = s.suspects := rfl
@[simp] theorem State.setSlotEntry_nextCause (k : Nat) (e : BitVec 128) : (s.setSlotEntry k e).nextCause = s.nextCause := rfl
@[simp] theorem State.setSlotEntry_rte (k : Nat) (e : BitVec 128) : (s.setSlotEntry k e).rte = s.rte := rfl
@[simp] theorem State.setSlotEntry_tier (k : Nat) (e : BitVec 128) : (s.setSlotEntry k e).tier = s.tier := rfl
@[simp] theorem State.setSlotEntry_ckp (k : Nat) (e : BitVec 128) : (s.setSlotEntry k e).ckp = s.ckp := rfl
@[simp] theorem State.setSlotEntry_cor (k : Nat) (e : BitVec 128) : (s.setSlotEntry k e).cor = s.cor := rfl
@[simp] theorem State.setSlotEntry_drv (k : Nat) (e : BitVec 128) : (s.setSlotEntry k e).drv = s.drv := rfl
@[simp] theorem State.setSlotEntry_cnv (k : Nat) (e : BitVec 128) : (s.setSlotEntry k e).cnv = s.cnv := rfl
@[simp] theorem State.setSlotEntry_sri (k : Nat) (e : BitVec 128) : (s.setSlotEntry k e).sri = s.sri := rfl
@[simp] theorem State.setSlotEntry_ldg (k : Nat) (e : BitVec 128) : (s.setSlotEntry k e).ldg = s.ldg := rfl
@[simp] theorem State.setSlotEntry_rmo (k : Nat) (e : BitVec 128) : (s.setSlotEntry k e).rmo = s.rmo := rfl
@[simp] theorem State.setSlotEntry_tol (k : Nat) (e : BitVec 128) : (s.setSlotEntry k e).tol = s.tol := rfl
@[simp] theorem State.setSlotEntry_col (k : Nat) (e : BitVec 128) : (s.setSlotEntry k e).col = s.col := rfl
@[simp] theorem State.setSlotEntry_agg (k : Nat) (e : BitVec 128) : (s.setSlotEntry k e).agg = s.agg := rfl

/-! setCtr writes sch -/

@[simp] theorem State.setCtr_pending (c v : Nat) : (s.setCtr c v).pending = s.pending := rfl
@[simp] theorem State.setCtr_outbox (c v : Nat) : (s.setCtr c v).outbox = s.outbox := rfl
@[simp] theorem State.setCtr_now (c v : Nat) : (s.setCtr c v).now = s.now := rfl
@[simp] theorem State.setCtr_fresh (c v : Nat) : (s.setCtr c v).fresh = s.fresh := rfl
@[simp] theorem State.setCtr_pages (c v : Nat) : (s.setCtr c v).pages = s.pages := rfl
@[simp] theorem State.setCtr_regs (c v : Nat) : (s.setCtr c v).regs = s.regs := rfl
@[simp] theorem State.setCtr_snaps (c v : Nat) : (s.setCtr c v).snaps = s.snaps := rfl
@[simp] theorem State.setCtr_portRegs (c v : Nat) : (s.setCtr c v).portRegs = s.portRegs := rfl
@[simp] theorem State.setCtr_latches (c v : Nat) : (s.setCtr c v).latches = s.latches := rfl
@[simp] theorem State.setCtr_holds (c v : Nat) : (s.setCtr c v).holds = s.holds := rfl
@[simp] theorem State.setCtr_stops (c v : Nat) : (s.setCtr c v).stops = s.stops := rfl
@[simp] theorem State.setCtr_stopped (c v : Nat) : (s.setCtr c v).stopped = s.stopped := rfl
@[simp] theorem State.setCtr_mem (c v : Nat) : (s.setCtr c v).mem = s.mem := rfl
@[simp] theorem State.setCtr_poison (c v : Nat) : (s.setCtr c v).poison = s.poison := rfl
@[simp] theorem State.setCtr_way (c v : Nat) : (s.setCtr c v).way = s.way := rfl
@[simp] theorem State.setCtr_ctl (c v : Nat) : (s.setCtr c v).ctl = s.ctl := rfl
@[simp] theorem State.setCtr_eng (c v : Nat) : (s.setCtr c v).eng = s.eng := rfl
@[simp] theorem State.setCtr_str (c v : Nat) : (s.setCtr c v).str = s.str := rfl
@[simp] theorem State.setCtr_sec (c v : Nat) : (s.setCtr c v).sec = s.sec := rfl
@[simp] theorem State.setCtr_pwr (c v : Nat) : (s.setCtr c v).pwr = s.pwr := rfl
@[simp] theorem State.setCtr_svc (c v : Nat) : (s.setCtr c v).svc = s.svc := rfl
@[simp] theorem State.setCtr_suspects (c v : Nat) : (s.setCtr c v).suspects = s.suspects := rfl
@[simp] theorem State.setCtr_nextCause (c v : Nat) : (s.setCtr c v).nextCause = s.nextCause := rfl
@[simp] theorem State.setCtr_rte (c v : Nat) : (s.setCtr c v).rte = s.rte := rfl
@[simp] theorem State.setCtr_tier (c v : Nat) : (s.setCtr c v).tier = s.tier := rfl
@[simp] theorem State.setCtr_ckp (c v : Nat) : (s.setCtr c v).ckp = s.ckp := rfl
@[simp] theorem State.setCtr_cor (c v : Nat) : (s.setCtr c v).cor = s.cor := rfl
@[simp] theorem State.setCtr_drv (c v : Nat) : (s.setCtr c v).drv = s.drv := rfl
@[simp] theorem State.setCtr_cnv (c v : Nat) : (s.setCtr c v).cnv = s.cnv := rfl
@[simp] theorem State.setCtr_sri (c v : Nat) : (s.setCtr c v).sri = s.sri := rfl
@[simp] theorem State.setCtr_ldg (c v : Nat) : (s.setCtr c v).ldg = s.ldg := rfl
@[simp] theorem State.setCtr_rmo (c v : Nat) : (s.setCtr c v).rmo = s.rmo := rfl
@[simp] theorem State.setCtr_tol (c v : Nat) : (s.setCtr c v).tol = s.tol := rfl
@[simp] theorem State.setCtr_col (c v : Nat) : (s.setCtr c v).col = s.col := rfl
@[simp] theorem State.setCtr_agg (c v : Nat) : (s.setCtr c v).agg = s.agg := rfl

/-! setPartSec writes sec -/

@[simp] theorem State.setPartSec_pending (n : Nat) (x : PartSec) : (s.setPartSec n x).pending = s.pending := rfl
@[simp] theorem State.setPartSec_outbox (n : Nat) (x : PartSec) : (s.setPartSec n x).outbox = s.outbox := rfl
@[simp] theorem State.setPartSec_now (n : Nat) (x : PartSec) : (s.setPartSec n x).now = s.now := rfl
@[simp] theorem State.setPartSec_fresh (n : Nat) (x : PartSec) : (s.setPartSec n x).fresh = s.fresh := rfl
@[simp] theorem State.setPartSec_pages (n : Nat) (x : PartSec) : (s.setPartSec n x).pages = s.pages := rfl
@[simp] theorem State.setPartSec_regs (n : Nat) (x : PartSec) : (s.setPartSec n x).regs = s.regs := rfl
@[simp] theorem State.setPartSec_snaps (n : Nat) (x : PartSec) : (s.setPartSec n x).snaps = s.snaps := rfl
@[simp] theorem State.setPartSec_portRegs (n : Nat) (x : PartSec) : (s.setPartSec n x).portRegs = s.portRegs := rfl
@[simp] theorem State.setPartSec_latches (n : Nat) (x : PartSec) : (s.setPartSec n x).latches = s.latches := rfl
@[simp] theorem State.setPartSec_holds (n : Nat) (x : PartSec) : (s.setPartSec n x).holds = s.holds := rfl
@[simp] theorem State.setPartSec_stops (n : Nat) (x : PartSec) : (s.setPartSec n x).stops = s.stops := rfl
@[simp] theorem State.setPartSec_stopped (n : Nat) (x : PartSec) : (s.setPartSec n x).stopped = s.stopped := rfl
@[simp] theorem State.setPartSec_mem (n : Nat) (x : PartSec) : (s.setPartSec n x).mem = s.mem := rfl
@[simp] theorem State.setPartSec_poison (n : Nat) (x : PartSec) : (s.setPartSec n x).poison = s.poison := rfl
@[simp] theorem State.setPartSec_way (n : Nat) (x : PartSec) : (s.setPartSec n x).way = s.way := rfl
@[simp] theorem State.setPartSec_ctl (n : Nat) (x : PartSec) : (s.setPartSec n x).ctl = s.ctl := rfl
@[simp] theorem State.setPartSec_eng (n : Nat) (x : PartSec) : (s.setPartSec n x).eng = s.eng := rfl
@[simp] theorem State.setPartSec_str (n : Nat) (x : PartSec) : (s.setPartSec n x).str = s.str := rfl
@[simp] theorem State.setPartSec_sch (n : Nat) (x : PartSec) : (s.setPartSec n x).sch = s.sch := rfl
@[simp] theorem State.setPartSec_pwr (n : Nat) (x : PartSec) : (s.setPartSec n x).pwr = s.pwr := rfl
@[simp] theorem State.setPartSec_svc (n : Nat) (x : PartSec) : (s.setPartSec n x).svc = s.svc := rfl
@[simp] theorem State.setPartSec_suspects (n : Nat) (x : PartSec) : (s.setPartSec n x).suspects = s.suspects := rfl
@[simp] theorem State.setPartSec_nextCause (n : Nat) (x : PartSec) : (s.setPartSec n x).nextCause = s.nextCause := rfl
@[simp] theorem State.setPartSec_rte (n : Nat) (x : PartSec) : (s.setPartSec n x).rte = s.rte := rfl
@[simp] theorem State.setPartSec_tier (n : Nat) (x : PartSec) : (s.setPartSec n x).tier = s.tier := rfl
@[simp] theorem State.setPartSec_ckp (n : Nat) (x : PartSec) : (s.setPartSec n x).ckp = s.ckp := rfl
@[simp] theorem State.setPartSec_cor (n : Nat) (x : PartSec) : (s.setPartSec n x).cor = s.cor := rfl
@[simp] theorem State.setPartSec_drv (n : Nat) (x : PartSec) : (s.setPartSec n x).drv = s.drv := rfl
@[simp] theorem State.setPartSec_cnv (n : Nat) (x : PartSec) : (s.setPartSec n x).cnv = s.cnv := rfl
@[simp] theorem State.setPartSec_sri (n : Nat) (x : PartSec) : (s.setPartSec n x).sri = s.sri := rfl
@[simp] theorem State.setPartSec_ldg (n : Nat) (x : PartSec) : (s.setPartSec n x).ldg = s.ldg := rfl
@[simp] theorem State.setPartSec_rmo (n : Nat) (x : PartSec) : (s.setPartSec n x).rmo = s.rmo := rfl
@[simp] theorem State.setPartSec_tol (n : Nat) (x : PartSec) : (s.setPartSec n x).tol = s.tol := rfl
@[simp] theorem State.setPartSec_col (n : Nat) (x : PartSec) : (s.setPartSec n x).col = s.col := rfl
@[simp] theorem State.setPartSec_agg (n : Nat) (x : PartSec) : (s.setPartSec n x).agg = s.agg := rfl

/-! setGmc writes tier -/

@[simp] theorem State.setGmc_pending (n : Nat) (x : Gmc) : (s.setGmc n x).pending = s.pending := rfl
@[simp] theorem State.setGmc_outbox (n : Nat) (x : Gmc) : (s.setGmc n x).outbox = s.outbox := rfl
@[simp] theorem State.setGmc_now (n : Nat) (x : Gmc) : (s.setGmc n x).now = s.now := rfl
@[simp] theorem State.setGmc_fresh (n : Nat) (x : Gmc) : (s.setGmc n x).fresh = s.fresh := rfl
@[simp] theorem State.setGmc_pages (n : Nat) (x : Gmc) : (s.setGmc n x).pages = s.pages := rfl
@[simp] theorem State.setGmc_regs (n : Nat) (x : Gmc) : (s.setGmc n x).regs = s.regs := rfl
@[simp] theorem State.setGmc_snaps (n : Nat) (x : Gmc) : (s.setGmc n x).snaps = s.snaps := rfl
@[simp] theorem State.setGmc_portRegs (n : Nat) (x : Gmc) : (s.setGmc n x).portRegs = s.portRegs := rfl
@[simp] theorem State.setGmc_latches (n : Nat) (x : Gmc) : (s.setGmc n x).latches = s.latches := rfl
@[simp] theorem State.setGmc_holds (n : Nat) (x : Gmc) : (s.setGmc n x).holds = s.holds := rfl
@[simp] theorem State.setGmc_stops (n : Nat) (x : Gmc) : (s.setGmc n x).stops = s.stops := rfl
@[simp] theorem State.setGmc_stopped (n : Nat) (x : Gmc) : (s.setGmc n x).stopped = s.stopped := rfl
@[simp] theorem State.setGmc_mem (n : Nat) (x : Gmc) : (s.setGmc n x).mem = s.mem := rfl
@[simp] theorem State.setGmc_poison (n : Nat) (x : Gmc) : (s.setGmc n x).poison = s.poison := rfl
@[simp] theorem State.setGmc_way (n : Nat) (x : Gmc) : (s.setGmc n x).way = s.way := rfl
@[simp] theorem State.setGmc_ctl (n : Nat) (x : Gmc) : (s.setGmc n x).ctl = s.ctl := rfl
@[simp] theorem State.setGmc_eng (n : Nat) (x : Gmc) : (s.setGmc n x).eng = s.eng := rfl
@[simp] theorem State.setGmc_str (n : Nat) (x : Gmc) : (s.setGmc n x).str = s.str := rfl
@[simp] theorem State.setGmc_sch (n : Nat) (x : Gmc) : (s.setGmc n x).sch = s.sch := rfl
@[simp] theorem State.setGmc_sec (n : Nat) (x : Gmc) : (s.setGmc n x).sec = s.sec := rfl
@[simp] theorem State.setGmc_pwr (n : Nat) (x : Gmc) : (s.setGmc n x).pwr = s.pwr := rfl
@[simp] theorem State.setGmc_svc (n : Nat) (x : Gmc) : (s.setGmc n x).svc = s.svc := rfl
@[simp] theorem State.setGmc_suspects (n : Nat) (x : Gmc) : (s.setGmc n x).suspects = s.suspects := rfl
@[simp] theorem State.setGmc_nextCause (n : Nat) (x : Gmc) : (s.setGmc n x).nextCause = s.nextCause := rfl
@[simp] theorem State.setGmc_rte (n : Nat) (x : Gmc) : (s.setGmc n x).rte = s.rte := rfl
@[simp] theorem State.setGmc_ckp (n : Nat) (x : Gmc) : (s.setGmc n x).ckp = s.ckp := rfl
@[simp] theorem State.setGmc_cor (n : Nat) (x : Gmc) : (s.setGmc n x).cor = s.cor := rfl
@[simp] theorem State.setGmc_drv (n : Nat) (x : Gmc) : (s.setGmc n x).drv = s.drv := rfl
@[simp] theorem State.setGmc_cnv (n : Nat) (x : Gmc) : (s.setGmc n x).cnv = s.cnv := rfl
@[simp] theorem State.setGmc_sri (n : Nat) (x : Gmc) : (s.setGmc n x).sri = s.sri := rfl
@[simp] theorem State.setGmc_ldg (n : Nat) (x : Gmc) : (s.setGmc n x).ldg = s.ldg := rfl
@[simp] theorem State.setGmc_rmo (n : Nat) (x : Gmc) : (s.setGmc n x).rmo = s.rmo := rfl
@[simp] theorem State.setGmc_tol (n : Nat) (x : Gmc) : (s.setGmc n x).tol = s.tol := rfl
@[simp] theorem State.setGmc_col (n : Nat) (x : Gmc) : (s.setGmc n x).col = s.col := rfl
@[simp] theorem State.setGmc_agg (n : Nat) (x : Gmc) : (s.setGmc n x).agg = s.agg := rfl

/-! setCxlPort writes tier -/

@[simp] theorem State.setCxlPort_pending (n : Nat) (x : CxlPort) : (s.setCxlPort n x).pending = s.pending := rfl
@[simp] theorem State.setCxlPort_outbox (n : Nat) (x : CxlPort) : (s.setCxlPort n x).outbox = s.outbox := rfl
@[simp] theorem State.setCxlPort_now (n : Nat) (x : CxlPort) : (s.setCxlPort n x).now = s.now := rfl
@[simp] theorem State.setCxlPort_fresh (n : Nat) (x : CxlPort) : (s.setCxlPort n x).fresh = s.fresh := rfl
@[simp] theorem State.setCxlPort_pages (n : Nat) (x : CxlPort) : (s.setCxlPort n x).pages = s.pages := rfl
@[simp] theorem State.setCxlPort_regs (n : Nat) (x : CxlPort) : (s.setCxlPort n x).regs = s.regs := rfl
@[simp] theorem State.setCxlPort_snaps (n : Nat) (x : CxlPort) : (s.setCxlPort n x).snaps = s.snaps := rfl
@[simp] theorem State.setCxlPort_portRegs (n : Nat) (x : CxlPort) : (s.setCxlPort n x).portRegs = s.portRegs := rfl
@[simp] theorem State.setCxlPort_latches (n : Nat) (x : CxlPort) : (s.setCxlPort n x).latches = s.latches := rfl
@[simp] theorem State.setCxlPort_holds (n : Nat) (x : CxlPort) : (s.setCxlPort n x).holds = s.holds := rfl
@[simp] theorem State.setCxlPort_stops (n : Nat) (x : CxlPort) : (s.setCxlPort n x).stops = s.stops := rfl
@[simp] theorem State.setCxlPort_stopped (n : Nat) (x : CxlPort) : (s.setCxlPort n x).stopped = s.stopped := rfl
@[simp] theorem State.setCxlPort_mem (n : Nat) (x : CxlPort) : (s.setCxlPort n x).mem = s.mem := rfl
@[simp] theorem State.setCxlPort_poison (n : Nat) (x : CxlPort) : (s.setCxlPort n x).poison = s.poison := rfl
@[simp] theorem State.setCxlPort_way (n : Nat) (x : CxlPort) : (s.setCxlPort n x).way = s.way := rfl
@[simp] theorem State.setCxlPort_ctl (n : Nat) (x : CxlPort) : (s.setCxlPort n x).ctl = s.ctl := rfl
@[simp] theorem State.setCxlPort_eng (n : Nat) (x : CxlPort) : (s.setCxlPort n x).eng = s.eng := rfl
@[simp] theorem State.setCxlPort_str (n : Nat) (x : CxlPort) : (s.setCxlPort n x).str = s.str := rfl
@[simp] theorem State.setCxlPort_sch (n : Nat) (x : CxlPort) : (s.setCxlPort n x).sch = s.sch := rfl
@[simp] theorem State.setCxlPort_sec (n : Nat) (x : CxlPort) : (s.setCxlPort n x).sec = s.sec := rfl
@[simp] theorem State.setCxlPort_pwr (n : Nat) (x : CxlPort) : (s.setCxlPort n x).pwr = s.pwr := rfl
@[simp] theorem State.setCxlPort_svc (n : Nat) (x : CxlPort) : (s.setCxlPort n x).svc = s.svc := rfl
@[simp] theorem State.setCxlPort_suspects (n : Nat) (x : CxlPort) : (s.setCxlPort n x).suspects = s.suspects := rfl
@[simp] theorem State.setCxlPort_nextCause (n : Nat) (x : CxlPort) : (s.setCxlPort n x).nextCause = s.nextCause := rfl
@[simp] theorem State.setCxlPort_rte (n : Nat) (x : CxlPort) : (s.setCxlPort n x).rte = s.rte := rfl
@[simp] theorem State.setCxlPort_ckp (n : Nat) (x : CxlPort) : (s.setCxlPort n x).ckp = s.ckp := rfl
@[simp] theorem State.setCxlPort_cor (n : Nat) (x : CxlPort) : (s.setCxlPort n x).cor = s.cor := rfl
@[simp] theorem State.setCxlPort_drv (n : Nat) (x : CxlPort) : (s.setCxlPort n x).drv = s.drv := rfl
@[simp] theorem State.setCxlPort_cnv (n : Nat) (x : CxlPort) : (s.setCxlPort n x).cnv = s.cnv := rfl
@[simp] theorem State.setCxlPort_sri (n : Nat) (x : CxlPort) : (s.setCxlPort n x).sri = s.sri := rfl
@[simp] theorem State.setCxlPort_ldg (n : Nat) (x : CxlPort) : (s.setCxlPort n x).ldg = s.ldg := rfl
@[simp] theorem State.setCxlPort_rmo (n : Nat) (x : CxlPort) : (s.setCxlPort n x).rmo = s.rmo := rfl
@[simp] theorem State.setCxlPort_tol (n : Nat) (x : CxlPort) : (s.setCxlPort n x).tol = s.tol := rfl
@[simp] theorem State.setCxlPort_col (n : Nat) (x : CxlPort) : (s.setCxlPort n x).col = s.col := rfl
@[simp] theorem State.setCxlPort_agg (n : Nat) (x : CxlPort) : (s.setCxlPort n x).agg = s.agg := rfl

/-! setMig writes tier -/

@[simp] theorem State.setMig_pending (n : Nat) (x : Mig) : (s.setMig n x).pending = s.pending := rfl
@[simp] theorem State.setMig_outbox (n : Nat) (x : Mig) : (s.setMig n x).outbox = s.outbox := rfl
@[simp] theorem State.setMig_now (n : Nat) (x : Mig) : (s.setMig n x).now = s.now := rfl
@[simp] theorem State.setMig_fresh (n : Nat) (x : Mig) : (s.setMig n x).fresh = s.fresh := rfl
@[simp] theorem State.setMig_pages (n : Nat) (x : Mig) : (s.setMig n x).pages = s.pages := rfl
@[simp] theorem State.setMig_regs (n : Nat) (x : Mig) : (s.setMig n x).regs = s.regs := rfl
@[simp] theorem State.setMig_snaps (n : Nat) (x : Mig) : (s.setMig n x).snaps = s.snaps := rfl
@[simp] theorem State.setMig_portRegs (n : Nat) (x : Mig) : (s.setMig n x).portRegs = s.portRegs := rfl
@[simp] theorem State.setMig_latches (n : Nat) (x : Mig) : (s.setMig n x).latches = s.latches := rfl
@[simp] theorem State.setMig_holds (n : Nat) (x : Mig) : (s.setMig n x).holds = s.holds := rfl
@[simp] theorem State.setMig_stops (n : Nat) (x : Mig) : (s.setMig n x).stops = s.stops := rfl
@[simp] theorem State.setMig_stopped (n : Nat) (x : Mig) : (s.setMig n x).stopped = s.stopped := rfl
@[simp] theorem State.setMig_mem (n : Nat) (x : Mig) : (s.setMig n x).mem = s.mem := rfl
@[simp] theorem State.setMig_poison (n : Nat) (x : Mig) : (s.setMig n x).poison = s.poison := rfl
@[simp] theorem State.setMig_way (n : Nat) (x : Mig) : (s.setMig n x).way = s.way := rfl
@[simp] theorem State.setMig_ctl (n : Nat) (x : Mig) : (s.setMig n x).ctl = s.ctl := rfl
@[simp] theorem State.setMig_eng (n : Nat) (x : Mig) : (s.setMig n x).eng = s.eng := rfl
@[simp] theorem State.setMig_str (n : Nat) (x : Mig) : (s.setMig n x).str = s.str := rfl
@[simp] theorem State.setMig_sch (n : Nat) (x : Mig) : (s.setMig n x).sch = s.sch := rfl
@[simp] theorem State.setMig_sec (n : Nat) (x : Mig) : (s.setMig n x).sec = s.sec := rfl
@[simp] theorem State.setMig_pwr (n : Nat) (x : Mig) : (s.setMig n x).pwr = s.pwr := rfl
@[simp] theorem State.setMig_svc (n : Nat) (x : Mig) : (s.setMig n x).svc = s.svc := rfl
@[simp] theorem State.setMig_suspects (n : Nat) (x : Mig) : (s.setMig n x).suspects = s.suspects := rfl
@[simp] theorem State.setMig_nextCause (n : Nat) (x : Mig) : (s.setMig n x).nextCause = s.nextCause := rfl
@[simp] theorem State.setMig_rte (n : Nat) (x : Mig) : (s.setMig n x).rte = s.rte := rfl
@[simp] theorem State.setMig_ckp (n : Nat) (x : Mig) : (s.setMig n x).ckp = s.ckp := rfl
@[simp] theorem State.setMig_cor (n : Nat) (x : Mig) : (s.setMig n x).cor = s.cor := rfl
@[simp] theorem State.setMig_drv (n : Nat) (x : Mig) : (s.setMig n x).drv = s.drv := rfl
@[simp] theorem State.setMig_cnv (n : Nat) (x : Mig) : (s.setMig n x).cnv = s.cnv := rfl
@[simp] theorem State.setMig_sri (n : Nat) (x : Mig) : (s.setMig n x).sri = s.sri := rfl
@[simp] theorem State.setMig_ldg (n : Nat) (x : Mig) : (s.setMig n x).ldg = s.ldg := rfl
@[simp] theorem State.setMig_rmo (n : Nat) (x : Mig) : (s.setMig n x).rmo = s.rmo := rfl
@[simp] theorem State.setMig_tol (n : Nat) (x : Mig) : (s.setMig n x).tol = s.tol := rfl
@[simp] theorem State.setMig_col (n : Nat) (x : Mig) : (s.setMig n x).col = s.col := rfl
@[simp] theorem State.setMig_agg (n : Nat) (x : Mig) : (s.setMig n x).agg = s.agg := rfl

/-! setFrame writes tier -/

@[simp] theorem State.setFrame_pending (n : Nat) (x : Option Frame) : (s.setFrame n x).pending = s.pending := rfl
@[simp] theorem State.setFrame_outbox (n : Nat) (x : Option Frame) : (s.setFrame n x).outbox = s.outbox := rfl
@[simp] theorem State.setFrame_now (n : Nat) (x : Option Frame) : (s.setFrame n x).now = s.now := rfl
@[simp] theorem State.setFrame_fresh (n : Nat) (x : Option Frame) : (s.setFrame n x).fresh = s.fresh := rfl
@[simp] theorem State.setFrame_pages (n : Nat) (x : Option Frame) : (s.setFrame n x).pages = s.pages := rfl
@[simp] theorem State.setFrame_regs (n : Nat) (x : Option Frame) : (s.setFrame n x).regs = s.regs := rfl
@[simp] theorem State.setFrame_snaps (n : Nat) (x : Option Frame) : (s.setFrame n x).snaps = s.snaps := rfl
@[simp] theorem State.setFrame_portRegs (n : Nat) (x : Option Frame) : (s.setFrame n x).portRegs = s.portRegs := rfl
@[simp] theorem State.setFrame_latches (n : Nat) (x : Option Frame) : (s.setFrame n x).latches = s.latches := rfl
@[simp] theorem State.setFrame_holds (n : Nat) (x : Option Frame) : (s.setFrame n x).holds = s.holds := rfl
@[simp] theorem State.setFrame_stops (n : Nat) (x : Option Frame) : (s.setFrame n x).stops = s.stops := rfl
@[simp] theorem State.setFrame_stopped (n : Nat) (x : Option Frame) : (s.setFrame n x).stopped = s.stopped := rfl
@[simp] theorem State.setFrame_mem (n : Nat) (x : Option Frame) : (s.setFrame n x).mem = s.mem := rfl
@[simp] theorem State.setFrame_poison (n : Nat) (x : Option Frame) : (s.setFrame n x).poison = s.poison := rfl
@[simp] theorem State.setFrame_way (n : Nat) (x : Option Frame) : (s.setFrame n x).way = s.way := rfl
@[simp] theorem State.setFrame_ctl (n : Nat) (x : Option Frame) : (s.setFrame n x).ctl = s.ctl := rfl
@[simp] theorem State.setFrame_eng (n : Nat) (x : Option Frame) : (s.setFrame n x).eng = s.eng := rfl
@[simp] theorem State.setFrame_str (n : Nat) (x : Option Frame) : (s.setFrame n x).str = s.str := rfl
@[simp] theorem State.setFrame_sch (n : Nat) (x : Option Frame) : (s.setFrame n x).sch = s.sch := rfl
@[simp] theorem State.setFrame_sec (n : Nat) (x : Option Frame) : (s.setFrame n x).sec = s.sec := rfl
@[simp] theorem State.setFrame_pwr (n : Nat) (x : Option Frame) : (s.setFrame n x).pwr = s.pwr := rfl
@[simp] theorem State.setFrame_svc (n : Nat) (x : Option Frame) : (s.setFrame n x).svc = s.svc := rfl
@[simp] theorem State.setFrame_suspects (n : Nat) (x : Option Frame) : (s.setFrame n x).suspects = s.suspects := rfl
@[simp] theorem State.setFrame_nextCause (n : Nat) (x : Option Frame) : (s.setFrame n x).nextCause = s.nextCause := rfl
@[simp] theorem State.setFrame_rte (n : Nat) (x : Option Frame) : (s.setFrame n x).rte = s.rte := rfl
@[simp] theorem State.setFrame_ckp (n : Nat) (x : Option Frame) : (s.setFrame n x).ckp = s.ckp := rfl
@[simp] theorem State.setFrame_cor (n : Nat) (x : Option Frame) : (s.setFrame n x).cor = s.cor := rfl
@[simp] theorem State.setFrame_drv (n : Nat) (x : Option Frame) : (s.setFrame n x).drv = s.drv := rfl
@[simp] theorem State.setFrame_cnv (n : Nat) (x : Option Frame) : (s.setFrame n x).cnv = s.cnv := rfl
@[simp] theorem State.setFrame_sri (n : Nat) (x : Option Frame) : (s.setFrame n x).sri = s.sri := rfl
@[simp] theorem State.setFrame_ldg (n : Nat) (x : Option Frame) : (s.setFrame n x).ldg = s.ldg := rfl
@[simp] theorem State.setFrame_rmo (n : Nat) (x : Option Frame) : (s.setFrame n x).rmo = s.rmo := rfl
@[simp] theorem State.setFrame_tol (n : Nat) (x : Option Frame) : (s.setFrame n x).tol = s.tol := rfl
@[simp] theorem State.setFrame_col (n : Nat) (x : Option Frame) : (s.setFrame n x).col = s.col := rfl
@[simp] theorem State.setFrame_agg (n : Nat) (x : Option Frame) : (s.setFrame n x).agg = s.agg := rfl

/-! setCkpt writes ckp -/

@[simp] theorem State.setCkpt_pending (n : Nat) (x : Ckp) : (s.setCkpt n x).pending = s.pending := rfl
@[simp] theorem State.setCkpt_outbox (n : Nat) (x : Ckp) : (s.setCkpt n x).outbox = s.outbox := rfl
@[simp] theorem State.setCkpt_now (n : Nat) (x : Ckp) : (s.setCkpt n x).now = s.now := rfl
@[simp] theorem State.setCkpt_fresh (n : Nat) (x : Ckp) : (s.setCkpt n x).fresh = s.fresh := rfl
@[simp] theorem State.setCkpt_pages (n : Nat) (x : Ckp) : (s.setCkpt n x).pages = s.pages := rfl
@[simp] theorem State.setCkpt_regs (n : Nat) (x : Ckp) : (s.setCkpt n x).regs = s.regs := rfl
@[simp] theorem State.setCkpt_snaps (n : Nat) (x : Ckp) : (s.setCkpt n x).snaps = s.snaps := rfl
@[simp] theorem State.setCkpt_portRegs (n : Nat) (x : Ckp) : (s.setCkpt n x).portRegs = s.portRegs := rfl
@[simp] theorem State.setCkpt_latches (n : Nat) (x : Ckp) : (s.setCkpt n x).latches = s.latches := rfl
@[simp] theorem State.setCkpt_holds (n : Nat) (x : Ckp) : (s.setCkpt n x).holds = s.holds := rfl
@[simp] theorem State.setCkpt_stops (n : Nat) (x : Ckp) : (s.setCkpt n x).stops = s.stops := rfl
@[simp] theorem State.setCkpt_stopped (n : Nat) (x : Ckp) : (s.setCkpt n x).stopped = s.stopped := rfl
@[simp] theorem State.setCkpt_mem (n : Nat) (x : Ckp) : (s.setCkpt n x).mem = s.mem := rfl
@[simp] theorem State.setCkpt_poison (n : Nat) (x : Ckp) : (s.setCkpt n x).poison = s.poison := rfl
@[simp] theorem State.setCkpt_way (n : Nat) (x : Ckp) : (s.setCkpt n x).way = s.way := rfl
@[simp] theorem State.setCkpt_ctl (n : Nat) (x : Ckp) : (s.setCkpt n x).ctl = s.ctl := rfl
@[simp] theorem State.setCkpt_eng (n : Nat) (x : Ckp) : (s.setCkpt n x).eng = s.eng := rfl
@[simp] theorem State.setCkpt_str (n : Nat) (x : Ckp) : (s.setCkpt n x).str = s.str := rfl
@[simp] theorem State.setCkpt_sch (n : Nat) (x : Ckp) : (s.setCkpt n x).sch = s.sch := rfl
@[simp] theorem State.setCkpt_sec (n : Nat) (x : Ckp) : (s.setCkpt n x).sec = s.sec := rfl
@[simp] theorem State.setCkpt_pwr (n : Nat) (x : Ckp) : (s.setCkpt n x).pwr = s.pwr := rfl
@[simp] theorem State.setCkpt_svc (n : Nat) (x : Ckp) : (s.setCkpt n x).svc = s.svc := rfl
@[simp] theorem State.setCkpt_suspects (n : Nat) (x : Ckp) : (s.setCkpt n x).suspects = s.suspects := rfl
@[simp] theorem State.setCkpt_nextCause (n : Nat) (x : Ckp) : (s.setCkpt n x).nextCause = s.nextCause := rfl
@[simp] theorem State.setCkpt_rte (n : Nat) (x : Ckp) : (s.setCkpt n x).rte = s.rte := rfl
@[simp] theorem State.setCkpt_tier (n : Nat) (x : Ckp) : (s.setCkpt n x).tier = s.tier := rfl
@[simp] theorem State.setCkpt_cor (n : Nat) (x : Ckp) : (s.setCkpt n x).cor = s.cor := rfl
@[simp] theorem State.setCkpt_drv (n : Nat) (x : Ckp) : (s.setCkpt n x).drv = s.drv := rfl
@[simp] theorem State.setCkpt_cnv (n : Nat) (x : Ckp) : (s.setCkpt n x).cnv = s.cnv := rfl
@[simp] theorem State.setCkpt_sri (n : Nat) (x : Ckp) : (s.setCkpt n x).sri = s.sri := rfl
@[simp] theorem State.setCkpt_ldg (n : Nat) (x : Ckp) : (s.setCkpt n x).ldg = s.ldg := rfl
@[simp] theorem State.setCkpt_rmo (n : Nat) (x : Ckp) : (s.setCkpt n x).rmo = s.rmo := rfl
@[simp] theorem State.setCkpt_tol (n : Nat) (x : Ckp) : (s.setCkpt n x).tol = s.tol := rfl
@[simp] theorem State.setCkpt_col (n : Nat) (x : Ckp) : (s.setCkpt n x).col = s.col := rfl
@[simp] theorem State.setCkpt_agg (n : Nat) (x : Ckp) : (s.setCkpt n x).agg = s.agg := rfl

/-! setCore writes cor -/

@[simp] theorem State.setCore_pending (n : Nat) (x : CoreSt) : (s.setCore n x).pending = s.pending := rfl
@[simp] theorem State.setCore_outbox (n : Nat) (x : CoreSt) : (s.setCore n x).outbox = s.outbox := rfl
@[simp] theorem State.setCore_now (n : Nat) (x : CoreSt) : (s.setCore n x).now = s.now := rfl
@[simp] theorem State.setCore_fresh (n : Nat) (x : CoreSt) : (s.setCore n x).fresh = s.fresh := rfl
@[simp] theorem State.setCore_pages (n : Nat) (x : CoreSt) : (s.setCore n x).pages = s.pages := rfl
@[simp] theorem State.setCore_regs (n : Nat) (x : CoreSt) : (s.setCore n x).regs = s.regs := rfl
@[simp] theorem State.setCore_snaps (n : Nat) (x : CoreSt) : (s.setCore n x).snaps = s.snaps := rfl
@[simp] theorem State.setCore_portRegs (n : Nat) (x : CoreSt) : (s.setCore n x).portRegs = s.portRegs := rfl
@[simp] theorem State.setCore_latches (n : Nat) (x : CoreSt) : (s.setCore n x).latches = s.latches := rfl
@[simp] theorem State.setCore_holds (n : Nat) (x : CoreSt) : (s.setCore n x).holds = s.holds := rfl
@[simp] theorem State.setCore_stops (n : Nat) (x : CoreSt) : (s.setCore n x).stops = s.stops := rfl
@[simp] theorem State.setCore_stopped (n : Nat) (x : CoreSt) : (s.setCore n x).stopped = s.stopped := rfl
@[simp] theorem State.setCore_mem (n : Nat) (x : CoreSt) : (s.setCore n x).mem = s.mem := rfl
@[simp] theorem State.setCore_poison (n : Nat) (x : CoreSt) : (s.setCore n x).poison = s.poison := rfl
@[simp] theorem State.setCore_way (n : Nat) (x : CoreSt) : (s.setCore n x).way = s.way := rfl
@[simp] theorem State.setCore_ctl (n : Nat) (x : CoreSt) : (s.setCore n x).ctl = s.ctl := rfl
@[simp] theorem State.setCore_eng (n : Nat) (x : CoreSt) : (s.setCore n x).eng = s.eng := rfl
@[simp] theorem State.setCore_str (n : Nat) (x : CoreSt) : (s.setCore n x).str = s.str := rfl
@[simp] theorem State.setCore_sch (n : Nat) (x : CoreSt) : (s.setCore n x).sch = s.sch := rfl
@[simp] theorem State.setCore_sec (n : Nat) (x : CoreSt) : (s.setCore n x).sec = s.sec := rfl
@[simp] theorem State.setCore_pwr (n : Nat) (x : CoreSt) : (s.setCore n x).pwr = s.pwr := rfl
@[simp] theorem State.setCore_svc (n : Nat) (x : CoreSt) : (s.setCore n x).svc = s.svc := rfl
@[simp] theorem State.setCore_suspects (n : Nat) (x : CoreSt) : (s.setCore n x).suspects = s.suspects := rfl
@[simp] theorem State.setCore_nextCause (n : Nat) (x : CoreSt) : (s.setCore n x).nextCause = s.nextCause := rfl
@[simp] theorem State.setCore_rte (n : Nat) (x : CoreSt) : (s.setCore n x).rte = s.rte := rfl
@[simp] theorem State.setCore_tier (n : Nat) (x : CoreSt) : (s.setCore n x).tier = s.tier := rfl
@[simp] theorem State.setCore_ckp (n : Nat) (x : CoreSt) : (s.setCore n x).ckp = s.ckp := rfl
@[simp] theorem State.setCore_drv (n : Nat) (x : CoreSt) : (s.setCore n x).drv = s.drv := rfl
@[simp] theorem State.setCore_cnv (n : Nat) (x : CoreSt) : (s.setCore n x).cnv = s.cnv := rfl
@[simp] theorem State.setCore_sri (n : Nat) (x : CoreSt) : (s.setCore n x).sri = s.sri := rfl
@[simp] theorem State.setCore_ldg (n : Nat) (x : CoreSt) : (s.setCore n x).ldg = s.ldg := rfl
@[simp] theorem State.setCore_rmo (n : Nat) (x : CoreSt) : (s.setCore n x).rmo = s.rmo := rfl
@[simp] theorem State.setCore_tol (n : Nat) (x : CoreSt) : (s.setCore n x).tol = s.tol := rfl
@[simp] theorem State.setCore_col (n : Nat) (x : CoreSt) : (s.setCore n x).col = s.col := rfl
@[simp] theorem State.setCore_agg (n : Nat) (x : CoreSt) : (s.setCore n x).agg = s.agg := rfl

/-! setPwr writes pwr -/

@[simp] theorem State.setPwr_pending (f : Power → Power) : (s.setPwr f).pending = s.pending := rfl
@[simp] theorem State.setPwr_outbox (f : Power → Power) : (s.setPwr f).outbox = s.outbox := rfl
@[simp] theorem State.setPwr_now (f : Power → Power) : (s.setPwr f).now = s.now := rfl
@[simp] theorem State.setPwr_fresh (f : Power → Power) : (s.setPwr f).fresh = s.fresh := rfl
@[simp] theorem State.setPwr_pages (f : Power → Power) : (s.setPwr f).pages = s.pages := rfl
@[simp] theorem State.setPwr_regs (f : Power → Power) : (s.setPwr f).regs = s.regs := rfl
@[simp] theorem State.setPwr_snaps (f : Power → Power) : (s.setPwr f).snaps = s.snaps := rfl
@[simp] theorem State.setPwr_portRegs (f : Power → Power) : (s.setPwr f).portRegs = s.portRegs := rfl
@[simp] theorem State.setPwr_latches (f : Power → Power) : (s.setPwr f).latches = s.latches := rfl
@[simp] theorem State.setPwr_holds (f : Power → Power) : (s.setPwr f).holds = s.holds := rfl
@[simp] theorem State.setPwr_stops (f : Power → Power) : (s.setPwr f).stops = s.stops := rfl
@[simp] theorem State.setPwr_stopped (f : Power → Power) : (s.setPwr f).stopped = s.stopped := rfl
@[simp] theorem State.setPwr_mem (f : Power → Power) : (s.setPwr f).mem = s.mem := rfl
@[simp] theorem State.setPwr_poison (f : Power → Power) : (s.setPwr f).poison = s.poison := rfl
@[simp] theorem State.setPwr_way (f : Power → Power) : (s.setPwr f).way = s.way := rfl
@[simp] theorem State.setPwr_ctl (f : Power → Power) : (s.setPwr f).ctl = s.ctl := rfl
@[simp] theorem State.setPwr_eng (f : Power → Power) : (s.setPwr f).eng = s.eng := rfl
@[simp] theorem State.setPwr_str (f : Power → Power) : (s.setPwr f).str = s.str := rfl
@[simp] theorem State.setPwr_sch (f : Power → Power) : (s.setPwr f).sch = s.sch := rfl
@[simp] theorem State.setPwr_sec (f : Power → Power) : (s.setPwr f).sec = s.sec := rfl
@[simp] theorem State.setPwr_svc (f : Power → Power) : (s.setPwr f).svc = s.svc := rfl
@[simp] theorem State.setPwr_suspects (f : Power → Power) : (s.setPwr f).suspects = s.suspects := rfl
@[simp] theorem State.setPwr_nextCause (f : Power → Power) : (s.setPwr f).nextCause = s.nextCause := rfl
@[simp] theorem State.setPwr_rte (f : Power → Power) : (s.setPwr f).rte = s.rte := rfl
@[simp] theorem State.setPwr_tier (f : Power → Power) : (s.setPwr f).tier = s.tier := rfl
@[simp] theorem State.setPwr_ckp (f : Power → Power) : (s.setPwr f).ckp = s.ckp := rfl
@[simp] theorem State.setPwr_cor (f : Power → Power) : (s.setPwr f).cor = s.cor := rfl
@[simp] theorem State.setPwr_drv (f : Power → Power) : (s.setPwr f).drv = s.drv := rfl
@[simp] theorem State.setPwr_cnv (f : Power → Power) : (s.setPwr f).cnv = s.cnv := rfl
@[simp] theorem State.setPwr_sri (f : Power → Power) : (s.setPwr f).sri = s.sri := rfl
@[simp] theorem State.setPwr_ldg (f : Power → Power) : (s.setPwr f).ldg = s.ldg := rfl
@[simp] theorem State.setPwr_rmo (f : Power → Power) : (s.setPwr f).rmo = s.rmo := rfl
@[simp] theorem State.setPwr_tol (f : Power → Power) : (s.setPwr f).tol = s.tol := rfl
@[simp] theorem State.setPwr_col (f : Power → Power) : (s.setPwr f).col = s.col := rfl
@[simp] theorem State.setPwr_agg (f : Power → Power) : (s.setPwr f).agg = s.agg := rfl

/-! setStrAux writes str -/

@[simp] theorem State.setStrAux_pending (n : Nat) (x : StreamAux) : (s.setStrAux n x).pending = s.pending := rfl
@[simp] theorem State.setStrAux_outbox (n : Nat) (x : StreamAux) : (s.setStrAux n x).outbox = s.outbox := rfl
@[simp] theorem State.setStrAux_now (n : Nat) (x : StreamAux) : (s.setStrAux n x).now = s.now := rfl
@[simp] theorem State.setStrAux_fresh (n : Nat) (x : StreamAux) : (s.setStrAux n x).fresh = s.fresh := rfl
@[simp] theorem State.setStrAux_pages (n : Nat) (x : StreamAux) : (s.setStrAux n x).pages = s.pages := rfl
@[simp] theorem State.setStrAux_regs (n : Nat) (x : StreamAux) : (s.setStrAux n x).regs = s.regs := rfl
@[simp] theorem State.setStrAux_snaps (n : Nat) (x : StreamAux) : (s.setStrAux n x).snaps = s.snaps := rfl
@[simp] theorem State.setStrAux_portRegs (n : Nat) (x : StreamAux) : (s.setStrAux n x).portRegs = s.portRegs := rfl
@[simp] theorem State.setStrAux_latches (n : Nat) (x : StreamAux) : (s.setStrAux n x).latches = s.latches := rfl
@[simp] theorem State.setStrAux_holds (n : Nat) (x : StreamAux) : (s.setStrAux n x).holds = s.holds := rfl
@[simp] theorem State.setStrAux_stops (n : Nat) (x : StreamAux) : (s.setStrAux n x).stops = s.stops := rfl
@[simp] theorem State.setStrAux_stopped (n : Nat) (x : StreamAux) : (s.setStrAux n x).stopped = s.stopped := rfl
@[simp] theorem State.setStrAux_mem (n : Nat) (x : StreamAux) : (s.setStrAux n x).mem = s.mem := rfl
@[simp] theorem State.setStrAux_poison (n : Nat) (x : StreamAux) : (s.setStrAux n x).poison = s.poison := rfl
@[simp] theorem State.setStrAux_way (n : Nat) (x : StreamAux) : (s.setStrAux n x).way = s.way := rfl
@[simp] theorem State.setStrAux_ctl (n : Nat) (x : StreamAux) : (s.setStrAux n x).ctl = s.ctl := rfl
@[simp] theorem State.setStrAux_eng (n : Nat) (x : StreamAux) : (s.setStrAux n x).eng = s.eng := rfl
@[simp] theorem State.setStrAux_sch (n : Nat) (x : StreamAux) : (s.setStrAux n x).sch = s.sch := rfl
@[simp] theorem State.setStrAux_sec (n : Nat) (x : StreamAux) : (s.setStrAux n x).sec = s.sec := rfl
@[simp] theorem State.setStrAux_pwr (n : Nat) (x : StreamAux) : (s.setStrAux n x).pwr = s.pwr := rfl
@[simp] theorem State.setStrAux_svc (n : Nat) (x : StreamAux) : (s.setStrAux n x).svc = s.svc := rfl
@[simp] theorem State.setStrAux_suspects (n : Nat) (x : StreamAux) : (s.setStrAux n x).suspects = s.suspects := rfl
@[simp] theorem State.setStrAux_nextCause (n : Nat) (x : StreamAux) : (s.setStrAux n x).nextCause = s.nextCause := rfl
@[simp] theorem State.setStrAux_rte (n : Nat) (x : StreamAux) : (s.setStrAux n x).rte = s.rte := rfl
@[simp] theorem State.setStrAux_tier (n : Nat) (x : StreamAux) : (s.setStrAux n x).tier = s.tier := rfl
@[simp] theorem State.setStrAux_ckp (n : Nat) (x : StreamAux) : (s.setStrAux n x).ckp = s.ckp := rfl
@[simp] theorem State.setStrAux_cor (n : Nat) (x : StreamAux) : (s.setStrAux n x).cor = s.cor := rfl
@[simp] theorem State.setStrAux_drv (n : Nat) (x : StreamAux) : (s.setStrAux n x).drv = s.drv := rfl
@[simp] theorem State.setStrAux_cnv (n : Nat) (x : StreamAux) : (s.setStrAux n x).cnv = s.cnv := rfl
@[simp] theorem State.setStrAux_sri (n : Nat) (x : StreamAux) : (s.setStrAux n x).sri = s.sri := rfl
@[simp] theorem State.setStrAux_ldg (n : Nat) (x : StreamAux) : (s.setStrAux n x).ldg = s.ldg := rfl
@[simp] theorem State.setStrAux_rmo (n : Nat) (x : StreamAux) : (s.setStrAux n x).rmo = s.rmo := rfl
@[simp] theorem State.setStrAux_tol (n : Nat) (x : StreamAux) : (s.setStrAux n x).tol = s.tol := rfl
@[simp] theorem State.setStrAux_col (n : Nat) (x : StreamAux) : (s.setStrAux n x).col = s.col := rfl
@[simp] theorem State.setStrAux_agg (n : Nat) (x : StreamAux) : (s.setStrAux n x).agg = s.agg := rfl

/-! setSw writes str -/

@[simp] theorem State.setSw_pending (n w : Nat) (v : W32) : (s.setSw n w v).pending = s.pending := rfl
@[simp] theorem State.setSw_outbox (n w : Nat) (v : W32) : (s.setSw n w v).outbox = s.outbox := rfl
@[simp] theorem State.setSw_now (n w : Nat) (v : W32) : (s.setSw n w v).now = s.now := rfl
@[simp] theorem State.setSw_fresh (n w : Nat) (v : W32) : (s.setSw n w v).fresh = s.fresh := rfl
@[simp] theorem State.setSw_pages (n w : Nat) (v : W32) : (s.setSw n w v).pages = s.pages := rfl
@[simp] theorem State.setSw_regs (n w : Nat) (v : W32) : (s.setSw n w v).regs = s.regs := rfl
@[simp] theorem State.setSw_snaps (n w : Nat) (v : W32) : (s.setSw n w v).snaps = s.snaps := rfl
@[simp] theorem State.setSw_portRegs (n w : Nat) (v : W32) : (s.setSw n w v).portRegs = s.portRegs := rfl
@[simp] theorem State.setSw_latches (n w : Nat) (v : W32) : (s.setSw n w v).latches = s.latches := rfl
@[simp] theorem State.setSw_holds (n w : Nat) (v : W32) : (s.setSw n w v).holds = s.holds := rfl
@[simp] theorem State.setSw_stops (n w : Nat) (v : W32) : (s.setSw n w v).stops = s.stops := rfl
@[simp] theorem State.setSw_stopped (n w : Nat) (v : W32) : (s.setSw n w v).stopped = s.stopped := rfl
@[simp] theorem State.setSw_mem (n w : Nat) (v : W32) : (s.setSw n w v).mem = s.mem := rfl
@[simp] theorem State.setSw_poison (n w : Nat) (v : W32) : (s.setSw n w v).poison = s.poison := rfl
@[simp] theorem State.setSw_way (n w : Nat) (v : W32) : (s.setSw n w v).way = s.way := rfl
@[simp] theorem State.setSw_ctl (n w : Nat) (v : W32) : (s.setSw n w v).ctl = s.ctl := rfl
@[simp] theorem State.setSw_eng (n w : Nat) (v : W32) : (s.setSw n w v).eng = s.eng := rfl
@[simp] theorem State.setSw_sch (n w : Nat) (v : W32) : (s.setSw n w v).sch = s.sch := rfl
@[simp] theorem State.setSw_sec (n w : Nat) (v : W32) : (s.setSw n w v).sec = s.sec := rfl
@[simp] theorem State.setSw_pwr (n w : Nat) (v : W32) : (s.setSw n w v).pwr = s.pwr := rfl
@[simp] theorem State.setSw_svc (n w : Nat) (v : W32) : (s.setSw n w v).svc = s.svc := rfl
@[simp] theorem State.setSw_suspects (n w : Nat) (v : W32) : (s.setSw n w v).suspects = s.suspects := rfl
@[simp] theorem State.setSw_nextCause (n w : Nat) (v : W32) : (s.setSw n w v).nextCause = s.nextCause := rfl
@[simp] theorem State.setSw_rte (n w : Nat) (v : W32) : (s.setSw n w v).rte = s.rte := rfl
@[simp] theorem State.setSw_tier (n w : Nat) (v : W32) : (s.setSw n w v).tier = s.tier := rfl
@[simp] theorem State.setSw_ckp (n w : Nat) (v : W32) : (s.setSw n w v).ckp = s.ckp := rfl
@[simp] theorem State.setSw_cor (n w : Nat) (v : W32) : (s.setSw n w v).cor = s.cor := rfl
@[simp] theorem State.setSw_drv (n w : Nat) (v : W32) : (s.setSw n w v).drv = s.drv := rfl
@[simp] theorem State.setSw_cnv (n w : Nat) (v : W32) : (s.setSw n w v).cnv = s.cnv := rfl
@[simp] theorem State.setSw_sri (n w : Nat) (v : W32) : (s.setSw n w v).sri = s.sri := rfl
@[simp] theorem State.setSw_ldg (n w : Nat) (v : W32) : (s.setSw n w v).ldg = s.ldg := rfl
@[simp] theorem State.setSw_rmo (n w : Nat) (v : W32) : (s.setSw n w v).rmo = s.rmo := rfl
@[simp] theorem State.setSw_tol (n w : Nat) (v : W32) : (s.setSw n w v).tol = s.tol := rfl
@[simp] theorem State.setSw_col (n w : Nat) (v : W32) : (s.setSw n w v).col = s.col := rfl
@[simp] theorem State.setSw_agg (n w : Nat) (v : W32) : (s.setSw n w v).agg = s.agg := rfl

/-! setWst writes way -/

@[simp] theorem State.setWst_pending (v : Nat) : (s.setWst v).pending = s.pending := rfl
@[simp] theorem State.setWst_outbox (v : Nat) : (s.setWst v).outbox = s.outbox := rfl
@[simp] theorem State.setWst_now (v : Nat) : (s.setWst v).now = s.now := rfl
@[simp] theorem State.setWst_fresh (v : Nat) : (s.setWst v).fresh = s.fresh := rfl
@[simp] theorem State.setWst_pages (v : Nat) : (s.setWst v).pages = s.pages := rfl
@[simp] theorem State.setWst_regs (v : Nat) : (s.setWst v).regs = s.regs := rfl
@[simp] theorem State.setWst_snaps (v : Nat) : (s.setWst v).snaps = s.snaps := rfl
@[simp] theorem State.setWst_portRegs (v : Nat) : (s.setWst v).portRegs = s.portRegs := rfl
@[simp] theorem State.setWst_latches (v : Nat) : (s.setWst v).latches = s.latches := rfl
@[simp] theorem State.setWst_holds (v : Nat) : (s.setWst v).holds = s.holds := rfl
@[simp] theorem State.setWst_stops (v : Nat) : (s.setWst v).stops = s.stops := rfl
@[simp] theorem State.setWst_stopped (v : Nat) : (s.setWst v).stopped = s.stopped := rfl
@[simp] theorem State.setWst_mem (v : Nat) : (s.setWst v).mem = s.mem := rfl
@[simp] theorem State.setWst_poison (v : Nat) : (s.setWst v).poison = s.poison := rfl
@[simp] theorem State.setWst_ctl (v : Nat) : (s.setWst v).ctl = s.ctl := rfl
@[simp] theorem State.setWst_eng (v : Nat) : (s.setWst v).eng = s.eng := rfl
@[simp] theorem State.setWst_str (v : Nat) : (s.setWst v).str = s.str := rfl
@[simp] theorem State.setWst_sch (v : Nat) : (s.setWst v).sch = s.sch := rfl
@[simp] theorem State.setWst_sec (v : Nat) : (s.setWst v).sec = s.sec := rfl
@[simp] theorem State.setWst_pwr (v : Nat) : (s.setWst v).pwr = s.pwr := rfl
@[simp] theorem State.setWst_svc (v : Nat) : (s.setWst v).svc = s.svc := rfl
@[simp] theorem State.setWst_suspects (v : Nat) : (s.setWst v).suspects = s.suspects := rfl
@[simp] theorem State.setWst_nextCause (v : Nat) : (s.setWst v).nextCause = s.nextCause := rfl
@[simp] theorem State.setWst_rte (v : Nat) : (s.setWst v).rte = s.rte := rfl
@[simp] theorem State.setWst_tier (v : Nat) : (s.setWst v).tier = s.tier := rfl
@[simp] theorem State.setWst_ckp (v : Nat) : (s.setWst v).ckp = s.ckp := rfl
@[simp] theorem State.setWst_cor (v : Nat) : (s.setWst v).cor = s.cor := rfl
@[simp] theorem State.setWst_drv (v : Nat) : (s.setWst v).drv = s.drv := rfl
@[simp] theorem State.setWst_cnv (v : Nat) : (s.setWst v).cnv = s.cnv := rfl
@[simp] theorem State.setWst_sri (v : Nat) : (s.setWst v).sri = s.sri := rfl
@[simp] theorem State.setWst_ldg (v : Nat) : (s.setWst v).ldg = s.ldg := rfl
@[simp] theorem State.setWst_rmo (v : Nat) : (s.setWst v).rmo = s.rmo := rfl
@[simp] theorem State.setWst_tol (v : Nat) : (s.setWst v).tol = s.tol := rfl
@[simp] theorem State.setWst_col (v : Nat) : (s.setWst v).col = s.col := rfl
@[simp] theorem State.setWst_agg (v : Nat) : (s.setWst v).agg = s.agg := rfl

/-! setNbr writes way -/

@[simp] theorem State.setNbr_pending (n : Nat) (x : NbrTime) : (s.setNbr n x).pending = s.pending := rfl
@[simp] theorem State.setNbr_outbox (n : Nat) (x : NbrTime) : (s.setNbr n x).outbox = s.outbox := rfl
@[simp] theorem State.setNbr_now (n : Nat) (x : NbrTime) : (s.setNbr n x).now = s.now := rfl
@[simp] theorem State.setNbr_fresh (n : Nat) (x : NbrTime) : (s.setNbr n x).fresh = s.fresh := rfl
@[simp] theorem State.setNbr_pages (n : Nat) (x : NbrTime) : (s.setNbr n x).pages = s.pages := rfl
@[simp] theorem State.setNbr_regs (n : Nat) (x : NbrTime) : (s.setNbr n x).regs = s.regs := rfl
@[simp] theorem State.setNbr_snaps (n : Nat) (x : NbrTime) : (s.setNbr n x).snaps = s.snaps := rfl
@[simp] theorem State.setNbr_portRegs (n : Nat) (x : NbrTime) : (s.setNbr n x).portRegs = s.portRegs := rfl
@[simp] theorem State.setNbr_latches (n : Nat) (x : NbrTime) : (s.setNbr n x).latches = s.latches := rfl
@[simp] theorem State.setNbr_holds (n : Nat) (x : NbrTime) : (s.setNbr n x).holds = s.holds := rfl
@[simp] theorem State.setNbr_stops (n : Nat) (x : NbrTime) : (s.setNbr n x).stops = s.stops := rfl
@[simp] theorem State.setNbr_stopped (n : Nat) (x : NbrTime) : (s.setNbr n x).stopped = s.stopped := rfl
@[simp] theorem State.setNbr_mem (n : Nat) (x : NbrTime) : (s.setNbr n x).mem = s.mem := rfl
@[simp] theorem State.setNbr_poison (n : Nat) (x : NbrTime) : (s.setNbr n x).poison = s.poison := rfl
@[simp] theorem State.setNbr_ctl (n : Nat) (x : NbrTime) : (s.setNbr n x).ctl = s.ctl := rfl
@[simp] theorem State.setNbr_eng (n : Nat) (x : NbrTime) : (s.setNbr n x).eng = s.eng := rfl
@[simp] theorem State.setNbr_str (n : Nat) (x : NbrTime) : (s.setNbr n x).str = s.str := rfl
@[simp] theorem State.setNbr_sch (n : Nat) (x : NbrTime) : (s.setNbr n x).sch = s.sch := rfl
@[simp] theorem State.setNbr_sec (n : Nat) (x : NbrTime) : (s.setNbr n x).sec = s.sec := rfl
@[simp] theorem State.setNbr_pwr (n : Nat) (x : NbrTime) : (s.setNbr n x).pwr = s.pwr := rfl
@[simp] theorem State.setNbr_svc (n : Nat) (x : NbrTime) : (s.setNbr n x).svc = s.svc := rfl
@[simp] theorem State.setNbr_suspects (n : Nat) (x : NbrTime) : (s.setNbr n x).suspects = s.suspects := rfl
@[simp] theorem State.setNbr_nextCause (n : Nat) (x : NbrTime) : (s.setNbr n x).nextCause = s.nextCause := rfl
@[simp] theorem State.setNbr_rte (n : Nat) (x : NbrTime) : (s.setNbr n x).rte = s.rte := rfl
@[simp] theorem State.setNbr_tier (n : Nat) (x : NbrTime) : (s.setNbr n x).tier = s.tier := rfl
@[simp] theorem State.setNbr_ckp (n : Nat) (x : NbrTime) : (s.setNbr n x).ckp = s.ckp := rfl
@[simp] theorem State.setNbr_cor (n : Nat) (x : NbrTime) : (s.setNbr n x).cor = s.cor := rfl
@[simp] theorem State.setNbr_drv (n : Nat) (x : NbrTime) : (s.setNbr n x).drv = s.drv := rfl
@[simp] theorem State.setNbr_cnv (n : Nat) (x : NbrTime) : (s.setNbr n x).cnv = s.cnv := rfl
@[simp] theorem State.setNbr_sri (n : Nat) (x : NbrTime) : (s.setNbr n x).sri = s.sri := rfl
@[simp] theorem State.setNbr_ldg (n : Nat) (x : NbrTime) : (s.setNbr n x).ldg = s.ldg := rfl
@[simp] theorem State.setNbr_rmo (n : Nat) (x : NbrTime) : (s.setNbr n x).rmo = s.rmo := rfl
@[simp] theorem State.setNbr_tol (n : Nat) (x : NbrTime) : (s.setNbr n x).tol = s.tol := rfl
@[simp] theorem State.setNbr_col (n : Nat) (x : NbrTime) : (s.setNbr n x).col = s.col := rfl
@[simp] theorem State.setNbr_agg (n : Nat) (x : NbrTime) : (s.setNbr n x).agg = s.agg := rfl

/-! setTolSlot writes tol -/

@[simp] theorem State.setTolSlot_pending (n : Nat) (x : Option TolSlot) : (s.setTolSlot n x).pending = s.pending := rfl
@[simp] theorem State.setTolSlot_outbox (n : Nat) (x : Option TolSlot) : (s.setTolSlot n x).outbox = s.outbox := rfl
@[simp] theorem State.setTolSlot_now (n : Nat) (x : Option TolSlot) : (s.setTolSlot n x).now = s.now := rfl
@[simp] theorem State.setTolSlot_fresh (n : Nat) (x : Option TolSlot) : (s.setTolSlot n x).fresh = s.fresh := rfl
@[simp] theorem State.setTolSlot_pages (n : Nat) (x : Option TolSlot) : (s.setTolSlot n x).pages = s.pages := rfl
@[simp] theorem State.setTolSlot_regs (n : Nat) (x : Option TolSlot) : (s.setTolSlot n x).regs = s.regs := rfl
@[simp] theorem State.setTolSlot_snaps (n : Nat) (x : Option TolSlot) : (s.setTolSlot n x).snaps = s.snaps := rfl
@[simp] theorem State.setTolSlot_portRegs (n : Nat) (x : Option TolSlot) : (s.setTolSlot n x).portRegs = s.portRegs := rfl
@[simp] theorem State.setTolSlot_latches (n : Nat) (x : Option TolSlot) : (s.setTolSlot n x).latches = s.latches := rfl
@[simp] theorem State.setTolSlot_holds (n : Nat) (x : Option TolSlot) : (s.setTolSlot n x).holds = s.holds := rfl
@[simp] theorem State.setTolSlot_stops (n : Nat) (x : Option TolSlot) : (s.setTolSlot n x).stops = s.stops := rfl
@[simp] theorem State.setTolSlot_stopped (n : Nat) (x : Option TolSlot) : (s.setTolSlot n x).stopped = s.stopped := rfl
@[simp] theorem State.setTolSlot_mem (n : Nat) (x : Option TolSlot) : (s.setTolSlot n x).mem = s.mem := rfl
@[simp] theorem State.setTolSlot_poison (n : Nat) (x : Option TolSlot) : (s.setTolSlot n x).poison = s.poison := rfl
@[simp] theorem State.setTolSlot_way (n : Nat) (x : Option TolSlot) : (s.setTolSlot n x).way = s.way := rfl
@[simp] theorem State.setTolSlot_ctl (n : Nat) (x : Option TolSlot) : (s.setTolSlot n x).ctl = s.ctl := rfl
@[simp] theorem State.setTolSlot_eng (n : Nat) (x : Option TolSlot) : (s.setTolSlot n x).eng = s.eng := rfl
@[simp] theorem State.setTolSlot_str (n : Nat) (x : Option TolSlot) : (s.setTolSlot n x).str = s.str := rfl
@[simp] theorem State.setTolSlot_sch (n : Nat) (x : Option TolSlot) : (s.setTolSlot n x).sch = s.sch := rfl
@[simp] theorem State.setTolSlot_sec (n : Nat) (x : Option TolSlot) : (s.setTolSlot n x).sec = s.sec := rfl
@[simp] theorem State.setTolSlot_pwr (n : Nat) (x : Option TolSlot) : (s.setTolSlot n x).pwr = s.pwr := rfl
@[simp] theorem State.setTolSlot_svc (n : Nat) (x : Option TolSlot) : (s.setTolSlot n x).svc = s.svc := rfl
@[simp] theorem State.setTolSlot_suspects (n : Nat) (x : Option TolSlot) : (s.setTolSlot n x).suspects = s.suspects := rfl
@[simp] theorem State.setTolSlot_nextCause (n : Nat) (x : Option TolSlot) : (s.setTolSlot n x).nextCause = s.nextCause := rfl
@[simp] theorem State.setTolSlot_rte (n : Nat) (x : Option TolSlot) : (s.setTolSlot n x).rte = s.rte := rfl
@[simp] theorem State.setTolSlot_tier (n : Nat) (x : Option TolSlot) : (s.setTolSlot n x).tier = s.tier := rfl
@[simp] theorem State.setTolSlot_ckp (n : Nat) (x : Option TolSlot) : (s.setTolSlot n x).ckp = s.ckp := rfl
@[simp] theorem State.setTolSlot_cor (n : Nat) (x : Option TolSlot) : (s.setTolSlot n x).cor = s.cor := rfl
@[simp] theorem State.setTolSlot_drv (n : Nat) (x : Option TolSlot) : (s.setTolSlot n x).drv = s.drv := rfl
@[simp] theorem State.setTolSlot_cnv (n : Nat) (x : Option TolSlot) : (s.setTolSlot n x).cnv = s.cnv := rfl
@[simp] theorem State.setTolSlot_sri (n : Nat) (x : Option TolSlot) : (s.setTolSlot n x).sri = s.sri := rfl
@[simp] theorem State.setTolSlot_ldg (n : Nat) (x : Option TolSlot) : (s.setTolSlot n x).ldg = s.ldg := rfl
@[simp] theorem State.setTolSlot_rmo (n : Nat) (x : Option TolSlot) : (s.setTolSlot n x).rmo = s.rmo := rfl
@[simp] theorem State.setTolSlot_col (n : Nat) (x : Option TolSlot) : (s.setTolSlot n x).col = s.col := rfl
@[simp] theorem State.setTolSlot_agg (n : Nat) (x : Option TolSlot) : (s.setTolSlot n x).agg = s.agg := rfl

/-! setTwin writes tol -/

@[simp] theorem State.setTwin_pending (n : Nat) (x : Twin) : (s.setTwin n x).pending = s.pending := rfl
@[simp] theorem State.setTwin_outbox (n : Nat) (x : Twin) : (s.setTwin n x).outbox = s.outbox := rfl
@[simp] theorem State.setTwin_now (n : Nat) (x : Twin) : (s.setTwin n x).now = s.now := rfl
@[simp] theorem State.setTwin_fresh (n : Nat) (x : Twin) : (s.setTwin n x).fresh = s.fresh := rfl
@[simp] theorem State.setTwin_pages (n : Nat) (x : Twin) : (s.setTwin n x).pages = s.pages := rfl
@[simp] theorem State.setTwin_regs (n : Nat) (x : Twin) : (s.setTwin n x).regs = s.regs := rfl
@[simp] theorem State.setTwin_snaps (n : Nat) (x : Twin) : (s.setTwin n x).snaps = s.snaps := rfl
@[simp] theorem State.setTwin_portRegs (n : Nat) (x : Twin) : (s.setTwin n x).portRegs = s.portRegs := rfl
@[simp] theorem State.setTwin_latches (n : Nat) (x : Twin) : (s.setTwin n x).latches = s.latches := rfl
@[simp] theorem State.setTwin_holds (n : Nat) (x : Twin) : (s.setTwin n x).holds = s.holds := rfl
@[simp] theorem State.setTwin_stops (n : Nat) (x : Twin) : (s.setTwin n x).stops = s.stops := rfl
@[simp] theorem State.setTwin_stopped (n : Nat) (x : Twin) : (s.setTwin n x).stopped = s.stopped := rfl
@[simp] theorem State.setTwin_mem (n : Nat) (x : Twin) : (s.setTwin n x).mem = s.mem := rfl
@[simp] theorem State.setTwin_poison (n : Nat) (x : Twin) : (s.setTwin n x).poison = s.poison := rfl
@[simp] theorem State.setTwin_way (n : Nat) (x : Twin) : (s.setTwin n x).way = s.way := rfl
@[simp] theorem State.setTwin_ctl (n : Nat) (x : Twin) : (s.setTwin n x).ctl = s.ctl := rfl
@[simp] theorem State.setTwin_eng (n : Nat) (x : Twin) : (s.setTwin n x).eng = s.eng := rfl
@[simp] theorem State.setTwin_str (n : Nat) (x : Twin) : (s.setTwin n x).str = s.str := rfl
@[simp] theorem State.setTwin_sch (n : Nat) (x : Twin) : (s.setTwin n x).sch = s.sch := rfl
@[simp] theorem State.setTwin_sec (n : Nat) (x : Twin) : (s.setTwin n x).sec = s.sec := rfl
@[simp] theorem State.setTwin_pwr (n : Nat) (x : Twin) : (s.setTwin n x).pwr = s.pwr := rfl
@[simp] theorem State.setTwin_svc (n : Nat) (x : Twin) : (s.setTwin n x).svc = s.svc := rfl
@[simp] theorem State.setTwin_suspects (n : Nat) (x : Twin) : (s.setTwin n x).suspects = s.suspects := rfl
@[simp] theorem State.setTwin_nextCause (n : Nat) (x : Twin) : (s.setTwin n x).nextCause = s.nextCause := rfl
@[simp] theorem State.setTwin_rte (n : Nat) (x : Twin) : (s.setTwin n x).rte = s.rte := rfl
@[simp] theorem State.setTwin_tier (n : Nat) (x : Twin) : (s.setTwin n x).tier = s.tier := rfl
@[simp] theorem State.setTwin_ckp (n : Nat) (x : Twin) : (s.setTwin n x).ckp = s.ckp := rfl
@[simp] theorem State.setTwin_cor (n : Nat) (x : Twin) : (s.setTwin n x).cor = s.cor := rfl
@[simp] theorem State.setTwin_drv (n : Nat) (x : Twin) : (s.setTwin n x).drv = s.drv := rfl
@[simp] theorem State.setTwin_cnv (n : Nat) (x : Twin) : (s.setTwin n x).cnv = s.cnv := rfl
@[simp] theorem State.setTwin_sri (n : Nat) (x : Twin) : (s.setTwin n x).sri = s.sri := rfl
@[simp] theorem State.setTwin_ldg (n : Nat) (x : Twin) : (s.setTwin n x).ldg = s.ldg := rfl
@[simp] theorem State.setTwin_rmo (n : Nat) (x : Twin) : (s.setTwin n x).rmo = s.rmo := rfl
@[simp] theorem State.setTwin_col (n : Nat) (x : Twin) : (s.setTwin n x).col = s.col := rfl
@[simp] theorem State.setTwin_agg (n : Nat) (x : Twin) : (s.setTwin n x).agg = s.agg := rfl

/-! setRmo writes rmo -/

@[simp] theorem State.setRmo_pending (n : Nat) (x : RmoEng) : (s.setRmo n x).pending = s.pending := rfl
@[simp] theorem State.setRmo_outbox (n : Nat) (x : RmoEng) : (s.setRmo n x).outbox = s.outbox := rfl
@[simp] theorem State.setRmo_now (n : Nat) (x : RmoEng) : (s.setRmo n x).now = s.now := rfl
@[simp] theorem State.setRmo_fresh (n : Nat) (x : RmoEng) : (s.setRmo n x).fresh = s.fresh := rfl
@[simp] theorem State.setRmo_pages (n : Nat) (x : RmoEng) : (s.setRmo n x).pages = s.pages := rfl
@[simp] theorem State.setRmo_regs (n : Nat) (x : RmoEng) : (s.setRmo n x).regs = s.regs := rfl
@[simp] theorem State.setRmo_snaps (n : Nat) (x : RmoEng) : (s.setRmo n x).snaps = s.snaps := rfl
@[simp] theorem State.setRmo_portRegs (n : Nat) (x : RmoEng) : (s.setRmo n x).portRegs = s.portRegs := rfl
@[simp] theorem State.setRmo_latches (n : Nat) (x : RmoEng) : (s.setRmo n x).latches = s.latches := rfl
@[simp] theorem State.setRmo_holds (n : Nat) (x : RmoEng) : (s.setRmo n x).holds = s.holds := rfl
@[simp] theorem State.setRmo_stops (n : Nat) (x : RmoEng) : (s.setRmo n x).stops = s.stops := rfl
@[simp] theorem State.setRmo_stopped (n : Nat) (x : RmoEng) : (s.setRmo n x).stopped = s.stopped := rfl
@[simp] theorem State.setRmo_mem (n : Nat) (x : RmoEng) : (s.setRmo n x).mem = s.mem := rfl
@[simp] theorem State.setRmo_poison (n : Nat) (x : RmoEng) : (s.setRmo n x).poison = s.poison := rfl
@[simp] theorem State.setRmo_way (n : Nat) (x : RmoEng) : (s.setRmo n x).way = s.way := rfl
@[simp] theorem State.setRmo_ctl (n : Nat) (x : RmoEng) : (s.setRmo n x).ctl = s.ctl := rfl
@[simp] theorem State.setRmo_eng (n : Nat) (x : RmoEng) : (s.setRmo n x).eng = s.eng := rfl
@[simp] theorem State.setRmo_str (n : Nat) (x : RmoEng) : (s.setRmo n x).str = s.str := rfl
@[simp] theorem State.setRmo_sch (n : Nat) (x : RmoEng) : (s.setRmo n x).sch = s.sch := rfl
@[simp] theorem State.setRmo_sec (n : Nat) (x : RmoEng) : (s.setRmo n x).sec = s.sec := rfl
@[simp] theorem State.setRmo_pwr (n : Nat) (x : RmoEng) : (s.setRmo n x).pwr = s.pwr := rfl
@[simp] theorem State.setRmo_svc (n : Nat) (x : RmoEng) : (s.setRmo n x).svc = s.svc := rfl
@[simp] theorem State.setRmo_suspects (n : Nat) (x : RmoEng) : (s.setRmo n x).suspects = s.suspects := rfl
@[simp] theorem State.setRmo_nextCause (n : Nat) (x : RmoEng) : (s.setRmo n x).nextCause = s.nextCause := rfl
@[simp] theorem State.setRmo_rte (n : Nat) (x : RmoEng) : (s.setRmo n x).rte = s.rte := rfl
@[simp] theorem State.setRmo_tier (n : Nat) (x : RmoEng) : (s.setRmo n x).tier = s.tier := rfl
@[simp] theorem State.setRmo_ckp (n : Nat) (x : RmoEng) : (s.setRmo n x).ckp = s.ckp := rfl
@[simp] theorem State.setRmo_cor (n : Nat) (x : RmoEng) : (s.setRmo n x).cor = s.cor := rfl
@[simp] theorem State.setRmo_drv (n : Nat) (x : RmoEng) : (s.setRmo n x).drv = s.drv := rfl
@[simp] theorem State.setRmo_cnv (n : Nat) (x : RmoEng) : (s.setRmo n x).cnv = s.cnv := rfl
@[simp] theorem State.setRmo_sri (n : Nat) (x : RmoEng) : (s.setRmo n x).sri = s.sri := rfl
@[simp] theorem State.setRmo_ldg (n : Nat) (x : RmoEng) : (s.setRmo n x).ldg = s.ldg := rfl
@[simp] theorem State.setRmo_tol (n : Nat) (x : RmoEng) : (s.setRmo n x).tol = s.tol := rfl
@[simp] theorem State.setRmo_col (n : Nat) (x : RmoEng) : (s.setRmo n x).col = s.col := rfl
@[simp] theorem State.setRmo_agg (n : Nat) (x : RmoEng) : (s.setRmo n x).agg = s.agg := rfl

/-! setQueue writes sri -/

@[simp] theorem State.setQueue_pending (n : Nat) (x : Queue) : (s.setQueue n x).pending = s.pending := rfl
@[simp] theorem State.setQueue_outbox (n : Nat) (x : Queue) : (s.setQueue n x).outbox = s.outbox := rfl
@[simp] theorem State.setQueue_now (n : Nat) (x : Queue) : (s.setQueue n x).now = s.now := rfl
@[simp] theorem State.setQueue_fresh (n : Nat) (x : Queue) : (s.setQueue n x).fresh = s.fresh := rfl
@[simp] theorem State.setQueue_pages (n : Nat) (x : Queue) : (s.setQueue n x).pages = s.pages := rfl
@[simp] theorem State.setQueue_regs (n : Nat) (x : Queue) : (s.setQueue n x).regs = s.regs := rfl
@[simp] theorem State.setQueue_snaps (n : Nat) (x : Queue) : (s.setQueue n x).snaps = s.snaps := rfl
@[simp] theorem State.setQueue_portRegs (n : Nat) (x : Queue) : (s.setQueue n x).portRegs = s.portRegs := rfl
@[simp] theorem State.setQueue_latches (n : Nat) (x : Queue) : (s.setQueue n x).latches = s.latches := rfl
@[simp] theorem State.setQueue_holds (n : Nat) (x : Queue) : (s.setQueue n x).holds = s.holds := rfl
@[simp] theorem State.setQueue_stops (n : Nat) (x : Queue) : (s.setQueue n x).stops = s.stops := rfl
@[simp] theorem State.setQueue_stopped (n : Nat) (x : Queue) : (s.setQueue n x).stopped = s.stopped := rfl
@[simp] theorem State.setQueue_mem (n : Nat) (x : Queue) : (s.setQueue n x).mem = s.mem := rfl
@[simp] theorem State.setQueue_poison (n : Nat) (x : Queue) : (s.setQueue n x).poison = s.poison := rfl
@[simp] theorem State.setQueue_way (n : Nat) (x : Queue) : (s.setQueue n x).way = s.way := rfl
@[simp] theorem State.setQueue_ctl (n : Nat) (x : Queue) : (s.setQueue n x).ctl = s.ctl := rfl
@[simp] theorem State.setQueue_eng (n : Nat) (x : Queue) : (s.setQueue n x).eng = s.eng := rfl
@[simp] theorem State.setQueue_str (n : Nat) (x : Queue) : (s.setQueue n x).str = s.str := rfl
@[simp] theorem State.setQueue_sch (n : Nat) (x : Queue) : (s.setQueue n x).sch = s.sch := rfl
@[simp] theorem State.setQueue_sec (n : Nat) (x : Queue) : (s.setQueue n x).sec = s.sec := rfl
@[simp] theorem State.setQueue_pwr (n : Nat) (x : Queue) : (s.setQueue n x).pwr = s.pwr := rfl
@[simp] theorem State.setQueue_svc (n : Nat) (x : Queue) : (s.setQueue n x).svc = s.svc := rfl
@[simp] theorem State.setQueue_suspects (n : Nat) (x : Queue) : (s.setQueue n x).suspects = s.suspects := rfl
@[simp] theorem State.setQueue_nextCause (n : Nat) (x : Queue) : (s.setQueue n x).nextCause = s.nextCause := rfl
@[simp] theorem State.setQueue_rte (n : Nat) (x : Queue) : (s.setQueue n x).rte = s.rte := rfl
@[simp] theorem State.setQueue_tier (n : Nat) (x : Queue) : (s.setQueue n x).tier = s.tier := rfl
@[simp] theorem State.setQueue_ckp (n : Nat) (x : Queue) : (s.setQueue n x).ckp = s.ckp := rfl
@[simp] theorem State.setQueue_cor (n : Nat) (x : Queue) : (s.setQueue n x).cor = s.cor := rfl
@[simp] theorem State.setQueue_drv (n : Nat) (x : Queue) : (s.setQueue n x).drv = s.drv := rfl
@[simp] theorem State.setQueue_cnv (n : Nat) (x : Queue) : (s.setQueue n x).cnv = s.cnv := rfl
@[simp] theorem State.setQueue_ldg (n : Nat) (x : Queue) : (s.setQueue n x).ldg = s.ldg := rfl
@[simp] theorem State.setQueue_rmo (n : Nat) (x : Queue) : (s.setQueue n x).rmo = s.rmo := rfl
@[simp] theorem State.setQueue_tol (n : Nat) (x : Queue) : (s.setQueue n x).tol = s.tol := rfl
@[simp] theorem State.setQueue_col (n : Nat) (x : Queue) : (s.setQueue n x).col = s.col := rfl
@[simp] theorem State.setQueue_agg (n : Nat) (x : Queue) : (s.setQueue n x).agg = s.agg := rfl

/-! setCtx writes sri -/

@[simp] theorem State.setCtx_pending (n : Nat) (x : Option CloseCtx) : (s.setCtx n x).pending = s.pending := rfl
@[simp] theorem State.setCtx_outbox (n : Nat) (x : Option CloseCtx) : (s.setCtx n x).outbox = s.outbox := rfl
@[simp] theorem State.setCtx_now (n : Nat) (x : Option CloseCtx) : (s.setCtx n x).now = s.now := rfl
@[simp] theorem State.setCtx_fresh (n : Nat) (x : Option CloseCtx) : (s.setCtx n x).fresh = s.fresh := rfl
@[simp] theorem State.setCtx_pages (n : Nat) (x : Option CloseCtx) : (s.setCtx n x).pages = s.pages := rfl
@[simp] theorem State.setCtx_regs (n : Nat) (x : Option CloseCtx) : (s.setCtx n x).regs = s.regs := rfl
@[simp] theorem State.setCtx_snaps (n : Nat) (x : Option CloseCtx) : (s.setCtx n x).snaps = s.snaps := rfl
@[simp] theorem State.setCtx_portRegs (n : Nat) (x : Option CloseCtx) : (s.setCtx n x).portRegs = s.portRegs := rfl
@[simp] theorem State.setCtx_latches (n : Nat) (x : Option CloseCtx) : (s.setCtx n x).latches = s.latches := rfl
@[simp] theorem State.setCtx_holds (n : Nat) (x : Option CloseCtx) : (s.setCtx n x).holds = s.holds := rfl
@[simp] theorem State.setCtx_stops (n : Nat) (x : Option CloseCtx) : (s.setCtx n x).stops = s.stops := rfl
@[simp] theorem State.setCtx_stopped (n : Nat) (x : Option CloseCtx) : (s.setCtx n x).stopped = s.stopped := rfl
@[simp] theorem State.setCtx_mem (n : Nat) (x : Option CloseCtx) : (s.setCtx n x).mem = s.mem := rfl
@[simp] theorem State.setCtx_poison (n : Nat) (x : Option CloseCtx) : (s.setCtx n x).poison = s.poison := rfl
@[simp] theorem State.setCtx_way (n : Nat) (x : Option CloseCtx) : (s.setCtx n x).way = s.way := rfl
@[simp] theorem State.setCtx_ctl (n : Nat) (x : Option CloseCtx) : (s.setCtx n x).ctl = s.ctl := rfl
@[simp] theorem State.setCtx_eng (n : Nat) (x : Option CloseCtx) : (s.setCtx n x).eng = s.eng := rfl
@[simp] theorem State.setCtx_str (n : Nat) (x : Option CloseCtx) : (s.setCtx n x).str = s.str := rfl
@[simp] theorem State.setCtx_sch (n : Nat) (x : Option CloseCtx) : (s.setCtx n x).sch = s.sch := rfl
@[simp] theorem State.setCtx_sec (n : Nat) (x : Option CloseCtx) : (s.setCtx n x).sec = s.sec := rfl
@[simp] theorem State.setCtx_pwr (n : Nat) (x : Option CloseCtx) : (s.setCtx n x).pwr = s.pwr := rfl
@[simp] theorem State.setCtx_svc (n : Nat) (x : Option CloseCtx) : (s.setCtx n x).svc = s.svc := rfl
@[simp] theorem State.setCtx_suspects (n : Nat) (x : Option CloseCtx) : (s.setCtx n x).suspects = s.suspects := rfl
@[simp] theorem State.setCtx_nextCause (n : Nat) (x : Option CloseCtx) : (s.setCtx n x).nextCause = s.nextCause := rfl
@[simp] theorem State.setCtx_rte (n : Nat) (x : Option CloseCtx) : (s.setCtx n x).rte = s.rte := rfl
@[simp] theorem State.setCtx_tier (n : Nat) (x : Option CloseCtx) : (s.setCtx n x).tier = s.tier := rfl
@[simp] theorem State.setCtx_ckp (n : Nat) (x : Option CloseCtx) : (s.setCtx n x).ckp = s.ckp := rfl
@[simp] theorem State.setCtx_cor (n : Nat) (x : Option CloseCtx) : (s.setCtx n x).cor = s.cor := rfl
@[simp] theorem State.setCtx_drv (n : Nat) (x : Option CloseCtx) : (s.setCtx n x).drv = s.drv := rfl
@[simp] theorem State.setCtx_cnv (n : Nat) (x : Option CloseCtx) : (s.setCtx n x).cnv = s.cnv := rfl
@[simp] theorem State.setCtx_ldg (n : Nat) (x : Option CloseCtx) : (s.setCtx n x).ldg = s.ldg := rfl
@[simp] theorem State.setCtx_rmo (n : Nat) (x : Option CloseCtx) : (s.setCtx n x).rmo = s.rmo := rfl
@[simp] theorem State.setCtx_tol (n : Nat) (x : Option CloseCtx) : (s.setCtx n x).tol = s.tol := rfl
@[simp] theorem State.setCtx_col (n : Nat) (x : Option CloseCtx) : (s.setCtx n x).col = s.col := rfl
@[simp] theorem State.setCtx_agg (n : Nat) (x : Option CloseCtx) : (s.setCtx n x).agg = s.agg := rfl

/-! setChain writes ldg -/

@[simp] theorem State.setChain_pending (a : Nat) (x : Option Chain) : (s.setChain a x).pending = s.pending := rfl
@[simp] theorem State.setChain_outbox (a : Nat) (x : Option Chain) : (s.setChain a x).outbox = s.outbox := rfl
@[simp] theorem State.setChain_now (a : Nat) (x : Option Chain) : (s.setChain a x).now = s.now := rfl
@[simp] theorem State.setChain_fresh (a : Nat) (x : Option Chain) : (s.setChain a x).fresh = s.fresh := rfl
@[simp] theorem State.setChain_pages (a : Nat) (x : Option Chain) : (s.setChain a x).pages = s.pages := rfl
@[simp] theorem State.setChain_regs (a : Nat) (x : Option Chain) : (s.setChain a x).regs = s.regs := rfl
@[simp] theorem State.setChain_snaps (a : Nat) (x : Option Chain) : (s.setChain a x).snaps = s.snaps := rfl
@[simp] theorem State.setChain_portRegs (a : Nat) (x : Option Chain) : (s.setChain a x).portRegs = s.portRegs := rfl
@[simp] theorem State.setChain_latches (a : Nat) (x : Option Chain) : (s.setChain a x).latches = s.latches := rfl
@[simp] theorem State.setChain_holds (a : Nat) (x : Option Chain) : (s.setChain a x).holds = s.holds := rfl
@[simp] theorem State.setChain_stops (a : Nat) (x : Option Chain) : (s.setChain a x).stops = s.stops := rfl
@[simp] theorem State.setChain_stopped (a : Nat) (x : Option Chain) : (s.setChain a x).stopped = s.stopped := rfl
@[simp] theorem State.setChain_mem (a : Nat) (x : Option Chain) : (s.setChain a x).mem = s.mem := rfl
@[simp] theorem State.setChain_poison (a : Nat) (x : Option Chain) : (s.setChain a x).poison = s.poison := rfl
@[simp] theorem State.setChain_way (a : Nat) (x : Option Chain) : (s.setChain a x).way = s.way := rfl
@[simp] theorem State.setChain_ctl (a : Nat) (x : Option Chain) : (s.setChain a x).ctl = s.ctl := rfl
@[simp] theorem State.setChain_eng (a : Nat) (x : Option Chain) : (s.setChain a x).eng = s.eng := rfl
@[simp] theorem State.setChain_str (a : Nat) (x : Option Chain) : (s.setChain a x).str = s.str := rfl
@[simp] theorem State.setChain_sch (a : Nat) (x : Option Chain) : (s.setChain a x).sch = s.sch := rfl
@[simp] theorem State.setChain_sec (a : Nat) (x : Option Chain) : (s.setChain a x).sec = s.sec := rfl
@[simp] theorem State.setChain_pwr (a : Nat) (x : Option Chain) : (s.setChain a x).pwr = s.pwr := rfl
@[simp] theorem State.setChain_svc (a : Nat) (x : Option Chain) : (s.setChain a x).svc = s.svc := rfl
@[simp] theorem State.setChain_suspects (a : Nat) (x : Option Chain) : (s.setChain a x).suspects = s.suspects := rfl
@[simp] theorem State.setChain_nextCause (a : Nat) (x : Option Chain) : (s.setChain a x).nextCause = s.nextCause := rfl
@[simp] theorem State.setChain_rte (a : Nat) (x : Option Chain) : (s.setChain a x).rte = s.rte := rfl
@[simp] theorem State.setChain_tier (a : Nat) (x : Option Chain) : (s.setChain a x).tier = s.tier := rfl
@[simp] theorem State.setChain_ckp (a : Nat) (x : Option Chain) : (s.setChain a x).ckp = s.ckp := rfl
@[simp] theorem State.setChain_cor (a : Nat) (x : Option Chain) : (s.setChain a x).cor = s.cor := rfl
@[simp] theorem State.setChain_drv (a : Nat) (x : Option Chain) : (s.setChain a x).drv = s.drv := rfl
@[simp] theorem State.setChain_cnv (a : Nat) (x : Option Chain) : (s.setChain a x).cnv = s.cnv := rfl
@[simp] theorem State.setChain_sri (a : Nat) (x : Option Chain) : (s.setChain a x).sri = s.sri := rfl
@[simp] theorem State.setChain_rmo (a : Nat) (x : Option Chain) : (s.setChain a x).rmo = s.rmo := rfl
@[simp] theorem State.setChain_tol (a : Nat) (x : Option Chain) : (s.setChain a x).tol = s.tol := rfl
@[simp] theorem State.setChain_col (a : Nat) (x : Option Chain) : (s.setChain a x).col = s.col := rfl
@[simp] theorem State.setChain_agg (a : Nat) (x : Option Chain) : (s.setChain a x).agg = s.agg := rfl

/-! setCnv writes cnv -/

@[simp] theorem State.setCnv_pending (n : Nat) (x : CnvEng) : (s.setCnv n x).pending = s.pending := rfl
@[simp] theorem State.setCnv_outbox (n : Nat) (x : CnvEng) : (s.setCnv n x).outbox = s.outbox := rfl
@[simp] theorem State.setCnv_now (n : Nat) (x : CnvEng) : (s.setCnv n x).now = s.now := rfl
@[simp] theorem State.setCnv_fresh (n : Nat) (x : CnvEng) : (s.setCnv n x).fresh = s.fresh := rfl
@[simp] theorem State.setCnv_pages (n : Nat) (x : CnvEng) : (s.setCnv n x).pages = s.pages := rfl
@[simp] theorem State.setCnv_regs (n : Nat) (x : CnvEng) : (s.setCnv n x).regs = s.regs := rfl
@[simp] theorem State.setCnv_snaps (n : Nat) (x : CnvEng) : (s.setCnv n x).snaps = s.snaps := rfl
@[simp] theorem State.setCnv_portRegs (n : Nat) (x : CnvEng) : (s.setCnv n x).portRegs = s.portRegs := rfl
@[simp] theorem State.setCnv_latches (n : Nat) (x : CnvEng) : (s.setCnv n x).latches = s.latches := rfl
@[simp] theorem State.setCnv_holds (n : Nat) (x : CnvEng) : (s.setCnv n x).holds = s.holds := rfl
@[simp] theorem State.setCnv_stops (n : Nat) (x : CnvEng) : (s.setCnv n x).stops = s.stops := rfl
@[simp] theorem State.setCnv_stopped (n : Nat) (x : CnvEng) : (s.setCnv n x).stopped = s.stopped := rfl
@[simp] theorem State.setCnv_mem (n : Nat) (x : CnvEng) : (s.setCnv n x).mem = s.mem := rfl
@[simp] theorem State.setCnv_poison (n : Nat) (x : CnvEng) : (s.setCnv n x).poison = s.poison := rfl
@[simp] theorem State.setCnv_way (n : Nat) (x : CnvEng) : (s.setCnv n x).way = s.way := rfl
@[simp] theorem State.setCnv_ctl (n : Nat) (x : CnvEng) : (s.setCnv n x).ctl = s.ctl := rfl
@[simp] theorem State.setCnv_eng (n : Nat) (x : CnvEng) : (s.setCnv n x).eng = s.eng := rfl
@[simp] theorem State.setCnv_str (n : Nat) (x : CnvEng) : (s.setCnv n x).str = s.str := rfl
@[simp] theorem State.setCnv_sch (n : Nat) (x : CnvEng) : (s.setCnv n x).sch = s.sch := rfl
@[simp] theorem State.setCnv_sec (n : Nat) (x : CnvEng) : (s.setCnv n x).sec = s.sec := rfl
@[simp] theorem State.setCnv_pwr (n : Nat) (x : CnvEng) : (s.setCnv n x).pwr = s.pwr := rfl
@[simp] theorem State.setCnv_svc (n : Nat) (x : CnvEng) : (s.setCnv n x).svc = s.svc := rfl
@[simp] theorem State.setCnv_suspects (n : Nat) (x : CnvEng) : (s.setCnv n x).suspects = s.suspects := rfl
@[simp] theorem State.setCnv_nextCause (n : Nat) (x : CnvEng) : (s.setCnv n x).nextCause = s.nextCause := rfl
@[simp] theorem State.setCnv_rte (n : Nat) (x : CnvEng) : (s.setCnv n x).rte = s.rte := rfl
@[simp] theorem State.setCnv_tier (n : Nat) (x : CnvEng) : (s.setCnv n x).tier = s.tier := rfl
@[simp] theorem State.setCnv_ckp (n : Nat) (x : CnvEng) : (s.setCnv n x).ckp = s.ckp := rfl
@[simp] theorem State.setCnv_cor (n : Nat) (x : CnvEng) : (s.setCnv n x).cor = s.cor := rfl
@[simp] theorem State.setCnv_drv (n : Nat) (x : CnvEng) : (s.setCnv n x).drv = s.drv := rfl
@[simp] theorem State.setCnv_sri (n : Nat) (x : CnvEng) : (s.setCnv n x).sri = s.sri := rfl
@[simp] theorem State.setCnv_ldg (n : Nat) (x : CnvEng) : (s.setCnv n x).ldg = s.ldg := rfl
@[simp] theorem State.setCnv_rmo (n : Nat) (x : CnvEng) : (s.setCnv n x).rmo = s.rmo := rfl
@[simp] theorem State.setCnv_tol (n : Nat) (x : CnvEng) : (s.setCnv n x).tol = s.tol := rfl
@[simp] theorem State.setCnv_col (n : Nat) (x : CnvEng) : (s.setCnv n x).col = s.col := rfl
@[simp] theorem State.setCnv_agg (n : Nat) (x : CnvEng) : (s.setCnv n x).agg = s.agg := rfl

/-! setDrv writes drv -/

@[simp] theorem State.setDrv_pending (n : Nat) (x : DrvUnit) : (s.setDrv n x).pending = s.pending := rfl
@[simp] theorem State.setDrv_outbox (n : Nat) (x : DrvUnit) : (s.setDrv n x).outbox = s.outbox := rfl
@[simp] theorem State.setDrv_now (n : Nat) (x : DrvUnit) : (s.setDrv n x).now = s.now := rfl
@[simp] theorem State.setDrv_fresh (n : Nat) (x : DrvUnit) : (s.setDrv n x).fresh = s.fresh := rfl
@[simp] theorem State.setDrv_pages (n : Nat) (x : DrvUnit) : (s.setDrv n x).pages = s.pages := rfl
@[simp] theorem State.setDrv_regs (n : Nat) (x : DrvUnit) : (s.setDrv n x).regs = s.regs := rfl
@[simp] theorem State.setDrv_snaps (n : Nat) (x : DrvUnit) : (s.setDrv n x).snaps = s.snaps := rfl
@[simp] theorem State.setDrv_portRegs (n : Nat) (x : DrvUnit) : (s.setDrv n x).portRegs = s.portRegs := rfl
@[simp] theorem State.setDrv_latches (n : Nat) (x : DrvUnit) : (s.setDrv n x).latches = s.latches := rfl
@[simp] theorem State.setDrv_holds (n : Nat) (x : DrvUnit) : (s.setDrv n x).holds = s.holds := rfl
@[simp] theorem State.setDrv_stops (n : Nat) (x : DrvUnit) : (s.setDrv n x).stops = s.stops := rfl
@[simp] theorem State.setDrv_stopped (n : Nat) (x : DrvUnit) : (s.setDrv n x).stopped = s.stopped := rfl
@[simp] theorem State.setDrv_mem (n : Nat) (x : DrvUnit) : (s.setDrv n x).mem = s.mem := rfl
@[simp] theorem State.setDrv_poison (n : Nat) (x : DrvUnit) : (s.setDrv n x).poison = s.poison := rfl
@[simp] theorem State.setDrv_way (n : Nat) (x : DrvUnit) : (s.setDrv n x).way = s.way := rfl
@[simp] theorem State.setDrv_ctl (n : Nat) (x : DrvUnit) : (s.setDrv n x).ctl = s.ctl := rfl
@[simp] theorem State.setDrv_eng (n : Nat) (x : DrvUnit) : (s.setDrv n x).eng = s.eng := rfl
@[simp] theorem State.setDrv_str (n : Nat) (x : DrvUnit) : (s.setDrv n x).str = s.str := rfl
@[simp] theorem State.setDrv_sch (n : Nat) (x : DrvUnit) : (s.setDrv n x).sch = s.sch := rfl
@[simp] theorem State.setDrv_sec (n : Nat) (x : DrvUnit) : (s.setDrv n x).sec = s.sec := rfl
@[simp] theorem State.setDrv_pwr (n : Nat) (x : DrvUnit) : (s.setDrv n x).pwr = s.pwr := rfl
@[simp] theorem State.setDrv_svc (n : Nat) (x : DrvUnit) : (s.setDrv n x).svc = s.svc := rfl
@[simp] theorem State.setDrv_suspects (n : Nat) (x : DrvUnit) : (s.setDrv n x).suspects = s.suspects := rfl
@[simp] theorem State.setDrv_nextCause (n : Nat) (x : DrvUnit) : (s.setDrv n x).nextCause = s.nextCause := rfl
@[simp] theorem State.setDrv_rte (n : Nat) (x : DrvUnit) : (s.setDrv n x).rte = s.rte := rfl
@[simp] theorem State.setDrv_tier (n : Nat) (x : DrvUnit) : (s.setDrv n x).tier = s.tier := rfl
@[simp] theorem State.setDrv_ckp (n : Nat) (x : DrvUnit) : (s.setDrv n x).ckp = s.ckp := rfl
@[simp] theorem State.setDrv_cor (n : Nat) (x : DrvUnit) : (s.setDrv n x).cor = s.cor := rfl
@[simp] theorem State.setDrv_cnv (n : Nat) (x : DrvUnit) : (s.setDrv n x).cnv = s.cnv := rfl
@[simp] theorem State.setDrv_sri (n : Nat) (x : DrvUnit) : (s.setDrv n x).sri = s.sri := rfl
@[simp] theorem State.setDrv_ldg (n : Nat) (x : DrvUnit) : (s.setDrv n x).ldg = s.ldg := rfl
@[simp] theorem State.setDrv_rmo (n : Nat) (x : DrvUnit) : (s.setDrv n x).rmo = s.rmo := rfl
@[simp] theorem State.setDrv_tol (n : Nat) (x : DrvUnit) : (s.setDrv n x).tol = s.tol := rfl
@[simp] theorem State.setDrv_col (n : Nat) (x : DrvUnit) : (s.setDrv n x).col = s.col := rfl
@[simp] theorem State.setDrv_agg (n : Nat) (x : DrvUnit) : (s.setDrv n x).agg = s.agg := rfl

/-! setSuspect writes suspects -/

@[simp] theorem State.setSuspect_pending (n : Nat) (x : Option Suspect) : (s.setSuspect n x).pending = s.pending := rfl
@[simp] theorem State.setSuspect_outbox (n : Nat) (x : Option Suspect) : (s.setSuspect n x).outbox = s.outbox := rfl
@[simp] theorem State.setSuspect_now (n : Nat) (x : Option Suspect) : (s.setSuspect n x).now = s.now := rfl
@[simp] theorem State.setSuspect_fresh (n : Nat) (x : Option Suspect) : (s.setSuspect n x).fresh = s.fresh := rfl
@[simp] theorem State.setSuspect_pages (n : Nat) (x : Option Suspect) : (s.setSuspect n x).pages = s.pages := rfl
@[simp] theorem State.setSuspect_regs (n : Nat) (x : Option Suspect) : (s.setSuspect n x).regs = s.regs := rfl
@[simp] theorem State.setSuspect_snaps (n : Nat) (x : Option Suspect) : (s.setSuspect n x).snaps = s.snaps := rfl
@[simp] theorem State.setSuspect_portRegs (n : Nat) (x : Option Suspect) : (s.setSuspect n x).portRegs = s.portRegs := rfl
@[simp] theorem State.setSuspect_latches (n : Nat) (x : Option Suspect) : (s.setSuspect n x).latches = s.latches := rfl
@[simp] theorem State.setSuspect_holds (n : Nat) (x : Option Suspect) : (s.setSuspect n x).holds = s.holds := rfl
@[simp] theorem State.setSuspect_stops (n : Nat) (x : Option Suspect) : (s.setSuspect n x).stops = s.stops := rfl
@[simp] theorem State.setSuspect_stopped (n : Nat) (x : Option Suspect) : (s.setSuspect n x).stopped = s.stopped := rfl
@[simp] theorem State.setSuspect_mem (n : Nat) (x : Option Suspect) : (s.setSuspect n x).mem = s.mem := rfl
@[simp] theorem State.setSuspect_poison (n : Nat) (x : Option Suspect) : (s.setSuspect n x).poison = s.poison := rfl
@[simp] theorem State.setSuspect_way (n : Nat) (x : Option Suspect) : (s.setSuspect n x).way = s.way := rfl
@[simp] theorem State.setSuspect_ctl (n : Nat) (x : Option Suspect) : (s.setSuspect n x).ctl = s.ctl := rfl
@[simp] theorem State.setSuspect_eng (n : Nat) (x : Option Suspect) : (s.setSuspect n x).eng = s.eng := rfl
@[simp] theorem State.setSuspect_str (n : Nat) (x : Option Suspect) : (s.setSuspect n x).str = s.str := rfl
@[simp] theorem State.setSuspect_sch (n : Nat) (x : Option Suspect) : (s.setSuspect n x).sch = s.sch := rfl
@[simp] theorem State.setSuspect_sec (n : Nat) (x : Option Suspect) : (s.setSuspect n x).sec = s.sec := rfl
@[simp] theorem State.setSuspect_pwr (n : Nat) (x : Option Suspect) : (s.setSuspect n x).pwr = s.pwr := rfl
@[simp] theorem State.setSuspect_svc (n : Nat) (x : Option Suspect) : (s.setSuspect n x).svc = s.svc := rfl
@[simp] theorem State.setSuspect_nextCause (n : Nat) (x : Option Suspect) : (s.setSuspect n x).nextCause = s.nextCause := rfl
@[simp] theorem State.setSuspect_rte (n : Nat) (x : Option Suspect) : (s.setSuspect n x).rte = s.rte := rfl
@[simp] theorem State.setSuspect_tier (n : Nat) (x : Option Suspect) : (s.setSuspect n x).tier = s.tier := rfl
@[simp] theorem State.setSuspect_ckp (n : Nat) (x : Option Suspect) : (s.setSuspect n x).ckp = s.ckp := rfl
@[simp] theorem State.setSuspect_cor (n : Nat) (x : Option Suspect) : (s.setSuspect n x).cor = s.cor := rfl
@[simp] theorem State.setSuspect_drv (n : Nat) (x : Option Suspect) : (s.setSuspect n x).drv = s.drv := rfl
@[simp] theorem State.setSuspect_cnv (n : Nat) (x : Option Suspect) : (s.setSuspect n x).cnv = s.cnv := rfl
@[simp] theorem State.setSuspect_sri (n : Nat) (x : Option Suspect) : (s.setSuspect n x).sri = s.sri := rfl
@[simp] theorem State.setSuspect_ldg (n : Nat) (x : Option Suspect) : (s.setSuspect n x).ldg = s.ldg := rfl
@[simp] theorem State.setSuspect_rmo (n : Nat) (x : Option Suspect) : (s.setSuspect n x).rmo = s.rmo := rfl
@[simp] theorem State.setSuspect_tol (n : Nat) (x : Option Suspect) : (s.setSuspect n x).tol = s.tol := rfl
@[simp] theorem State.setSuspect_col (n : Nat) (x : Option Suspect) : (s.setSuspect n x).col = s.col := rfl
@[simp] theorem State.setSuspect_agg (n : Nat) (x : Option Suspect) : (s.setSuspect n x).agg = s.agg := rfl

/-! setCollCtx writes col -/

@[simp] theorem State.setCollCtx_pending (n : Nat) (x : Option CollCtx) : (s.setCollCtx n x).pending = s.pending := rfl
@[simp] theorem State.setCollCtx_outbox (n : Nat) (x : Option CollCtx) : (s.setCollCtx n x).outbox = s.outbox := rfl
@[simp] theorem State.setCollCtx_now (n : Nat) (x : Option CollCtx) : (s.setCollCtx n x).now = s.now := rfl
@[simp] theorem State.setCollCtx_fresh (n : Nat) (x : Option CollCtx) : (s.setCollCtx n x).fresh = s.fresh := rfl
@[simp] theorem State.setCollCtx_pages (n : Nat) (x : Option CollCtx) : (s.setCollCtx n x).pages = s.pages := rfl
@[simp] theorem State.setCollCtx_regs (n : Nat) (x : Option CollCtx) : (s.setCollCtx n x).regs = s.regs := rfl
@[simp] theorem State.setCollCtx_snaps (n : Nat) (x : Option CollCtx) : (s.setCollCtx n x).snaps = s.snaps := rfl
@[simp] theorem State.setCollCtx_portRegs (n : Nat) (x : Option CollCtx) : (s.setCollCtx n x).portRegs = s.portRegs := rfl
@[simp] theorem State.setCollCtx_latches (n : Nat) (x : Option CollCtx) : (s.setCollCtx n x).latches = s.latches := rfl
@[simp] theorem State.setCollCtx_holds (n : Nat) (x : Option CollCtx) : (s.setCollCtx n x).holds = s.holds := rfl
@[simp] theorem State.setCollCtx_stops (n : Nat) (x : Option CollCtx) : (s.setCollCtx n x).stops = s.stops := rfl
@[simp] theorem State.setCollCtx_stopped (n : Nat) (x : Option CollCtx) : (s.setCollCtx n x).stopped = s.stopped := rfl
@[simp] theorem State.setCollCtx_mem (n : Nat) (x : Option CollCtx) : (s.setCollCtx n x).mem = s.mem := rfl
@[simp] theorem State.setCollCtx_poison (n : Nat) (x : Option CollCtx) : (s.setCollCtx n x).poison = s.poison := rfl
@[simp] theorem State.setCollCtx_way (n : Nat) (x : Option CollCtx) : (s.setCollCtx n x).way = s.way := rfl
@[simp] theorem State.setCollCtx_ctl (n : Nat) (x : Option CollCtx) : (s.setCollCtx n x).ctl = s.ctl := rfl
@[simp] theorem State.setCollCtx_eng (n : Nat) (x : Option CollCtx) : (s.setCollCtx n x).eng = s.eng := rfl
@[simp] theorem State.setCollCtx_str (n : Nat) (x : Option CollCtx) : (s.setCollCtx n x).str = s.str := rfl
@[simp] theorem State.setCollCtx_sch (n : Nat) (x : Option CollCtx) : (s.setCollCtx n x).sch = s.sch := rfl
@[simp] theorem State.setCollCtx_sec (n : Nat) (x : Option CollCtx) : (s.setCollCtx n x).sec = s.sec := rfl
@[simp] theorem State.setCollCtx_pwr (n : Nat) (x : Option CollCtx) : (s.setCollCtx n x).pwr = s.pwr := rfl
@[simp] theorem State.setCollCtx_svc (n : Nat) (x : Option CollCtx) : (s.setCollCtx n x).svc = s.svc := rfl
@[simp] theorem State.setCollCtx_suspects (n : Nat) (x : Option CollCtx) : (s.setCollCtx n x).suspects = s.suspects := rfl
@[simp] theorem State.setCollCtx_nextCause (n : Nat) (x : Option CollCtx) : (s.setCollCtx n x).nextCause = s.nextCause := rfl
@[simp] theorem State.setCollCtx_rte (n : Nat) (x : Option CollCtx) : (s.setCollCtx n x).rte = s.rte := rfl
@[simp] theorem State.setCollCtx_tier (n : Nat) (x : Option CollCtx) : (s.setCollCtx n x).tier = s.tier := rfl
@[simp] theorem State.setCollCtx_ckp (n : Nat) (x : Option CollCtx) : (s.setCollCtx n x).ckp = s.ckp := rfl
@[simp] theorem State.setCollCtx_cor (n : Nat) (x : Option CollCtx) : (s.setCollCtx n x).cor = s.cor := rfl
@[simp] theorem State.setCollCtx_drv (n : Nat) (x : Option CollCtx) : (s.setCollCtx n x).drv = s.drv := rfl
@[simp] theorem State.setCollCtx_cnv (n : Nat) (x : Option CollCtx) : (s.setCollCtx n x).cnv = s.cnv := rfl
@[simp] theorem State.setCollCtx_sri (n : Nat) (x : Option CollCtx) : (s.setCollCtx n x).sri = s.sri := rfl
@[simp] theorem State.setCollCtx_ldg (n : Nat) (x : Option CollCtx) : (s.setCollCtx n x).ldg = s.ldg := rfl
@[simp] theorem State.setCollCtx_rmo (n : Nat) (x : Option CollCtx) : (s.setCollCtx n x).rmo = s.rmo := rfl
@[simp] theorem State.setCollCtx_tol (n : Nat) (x : Option CollCtx) : (s.setCollCtx n x).tol = s.tol := rfl
@[simp] theorem State.setCollCtx_agg (n : Nat) (x : Option CollCtx) : (s.setCollCtx n x).agg = s.agg := rfl

end Sys2Proof.Machine
end

