-- ==== Sys2Proof/WellFormed.lean ====
section
/-! DEFINITION. Which commands their source can send at all: the lengths, page numbers and collections that the types of
the operands do not bound. The machine answers every command, well formed or not; a command that is not well formed stands
for nothing its source can send. -/
namespace Sys2Proof

/-- LEN counts at most 4,128 payload bytes (Table 14.5). -/
def Req.wf (r : Req) : Bool := decide (r.len ≤ 4128)

/-- The payload has the bytes the packet carries by its header, at most 8,192 (R258, R260). -/
def Packet.wf (p : Packet) : Bool :=
  decide (p.payload.length = Packet.carried p ∧ p.payload.length ≤ 8192)

/-- A flit group has at most 8 flits (R275). -/
def FlitGroup.wf (g : FlitGroup) : Bool := decide (g.flits.length ≤ 8)

/-- A spine frame has at most 8,278 bytes (R283). -/
def SpineFrame.wf (f : SpineFrame) : Bool := f.pkt.wf && decide (f.bytes ≤ 8278)

/-- The failed columns of a self-test are named once each. -/
def TestResult.wf (t : TestResult) : Bool := decide t.badCols.Nodup

/-- The page is in the page map (Table 2.3). -/
def pageWf (page : BitVec 12) : Bool := (Machine.rowOf page.toNat).isSome

/-- The request of a command that comes over a control port. -/
def Instr.req : Instr → Option Req
  | .cfgRd r _ | .cfgWr r _ _ | .pageEnable r _ _ | .pageDisable r _ _ | .pageHalt r _ _ _ | .pageSoftReset r _ _
  | .snapshotTake r _ | .errorCountClear r _ _ | .refEnWrite r _ | .streamDescriptorWrite r _ _ | .strDselWrite r _
  | .arm r _ | .close r _ | .replay r _ | .resync r _ | .streamEventPop r _ | .launchSet r _ _ | .launchWindowWrite r _
  | .partitionReset r _ | .inv r _ | .ledgerAlloc r _ | .ledgerFree r _ | .halfRemove r _ | .cxlIoAccess r _ _ _
  | .epochArm r _ | .epochDisarm r | .overrideWrite r _ | .faultClear r _ | .windowWrite r _ | .colKick r _ | .resume r _
  | .opeSwap r _ _ | .memRd r _ _ | .memWr r _ _ | .fwLoad r _ _ _ | .heartbeat r | .getKey r | .report r _
  | .sessionStart r _ _ | .sessionEnd r | .suspectClear r _ | .aggClear r _ | .checkpointArm r _ _ | .restore r _
  | .restoreAbort r _ | .scrub r _ | .managementHandover r _ | .swapCommand r | .bundleOpen r _ | .apply r | .revoke r
  | .debugAccess r _ | .powerStateRequest r _ | .devrst r _ | .bootGo r _ => some r
  | _ => none

/-- The packet that a command carries. -/
def Instr.packet : Instr → Option Packet
  | .frameFragment p | .loadHint p | .seraiDispatchBale p | .seraiCloseBale p | .returnBale p | .ackBale p
  | .packetInject _ p | .packetReceive _ p | .routerNotice _ p | .remoteRequest p | .remoteResponse p
  | .gatewayWriteFragment p | .tollgateUp p | .tollgateDown p | .twinDigest p | .chunkReceive p | .chunkNak p
  | .broadcastChunk p | .broadcastEnd p | .abort p | .ckWrite p | .ckAck p | .ckRead p | .ckData p => some p
  | _ => none

/-- What the other operands must meet. -/
def Instr.operandsWf : Instr → Bool
  | .pageEnable _ g _ | .pageDisable _ g _ | .pageHalt _ g _ _ | .snapshotTake _ g | .errorCountClear _ g _
  | .stopSequenceComplete g | .startTimeout g | .stopTimeout g | .snapshotComplete g => pageWf g
  | .pageSoftReset _ g t | .startSequenceComplete g t => pageWf g && t.wf
  | .event g b => pageWf g && decide (b.val < 4 ∨ 16 ≤ b.val)
  | .flitGroupReceive _ g => g.wf
  | .spineFrameReceive _ f => f.wf
  | .memWr r _ d => decide (r.len = 8 + d.length)
  | .fwLoad r _ d _ => decide (r.len = 4 + d.length)
  | .startupStep ts => ts.all (fun t => pageWf t.page && t.res.wf) && decide (ts.map (·.page)).Nodup
  | .serviceBusWrite _ d => decide (d.length ≤ 4)
  | _ => true

/-- A command that its source can send. -/
def Instr.wf (i : Instr) : Bool := i.req.all Req.wf && i.packet.all Packet.wf && i.operandsWf

end Sys2Proof
end

