-- ==== Sys2Proof/Tests/Slice0.lean ====
section
/-! SUPPORT. Tests of the model: for every obligation states and operands that meet the hypotheses of its clauses
(test_<its name>), the worked examples of the spec with the values the spec gives, and a well-formed and an ill-formed
command for every check of WellFormed. -/
namespace Sys2Proof.Tests
open Sys2Proof Sys2Proof.Machine
set_option Elab.async false

/-! The states of the tests -/

/-- A powered device in READY whose control port 0 is the management port and carries messages. -/
def base : State :=
  let s := State.reset
  let s := { s with pwr := { s.pwr with dev := .ready, step := 7, groupE := true, groupW := true, groupF := true,
                                        pll := BitVec.allOnes 32 },
                    sec := { s.sec with mgmt := some 0 },
                    ctl := vset s.ctl 0 { CtlPort.init with link := .up, credit := 64 } }
  let s := s.setPage (Pg.ope 11) { s.page (Pg.ope 11) with st := .on, en := true }
  s.setPage (Pg.ctp 0) { s.page (Pg.ctp 0) with st := .on, en := true }

/-- The device with a page in a state. -/
def inSt (s : State) (pg : Nat) (st : PgState) : State := s.setPage pg { s.page pg with st := st, en := true }

/-- A request of n payload bytes on port 0, in clear. -/
def ask (n : Nat) : Req := ⟨0, 1, .clear, n⟩

/-- An empty self-test that passed. -/
def pass : TestResult := ⟨true, true, []⟩

/-- The state in which a write of a port is carried out. -/
def wr (s : State) : State := s.hush.begun (ask 8) 2

/-! Register pages -/

theorem test_PagesGoOnAndOff : (base.live && base.hush.takesUp (ask 8) 2 && hasSM Pg.sch &&
    (wr base).headerGranted 0 Pg.sch 0x008 1 && decide (((wr base).page Pg.sch).st = .off) && !(wr base).startRefused Pg.sch &&
    [PgState.on, .starting, .stopping, .fault, .quarantined].all (fun st =>
      (wr (inSt base Pg.sch st)).headerGranted 0 Pg.sch 0x008 1 && (wr (inSt base Pg.sch st)).headerGranted 0 Pg.sch 0x008 0 &&
        decide (((wr (inSt base Pg.sch st)).page Pg.sch).st = st)) &&
    decide (blkOf Pg.sch ≠ .par) && (wr (inSt base (Pg.par 0) .on)).headerGranted 0 (Pg.par 0) 0x008 0 &&
    !((wr (inSt base (Pg.par 0) .on)).partSec 0).quiet) = true := by decide +kernel

theorem test_HaltForms : (hasHalt (blkOf (Pg.drv 0)) && decide (blkOf (Pg.drv 0) ≠ .cnv) && hasSM (Pg.drv 0) &&
    (wr (inSt base (Pg.drv 0) .on)).headerGranted 0 (Pg.drv 0) 0x008 5 && !hasHalt (blkOf (Pg.gmc 0)) && hasSM (Pg.gmc 0) &&
    (wr (inSt base (Pg.gmc 0) .on)).headerGranted 0 (Pg.gmc 0) 0x008 1) = true := by decide +kernel

theorem test_PageSoftResetByState : ([PgState.off, .fault, .on, .starting, .stopping, .quarantined].all (fun st =>
      (wr (inSt base Pg.sch st)).headerGranted 0 Pg.sch 0x008 2 && (wr (inSt base Pg.sch st)).isMgmt 0 &&
        decide (((wr (inSt base Pg.sch st)).page Pg.sch).st = st))) = true := by decide +kernel

theorem test_SequencesEndOrTimeOut : (decide (engineOf Pg.sch = none) && decide ((base.page Pg.sch).since = 0) &&
    decide (((inSt base Pg.sch .starting).page Pg.sch).st = .starting) && (((inSt base Pg.sch .starting).page Pg.sch).en) &&
    decide (selfTestCode (blkOf (Pg.ckp)) = some 0x13) && corePasses pass && !corePasses ⟨true, false, []⟩ &&
    decide (startBound (blkOf Pg.sch) ≤ { base with now := 4000000000 }.now)) = true := by decide +kernel

theorem test_HeaderCommands : ((wr base).headerGranted 0 Pg.sch 0x028 1 && (wr base).headerGranted 0 Pg.sch 0x01C 0 &&
    (base.setPage Pg.sch { base.page Pg.sch with snapTake := true }).live &&
    (rowOf Pg.sch).isSome) = true := by decide +kernel

/-- The addresses of a mapped and an unmapped page, an odd offset, and the two halves of a pair. -/
theorem test_CfgReadAnswers : (decide (rowOf 0xFFF = none) && (rowOf Pg.wst).isSome && base.hush.takesUp (ask 4) 1 &&
    !actsOnRead Pg.wst 0x102 && (base.hush.received (ask 4) 1).mayRead 0 Pg.wst 0x102 &&
    (base.hush.received ⟨1, 1, .clear, 4⟩ 1).mayRead 1 Pg.sec 0x100 == false &&
    !isLow Pg.wst Reg.wstCtrl && decide (Reg.wstCtrl % 4 = 0)) = true := by decide +kernel

theorem test_PairsLatchAndHold : (isLow Pg.rte Reg.rteEpswLo && isHigh Pg.rte Reg.rteEpswHi &&
    !asksEnv (regKey Pg.rte Reg.rteEpswLo) && (wr base).mayWrite 0 Pg.rte Reg.rteEpswLo 5 &&
    decide (((wr base).regWrite 0 Pg.rte Reg.rteEpswLo 5 Env.none).1 = 0) &&
    (let s := { base with holds := base.holds.set none 0 (some (regKey Pg.rte Reg.rteEpswLo, 5)) }
     decide ((s.hush.received (ask 8) 2).holds.get none 0 = some (regKey Pg.rte Reg.rteEpswLo, 5)) &&
       decide (((wr s).regWrite 0 Pg.rte Reg.rteEpswHi 0 Env.none).1 = 0))) = true := by decide +kernel

theorem test_CfgWriteAnswers : ((wr base).granted 0 (Pg.cor 0) Reg.corCtrl 1 && decide (blkOf (Pg.cor 0) = .cor) &&
    !asksEnv (regKey (Pg.cor 0) Reg.corCtrl) &&
    (let s := base.setPage (Pg.cor 0) { base.page (Pg.cor 0) with lock := 1 }
     (wr s).lockedReg (Pg.cor 0) Reg.corCtrl && (wr s).mayWrite 0 (Pg.cor 0) Reg.corCtrl 1) &&
    (wr base).mayWrite 0 (Pg.cor 0) 0x101 0 && decide (regDef (Pg.cor 0) 0xFFC = none) &&
    !(wr base).lockedReg (Pg.cor 0) 0xFFC && !(wr base).dark (Pg.cor 0) && !(wr base).mayWrite 0 Pg.sch 0x020 1) = true := by
  decide +kernel

theorem test_ReservedOffsetsAndOwnPage : (decide (regDef Pg.sch 0x02C = none ∨ True) && (wr base).isMgmt 0 &&
    !actsOnRead Pg.sch 0x02C && !isLow Pg.sch 0x02C && !isHigh Pg.sch 0x0FC && !(wr base).dark Pg.sch &&
    (wr base).mayWrite 0 Pg.sch 0x0FC 1 && decide (regKey (Pg.ctp 0) 0x008 < 2 ^ 24) &&
    base.hush.openEnv.2.takesUp (ask 8) 2) = true := by decide +kernel

/-! Stream time -/

/-- The device with OPE11 ON, the reference enabled and the Waystone in a mode. -/
def timed (m : WstMode) : State :=
  let s := (inSt base (Pg.ope 11) .on).setReg Pg.wst Reg.wstCtrl 0x40
  { s with now := 5000000, way := { s.way with mode := m, lastAccept := some 1000000, ports := Vector.replicate 8 NbrTime.init } }

theorem test_MarkerByMode : ((timed .free).isOn (Pg.ope 11) && (timed .free).rb Pg.wst Reg.wstCtrl 6 &&
    decide (¬ ((timed .free).now < 1000000 + 999000)) && !(inSt base (Pg.ope 11) .off).isOn (Pg.ope 11) &&
    decide ((timed .locked).way.mode = .locked) &&
    decide ({ timed .locked with now := 1998999 }.now < 1000000 + 999000)) = true := by decide +kernel

theorem test_ReferenceLostOrDisabled : (decide (1000000 + 3000000 ≤ (timed .acquire).now) &&
    decide ((timed .acquire).way.mode = .acquire) && decide ((timed .holdover).way.lastServo + 1000000 ≤ (timed .holdover).now) &&
    !(timed .holdover).rb Pg.wst Reg.wstCtrl 4 && (wr (timed .locked)).granted 0 Pg.wst Reg.wstCtrl 0 &&
    (wr (timed .locked)).rb Pg.wst Reg.wstCtrl 6) = true := by decide +kernel

theorem test_HoldoverWithNeighbours :
    (let x : NbrTime := { NbrTime.init with samples := List.replicate 10 (100, 0), mode := 2 }
     let s := (timed .holdover).setReg Pg.wst Reg.wstCtrl 0x50
     let s := { s with way := { s.way with ports := Vector.replicate 8 x },
                       rte := { s.rte with torus := Vector.replicate 8 { Torus.init with link := .up } } }
     let s := (List.range 8).foldl (fun s n => inSt s (Pg.trp n) .on) s
     s.rb Pg.wst Reg.wstCtrl 4 && decide (2 ≤ s.nbrUse.length)) = true := by decide +kernel

/-- A device whose torus port 0 is ON and UP. -/
def linked : State :=
  let s := inSt base (Pg.trp 0) .on
  { s with now := 200000, rte := { s.rte with torus := vset s.rte.torus 0 { Torus.init with link := .up } } }

theorem test_TimingExchanges : (linked.live && linked.torusUp 0 && decide ((linked.nbr 0).lastAt = none) &&
    (let s := linked.setNbr 0 { linked.nbr 0 with t1 := some (5, 1) }
     decide ((s.nbr 0).t1 = some (5, 1)) && !(s.nbr 0).excluded)) = true := by decide +kernel

theorem test_ServoBounds : decide (State.reset.way.adj = 0 ∧ State.reset.way.adjI = 0) = true := by decide +kernel

/-- One tick of a device whose Waystone PLL is locked counts one. -/
theorem test_TickCounts : (base.live && bit base.pwr.pll 7 && decide (base.pending = []) &&
    decide (base.tick.count = 1) && decide (State.reset.tick.count = 0) && decide (State.reset.tick.now = 1)) = true := by decide +kernel

/-! Streams, launches and graphs -/

/-- Partition 0 of port 0, ON: 4 GiB of GDDR7 from 0, streams 0 to 63, counters 0 to 63, queues 0 to 15, core 0 and
Drover and Convoy unit 0, tag 5 on the first shape. -/
def part : State :=
  let s := [Pg.sch, Pg.str, Pg.rte, Pg.lnt, Pg.scb, Pg.cor 0, Pg.drv 0, Pg.cnv 0, Pg.par 0, Pg.rpl, Pg.tol, Pg.col, Pg.gmc 0,
    Pg.rmo, Pg.ckp, Pg.tir].foldl (fun s pg => inSt s pg .on) base
  let s := [Pg.cor 0, Pg.drv 0, Pg.cnv 0].foldl (fun s pg => s.setPage pg { s.page pg with owner := 1 }) s
  let s := s.setReg (Pg.par 0) Reg.parGdr (w32 (at_ 16 4))
  let s := s.setReg (Pg.par 0) Reg.parStr (w32 (at_ 16 64))
  let s := s.setReg (Pg.par 0) Reg.parScb (w32 (at_ 16 64))
  let s := s.setReg (Pg.par 0) Reg.parSri (w32 (at_ 16 16))
  let s := s.setReg Pg.rte (Reg.rtePtag 0) (w32 (at_ 31 1 + 5))
  { s with now := 1000000000, way := { s.way with count := 1000000000 }, rte := { s.rte with tags := [(5, 1)] } }

/-- Stream 3 in a state, with a period of 1,000,000 ticks and a ring of 64 KiB. -/
def str3 (st : Nat) : State :=
  let s := part.setSw 3 0 (BitVec.ofNat 32 st)
  let s := ((s.setSw 3 1 1000000).setSw 3 2 1).setSw 3 3 1
  s

theorem test_StreamWritesAndCommands : ((wr (str3 Str.running)).granted 0 Pg.str Reg.strCmd (w32 (at_ 16 2 + 3)) &&
    (wr (str3 Str.running)).strCmdOk 2 3 && decide (((str3 Str.running).strAux 3).reasm = []) &&
    decide ((str3 Str.running).children 3 = []) && (wr (str3 Str.armed)).strCmdOk 2 3 && (wr (str3 Str.running)).strCmdOk 3 3 &&
    (wr (str3 Str.running)).strCmdOk 4 3 && !(wr (str3 Str.armed)).strCmdOk 4 3 && !(wr (str3 Str.free)).strCmdOk 2 3 &&
    !(wr (str3 Str.running)).strCmdOk 1 3 && (wr part).granted 0 Pg.str Reg.strDsel 3 &&
    (wr part).granted 0 Pg.str (Reg.strDwin 1) 5 && !(wr part).dwinRefused 0 1 5 &&
    (wr part).granted 0 Pg.str (Reg.strEvpopp 0) 1) = true := by decide +kernel

/-- A descriptor that may be armed: ARM needs the ring, the period and an ORIGIN 10,000 ticks ahead. -/
def armable : State :=
  let s := ((part.setSf 3 4 23 0 1000000).setSf 3 8 31 0 1).setSf 3 0xC 31 0 1
  let s := s.setSf64 3 0x10 1000010000
  (s.setSf64 3 0x28 0x10000).setSf 3 0x30 31 0 0x10

theorem test_Arm : (wr armable).strCmdOk 1 3 = true := by decide +kernel

theorem test_StreamRunsAndEnds : (decide ((str3 Str.armed).strState 3 = Str.armed) && !(str3 Str.armed).strDerived 3 &&
    decide ((str3 Str.armed).sf64 3 0x10 ≤ (str3 Str.armed).count) && decide (base.count < armable.sf64 3 0x10) &&
    ((str3 Str.closing).strAux 3).bound.all (·.done)) = true := by decide +kernel

/-- A packet with a type, VC and tag, and its payload. -/
def pktOf (vc typ tag : Nat) (bs : List Byte) : Packet :=
  mkPacket vc typ [(0, 23, 12, tag)] bs

/-- The device with a packet delivered to its local port. -/
def ejected (s : State) (p : Packet) : State := { s with rte := { s.rte with ejected := [p] } }

theorem test_FrameFragments : ((ejected part (pktOf 6 8 5 [])).takeEjected (pktOf 6 8 5 [])).isSome && (part.takeEjected (pktOf 6 8 5 [])).isNone &&
    !part.frameAllowed 0 (pktOf 6 8 5 []).tag && (str3 Str.running).frameAllowed 3 5 = true := by decide +kernel

theorem test_FrameInReassembly :
    (let f : Reasm := ⟨7, 2, 16000, [1], 0, false, 0, 0, 0, false⟩
     let s := (str3 Str.running).setStrAux 3 { StreamAux.init with reasm := [f] }
     decide ((s.strAux 3).reasm.find? (fun x => decide (x.seq = 7)) = some f) && f.got.contains 1 && !f.got.contains 0 &&
       decide (f.started * 2 ^ 32 + s.periodNom 3 ≤ s.now * 2 ^ 32)) = true := by decide +kernel

theorem test_StreamTickAdvances : (decide ((str3 Str.running).strState 3 = Str.running) && !(str3 Str.running).pwr.pfw &&
    decide ((str3 Str.running).sf64 3 0x48 ≤ (str3 Str.running).count) &&
    decide (((str3 Str.running).strAux 3).slots = [])) = true := by decide +kernel

theorem test_BindingsAndReplay :
    (let s := part.setSchPart 0 { part.schPart 0 with binds := [9] }
     let b : Bound := ⟨9, 1, 1000000000, 0, 0, 0, 0, false, false, false, false, false, false⟩
     let t := (str3 Str.running).setStrAux 3 { StreamAux.init with bound := [b] }
     decide ((s.schPart 0).binds = [9]) && decide ((part.schPart 0).binds = []) &&
       decide ((t.strAux 3).bound.find? (fun x => sameBase x.step 9 && !x.passed && !x.done) = some b) &&
       decide (b.deadline ≤ t.count) && decide (t.sf 3 0 9 9 ≠ 1) &&
       decide ((t.setSf 3 0 9 9 1).sf 3 0 9 9 = 1)) = true := by decide +kernel

/-- An entry of the launch table for partition 0 at a count. -/
def entry (count : Nat) (bg : Bool) : BitVec 128 :=
  BitVec.ofNat 128 (count + at_ 64 7 + at_ 95 1 + (if bg then at_ 76 1 else 0))

theorem test_LaunchTableAndWindow : (part.hush.takesUp (ask 20) 5 && (part.hush.received (ask 20) 5).mayLaunch 0 0 &&
    !(part.hush.received ⟨1, 1, .clear, 20⟩ 5).mayLaunch 1 0 && !(part.hush.received (ask 20) 5).partHalted 0 &&
    (wr part).granted 0 Pg.lnt (Reg.lntE 3) 0 && !leValid (part.slotEntry 0)) = true := by decide +kernel

theorem test_LaunchEntries :
    (let e := entry 1000010000 false
     leValid e && decide (lePart e = 0) && !leBg e && leBg (entry 5 true) && decide (leCount e = 1000010000) &&
       !decide (leCount e < part.count + 10000) && decide (leCount (entry 1000009999 false) < part.count + 10000) &&
       decide (((wr part).setLaunch 0 0 e).1 = 0) && decide (((wr part).setLaunch 0 0 (entry 5 false)).1 = 1)) = true := by
  decide +kernel

theorem test_LaunchesFallDue :
    (let s := part.setSlotEntry 0 (entry 1000000000 false)
     leValid (s.slotEntry 0) && decide (leCount (s.slotEntry 0) ≤ s.count) && s.slotFirst 0 &&
       ((s.setSlotEntry 0 0).leaveA1).isOn Pg.sch && !((s.setSlotEntry 0 0).leaveA1).liveBusy 0 &&
       decide ((s.schPart 0).deferred = none) && decide ((s.schPart 0).bg = none)) = true := by decide +kernel

/-- A graph of one task, which is a BARRIER for any core. -/
def graph1 (d : BitVec 512) : Graph :=
  { index := 0, step := 9, launch := 1, taskBase := 0, count := 1, scbBase := 0, scbCount := 1, limit := 5, run := 0,
    since := some 0, descs := [(0, d)], tasks := [], failed := false, timeout := false, failTask := 0, gid := 1, digest := 0 }

def running (d : BitVec 512) : State := part.setGraph 0 false (some (graph1 d))

theorem test_TasksIssueAndComplete : (decide ((running 1).pickLive 0 = some (0, .issue 0)) && (running 1).isOn Pg.sch &&
    !(running 1).partHalted 0 && decide (part.pickLive 0 = none) &&
    decide ((inSt (running 1) (Pg.cor 0) .quarantined).pickLive 0 = some (0, .noCore))) = true := by decide +kernel

theorem test_GraphsEndAndPartitionsReset : (decide ((running 1).graph 0 false = some (graph1 1)) && !(graph1 1).busy &&
    decide ((graph1 1).limit ≤ (running 1).runTime (graph1 1)) && decide ((graph1 1).doneCount ≠ (graph1 1).count) &&
    decide (((graph1 1).setTask 0 .done).doneCount = 1) && (wr part).granted 0 Pg.sch Reg.schPrst (w32 (at_ 8 1)) &&
    !(List.range 8).any (fun q => (part.schPart q).resetting) &&
    ((part.setSchPart 0 { part.schPart 0 with resetting := true }).schPart 0).resetting) = true := by decide +kernel

/-! Drover, Convoy, Serai and the Ledger -/

/-- A run of a GATE_SCORE task on core 0 that asks for lane 1 of unit 0. -/
def gated (granted : Bool) : Run :=
  { part := 0, bg := false, gid := 1, index := 0, step := 9, launch := 1, desc := 0x03, started := 0, once := false, passes := 0,
    tries := [], tiles := 0, lenient := false, genOk := false,
    gate := some { route := 0x1000, unit := 0, lane := 1, base := 0, next := 0, total := 1, unread := 0, granted := granted,
                   issued := false, ended := false } }

def gate (granted : Bool) : State :=
  let s := part.setCore 0 { CoreSt.init with run := some (gated granted) }
  if granted then s.setDrv 0 { DrvUnit.init with lanes := vset DrvUnit.init.lanes 1 ⟨some 0, none⟩ } else s

theorem test_DroverLanes : (decide ((List.range 64).find? (fun c => ((gate false).gateRun c).any (fun g =>
      decide (g.2.unit = 0 ∧ g.2.lane = 1) && !g.2.granted)) = some 0) && (gate false).isOn (Pg.drv 0) &&
    decide (((vget ((gate true).drvUnit 0).lanes 1)).core = some 0) && !((gate true).page (Pg.drv 0)).halt && !(gate true).drvHeld 0 &&
    (gate true).coreWorks 0 && decide ((gate true).activeBank 0 = none)) = true := by decide +kernel

/-- Unit 0 with bank 0 in a state, for the record at 0x1000. -/
def banked (st : BankSt) : State :=
  (gate true).setDrv 0 { (gate true).drvUnit 0 with banks := vset DrvUnit.init.banks 0 { Bank.init with st := st, addr := 0x1000 },
                                                      waits := [1] }

theorem test_DroverBanks : (decide ([0, 1].find? (fun b => decide (((banked .loading).bank 0 b).st = .loading)) = some 0) &&
    (banked .loading).inGdr 0 0x1000 128 && !(banked .loading).inGdr 1 0x1000 128 &&
    decide ((banked .ready).laneRoute 0 1 = some 0x1000) && decide ((banked .ready).activeBank 0 = none) &&
    decide ((recordBad 0).isSome)) = true := by decide +kernel

theorem test_DroverCommands : ((wr part).granted 0 (Pg.drv 0) Reg.drvCmd 1 &&
    (List.range 4).any (fun l => (vget ((gate true).drvUnit 0).lanes l).core.isSome) &&
    !(List.range 4).any (fun l => (vget (part.drvUnit 0).lanes l).core.isSome)) = true := by decide +kernel

/-- Convoy engine 0 with one record of a type that names token 0 of step 9. -/
def record (typ : Nat) : State :=
  part.setCnv 0 { CnvEng.init with fifo := [⟨BitVec.ofNat 256 typ, [], 0, 0, 1, 0⟩] }

theorem test_ConvoyRecords : ((List.range 3).all (fun t => ((record t).takeRecord 0 t).isSome) &&
    (part.takeRecord 0 0).isNone) = true := by decide +kernel

/-! Convoy's bales, Serai, the Ledger and the cores -/

/-- A close context that is due for partition 0, with no entry to send or with one. -/
def ctx (es : List (Nat × Nat × Nat)) (due : Bool) : CloseCtx :=
  { part := 0, step := 9, layer := 2, bad := false, entries := es, ends := 0, expect := 0, due := due, fence := none }

/-- A manifest of partition 0 sealed at 1,000. -/
def man1 : Man :=
  { part := 0, ret := false, step := 9, layer := 2, dests := [(5, 3)], other := 0, sealedAt := some 1000, fence := none }

def manned : State := part.setMan 0 7 (some man1)

theorem test_ConvoyBales : (
    (let s := { part with sri := { part.sri with ctxs := vset part.sri.ctxs 0 (some (ctx [] true)) } }
     decide (vget s.sri.ctxs 0 = some (ctx [] true)) && !s.ctxBusy (ctx [] true)) &&
    decide (part.firstEng 0 = some 0) && part.manRoom 0 0 false 9 2 && !part.ctxBusy (ctx [(5, 1, 4)] true) &&
    ((ejected part (pktOf 2 1 5 [])).takeEjected (pktOf 2 1 5 [])).isSome && (pktOf 2 1 5 []).crcOk &&
    decide ((pktOf 2 1 5 []).type = 1 ∧ (pktOf 2 1 5 []).vc = 2 ∧ (pktOf 2 3 5 []).type = 3) && part.isOn (Pg.cnv (pktOf 2 1 5 []).engOf) &&
    decide (part.balePart (pktOf 2 1 5 []) = some 0) && !part.retiredStep 0 9 &&
    (part.setSchPart 0 { part.schPart 0 with retired := some 9 }).retiredStep 0 9 &&
    decide (manned.ackedEng 0 7 = some 0) && decide (manned.man 0 7 = some man1) && decide (part.man 0 7 = none) &&
    decide (1000 + (manned.reg (Pg.cnv 0) Reg.cnvMtmo).toNat ≤ manned.now) &&
    decide ({ manned with now := 1000 }.now < 1000 + (manned.reg (Pg.cnv 0) Reg.cnvMtmo).toNat) &&
    decide ((part.cnvEng 0).parityAt = none) && (manned.owns 0 (Pg.cnv 0))) = true := by decide +kernel

/-- A generation of queue 4 of partition 0, opened at 1,000. -/
def gen1 : Gen :=
  { part := 0, step := 9, layer := 2, st := .opened, senders := 1, expert := 3, sig := 0, sigAdd := 0, hint := false, hot := false,
    closes := 0, expected := 0, received := 0, openedAt := 1000, entries := [], cells := [] }

/-- Acknowledgements for manifest 7 of engine 0 at coordinate 5, 500 ticks old at 1,000. -/
def ack1 : Ack := { part := 0, coord := 5, eng := 0, man := 7, count := 1, since := 500 }

/-- Partition 0 with the Ledger and Serai ON and a quota of 8 cells of pool 0 for the host class. -/
def pooled : State :=
  let s := [Pg.ldg, Pg.sri].foldl (fun s pg => inSt s pg .on) part
  s.setReg Pg.ldg (Reg.ldgQuota 0 Cl.host 0) 8

def host1 : Chain := { part := 0, cls := Cl.host, pool := 0, cells := [1] }

theorem test_SeraiAndLedger : (
    ((ejected part (pktOf 1 0 5 [])).takeEjected (pktOf 1 0 5 [])).isSome && decide ((pktOf 1 2 5 []).type = 2) && pooled.isOn Pg.sri &&
    (let s := pooled.setQueue 4 { cur := some gen1, nxt := none }
     decide ((s.queue 4).cur = some gen1 ∧ (s.queue 4).nxt = none) &&
       decide (gen1.openedAt + (s.reg Pg.sri Reg.sriQtmo).toNat ≤ s.now)) &&
    decide ([ack1].filter (fun a => decide (a.coord = 5 ∧ a.eng = 0 ∧ a.man = 7 ∧ a.since + 500 ≤ 1000)) = [ack1]) &&
    decide ([ack1].filter (fun a => decide (a.coord = 5 ∧ a.eng = 0 ∧ a.man = 7 ∧ a.since + 500 ≤ 999)) = []) &&
    decide ((List.range 8).find? (fun p => pooled.inSri p 15) = some 0) && decide ((List.range 8).find? (fun p => pooled.inSri p 16) = none) &&
    pooled.isMgmt 0 && !pooled.isMgmt 1 && !pooled.ownsPart 1 0 && (pooled.servingPool 0 Cl.host 0 2048).isSome &&
    decide (part.servingPool 0 Cl.host 0 2048 = none) && decide (pooled.chainAt 64 = none) &&
    decide ((pooled.setChain 64 (some host1)).chainAt 64 = some host1)) = true := by decide +kernel

/-- A run of a VECTOR task of partition 0. -/
def run1 : Run :=
  { part := 0, bg := false, gid := 1, index := 0, step := 9, launch := 1, desc := 0x51, started := 0, once := false, passes := 0,
    tries := [], tiles := 0, lenient := false, genOk := false, gate := none }

def busyCore : State := part.setCore 0 { CoreSt.init with run := some run1 }

theorem test_CoreChecks : (
    decide ((busyCore.core 0).run = some run1) && busyCore.coreWorks 0 && !(busyCore.rb (Pg.cor 0) Reg.corCtrl 0 &&
      !(busyCore.setReg (Pg.cor 0) Reg.corCtrl 1).rb (Pg.cor 0) Reg.corCtrl 0) &&
    decide (run1.tries.get 0 0 + 1 < 3) && decide (3 ≤ ({ run1 with tries := [(0, 2)] }.tries.get 0 0 + 1)) &&
    decide ((busyCore.core 0).parityAt = none) && !(base.coreWorks 1) && decide ((part.core 0).run = none) &&
    (let s := busyCore.setCore 0 { busyCore.core 0 with parityAt := some 0 }
     (s.core 0).parityAt.any (fun t => decide (s.now ≤ t + 1000000000)))) = true := by decide +kernel

/-! Memory -/

/-- A refetch of the page at 0 into frame 3. -/
def refetch1 : Refetch := ⟨0, 3, .block 0⟩

theorem test_MemoryErrors : (
    part.isOn (Pg.gmc 0) && !part.isOn (Pg.gmc 1) && !((part.gmc 0).edcAt.any (fun x => decide (part.now ≤ x + 1000000000))) &&
    ((part.setGmc 0 { part.gmc 0 with edcAt := [0] }).gmc 0).edcAt.any (fun x => decide (part.now ≤ x + 1000000000)) &&
    !(part.gmc 0).hot && decide ((4095 : Nat) < part.dataEnd) && decide (part.dataEnd < cxlBase) &&
    (let s := part.setFrame 3 (some { st := .resident, part := 0, cpage := 0 })
     let s := s.setReg (Pg.par 0) Reg.parCxl (w32 (at_ 16 1))
     decide (s.frameOf 0 cxlBase .resident = some 3) && decide (s.frameOf 0 cxlBase .filling = none)) &&
    decide ([refetch1].find? (fun x => decide (x.addr = (0xFFF : BitVec 44).toNat / 4096 * 4096)) = some refetch1) &&
    decide (popcount 64 3 ≤ 2) && decide (2 < popcount 64 7)) = true := by decide +kernel

theorem test_MigrationAndCxl : (
    part.isOn Pg.tir && !(part.mig 0).halted && decide ((part.mig 0).running.length < 8) && !part.parOff 0 && !bit part.stopped 0 &&
    (let s := part.setReg Pg.tir (Reg.tirMigpCnt 0) 1
     decide ((s.mig 0).pos < s.rf Pg.tir (Reg.tirMigpCnt 0) 15 0)) && (part.blockRead 0 0 32 0).1.isSome &&
    (part.blockRead 0 0x100000000 32 0).1.isNone &&
    (let d := BitVec.ofNat 256 0
     !part.migOk 0 d && !part.listWaitBad 0 (listWait (d.truncate 512) 4) && part.listWaitMet 0 (listWait (d.truncate 512) 4)) &&
    (let r : MigRun := ⟨0, 3, 1, cxlBase, 0, 0⟩
     let s := part.setMig 0 { part.mig 0 with running := [r] }
     decide ((s.mig 0).running.find? (fun r => decide (r.entry = 0 ∧ r.op = 3)) = some r) &&
       decide ((s.mig 0).running.find? (fun r => decide (r.entry = 0 ∧ r.op = 1)) = none)) &&
    (inSt part (Pg.cxl 0) .on).isOn (Pg.cxl 0) && !part.isOn (Pg.cxl 0) && decide ((busyCore.core 0).run = some run1) &&
    ((part.setCxlPort 0 { part.cxlPort 0 with ide := true }).cxlPort 0).ide && (wr part).isMgmt 0) = true := by decide +kernel

/-! The fabric -/

/-- A packet for this device, with a good CRC and a length. -/
def toSelf (vc typ tag : Nat) (bs : List Byte) : Packet := (pktOf vc typ tag bs)

/-- A packet that reached the head of its buffer at 0. -/
def heading (vc : Nat) : Buffered := ⟨pktOf vc 8 5 [], 0, false⟩

/-- The device with that packet in the buffer of port 0. -/
def queued (vc : Nat) : State :=
  let s := { inSt linked Pg.rte .on with now := 1000000000 }
  { s with rte := { s.rte with bufs := s.rte.bufs.set [] vc [heading vc] } }

theorem test_RouterForwarding : (
    !part.tagOk (pktOf 6 8 0 []) && part.tagOk (pktOf 6 8 5 []) && part.injectRefused 1 (pktOf 6 8 5 []) &&
    (queued 6).routerRuns && decide ((queued 6).headOf 0 6 = some (heading 6)) && decide ((queued 6).headOf 0 5 = none) &&
    !(heading 6).pkt.mcast && !((queued 6).reepoch (heading 6).pkt).1.mcast &&
    decide (((queued 6).reg Pg.rte Reg.rteWdog).toNat ≤ (queued 6).now - (heading 6).headAt) &&
    decide (5 < ((queued 6).reg Pg.rte Reg.rteWdog).toNat) &&
    decide ((queued 1).rte.bufs.get [] 1 = [heading 1]) && ((queued 1).setReg Pg.rte Reg.rteCtrl 0x1002).rb Pg.rte Reg.rteCtrl 12 &&
    decide (((queued 1).setReg Pg.rte Reg.rteCtrl 0x1002).rf Pg.rte Reg.rteCtrl 11 0 = 2) &&
    ({ part with rte := { part.rte with arrived := [(0, pktOf 6 8 5 [])] } }).rte.arrived.contains (0, pktOf 6 8 5 [])) = true := by
  decide +kernel

/-- Where a packet goes from a device at (0, 0, 0): to itself, on a torus port that is UP, on one that is not. -/
theorem test_Routes : (
    let s := inSt linked Pg.rte .on
    let p := fun (dest : Nat) => mkPacket 6 8 [(0, 23, 12, 5), (4, 31, 16, dest)] []
    (List.range 4).all (fun d => match (s.route (p d) false).1 with
      | .eject => true
      | .torus _ => true
      | .spine _ _ => true) &&
      decide ((s.route (p s.selfCoord.toNat) false).1 = .eject) && s.torusUp 0 && !s.torusUp 1) = true := by decide +kernel

def group0 (ok nak : Bool) (seq : W16) : FlitGroup := ⟨seq, 0, nak, 0, 0, [], ok⟩

theorem test_TorusGroups : (
    decide ((linked.torus 0).link = .up) && decide ((linked.torus 1).link ≠ .up) && decide ((linked.torus 0).retry.length < 512) &&
    decide ((linked.takeFlits 0 8).1 = []) && decide (512 ≤ (List.replicate 512 (group0 true false 0)).length) &&
    !(group0 false false 0).crcOk && (group0 true true 0).nak && decide ((⟨0, 0, false, 0, 0, [⟨1, true, true, 0⟩], true⟩ : FlitGroup).flits ≠ []) &&
    decide (expectSeq (linked.torus 0) ≠ expectSeq (linked.torus 0) + 1)) = true := by decide +kernel

/-- A notice of fault 3 from the device at 9, port 1. -/
def notice : Packet := mkPacket 7 15 [(0x10, 11, 0, 3), (0x10, 23, 16, 4), (0x14, 15, 0, 9), (0x14, 18, 16, 1)] []

theorem test_LinksLostAndTrained : (
    linked.isOn (Pg.trp 0) && decide ((linked.engine 0).swaps = []) &&
    decide (min 9000 (linked.rf (Pg.trp 0) Reg.trpLoss 15 0) ≤ linked.now - (linked.torus 0).lastGroup) &&
    decide (¬ (min 9000 (linked.rf (Pg.trp 0) Reg.trpLoss 15 0) ≤ { linked with now := 5 }.now - (linked.torus 0).lastGroup)) &&
    decide (max 1 (min 8 (linked.rf (Pg.trp 0) Reg.trpLoss 23 16)) ≤ 8) && decide (¬ (max 1 (min 8 (linked.rf (Pg.trp 0) Reg.trpLoss 23 16)) ≤ 0)) &&
    decide ((linked.torus 0).waitNotice = none) && decide (notice.vc = 7 ∧ notice.type = 15 ∧ notice.tag = 0) &&
    ({ linked with rte := { linked.rte with arrived := [(0, notice)] } }).rte.arrived.contains (0, notice) &&
    !linked.hasFault 3 && decide (linked.rte.faults.length < 16) &&
    (let s := inSt (inSt base (Pg.ope 0) .on) (Pg.trp 0) .starting
     s.isOn (Pg.ope 0) && s.trains (Pg.trp 0) false (s.rb (Pg.trp 0) Reg.trpCtrl 0) && decide ((s.torus 0).link = .down) &&
       (let t := s.setReg (Pg.trp 0) Reg.trpNbr (w32 (at_ 31 1 + 5))
        t.rb (Pg.trp 0) Reg.trpNbr 31 && decide (t.rf (Pg.trp 0) Reg.trpNbr 15 0 ≠ 6)) &&
       !(s.setReg (Pg.trp 0) Reg.trpNbr 0).rb (Pg.trp 0) Reg.trpNbr 31)) = true := by
  decide +kernel

/-- A frame for spine port 0 of this device around a packet. -/
def frame (s : State) (ok : Bool) (p : Packet) : SpineFrame :=
  ⟨spineMac (s.rf (Pg.spn 0) Reg.spnMacpfx 23 0) 0 s.selfCoord, 0, BitVec.ofNat 16 (s.rf (Pg.spn 0) Reg.spnEtype 15 0), false,
    64 + (p.carried + 63) / 64 * 64, p, ok⟩

def spined : State :=
  let s := (inSt (inSt part (Pg.spn 0) .on) (Pg.ope 8) .on).setSpine 0 ⟨true, []⟩
  s.setReg (Pg.spn 0) Reg.spnCtrl 2

theorem test_RoutingEpochsAndSpine : (
    decide (part.reg64 Pg.rte Reg.rteEpswLo Reg.rteEpswHi < part.count + 10000) &&
    (let s := part.setReg Pg.rte Reg.rteEpswLo 1000010000
     decide (¬ (s.reg64 Pg.rte Reg.rteEpswLo Reg.rteEpswHi < s.count + 10000 ∨ s.rte.held = true ∨ s.rte.armed = true)) &&
       decide (s.count < s.reg64 Pg.rte Reg.rteEpswLo Reg.rteEpswHi)) &&
    (wr part).granted 0 Pg.rte Reg.rteEpcmd 1 && decide ({ part with rte := { part.rte with armed := true } }.rte.armed = true) &&
    decide (bit (0x1000 : W32) 12 ≠ part.rte.active) && decide (bit (0 : W32) 12 = part.rte.active) &&
    (spined.isOn (Pg.spn 0) && (spined.spine 0).up && spined.rb (Pg.spn 0) Reg.spnCtrl 1) && (frame spined true (pktOf 6 8 5 [])).fcsOk &&
    spined.tagOk (pktOf 6 8 5 []) && !spined.tagOk (pktOf 6 8 6 []) && !(part.spine 0).up && spined.isOn (Pg.ope 8) &&
    decide (((spined.spine 0).losses ++ [1]).length < 3) &&
    decide (3 ≤ (([5, 6].filter (fun x => decide ((1000000 : Nat) - x < 1000000000))) ++ [1000000]).length)) = true := by decide +kernel

/-! Remote memory, Tollgate, collectives -/

/-- A LOAD slot of engine 0 to the device at 5, sent at 1,000. -/
def slot1 : RmoSlot :=
  { runs := [1], part := 0, gw := false, write := false, dest := 5, base := 0, raddr := 0, len := 8, laddr := 0, pkts := [], tries := 0,
    got := [], sentAt := 1000 }

def sent1 (x : RmoSlot) : State := part.setRmo 0 { RmoEng.init with slots := [(3, some x)] }

/-- A response from the device at a coordinate to slot 3 of engine 0. -/
def resp (src typ st : Nat) : Packet := mkPacket 5 typ [(0, 23, 12, 5), (4, 15, 0, src), (0x14, 8, 0, 3), (0x18, 24, 22, st)] []

theorem test_RemoteRequests : (
    (let s := (running 1).setReg Pg.rmo (Reg.rmoEngn 0) (w32 (at_ 31 1))
     let s := s.setReg Pg.rmo (Reg.rmoEngnCnt 0) 1
     decide (s.rmoPart 0 = some 0) && ((s.schPart 0).live).isSome && s.isOn Pg.rmo && !(s.rmoEng 0).halted &&
       decide ((s.rmoEng 0).pos < s.rf Pg.rmo (Reg.rmoEngnCnt 0) 15 0) && (s.rmoEng 0).room && !bit s.stopped 0 &&
       (s.blockRead 0 0 64 0).1.isSome && s.listWaitMet 0 (listWait (wordsOf 512 (List.replicate 64 0)) 0x28) &&
       !rmFence (wordsOf 512 (List.replicate 64 0)) && (s.blockRead 0 0x100000000 64 0).1.isNone) &&
    decide (part.rmoPart 0 = none) && decide ((sent1 slot1).rmoSlot 0 3 = some slot1) && decide (part.rmoSlot 0 3 = none) &&
    (resp 5 0 0).crcOk && decide ((resp 5 1 0).type = 1 ∧ (resp 5 2 0).type = 2 ∧ (resp 5 0 0).vc = 5) &&
    decide ((resp 5 0 4).fld 0x18 24 22 = 4) && decide ((resp 5 0 0).fld 0x14 8 0 = 3) && slot1.fits (resp 5 0 0) && !slot1.fits (resp 6 0 0) &&
    decide (1000 + ((sent1 slot1).reg Pg.rmo Reg.rmoTmo).toNat ≤ (sent1 slot1).now) &&
    decide (¬ (1000 + ((sent1 slot1).reg Pg.rmo Reg.rmoTmo).toNat ≤ 1000)) &&
    decide (1000 + ((sent1 slot1).reg Pg.gwy Reg.gwyTmo).toNat ≤ (sent1 slot1).now) &&
    decide (1000 + ((sent1 slot1).reg Pg.gwy Reg.gwyHold).toNat ≤ (sent1 slot1).now) && { slot1 with gw := true }.gw) = true := by
  decide +kernel

/-- A request to this device for n bytes at an address, of a tag. -/
def request (typ a n : Nat) : Packet := mkPacket 4 typ [(0, 23, 12, 5), (0x20, 63, 0, a), (0x14, 31, 24, 0)] (List.replicate n 0)

theorem test_RemoteTargets : (
    ((ejected part (request 0 0 0)).takeEjected (request 0 0 0)).isSome && (request 0 0 0).crcOk && (inSt part Pg.rmo .on).isOn Pg.rmo &&
    !(inSt part Pg.rmo .off).isOn Pg.rmo && decide (part.targetStatus 0 8 8 false = 0) && (part.targetRead 0 8).1.isSome &&
    decide (part.targetStatus 4 8 8 false = 3) && decide (part.targetStatus part.usableEnd 8 8 false = 1) &&
    decide ((part.targetPut 0 (request 1 0 8)).1 = 0) && decide ((part.targetPut 4 (request 1 4 8)).1 = 3) &&
    (let q := request 4 0 8
     let x := (bulkIn q part.rmo.gwIn).fragment 0 0
     decide (q.fld 0x14 31 24 + 1 ≤ x.frags.length) && decide (q.type = 4 ∧ q.vc = 4))) = true := by decide +kernel

/-- Group 0 in order with no child in its tree and one child named. -/
def grouped : State :=
  part.setReg Pg.tol (Reg.tolGrpg 0) (w32 (at_ 31 1))

def contrib1 : Contrib := ⟨0, 1, 1, [(1, 0)]⟩

def tslot (sent : Bool) : TolSlot :=
  { group := 0, step := 9, opidx := 1, own := none, kids := [], takenAt := 1000, ownAt := 0, sent := sent }

theorem test_TollgatePackets : (
    grouped.isOn Pg.tol && grouped.grpOk 0 && !part.grpOk 0 && !(grouped.grpKids 0).contains 0xFFFF &&
    (grouped.keySlot 0 9 1).isSome && (grouped.slotOf 0 9 1).isNone && !grouped.tolStale 0 9 && !(tslot false).sent &&
    (let s := { grouped with tol := { grouped.tol with newest := [(0, some 10)] } }
     s.tolStale 0 9 && (s.slotOf 0 9 1).isNone) &&
    (let s := grouped.setTolSlot 4 (some (tslot true))
     decide (s.slotOf 0 9 1 = some 4) && decide (s.keySlot 0 9 1 = some (4, tslot true)) &&
       decide (s.tolSlot 4 = some (tslot true)) && decide (1000 + (s.reg Pg.tol Reg.tolTmo).toNat ≤ s.now) &&
       decide ({ s with now := 1000 }.now < 1000 + (s.reg Pg.tol Reg.tolTmo).toNat)) &&
    (let o : TolOp := { group := 0, step := 9, opidx := 1, con := contrib1, use := .vote 1, startedAt := some 1000 }
     let s := { grouped with tol := { grouped.tol with ops := [o] } }
     decide (s.opOf 0 9 1 = some o) && decide (o.startedAt.getD s.now + (s.reg Pg.tol Reg.tolTmo).toNat ≤ s.now)) &&
    decide (grouped.opOf 0 9 1 = none) && !(inSt part Pg.tol .off).isOn Pg.tol) = true := by decide +kernel

/-- An explicit group whose children are the neighbours the tree word names. -/
theorem test_GroupChildren : (
    let s := (grouped.setReg Pg.tol (Reg.tolGrpg 0) (w32 (at_ 31 1 + at_ 30 1)))
    let s := s.setReg Pg.tol (Reg.tolGrpgTree 0) (w32 (at_ 24 1))
    s.grpOk 0 && (!s.grpExplicit 0 || decide ((s.grpKids 0).length = 1))) = true := by decide +kernel

theorem test_TwinDigests : (
    (let s := part.setTwin 0 { own := [(9, 1, 0)], other := [], misses := 0 }
     decide ((s.twin 0).own = [(9, 1, 0)]) && decide (0 + (s.reg Pg.tol Reg.tolTwtmo).toNat ≤ s.now) &&
       decide (¬ (s.now + (s.reg Pg.tol Reg.tolTwtmo).toNat ≤ s.now)) && !s.twinAlone 0) && decide ((part.twin 0).own = []) &&
    (nth [(5, 0)] (0, 0) 0).2 == 0 && decide ((nth [(5, 8)] (0, 0) 0).2 = 8)) = true := by decide +kernel

def bcast (told : Bool) (stalled : Option Nat) : CollCtx :=
  { id := 1, part := 0, desc := 0, step := 9, kick := false, cidx := 0, inUse := true, failed := false, done := false, hop := 0, got := [],
    failed1 := [], res := [], lastAt := some 1000, round := 0, repairs := 0, bend := false, told := told, stalled := stalled, voted := false }

def collected (x : CollCtx) : State := part.setCollCtx 2 (some x)

theorem test_CollectivesRun : (
    decide ((busyCore.core 0).run = some run1) && decide (dfld run1.desc 0 7 0 = 0x51) && busyCore.coreWorks 0 &&
    decide ((part.collAccept 0 9 false 0).1 = .bad) && decide ((part.collKick 0x100000000).1 = .bad) &&
    decide ((collected (bcast false none)).collLive 2 = some (bcast false none)) && decide (part.collLive 2 = none) &&
    decide ((collected (bcast false (some 5))).collLive 2 = some (bcast false (some 5))) && !part.collRetired (pktOf 3 0 5 []) &&
    decide ((pktOf 3 0 5 []).type = 0 ∧ (pktOf 3 1 5 []).type = 1 ∧ (pktOf 6 2 5 []).type = 2 ∧ (pktOf 6 3 5 []).type = 3) &&
    decide (1000 + (part.reg Pg.col Reg.colTmo).toNat < part.now) && decide (¬ (1000 + (part.reg Pg.col Reg.colTmo).toNat < 1000)) &&
    decide (1000 + 20000 ≤ part.now) && decide (1000 + 1000 * (part.reg Pg.col Reg.colTmo).toNat ≤ 2 ^ 40) && part.isOn Pg.col) = true := by
  decide +kernel

/-! Optics and control ports -/

/-- The device with engine 0 ON, its eight lanes UP and its spare dark. -/
def lit : State := (inSt base (Pg.ope 0) .on).lanesUp 0 (List.range 8)

theorem test_OpticalEngines : (
    lit.isOn (Pg.ope 0) && !lit.isOn (Pg.ope 1) && decide ((lit.engine 0).lowRun + 1 < 3) && decide (3 ≤ 2 + 1) && decide (lit.laserFlags 0 0 = lit.laserFlags 0 0) &&
    bit (lit.laserFlags 0 (-32768)) 1 && decide (lit.lane 0 0 ≠ .failed) && decide (lit.logicalOf 0 0 = some 0) && decide (lit.swapOf 0 0 = none) &&
    (lit.startSwap 0 0 true).isSome && decide (lit.freeSpares 0 = [8]) && lit.canSwap 0 0 && !lit.canSwap 8 0 &&
    (let x : LaneSwap := ⟨0, 8, 0, false, false, false, false, false⟩
     let s := lit.setSwap 0 0 (some x)
     decide (s.swapOf 0 0 = some x) && (s.startSwap 0 1 true).isNone &&
       ((lit.setSwap 0 0 (some { x with acked := true })).engine 0).swaps.any (fun x => decide (x.spare = 8) && x.acked && !x.doneHere)) &&
    (let s := inSt (inSt base (Pg.ope 9) .on) (Pg.cxl 0) .starting
     s.isOn (Pg.ope 9) && decide ((s.page (Pg.cxl 0)).st = .starting) && decide ((base.page (Pg.cxl 0)).st ≠ .starting)) &&
    (let s := inSt base (Pg.ctp 1) .starting
     decide ((s.ctlPort 1).link ≠ .up) && s.trains (Pg.ctp 1) false (s.rb (Pg.ctp 1) Reg.ctpCtrl 0) && s.isOn (Pg.ope 11)) &&
    decide ((base.ctlPort 0).link = .up) && bit (w32 (at_ 31 1)) 31) = true := by decide +kernel

/-- A flit of a kind and sequence number with its check. -/
def flit (kind seq : Nat) : BitVec 512 :=
  let f := BitVec.ofNat 512 (kind + at_ 16 seq)
  f ||| BitVec.ofNat 512 (at_ (8 * 0x3C) (crc32c (toLE 60 f.toNat)).toNat)

theorem test_ControlLinks : (
    base.ctlUp 0 && !base.ctlUp 1 && !flitOk 1 && flitOk (flit 1 1) && decide (flitFld (flit 1 1) 0 1 0 = 1) && flitOk (flit 2 1) &&
    flitOk (flit 3 0) && decide (flitFld (flit 3 0) 0 1 0 = 3) && decide (flitFld (flit 0 0) 0 1 0 = 0) &&
    decide (flitSeq (flit 1 1) = (base.ctlPort 0).fseqRx + 1) && decide (flitSeq (flit 1 2) ≠ (base.ctlPort 0).fseqRx + 1) &&
    decide (flitSeq (flit 0 0) = (base.ctlPort 0).fseqRx) && !base.ctlSwapping 0 &&
    decide ((base.ctlPort 0).lastFlit + base.rf (Pg.ctp 0) Reg.ctpLoss 15 0 ≤ part.now) &&
    decide (¬ (base.retryMax 0 ≤ (base.ctlPort 0).resends ∨ (base.ctlPort 0).lastFlit + base.rf (Pg.ctp 0) Reg.ctpLoss 15 0 ≤ base.now)) &&
    decide ((part.reg (Pg.ctp 0) Reg.ctpHb).toNat ≠ 0) && decide ((part.ctlPort 0).hbAt + (part.reg (Pg.ctp 0) Reg.ctpHb).toNat ≤ part.now) &&
    !part.switching && decide ((part.ctlPort 0).nodeAt + (part.reg (Pg.ctp 0) Reg.ctpNtmo).toNat ≤ part.now) && !(part.ctlPort 0).silent &&
    (let s := { inSt (base.setCtlPort 0 CtlPort.init) (Pg.ctp 1) .fault with now := 1000000000 }
     let s := s.setPwr (fun x => { x with step := 4 })
     decide (s.pwr.step = 4 ∧ (s.page (Pg.ctp 1)).st = .fault ∧ (s.page (Pg.ctp 1)).since + 1000000000 ≤ s.now) && !s.pwr.pfw &&
       !(List.range 4).any (fun n => s.ctlUp n))) = true := by decide +kernel

/-- The device that expects request 5 of port 0, and remembers what it answered to 4. -/
def expecting : State := base.setCtlPort 0 { base.ctlPort 0 with expect := some 5, firsts := [(4, 3, [])] }

theorem test_ControlRequests : (
    base.hush.ctlUp 0 && !(base.hush.takeMsg (ask 12) 4).authFails (ask 12) 4 &&
    (base.hush.takeMsg ⟨0, 1, .sealed false, 12⟩ 4).authFails ⟨0, 1, .sealed false, 12⟩ 4 &&
    decide (((expecting.hush.takeMsg (ask 12) 4).ctlPort 0).expect = some 5) && below64 5 4 && !below64 5 6 &&
    decide ((expecting.ctlPort 0).kept 4 = some (4, 3, [])) && decide ((expecting.ctlPort 0).kept 1 = none) &&
    decide (part.msgRange 0 0 4 false = some (some 0)) && decide (base.msgRange 0 0 4 false = some none) && decide (base.msgRange 1 0 4 false = none) &&
    base.memShut 0 4 && !part.memShut 0 4 && decide (part.msgRange 0 0 4 true = some (some 0)) && !part.touchesFrame 0 4 &&
    decide ((part.cow 0 0 4).put 0 0 [1, 2, 3, 4]).1 == false &&
    decide (((base.portParts 1).find? (fun p => base.inCxl p 0 4)) = none) && base.hush.takesUp (ask 0) 7 && base.hush.takesUp (ask 12) 3 &&
    base.hush.takesUp (ask 8) 8 && decide (base.pwr.dev = .ready) && decide (State.reset.pwr.dev ≠ .ready ∧ State.reset.pwr.dev ≠ .fwload)) = true := by
  decide +kernel

/-! Attestation and security -/

theorem test_AttestationAndSessions : (
    base.hush.takesUp (ask 36) 9 && !base.hush.switching && base.hush.takesUp (ask 136) 10 && base.hush.takesUp (ask 4) 10 &&
    (let x : Session := ⟨0, 0, 0, false⟩
     let s := base.setCtlPort 0 { base.ctlPort 0 with session := some x }
     decide ((s.ctlPort 0).session = some x)) &&
    (let s := { base with sec := { base.sec with mgtState := .switching } }
     s.hush.switching && s.hush.ctlUp 0 && decide (((s.hush.takeMsg (ask 36) 9).admission (ask 36) 9 .redo).1 = .fresh))) = true := by
  decide +kernel

theorem test_SecurityCommands : (
    (wr base).granted 0 Pg.sec Reg.secMgmt 0 && base.isOn (Pg.ctp 0) && decide ((base.ctlPort 0).link = .up) && !base.isOn (Pg.ctp 1) &&
    decide (base.sec.mgtState ≠ .staged) && (wr base).granted 0 Pg.mgt Reg.mgtCmd 1 && !base.switching && !base.imageOk &&
    (wr part).granted 0 Pg.sec Reg.secBcmd (w32 (at_ 31 1)) && decide (base.sec.mgmt.map (·.val) = some 0) && decide (base.sec.opening = none) &&
    (let s := { part with sec := { part.sec with opening := some 0 } }
     decide (s.sec.opening = some 0) && decide ((s.bundleTry 0 0).1 = 3) && decide ((s.bundleTry 0 0).2 = none)) &&
    (wr base).granted 0 (Pg.par 1) Reg.parCmd 1 && base.parOff 1 && !part.parOff 0 && !(base.partSec 1).dirty &&
    (let s := base.setPartSec 1 { base.partSec 1 with dirty := true }
     s.parOff 1 && (s.partSec 1).dirty && !(s.partSec 1).scrubbing) &&
    (wr base).granted 0 Pg.dbg Reg.dbgCmd 1 && (wr base).granted 0 Pg.dbg Reg.dbgCmd 2 && (wr base).granted 0 Pg.dbg Reg.dbgAdata 0 &&
    decide (base.sec.level = 0) && decide (({ base with sec := { base.sec with level := 2, expiry := 0 } }).sec.expiry ≤ base.count) &&
    decide (((wr base).plainWrite 0 Pg.dbg Reg.dbgAdata 0).dbgStatus ≠ 0)) = true := by decide +kernel

/-! Faults, checkpoints and power -/

theorem test_SuspectsAndAggregation : (
    (let e : Suspect := ⟨5, 1, 1, 0, 0, none, false⟩
     let s := part.setSuspect 3 (some e)
     (s.suspectAt 3).any (fun e => decide (e.seenAt + 1000000 ≤ s.now)) &&
       !(s.suspectAt 3).any (fun e => decide (e.seenAt + 1000000 ≤ 999999))) && (part.suspectAt 3).isNone &&
    (wr (inSt base Pg.flt .on)).granted 0 Pg.flt Reg.fltClr (w32 (at_ 31 1)) && (wr base).granted 0 Pg.flt Reg.fltAggStat (w32 (at_ 31 1)) &&
    (let s := part.setReg Pg.tol (Reg.tolGrpg 15) (w32 (at_ 31 1))
     let s := s.setReg Pg.flt Reg.fltCtrl 1
     s.rb Pg.flt Reg.fltCtrl 0 && decide ((s.reg Pg.flt Reg.fltPeriod).toNat ≠ 0) && s.grpOk 15 && decide (s.agg.last = none)) &&
    (let x := { tslot false with group := 15, own := some contrib1, ownAt := 0 }
     let s := part.setTolSlot 4 (some x)
     decide (s.slotOf 15 9 1 = some 4) && decide (s.tolSlot 4 = some x) && x.own.isSome &&
       decide (x.ownAt + (s.rf Pg.flt Reg.fltTree 23 16 - s.aggDepth) * s.rf Pg.flt Reg.fltTree 15 0 ≤ s.now)) &&
    decide (part.slotOf 15 9 1 = none)) = true := by decide +kernel

theorem test_AbortAndRecompute : (
    (let p := mkPacket 6 9 [(0, 23, 12, 5), (0x10, 31, 0, 9)] []
     ((ejected (running 1) p).takeEjected p).isSome && p.crcOk && decide (p.vc = 6 ∧ p.type = 9) &&
       decide (((running 1).schPart 0).live.map (·.step) = some p.stepOf) && decide ((part.schPart 0).live.map (·.step) ≠ some p.stepOf) &&
       decide (part.nextLaunch 0 ≠ some p.stepOf) &&
       (let s := part.setSchPart 0 { part.schPart 0 with deferred := some ⟨0, 9, 5⟩ }
        decide (s.nextLaunch 0 = some p.stepOf) && !(s.schPart 0).heldAborts.contains p.stepOf)) &&
    decide (part.tagPart 5 = some 0) && decide (part.tagPart 6 = none) && !((running 1).schPart 0).live.any (·.failed) &&
    (let l : Launch := ⟨0, 9, 5⟩
     let s := part.setSchPart 0 { part.schPart 0 with rcmp := some l }
     decide ((s.schPart 0).rcmp = some l) && !s.partHalted 0 && s.isOn Pg.sch) && decide ((part.schPart 0).rcmp = none)) = true := by
  decide +kernel

def snap1 : Snapshot :=
  { letter := 0, step := 9, shards := [], guest := true, opened := false, next := 0, ahead := [], acks := [(0, 1000)], homeDone := false,
    guestHdr := false, guestDone := false }

theorem test_CheckpointsAndRestores : (
    (wr part).granted 0 Pg.ckp (Reg.ckpArmp 0) 9 && (wr part).granted 0 Pg.ckp (Reg.ckpCmdp 0) 1 && (wr part).granted 0 Pg.ckp (Reg.ckpCmdp 0) 2 &&
    decide ((part.shardList 0).1 = some []) && !part.shardsFit 0 [] && (part.setReg Pg.ckp (Reg.ckpRegpSize 0) 64).shardsFit 0 [(0, 1, 0)] &&
    (let p := mkPacket 6 10 [(0, 23, 12, 5), (4, 15, 0, 7)] []
     ((ejected part p).takeEjected p).isSome && p.crcOk && (inSt part Pg.ckp .on).isOn Pg.ckp && decide (p.type = 10 ∧ p.vc = 6) &&
       !part.rb Pg.ckp (Reg.ckpGuestp 0) 31) &&
    decide (((part.write 0 0 [1, 2, 3, 4] 0).1) = none) && (part.read 0 0 64).1.toOption.isSome &&
    (let s := part.setCkpt 0 { part.ckpt 0 with snap := some snap1 }
     (s.ckpt 0).snap.any (fun x => x.guest && x.acks.any (fun a => decide (a.2 + (s.reg Pg.ckp Reg.ckpTmo).toNat ≤ s.now))) &&
       (s.ckpt 0).snap.any (fun x => x.acks.any (fun a => decide (a.1 = 0))) && !(s.ckpt 0).snap.any (·.guestDone)) &&
    (let r : Restore := { entry := 0, stage := 0, hdrs := [], letter := 0, pos := 0, shard := 0, got := 0, asked := some (0, 1000) }
     let s := part.setCkpt 0 { part.ckpt 0 with restore := some r }
     (s.ckpt 0).restore.any (fun r => r.asked.any (fun a => decide (a.2 + (s.reg Pg.ckp Reg.ckpTmo).toNat ≤ s.now))))) = true := by
  decide +kernel

theorem test_SupplyClocksAndLimits : (
    base.pllUsed 7 && !({ base with pwr := { base.pwr with pll := 0 } }).pllUsed 7 && base.pwr.groupE &&
    !State.reset.pwr.groupE && decide (base.throttleStep 16 0 0 0 = (16, 0)) && decide ((base.throttleStep 16 0 104 0).1 = 15) &&
    !base.pwr.fast && !base.pwr.tshut && ({ base with pwr := { base.pwr with tshut := true } }).pwr.tshut) = true := by decide +kernel

theorem test_PowerStates : (
    (wr base).granted 0 Pg.pwr Reg.pwrCmd (w32 (at_ 8 1)) && !base.pwr.pending && !base.pwr.pfw && base.mayEnter 0 && base.mayEnter 3 &&
    !(running 1).mayEnter 1 && (wr base).granted 0 Pg.pwr Reg.pwrCmd (w32 (at_ 8 1 + 3)) &&
    (let s := base.setPwr (fun x => { x with pending := true, target := 2 })
     s.pwr.pending && decide (s.pwr.state < 2 ∧ 2 ≤ s.pwr.target)) &&
    (let s := base.setPwr (fun x => { x with pending := true, target := 0, state := 2 })
     decide (2 ≤ s.pwr.state ∧ s.pwr.target < 2)) &&
    (let s := part.setSlotEntry 0 (entry 1000000000 false)
     decide (s.launchNext ≤ s.count + (s.reg Pg.pwr Reg.pwrWake).toNat ∧ s.launchPend ≠ 0)) && decide (part.launchPend = 0)) = true := by
  decide +kernel

/-- The start-up states: step k, with or without the self-tests done. -/
def booting (k : Nat) (d : DevState) : State := base.setPwr (fun x => { x with step := k, dev := d })

theorem test_ResetsAndStartup : (
    State.reset.pwr.powered && !({ base with pwr := { base.pwr with powered := false } }).pwr.powered && base.live && State.reset.live &&
    ({ base with pwr := { base.pwr with inReset := true } }).pwr.inReset && decide (base.pwr.step ≠ 1) && base.diesCool &&
    (wr base).granted 0 Pg.pwr Reg.pwrBoot (w32 (at_ 31 1)) && (wr base).granted 0 Pg.pwr Reg.pwrCmd (w32 (at_ 31 1 + at_ 16 0x5A)) &&
    decide (State.reset.pwr.step = 1 ∧ State.reset.pwr.dev = .boot) && !State.reset.pwr.pfw && !(booting 2 .boot).pwr.inReset &&
    (booting 4 .boot).isOn (Pg.ope 11) && (List.range 4).any (fun n => (booting 4 .boot).ctlUp n) &&
    (booting 5 .fwload).sec.mgmt.isSome && (booting 7 .training).started ((List.range 32).map Pg.gmc) &&
    !(inSt (booting 7 .training) (Pg.gmc 0) .starting).started ((List.range 32).map Pg.gmc) && decide ((booting 9 .training).way.mode ≠ .locked) &&
    ((booting 9 .training).setReg Pg.pwr Reg.pwrBoot (w32 (at_ 16 1))).rb Pg.pwr Reg.pwrBoot 16) = true := by decide +kernel

theorem test_ServiceBus : (
    base.svcUp && !State.reset.svcUp && decide (base.svc.dynAddr = none) && decide (base.svc.ibis = []) &&
    (let s := { base with svc := { base.svc with dynAddr := some 9, ibis := [3] } }
     s.svc.dynAddr.isSome && decide (s.svc.ibis = [3]))) = true := by decide +kernel

/-! Whole-machine statements -/

theorem test_StepRunsTheFrontCommand :
    ({ base with pending := [Instr.pfw, Instr.stateDone] }).pending = Instr.pfw :: [Instr.stateDone] := rfl

theorem test_StepKeepsMemoryCanonical : (Memory.wf State.reset.mem && Memory.wf [⟨0, 1⟩, ⟨5, 2⟩] && !Memory.wf [⟨5, 2⟩, ⟨0, 1⟩]) = true := by
  decide +kernel

theorem test_StoppedDeviceIgnores : (
    !unconditional .stateDone && unconditional .rstNAssert && !({ base with pwr := { base.pwr with inReset := true } }).live &&
    engineWork (.taskIssue 0) && ({ base with pwr := { base.pwr with pfw := true } }).live) = true := by decide +kernel

theorem test_QuietCommandsEndThere : (base.quiet && part.quiet && !({ base with stops := [none] }).quiet) = true := by decide +kernel

theorem test_MemoryReadsBack : ((blocksOf 0 4).all (fun b => !part.poisoned b) && Memory.wf part.mem) = true := by decide +kernel

theorem test_ServiceAndTimeFrames : (base.quiet && base.live && Memory.wf base.mem &&
    decide (Instr.refLossTimeout ≠ .holdoverServo)) = true := by decide +kernel

/-! The spec's worked examples. Each expected value stands in the spec's text, not in the model. -/

/-- Chapter 2: PG_ID of COR37 at 0x6_5000 reads 0x4025_0100. -/
theorem test_page_id : ((0x065000 / 0x1000 = Pg.cor 37) ∧ base.regRead 0 (Pg.cor 37) 0x000 = 0x40250100) := by decide +kernel

/-- What a command leaves where it answers a next state. -/
def after (c : Instr) (s : State) : State :=
  match exec c s with
  | .next t => t
  | _ => s

/-- Chapter 2, the cycle of DRV3, step 1: EN = 0 takes it from ON to STOPPING. -/
theorem test_cycle_step1 : decide ((((after (.pageDisable (ask 8) 0x083 false) (inSt base 0x083 .on)).page 0x083).st) = .stopping) = true := by
  decide +kernel

/-- Step 2: EN = 1 while STOPPING sets REEN_PEND. -/
theorem test_cycle_step2 : (let s := base.setPage 0x083 { base.page 0x083 with st := .stopping }
    ((after (.pageEnable (ask 8) 0x083 false) s).page 0x083).reen) = true := by decide +kernel

/-- Step 3: the end of the stop sequence takes it to STARTING with REEN_PEND 0, and raises no STATE_CHG. -/
theorem test_cycle_step3 : (let s := base.setPage 0x083 { base.page 0x083 with st := .stopping, en := true, reen := true }
    let p := (after (.stopSequenceComplete 0x083) s).page 0x083
    decide (p.st = .starting) && !p.reen && !bit p.irq 0) = true := by decide +kernel

/-- Step 4: the end of the start sequence with EN = 1 takes it to ON and raises STATE_CHG. -/
theorem test_cycle_step4 : (let p := (after (.startSequenceComplete 0x083 pass) (inSt base 0x083 .starting)).page 0x083
    decide (p.st = .on) && bit p.irq 0) = true := by decide +kernel

/-- Chapter 3: RATE_NUM 3, RATE_DEN 62,500 and 960 samples a frame give a period of exactly 20,000,000 ticks. -/
theorem test_period : (let s := ((base.setSf 3 4 23 0 960).setSf 3 8 31 0 3).setSf 3 0xC 31 0 62500
    decide (s.periodNom 3 = 20000000 * 2 ^ 32)) = true := by decide +kernel

/-- Chapter 4: replica A2 has the origin x 2 and the extents 2, 2, 4, 1; logical (1, 1, 3) is physical (3, 1, 3) and rank
15; with origin x 6 it is physical x 7. -/
theorem test_rank : (let s := base.setReg Pg.rte (Reg.rteShape 1) 0x01130200
    let t := base.setReg Pg.rte (Reg.rteShape 1) 0x01130600
    decide (s.toPhys 1 0x0113 = 0x0313 ∧ s.rankOf 1 0x0113 = 15 ∧ t.toPhys 1 0x0113 = 0x0713)) = true := by decide +kernel

/-- The route record of layer 5 of chapter 5: NEXP 2,048, K 8, NGRP 16, TOPG 4, GMODE 1. -/
def layer5 : BitVec 1024 := BitVec.ofNat 1024 (2048 + at_ 16 8 + at_ 24 16 + at_ 32 4 + at_ 39 1)

/-- The biased scores of chapter 5's example in FP32; every other score is 0. -/
def scores5 : SMap Nat :=
  [(7, 0x40500000), (8, 0x3E000000), (402, 0x40200000), (430, 0x3F800000), (455, 0x40200000), (650, 0x40000000), (700, 0x40100000),
    (710, 0x3FC00000), (1300, 0x40400000), (1350, 0x3F000000), (1377, 0x3FE00000), (1600, 0x40000000), (1601, 0x3FC00000),
    (1620, 0x3F400000)]

/-- A list that holds the given elements at their places, from a place on, and another everywhere before the last. -/
def spread {α : Type} (other : α) (from_ : Nat) : List (Nat × α) → List α
  | [] => []
  | x :: l => List.replicate (x.1 - from_) other ++ x.2 :: spread other (x.1 + 1) l

/-- Chapter 5, with the experts it names eligible: the candidates begin 1300, 402, 455, 700, 650, 1600, 1377, 710, 1601. -/
theorem test_candidates : decide (((candidates layer5 (spread 0 0 (scores5.map (fun x => (x.1, 2 ^ 28))))
    (spread (ofF32 0) 0 (scores5.map (fun x => (x.1, ofF32 x.2))))).take 9).map (·.2) =
      [1300, 402, 455, 700, 650, 1600, 1377, 710, 1601]) = true := by decide +kernel

/-- The block of Table 7.3: 13.0, 2.6 and −0.7 in FP32, and 29 zeros. -/
def block73 : List Val := [ofF32 0x41500000, ofF32 0x40266666, ofF32 0xBF333333] ++ List.replicate 29 (ofF32 0)

/-- Table 7.3, SCALE_RULE 0: bytes 0 and 1 are 0x37, 0x09, byte 16 is 0x80, and one element saturates. -/
theorem test_quantize_rule0 : (let r := fmtMx4.encodeSpan ⟨false, true, 0, 0⟩ 0 (fun _ => 0) block73 []
    decide (r.1 = [0x37, 0x09] ++ List.replicate 14 0 ++ [0x80] ∧ (SMap.get r.2 .zero 0) = Mon.ofSat 1)) = true := by decide +kernel

/-- Table 7.3, SCALE_RULE 1: bytes 0 and 1 are 0x15, 0x08, and byte 16 is 0x81. -/
theorem test_quantize_rule1 : (let r := fmtMx4.encodeSpan ⟨false, true, 1, 0⟩ 0 (fun _ => 0) block73 []
    decide (r.1 = [0x15, 0x08] ++ List.replicate 14 0 ++ [0x81] ∧ r.2 = [])) = true := by decide +kernel

/-- Chapter 7: a 640-wide MXFP4 span has 340 bytes and a 640-wide MZ4N span 420. -/
theorem test_spans : decide (fmtMx4.spanSize 640 = 340 ∧ fmtMz4n.spanSize 640 = 420) = true := by decide +kernel

/-- Chapter 9: of three 2:4 squares only the one with counts of 2 at every position is transposable. -/
theorem test_transposable : (!transposable 1 [[0b0011], [0b0011], [0b0011], [0b1100]] &&
    !transposable 1 [[0b0011], [0b0011], [0b0110], [0b1100]] && transposable 1 [[0b0011], [0b1100], [0b0011], [0b1100]]) = true := by
  decide +kernel

/-- Chapter 11: spine port 0 of (w 0, x 3, y 1, z 3) has the MAC 02-4D-5A-00-03-13. -/
theorem test_mac : decide (spineMac 0x024D5A 0 0x0313 = 0x024D5A000313) = true := by decide +kernel

/-- The bytes of the HEAD flit of chapter 14's example, which enables DRV3, with its CRC. -/
def exampleFlit : BitVec 512 :=
  let bs : List Byte := [0x01, 0x00, 0x41, 0x00, 0x93, 0, 0, 0, 0x02, 0x00, 0x08, 0x00, 0x34, 0x12, 0, 0] ++ List.replicate 8 0 ++
    [0x08, 0x30, 0x08, 0x00, 0x01, 0, 0, 0] ++ List.replicate 28 0
  BitVec.ofNat 512 (leNat (bs ++ toLE 4 (crc32c bs).toNat))

/-- Chapter 14: that flit is FSEQ 0x41 and brings a request of TYPE 2 with MSEQ 0x1234 and 8 bytes of payload. -/
theorem test_flit : (let s := base.setCtlPort 0 { base.ctlPort 0 with fseqRx := 0x40 }
    decide (((after (.controlFlit 0 exampleFlit) s).ctlPort 0).arrived =
      [⟨2, false, false, false, 0x1234, 0, 0, [0x08, 0x30, 0x08, 0x00, 0x01, 0, 0, 0]⟩])) = true := by decide +kernel

/-- Its response carries TYPE 2, RESP 1, LEN 0, MSEQ 0x1234 and STATUS 0, and DRV3 goes to STARTING. -/
theorem test_response : (let t := after (.pageEnable ⟨0, 0x1234, .clear, 8⟩ 0x083 false) base
    (t.outbox.any fun o => match o with
      | .msg 0 m => decide (m = ⟨2, true, m.last, false, 0x1234, 0, m.rseq, []⟩)
      | _ => false) && decide ((t.page 0x083).st = .starting)) = true := by decide +kernel

/-- RFC 3720's check value of CRC-32C, the polynomial R117 names, over thirty-two zero bytes. -/
theorem test_crc32c : decide (crc32c (List.replicate 32 0) = 0x8A9136AA) = true := by decide +kernel

/-! Well-formed commands: one that is, and one that is not for each check -/

theorem test_wf_commands : ((Instr.cfgRd (ask 4128) 0).wf && (Instr.pageEnable (ask 8) 0x083 true).wf && (Instr.abort (pktOf 6 9 5 [1, 2])).wf &&
    (Instr.remoteRequest (mkPacket 4 0 [(0x18, 21, 8, 8)] [])).wf && (Instr.event 0x083 16).wf && (Instr.memWr (ask 12) 0 [1, 2, 3, 4]).wf &&
    (Instr.fwLoad (ask 8) 0 [1, 2, 3, 4] true).wf && (Instr.serviceBusWrite 0 [1, 2, 3, 4]).wf &&
    (Instr.startSequenceComplete 0x083 ⟨true, true, [(0, 1), (1, 1)]⟩).wf && (Instr.startupStep [⟨0x083, pass⟩, ⟨0x084, pass⟩]).wf &&
    (Instr.flitGroupReceive 0 (group0 true false 0)).wf && (Instr.spineFrameReceive 0 (frame base true (pktOf 6 8 5 []))).wf) = true := by
  decide +kernel

/-- LEN beyond Table 14.5. -/
theorem test_wf_req : (Instr.cfgRd (ask 4129) 0).wf = false := by decide +kernel

/-- A payload that is not the one the header gives, and one beyond R260. -/
theorem test_wf_packet : ((Instr.abort { pktOf 6 9 5 [1, 2] with payload := [1] }).wf ||
    (Instr.abort { hdr := BitVec.ofNat 512 (at_ (8 * 0x18 + 8) 8193), payload := List.replicate 8193 0 }).wf) = false := by decide +kernel

/-- A ninth flit. -/
theorem test_wf_group : (Instr.flitGroupReceive 0 { group0 true false 0 with flits := List.replicate 9 ⟨1, true, true, 0⟩ }).wf = false := by
  decide +kernel

/-- A frame beyond 8,278 bytes, and one around a packet that is not well formed. -/
theorem test_wf_frame : ((Instr.spineFrameReceive 0 { frame base true (pktOf 6 8 5 []) with bytes := 8279 }).wf ||
    (Instr.spineFrameReceive 0 (frame base true { pktOf 6 8 5 [] with payload := [1] })).wf) = false := by decide +kernel

/-- A page that Table 2.3 does not map. -/
theorem test_wf_page : ((Instr.pageEnable (ask 8) 0xFFF true).wf || (Instr.event 0xFFF 16).wf || (Instr.startupStep [⟨0xFFF, pass⟩]).wf ||
    (Instr.startTimeout 0xFFF).wf || (Instr.pageSoftReset (ask 8) 0xFFF pass).wf) = false := by decide +kernel

/-- An event bit that Table 2.6 reserves. -/
theorem test_wf_event : ((Instr.event 0x083 4).wf || (Instr.event 0x083 15).wf) = false := by decide +kernel

/-- Data that LEN does not count, and a fifth byte on the service bus. -/
theorem test_wf_lengths : ((Instr.memWr (ask 8) 0 [1, 2, 3, 4]).wf || (Instr.fwLoad (ask 4) 0 [1, 2, 3, 4] true).wf ||
    (Instr.serviceBusWrite 0 [1, 2, 3, 4, 5]).wf) = false := by decide +kernel

/-- A column named twice, and a page tested twice. -/
theorem test_wf_tests : ((Instr.startSequenceComplete 0x083 ⟨true, true, [(0, 1), (0, 1)]⟩).wf ||
    (Instr.startupStep [⟨0x083, pass⟩, ⟨0x083, pass⟩]).wf) = false := by decide +kernel

end Sys2Proof.Tests
end

section
/-! Memory reads back what was written (R7, R231, R234): a store to GDDR7 goes block by block, and where no block holds
poison each block takes its part of the bytes and no other byte changes. -/
namespace Sys2Proof.Machine

/-! Sparse tables in any order -/

/-- Removing a key leaves what every other key reads as, whatever the order of the list. -/
theorem SMap.get_erase_ne {α : Type} (m : SMap α) (d : α) {k j : Nat} (h : j ≠ k) :
    SMap.get (SMap.erase m k) d j = SMap.get m d j := by
  induction m with
  | nil => rfl
  | cons x m ih =>
    unfold SMap.erase
    by_cases hk : x.1 = k
    · rw [if_pos hk]
      simp only [SMap.get]
      rw [if_neg (fun hj => h (hj.symm.trans hk))]
    · rw [if_neg hk]
      split
      · rfl
      · simp only [SMap.get, ih]

/-- Setting a key leaves what every other key reads as, whatever the order of the list. -/
theorem SMap.get_set_ne {α : Type} [DecidableEq α] (m : SMap α) (d v : α) {k j : Nat} (h : j ≠ k) :
    SMap.get (SMap.set m d k v) d j = SMap.get m d j := by
  unfold SMap.set
  split
  · exact SMap.get_erase_ne m d h
  · rw [SMap.get_insert, if_neg h]

/-! Poison -/

@[simp] theorem bump_tier (s : State) (g o : Nat) : (s.bump g o).tier = s.tier := by
  have h := congrArg State.tier (bump_offWire s g o)
  exact h

@[simp] theorem bump_poison (s : State) (g o : Nat) : (s.bump g o).poison = s.poison := by
  have h := congrArg State.poison (bump_offWire s g o)
  exact h

/-- Whether a block reads as poisoned rests on its mark, the page headers and the memory tier alone. -/
theorem poisoned_congr {s t : State} {b : Nat} (hpages : s.pages = t.pages) (htier : s.tier = t.tier)
    (hmark : s.poison.get false b = t.poison.get false b) : s.poisoned b = t.poisoned b := by
  unfold State.poisoned State.gmcFailed State.page State.gmcPage State.halfOf State.halves
  rw [hpages, htier, hmark]

/-! One block of a store -/

/-- The first byte that a store from a on writes in block b. -/
def partLo (a b : Nat) : Nat := max a (b * 512)

/-- The end of the bytes that a store of n bytes from a on writes in block b. -/
def partHi (a n b : Nat) : Nat := min (a + n) ((b + 1) * 512)

/-- The bytes of a store that fall in block b. -/
def partOfBlock (a : Nat) (bs : List Byte) (b : Nat) : List Byte :=
  (bs.drop (partLo a b - a)).take (partHi a bs.length b - partLo a b)

/-- What storeBlocks does to one block. -/
def storePart (a : Nat) (bs : List Byte) (r : Bool × State) (b : Nat) : Bool × State :=
  if partHi a bs.length b - partLo a b = 512 then
    (r.1, { r.2.store (partLo a b) (partOfBlock a bs b) with poison := r.2.poison.set false b false })
  else
    let s := r.2.bump (r.2.gmcPage (b * 512)) Reg.gmcCntRmw
    if s.poisoned b then (true, s.poisonBlock b) else (r.1, s.store (partLo a b) (partOfBlock a bs b))

theorem storeBlocks_eq_foldl (s : State) (a : Nat) (bs : List Byte) :
    s.storeBlocks a bs = (blocksOf a bs.length).foldl (storePart a bs) (false, s) := rfl

/-- A block that is not poisoned takes its part of the bytes, and the poison of the other blocks stays. -/
theorem storePart_clean (a : Nat) (bs : List Byte) (r : Bool × State) (b : Nat) (h : r.2.poisoned b = false) :
    (storePart a bs r b).1 = r.1 ∧
      (storePart a bs r b).2.mem = Memory.writeBytes r.2.mem (partLo a b) (partOfBlock a bs b) ∧
      ∀ c, c ≠ b → (storePart a bs r b).2.poisoned c = r.2.poisoned c := by
  unfold storePart
  by_cases whole : partHi a bs.length b - partLo a b = 512
  · rw [if_pos whole]
    exact ⟨rfl, rfl, fun c hc => poisoned_congr rfl rfl (SMap.get_set_ne r.2.poison false false hc)⟩
  · have still : ∀ c, (r.2.bump (r.2.gmcPage (b * 512)) Reg.gmcCntRmw).poisoned c = r.2.poisoned c := fun c =>
      poisoned_congr (bump_pages _ _ _) (bump_tier _ _ _) (by rw [bump_poison])
    rw [if_neg whole]
    simp only [still, h, Bool.false_eq_true, if_false]
    refine ⟨trivial, ?_, fun c _ => still c⟩
    unfold State.store
    rw [bump_mem]

theorem length_partOfBlock (a : Nat) (bs : List Byte) (b : Nat) :
    (partOfBlock a bs b).length = partHi a bs.length b - partLo a b := by
  unfold partOfBlock partHi partLo
  rw [List.length_take, List.length_drop]
  omega

/-- A byte of the part of a block is the byte of the whole store at its address. -/
theorem nth_partOfBlock (a : Nat) (bs : List Byte) (b x : Nat) (hlo : partLo a b ≤ x) (hhi : x < partHi a bs.length b) :
    nth (partOfBlock a bs b) 0 (x - partLo a b) = nth bs 0 (x - a) := by
  have hla : a ≤ partLo a b := Nat.le_max_left _ _
  have hx : partLo a b - a + (x - partLo a b) = x - a := by omega
  unfold nth partOfBlock
  rw [List.getElem?_take_of_lt (by omega), List.getElem?_drop, hx]

/-- A read after the part of block b was written. -/
theorem read_part (m : List Host.Cell) (a : Nat) (bs : List Byte) (b x : Nat) (h : Memory.wf m = true) :
    Memory.read (Memory.writeBytes m (partLo a b) (partOfBlock a bs b)) x =
      if partLo a b ≤ x ∧ x < partHi a bs.length b then nth bs 0 (x - a) else Memory.read m x := by
  rw [Memory.read_writeBytes _ _ _ _ h, length_partOfBlock]
  by_cases hin : partLo a b ≤ x ∧ x < partHi a bs.length b
  · rw [if_pos hin, if_pos (by omega), nth_partOfBlock a bs b x hin.1 hin.2]
  · rw [if_neg hin, if_neg (by omega)]

/-! The blocks of a store, one after another -/

/-- The end of the bytes that a store of n bytes from a on has written with its first k blocks. -/
def writtenEnd (a n k : Nat) : Nat := min (a + n) ((a / 512 + k) * 512)

theorem writtenEnd_zero_le (a n : Nat) : writtenEnd a n 0 ≤ a := by
  unfold writtenEnd
  omega

/-- One more block adds its part to the bytes written. -/
theorem lt_writtenEnd_succ (a n k x : Nat) :
    (a ≤ x ∧ x < writtenEnd a n (k + 1)) ↔
      (partLo a (a / 512 + k) ≤ x ∧ x < partHi a n (a / 512 + k)) ∨ (a ≤ x ∧ x < writtenEnd a n k) := by
  unfold writtenEnd partLo partHi
  omega

/-- The blocks of the range reach its end. -/
theorem writtenEnd_last (a n : Nat) : writtenEnd a n ((a + n - 1) / 512 - a / 512 + 1) = a + n := by
  unfold writtenEnd
  omega

/-- What a store has done when k blocks are written: no poison met, the bytes before the end of the last of them
in place and every other as before, and the blocks to come as they were. -/
structure StoredBlocks (s : State) (a : Nat) (bs : List Byte) (k : Nat) (r : Bool × State) : Prop where
  clean : r.1 = false
  wf : Memory.wf r.2.mem = true
  later : ∀ b, a / 512 + k ≤ b → r.2.poisoned b = s.poisoned b
  reads : ∀ x, Memory.read r.2.mem x =
    if a ≤ x ∧ x < writtenEnd a bs.length k then nth bs 0 (x - a) else Memory.read s.mem x

theorem storedBlocks_zero (s : State) (a : Nat) (bs : List Byte) (h : Memory.wf s.mem = true) :
    StoredBlocks s a bs 0 (false, s) where
  clean := rfl
  wf := h
  later := fun _ _ => rfl
  reads := fun x => by
    have hend := writtenEnd_zero_le a bs.length
    rw [if_neg (by omega)]

theorem storedBlocks_succ {s : State} {a : Nat} {bs : List Byte} {k : Nat} {r : Bool × State}
    (h : StoredBlocks s a bs k r) (hp : s.poisoned (a / 512 + k) = false) :
    StoredBlocks s a bs (k + 1) (storePart a bs r (a / 512 + k)) := by
  obtain ⟨hflag, hmem, hrest⟩ := storePart_clean a bs r (a / 512 + k) ((h.later _ (Nat.le_refl _)).trans hp)
  refine ⟨hflag.trans h.clean, ?_, fun b hb => ?_, fun x => ?_⟩
  · rw [hmem]
    exact Memory.wf_writeBytes _ _ _ h.wf
  · rw [hrest b (by omega), h.later b (by omega)]
  · rw [hmem, read_part _ _ _ _ _ h.wf, h.reads x]
    by_cases hnew : partLo a (a / 512 + k) ≤ x ∧ x < partHi a bs.length (a / 512 + k)
    · rw [if_pos hnew, if_pos ((lt_writtenEnd_succ a bs.length k x).2 (.inl hnew))]
    · rw [if_neg hnew]
      by_cases hold : a ≤ x ∧ x < writtenEnd a bs.length k
      · rw [if_pos hold, if_pos ((lt_writtenEnd_succ a bs.length k x).2 (.inr hold))]
      · rw [if_neg hold, if_neg fun hx => ((lt_writtenEnd_succ a bs.length k x).1 hx).elim hnew hold]

theorem storedBlocks_foldl (s : State) (a : Nat) (bs : List Byte) (n : Nat) (h : Memory.wf s.mem = true)
    (hp : ∀ k < n, s.poisoned (a / 512 + k) = false) :
    StoredBlocks s a bs n (((List.range n).map (a / 512 + ·)).foldl (storePart a bs) (false, s)) := by
  induction n with
  | zero => exact storedBlocks_zero s a bs h
  | succ n ih =>
    rw [List.range_succ, List.map_append, List.foldl_append]
    exact storedBlocks_succ (ih fun k hk => hp k (by omega)) (hp n (by omega))

/-- A store to GDDR7 that meets no poisoned block (R234). -/
theorem storeBlocks_clean (s : State) (a x : Nat) (bs : List Byte) (h : Memory.wf s.mem = true)
    (hp : ∀ b ∈ blocksOf a bs.length, s.poisoned b = false) :
    (s.storeBlocks a bs).1 = false ∧ Memory.wf (s.storeBlocks a bs).2.mem = true ∧
      Memory.read (s.storeBlocks a bs).2.mem x =
        if a ≤ x ∧ x < a + bs.length then nth bs 0 (x - a) else Memory.read s.mem x := by
  rw [storeBlocks_eq_foldl]
  unfold blocksOf at hp ⊢
  by_cases hn : bs.length = 0
  · rw [if_pos hn, if_neg (by omega)]
    exact ⟨rfl, h, rfl⟩
  · rw [if_neg hn] at hp ⊢
    obtain ⟨hclean, hwf, -, hreads⟩ := storedBlocks_foldl s a bs ((a + bs.length - 1) / 512 - a / 512 + 1) h fun k hk =>
      hp _ (List.mem_map.2 ⟨k, List.mem_range.2 hk, rfl⟩)
    refine ⟨hclean, hwf, ?_⟩
    rw [hreads x, writtenEnd_last a bs.length]

/-- Settles O58: a byte by the rule of a sparse table, a store to GDDR7 block by block. -/
theorem memoryReadsBack : Obligations.MemoryReadsBack := by
  unfold Obligations.MemoryReadsBack
  refine ⟨fun m a x b h => ⟨Memory.wf_write m a b h, Memory.read_write m a x b h⟩, fun s a x bs h hp => ?_⟩
  refine storeBlocks_clean s a x bs h fun b hb => ?_
  simpa using List.all_eq_true.1 hp b hb

end Sys2Proof.Machine
end

section
/-! A tick of the device (R6, R40; log 1): the Drover units that hold their intake count it, and the Waystone takes one
edge. -/
namespace Sys2Proof.Machine

/-! What the Drover units leave -/

@[simp] theorem bumpBy_outbox (s : State) (g o n : Nat) : (s.bumpBy g o n).outbox = s.outbox := by
  unfold State.bumpBy
  extract_lets v
  split
  · rfl
  · split <;> rfl

/-- Counting the held cycles sends nothing. -/
theorem tickUnits_outbox (s : State) (l : List Nat) : (l.foldl State.tickUnit s).outbox = s.outbox := by
  induction l generalizing s with
  | nil => rfl
  | cons n l ih =>
    rw [List.foldl_cons, ih]
    unfold State.tickUnit
    split
    · exact bumpBy_outbox _ _ _ _
    · rfl

/-- Counting the held cycles leaves the Waystone, the time and the queue. -/
theorem tickUnits_leave (s : State) (l : List Nat) :
    (l.foldl State.tickUnit s).way = s.way ∧ (l.foldl State.tickUnit s).now = s.now ∧
      (l.foldl State.tickUnit s).pending = s.pending := by
  have h := tickUnits_offWire s l
  generalize l.foldl State.tickUnit s = t at h
  have hway := congrArg State.way h
  have hnow := congrArg State.now h
  have hpending := congrArg State.pending h
  exact ⟨hway, hnow, hpending⟩

/-! The tick -/

/-- A live device whose Waystone PLL is locked takes the edge after its Drover units have counted. -/
theorem tick_counting (s : State) (hlive : s.live = true) (hpll : bit s.pwr.pll 7 = true) :
    s.tick = ((List.range 8).foldl State.tickUnit s).wstEdge := by
  unfold State.tick
  rw [if_pos ⟨hlive, hpll⟩]

/-- In any other device only the time since reset goes on. -/
theorem tick_stopped (s : State) (h : s.live = false ∨ bit s.pwr.pll 7 = false) :
    s.tick = { s with now := s.now + 1 } := by
  unfold State.tick
  rw [if_neg]
  rintro ⟨hlive, hpll⟩
  rcases h with h | h
  · exact Bool.false_ne_true (h.symm.trans hlive)
  · exact Bool.false_ne_true (h.symm.trans hpll)

/-- Settles O12: the edge of the Waystone, on what the Drover units have left as it was. -/
theorem tickCounts : Obligations.TickCounts := by
  unfold Obligations.TickCounts
  intro s hempty
  refine ⟨?_, fun h => by rw [step_nil s hempty, tick_stopped s h]⟩
  rintro ⟨hlive, hpll⟩
  obtain ⟨hway, hnow, hpending⟩ := tickUnits_leave s (List.range 8)
  obtain ⟨hmode, hadj⟩ := wstEdge_mode _ s hway
  refine ⟨_, by rw [step_nil s hempty, tick_counting s hlive hpll], ?_, ?_, ?_, ?_, wstEdge_count _ s hway,
    wstEdge_frac _ s hway, wstEdge_copies _ s hway, hmode, hadj, fun hfree => ?_⟩
  · rw [wstEdge_now, hnow]
  · rw [wstEdge_pending, hpending]
  · rw [wstEdge_outbox, tickUnits_outbox]
  · rw [← tick_counting s hlive hpll, tick_mem]
  · rw [← tick_counting s hlive hpll, tick_idle s hlive hpll hfree, wstEdge_regs]

end Sys2Proof.Machine
end

section
/-! GDDR7 errors, refetch, temperature and the removal of halves (R235 to R237, R250). -/
namespace Sys2Proof.Machine

/-! EDC errors (R236, R238) -/

theorem doEdc_off (s : State) (n : Nat) (o : EdcOutcome) (h : s.isOn (Pg.gmc n) = false) : s.doEdc n o = s := by
  unfold State.doEdc
  simp only [h, Bool.not_false, if_true]

theorem doEdc_retried (s : State) (n : Nat) (k : Fin 3) (h : s.isOn (Pg.gmc n) = true) :
    s.doEdc n (.retried k) = (s.bump (Pg.gmc n) Reg.gmcCntEdc).error (Pg.gmc n) Cls.corrected 0 0 0 := by
  unfold State.doEdc
  simp only [h, Bool.not_true, Bool.false_eq_true, if_false]

/-- The state after a transfer that needed the retraining: both counters, and the event. -/
def State.edcTrained (s : State) (n : Nat) : State :=
  ((s.bump (Pg.gmc n) Reg.gmcCntEdc).bump (Pg.gmc n) Reg.gmcCntRetrain).irq (Pg.gmc n) 18

theorem doEdc_retrained (s : State) (n : Nat) (h : s.isOn (Pg.gmc n) = true) :
    s.doEdc n .retrained = (s.edcTrained n).error (Pg.gmc n) Cls.corrected 0 0 0 := by
  unfold State.doEdc
  simp only [h, Bool.not_true, Bool.false_eq_true, if_false]
  rfl

/-- The state in which a transfer that failed past the retraining is recorded, with code 0x12. -/
def State.edcRecorded (s : State) (n : Nat) : State :=
  (((s.edcTrained n).freeBits 3).2).errorOpen (Pg.gmc n) Cls.task ((s.edcTrained n).freeBits 3).1 0x12

/-- The same with the time of the failure kept. -/
def State.edcNoted (s : State) (n : Nat) : State :=
  (s.edcRecorded n).setGmc n { (s.edcRecorded n).gmc n with edcAt := [(s.edcRecorded n).now] }

/-- The controller had such a failure within the second before. -/
def State.edcTwice (s : State) (n : Nat) : Bool :=
  ((s.edcRecorded n).gmc n).edcAt.any (fun t => decide ((s.edcRecorded n).now ≤ t + 1000000000))

/-- The first such failure within a second is recorded. -/
theorem doEdc_first (s : State) (n : Nat) (h : s.isOn (Pg.gmc n) = true) (once : s.edcTwice n = false) :
    s.doEdc n .exhausted = s.edcNoted n := by
  unfold State.doEdc
  simp only [h, Bool.not_true, Bool.false_eq_true, if_false]
  exact if_neg (Bool.eq_false_iff.1 once)

/-- The second quarantines the controller and stops the device. -/
theorem doEdc_second (s : State) (n : Nat) (h : s.isOn (Pg.gmc n) = true) (twice : s.edcTwice n = true) :
    s.doEdc n .exhausted = ((s.edcNoted n).quarantine (Pg.gmc n)).errorOpen (Pg.gmc n) Cls.device 0 0x15 := by
  unfold State.doEdc
  simp only [h, Bool.not_true, Bool.false_eq_true, if_false]
  exact if_pos twice

/-! Temperature (R237) -/

theorem doHot_cool (s : State) (n : Nat) (temp : Int) (h : temp < 85) :
    s.doHot n temp = s.setGmc n { s.gmc n with temp := twos 8 temp, hot := false } := by
  unfold State.doHot
  simp [Int.not_le.2 h]

theorem doHot_rises (s : State) (n : Nat) (temp : Int) (h : 85 ≤ temp) (was : (s.gmc n).hot = false) :
    s.doHot n temp = (s.setGmc n { s.gmc n with temp := twos 8 temp, hot := true }).irq (Pg.gmc n) 19 := by
  unfold State.doHot
  simp [h, was]

theorem doHot_stays (s : State) (n : Nat) (temp : Int) (h : 85 ≤ temp) (was : (s.gmc n).hot = true) :
    s.doHot n temp = s.setGmc n { s.gmc n with temp := twos 8 temp, hot := true } := by
  unfold State.doHot
  simp [h, was]

/-! Detection failures (R250, Table 10.6) -/

/-- The state after a detection failure of the block at a GDDR7 address is counted and its address shown. -/
def State.detectionSeen (s : State) (g : Nat) : State :=
  ((s.bump (s.gmcPage g) Reg.gmcCntDet).irq (s.gmcPage g) 16).setReg64 (s.gmcPage g) Reg.gmcErraddrLo Reg.gmcErraddrHi
    (g / 512 * 512)

/-- A block of GDDR7 at its own address whose second read passes. -/
theorem doDetection_transient (s : State) (a : Nat) (r : Reader) (hc : a < cxlBase) (hd : a < s.dataEnd) :
    s.doDetection a false r =
      ((s.detectionSeen a).bump (s.gmcPage a) Reg.gmcCntTransient).errorOpen (s.gmcPage a) Cls.recomputed
        (s.readerPart r) 0x16 := by
  unfold State.doDetection State.detectionSeen
  simp only [if_neg (Nat.not_le.2 hc), if_pos hd, Bool.not_false, if_true]

/-- A block of GDDR7 at its own address that fails twice. -/
theorem doDetection_fails (s : State) (a : Nat) (r : Reader) (hc : a < cxlBase) (hd : a < s.dataEnd) :
    s.doDetection a true r = (s.detectionSeen a).blockFails a r := by
  unfold State.doDetection State.detectionSeen
  simp only [if_neg (Nat.not_le.2 hc), if_pos hd, Bool.not_true, Bool.false_eq_true, if_false]

/-- A block that holds part of a CXL page in its frame, and fails twice: its page is to be fetched again. -/
theorem doDetection_framed (s : State) (a f : Nat) (r : Reader) (hc : cxlBase ≤ a)
    (hf : s.frameOf (s.readerPart r) a .resident = some f) :
    s.doDetection a true r =
      let g := f * 2 ^ 21 + a % 2 ^ 21
      let t := (((s.detectionSeen g).bump Pg.tir Reg.tirCntRefetch).irq Pg.tir 19).errorOpen (s.gmcPage g) Cls.recomputed
        (s.readerPart r) 0x16
      { t with tier := { t.tier with refetch := t.tier.refetch ++ [⟨a / 4096 * 4096, f, r⟩] } } := by
  unfold State.doDetection
  simp only [if_pos hc, hf, Option.map_some]
  rfl

/-- No block of the data region lies there. -/
theorem doDetection_outside (s : State) (a : Nat) (second : Bool) (r : Reader) (hc : a < cxlBase) (hd : s.dataEnd ≤ a) :
    s.doDetection a second r = s := by
  unfold State.doDetection
  simp only [if_neg (Nat.not_le.2 hc), if_neg (Nat.not_lt.2 hd)]

/-! Refetch (R250) -/

/-- The state with a refetch no longer waiting. -/
def State.refetchTaken (s : State) (x : Refetch) : State :=
  { s with tier := { s.tier with refetch := s.tier.refetch.erase x } }

theorem doRefetch_none (s : State) (a : Nat) (o : CxlResult)
    (h : s.tier.refetch.find? (fun x => decide (x.addr = a / 4096 * 4096)) = none) : s.doRefetch a o = s := by
  unfold State.doRefetch
  rw [h]

/-- The frame was evicted meanwhile: the data is dropped. -/
theorem doRefetch_evicted (s : State) (a : Nat) (o : CxlResult) (x : Refetch)
    (h : s.tier.refetch.find? (fun x => decide (x.addr = a / 4096 * 4096)) = some x)
    (hf : (s.refetchTaken x).frameOf ((s.refetchTaken x).readerPart x.reader) x.addr .resident ≠ some x.frame) :
    s.doRefetch a o = s.refetchTaken x := by
  unfold State.doRefetch
  rw [h]
  exact if_pos hf

/-- The frame still holds the page: its lines come from CXL. -/
theorem doRefetch_data (s : State) (a : Nat) (x : Refetch)
    (h : s.tier.refetch.find? (fun x => decide (x.addr = a / 4096 * 4096)) = some x)
    (hf : (s.refetchTaken x).frameOf ((s.refetchTaken x).readerPart x.reader) x.addr .resident = some x.frame) :
    s.doRefetch a .data =
      ((s.refetchTaken x).cxlLines x.addr 4096 false).cxlCopyIn x.addr (x.frame * 2 ^ 21 + x.addr % 2 ^ 21) 4096 := by
  unfold State.doRefetch
  rw [h]
  exact if_neg (not_not_intro hf)

/-! Removal of halves (R235) -/

theorem regAct_hremoveHi (s : State) (port : Nat) (hi : W32) (io : IoResult) :
    s.regAct port Pg.tir Reg.tirHremoveHi hi io =
      if 2 < popcount 64 ((s.reg Pg.tir Reg.tirHremoveLo).toNat + 2 ^ 32 * hi.toNat) then (St.state, s)
      else (St.ok, s.plainWrite port Pg.tir Reg.tirHremoveHi hi) := rfl

/-- A pair that names at most two halves is stored. -/
theorem regAct_hremoveHi_stores (s : State) (port : Nat) (hi : W32) (io : IoResult)
    (few : popcount 64 ((s.reg Pg.tir Reg.tirHremoveLo).toNat + 2 ^ 32 * hi.toNat) ≤ 2) :
    s.regAct port Pg.tir Reg.tirHremoveHi hi io = (0, s.plainWrite port Pg.tir Reg.tirHremoveHi hi) := by
  rw [regAct_hremoveHi, if_neg (Nat.not_lt.2 few)]
  rfl

/-- One that names more is answered STATE. -/
theorem regAct_hremoveHi_refused (s : State) (port : Nat) (hi : W32) (io : IoResult)
    (many : 2 < popcount 64 ((s.reg Pg.tir Reg.tirHremoveLo).toNat + 2 ^ 32 * hi.toNat)) :
    s.regAct port Pg.tir Reg.tirHremoveHi hi io = (St.state, s) := by
  rw [regAct_hremoveHi, if_pos many]

/-- Settles O29: each command by what its operation does in each case. -/
theorem memoryErrors : Obligations.MemoryErrors := by
  unfold Obligations.MemoryErrors
  refine ⟨fun gmc => ⟨fun k => ?_, ?_, ?_, ?_, fun o => ?_, fun s => rfl, fun temp => ⟨?_, ?_, ?_⟩⟩,
    fun addr r f => ⟨?_, ?_, ?_, fun second => ?_⟩, fun addr x => ⟨?_, fun o => ?_, fun o => ?_⟩,
    fun r lo hi => ⟨?_, ?_⟩⟩
  · exact eventDoes_of (fun _ => rfl) fun u on => doEdc_retried u gmc k on
  · exact eventDoes_of (fun _ => rfl) fun u on => doEdc_retrained u gmc on
  · exact eventDoes_of (fun _ => rfl) fun u ⟨on, once⟩ => doEdc_first u gmc on once
  · exact eventDoes_of (fun _ => rfl) fun u ⟨on, twice⟩ => doEdc_second u gmc on twice
  · exact eventDoes_of (fun _ => rfl) fun u off => doEdc_off u gmc o off
  · exact eventDoes_of (fun _ => rfl) fun u ⟨hot, was⟩ => doHot_rises u gmc temp hot was
  · exact eventDoes_of (fun _ => rfl) fun u ⟨hot, was⟩ => doHot_stays u gmc temp hot was
  · exact eventDoes_of (fun _ => rfl) fun u cool => doHot_cool u gmc temp cool
  · exact eventDoes_of (fun _ => rfl) fun u ⟨gddr, data⟩ => doDetection_transient u addr.toNat r gddr data
  · exact eventDoes_of (fun _ => rfl) fun u ⟨gddr, data⟩ => doDetection_fails u addr.toNat r gddr data
  · exact eventDoes_of (fun _ => rfl) fun u ⟨cxl, held⟩ => doDetection_framed u addr.toNat f r cxl held
  · exact eventDoes_of (fun _ => rfl) fun u ⟨gddr, out⟩ => doDetection_outside u addr.toNat second r gddr out
  · exact eventDoes_of (fun _ => rfl) fun u ⟨found, held⟩ => doRefetch_data u addr.toNat x found held
  · exact eventDoes_of (fun _ => rfl) fun u ⟨found, gone⟩ => doRefetch_evicted u addr.toNat o x found gone
  · exact eventDoes_of (fun _ => rfl) fun u none => doRefetch_none u addr.toNat o none
  · exact highDoes_of (fun _ => rfl) fun t few => regAct_hremoveHi_stores t r.port hi _ few
  · exact highRefused_of (fun _ => rfl) fun t many => congrArg Prod.fst (regAct_hremoveHi_refused t r.port hi _ many)

end Sys2Proof.Machine
end

section
/-! The compute-die copies and the timing exchanges with the torus neighbours (R15, R44, R45). -/
namespace Sys2Proof.Machine

/-! Requests (R44) -/

/-- A port that is UP and has sent no request in the last 100,000 ticks sends the next one. -/
theorem doTimingExchange_due (s : State) (n : Nat) (up : s.torusUp n = true)
    (due : ∀ t, (s.nbr n).lastAt = some t → t + 100000 ≤ s.now) :
    s.doTimingExchange n = (s.setNbr n { s.nbr n with
      t1 := some (s.stamp % 2 ^ 64, (s.nbr n).xnum), xnum := (s.nbr n).xnum + 1, lastAt := some s.now }).send
        (.ctlUnit n (.timingReq (s.nbr n).xnum)) := by
  unfold State.doTimingExchange
  refine if_pos ⟨up, ?_⟩
  split
  next t sent => exact decide_eq_true (due t sent)
  next => rfl

/-- A port that is UP answers a request at once. -/
theorem doTimingRequest_up (s : State) (n : Nat) (xnum : W16) (up : s.torusUp n = true) :
    s.doTimingRequest n xnum = s.send (.ctlUnit n (.timingReply (BitVec.ofNat 3 (modeCode s.way.mode))
      (BitVec.ofNat 64 s.stamp) (BitVec.ofNat 64 s.stamp) xnum)) :=
  if_pos up

/-! Replies (R44, R45) -/

/-- The delay that a reply gives to a request sent at t1. -/
def State.replyDelay (s : State) (t2 t3 : W64) (t1 : Nat) : Int :=
  ((BitVec.ofNat 64 s.stamp - BitVec.ofNat 64 t1) - (t3 - t2)).toInt.tdiv 2

/-- The neighbour offset that it gives, less the asymmetry of the port. -/
def State.replyOffset (s : State) (n : Nat) (t2 t3 : W64) (t1 : Nat) : Int :=
  ((t2 - BitVec.ofNat 64 t1) - (BitVec.ofNat 64 s.stamp - t3)).toInt.tdiv 2
    - signed 32 (s.reg Pg.wst (Reg.wstPasym n)).toNat

/-- The neighbour of a port with the sample of a reply among its last ten. -/
def State.replySampled (s : State) (n : Nat) (mode : BitVec 3) (t2 t3 : W64) (t1 : Nat) : NbrTime :=
  { s.nbr n with
    t1 := none, mode := mode.toNat,
    samples := ((s.nbr n).samples ++ [(s.replyDelay t2 t3 t1, s.replyOffset n t2 t3 t1)]).drop
      ((s.nbr n).samples.length - 9) }

/-- A reply while no request is in hand. -/
theorem doTimingReply_unasked (s : State) (n : Nat) (mode : BitVec 3) (t2 t3 : W64) (xnum : W16)
    (unasked : (s.nbr n).t1 = none) : s.doTimingReply n mode t2 t3 xnum = s := by
  unfold State.doTimingReply
  simp only [unasked]

/-- A reply to the request in hand, at a port in use: the mean with its sample decides whether the port stays so. -/
theorem doTimingReply_answers (s : State) (n : Nat) (mode : BitVec 3) (t2 t3 : W64) (xnum : W16) (t1 : Nat)
    (up : s.torusUp n = true) (asked : (s.nbr n).t1 = some (t1, xnum)) (used : (s.nbr n).excluded = false) :
    s.doTimingReply n mode t2 t3 xnum =
      if outlier (s.replySampled n mode t2 t3 t1).off then
        (s.setNbr n { s.replySampled n mode t2 t3 t1 with excluded := true, okRun := 0 }).irq Pg.wst 21
      else s.setNbr n (s.replySampled n mode t2 t3 t1) := by
  have taken : ¬(xnum ≠ xnum ∨ (!s.torusUp n) = true) := by simp [up]
  unfold State.doTimingReply
  simp only [asked, if_neg taken]
  exact if_neg (Bool.eq_false_iff.1 used)

/-- Settles O10: each command by what its operation does where its event is due. -/
theorem timingExchanges : Obligations.TimingExchanges := by
  unfold Obligations.TimingExchanges
  refine ⟨fun die => ?_, fun port => ?_, fun port xnum => ?_, fun port mode t2 t3 xnum t1 => ⟨?_, ?_, ?_⟩⟩
  · exact eventDoes_of (fun _ => rfl) fun u _ => rfl
  · exact eventDoes_of (fun _ => rfl) fun u ⟨up, due⟩ => doTimingExchange_due u port up due
  · exact eventDoes_of (fun _ => rfl) fun u up => doTimingRequest_up u port xnum up
  · exact eventDoes_of (fun _ => rfl) fun u ⟨⟨up, asked, used⟩, near⟩ =>
      (doTimingReply_answers u port mode t2 t3 xnum t1 up asked used).trans (if_neg (Bool.eq_false_iff.1 near))
  · exact eventDoes_of (fun _ => rfl) fun u ⟨⟨up, asked, used⟩, far⟩ =>
      (doTimingReply_answers u port mode t2 t3 xnum t1 up asked used).trans (if_pos far)
  · exact eventDoes_of (fun _ => rfl) fun u unasked => doTimingReply_unasked u port mode t2 t3 xnum unasked

end Sys2Proof.Machine
end

section
/-! Configuration accesses, case by case: who is refused and how, what a read answers and latches, and what a write
holds or does (R24, R25, R27, R29, Tables 2.1 and 2.2). -/
namespace Sys2Proof.Machine

/-- The state in which an access of a port is carried out: whatever _LO word the port held is discarded (R27). -/
def State.unheld (s : State) (port : Nat) : State := { s with holds := s.holds.set none port none }

theorem regKey_page_offset (addr : Nat) : regKey (addr / 0x1000) (addr % 0x1000) = addr := by
  unfold regKey
  omega

theorem page_regKey {pg off : Nat} (h : off < 0x1000) : regKey pg off / 0x1000 = pg := by
  unfold regKey
  omega

theorem offset_regKey {pg off : Nat} (h : off < 0x1000) : regKey pg off % 0x1000 = off := by
  unfold regKey
  omega

/-! Reads -/

section Reads
variable {s : State} {port addr : Nat} (env : Env)

theorem cfgRead_unmapped (h : rowOf (addr / 0x1000) = none) :
    s.cfgRead port addr env = ((St.unmapped, 0), s.unheld port) := by
  unfold State.cfgRead State.unheld
  simp only [h, Option.isNone_none, if_true]

variable (mapped : (rowOf (addr / 0x1000)).isSome = true)
include mapped

theorem cfgRead_denied (h : (s.unheld port).mayRead port (addr / 0x1000) (addr % 0x1000) = false) :
    s.cfgRead port addr env = ((St.denied, 0), s.unheld port) := by
  unfold State.unheld at *
  unfold State.cfgRead
  simp only [Option.isNone_eq_false_iff.2 mapped, h, Bool.not_false, Bool.false_eq_true, if_false, if_true]

variable (may : (s.unheld port).mayRead port (addr / 0x1000) (addr % 0x1000) = true)
include may

theorem cfgRead_misaligned (h : addr % 0x1000 % 4 ≠ 0) :
    s.cfgRead port addr env = ((St.align, 0), s.unheld port) := by
  unfold State.unheld at *
  unfold State.cfgRead
  simp only [Option.isNone_eq_false_iff.2 mapped, may, Bool.not_true, Bool.false_eq_true, if_false]
  exact if_pos h

variable (aligned : addr % 0x1000 % 4 = 0) (quiet : actsOnRead (addr / 0x1000) (addr % 0x1000) = false)
include aligned quiet

/-- A read of a _LO register latches the _HI for the port. -/
theorem cfgRead_low (h : isLow (addr / 0x1000) (addr % 0x1000) = true) :
    s.cfgRead port addr env = ((St.ok, (s.unheld port).regRead port (addr / 0x1000) (addr % 0x1000)),
      { s.unheld port with latches := s.latches.set none (latchKey port (addr / 0x1000) (addr % 0x1000 + 4))
                             (some ((s.unheld port).regRead port (addr / 0x1000) (addr % 0x1000 + 4))) }) := by
  unfold State.unheld at *
  unfold State.cfgRead
  simp only [Option.isNone_eq_false_iff.2 mapped, may, aligned, quiet, h, Bool.not_true, Bool.false_eq_true, if_false,
    if_true, ne_eq, not_true_eq_false]

/-- The next read of a latched register returns the latch. -/
theorem cfgRead_latched {w : W32} (h : isLow (addr / 0x1000) (addr % 0x1000) = false)
    (latch : s.latches.get none (latchKey port (addr / 0x1000) (addr % 0x1000)) = some w) :
    s.cfgRead port addr env = ((St.ok, w),
      { s.unheld port with latches := s.latches.set none (latchKey port (addr / 0x1000) (addr % 0x1000)) none }) := by
  unfold State.unheld at *
  unfold State.cfgRead
  simp only [Option.isNone_eq_false_iff.2 mapped, may, aligned, quiet, h, latch, Bool.not_true, Bool.false_eq_true,
    if_false, ne_eq, not_true_eq_false]

/-- Any other read returns what the register reads. -/
theorem cfgRead_value (h : isLow (addr / 0x1000) (addr % 0x1000) = false)
    (latch : s.latches.get none (latchKey port (addr / 0x1000) (addr % 0x1000)) = none) :
    s.cfgRead port addr env =
      ((St.ok, (s.unheld port).regRead port (addr / 0x1000) (addr % 0x1000)), s.unheld port) := by
  unfold State.unheld at *
  unfold State.cfgRead
  simp only [Option.isNone_eq_false_iff.2 mapped, may, aligned, quiet, h, latch, Bool.not_true, Bool.false_eq_true,
    if_false, ne_eq, not_true_eq_false]

end Reads

/-! Writes -/

section Writes
variable {s : State} {port addr : Nat} {v : W32} {env : Env}

theorem cfgWrite_unmapped (h : rowOf (addr / 0x1000) = none) :
    s.cfgWrite port addr v env = (St.unmapped, s.unheld port) := by
  unfold State.cfgWrite State.unheld
  simp only [h, Option.isNone_none, if_true]

variable (mapped : (rowOf (addr / 0x1000)).isSome = true)
include mapped

theorem cfgWrite_denied (h : (s.unheld port).mayWrite port (addr / 0x1000) (addr % 0x1000) v = false) :
    s.cfgWrite port addr v env = (St.denied, s.unheld port) := by
  unfold State.unheld at *
  unfold State.cfgWrite
  simp only [Option.isNone_eq_false_iff.2 mapped, h, Bool.not_false, Bool.false_eq_true, if_false, if_true]

variable (may : (s.unheld port).mayWrite port (addr / 0x1000) (addr % 0x1000) v = true)
include may

theorem cfgWrite_misaligned (h : addr % 0x1000 % 4 ≠ 0) :
    s.cfgWrite port addr v env = (St.align, s.unheld port) := by
  unfold State.unheld at *
  unfold State.cfgWrite
  simp only [Option.isNone_eq_false_iff.2 mapped, may, Bool.not_true, Bool.false_eq_true, if_false]
  exact if_pos h

variable (aligned : addr % 0x1000 % 4 = 0)
include aligned

/-- A write of a _LO register that would be accepted is held. -/
theorem cfgWrite_low (h : isLow (addr / 0x1000) (addr % 0x1000) = true)
    (ok : ((s.unheld port).regWrite port (addr / 0x1000) (addr % 0x1000) v env).1 = 0) :
    s.cfgWrite port addr v env =
      (St.ok, { s.unheld port with holds := (s.unheld port).holds.set none port (some (addr, v)) }) := by
  unfold State.unheld at *
  unfold State.cfgWrite
  simp only [Option.isNone_eq_false_iff.2 mapped, may, aligned, h, Bool.not_true, Bool.false_eq_true, if_false, if_true,
    ne_eq, not_true_eq_false]
  generalize State.regWrite _ _ _ _ _ _ = x at ok ⊢
  obtain ⟨st, t⟩ := x
  obtain rfl : st = 0 := ok
  rfl

/-- A write of the _HI register of a pair whose _LO the port holds makes both take effect. -/
theorem cfgWrite_high {a : Nat} {lo : W32} {t t' : State} (h : isLow (addr / 0x1000) (addr % 0x1000) = false)
    (high : isHigh (addr / 0x1000) (addr % 0x1000) = true) (held : s.holds.get none port = some (a, lo))
    (own : a + 4 = addr)
    (low : (s.unheld port).regWrite port (addr / 0x1000) (addr % 0x1000 - 4) lo env = (0, t))
    (ok : t.regWrite port (addr / 0x1000) (addr % 0x1000) v env = (0, t')) :
    s.cfgWrite port addr v env = (St.ok, t') := by
  unfold State.unheld at *
  unfold State.cfgWrite
  simp only [Option.isNone_eq_false_iff.2 mapped, may, aligned, h, high, held, own, low, ok, Bool.not_true,
    Bool.false_eq_true, if_false, if_true, ne_eq, not_true_eq_false]

/-- Any other write acts on its register alone. -/
theorem cfgWrite_single (h : isLow (addr / 0x1000) (addr % 0x1000) = false)
    (other : ∀ (a : Nat) (lo : W32), s.holds.get none port = some (a, lo) →
      isHigh (addr / 0x1000) (addr % 0x1000) = true → a + 4 ≠ addr) :
    s.cfgWrite port addr v env = (s.unheld port).regWrite port (addr / 0x1000) (addr % 0x1000) v env := by
  unfold State.unheld at *
  unfold State.cfgWrite
  simp only [Option.isNone_eq_false_iff.2 mapped, may, aligned, h, Bool.not_true, Bool.false_eq_true, if_false, ne_eq,
    not_true_eq_false]
  split
  next high =>
    split
    next a lo held => exact if_neg (other a lo held high)
    next => rfl
  next => rfl

theorem cfgWrite_alone (low : isLow (addr / 0x1000) (addr % 0x1000) = false)
    (high : isHigh (addr / 0x1000) (addr % 0x1000) = false) :
    s.cfgWrite port addr v env = (s.unheld port).regWrite port (addr / 0x1000) (addr % 0x1000) v env :=
  cfgWrite_single mapped may aligned low fun _ _ _ pair => absurd (high.symm.trans pair) Bool.false_ne_true

end Writes

/-! The commands -/

/-- A CFG_RD of a register whose read performs no access, from what the read answers. -/
theorem cfgRdDoes_of {r : Req} {addr : BitVec 24} {st : Nat} {H : State → Prop} {v : State → W32}
    {E : State → State} (len : r.len = 4) (quiet : actsOnRead (addr.toNat / 0x1000) (addr.toNat % 0x1000) = false)
    (h : ∀ u, H u → u.cfgRead r.port addr.toNat Env.none = ((st, v u), E u)) :
    RequestDoes (.cfgRd r addr) r 1 .redo H (fun u => (⟨st, toLE 4 (v u).toNat⟩, E u)) := by
  refine requestDoes_of (act := fun u => (⟨(u.cfgRead r.port addr.toNat Env.none).1.1,
    toLE 4 (u.cfgRead r.port addr.toNat Env.none).1.2.toNat⟩, (u.cfgRead r.port addr.toNat Env.none).2))
    (fun s => ?_) (fun u hu => by rw [h u hu]) (decide_eq_true len)
  show run (fun s => s.doCfgRd r addr.toNat) s = _
  unfold State.doCfgRd
  rw [quiet]
  rfl

/-- A configuration write that its port takes up, from what the write does. -/
theorem askWrite_taken {s t : State} {r : Req} {addr : Nat} {v : W32} {env : Env} {st : Nat}
    (taken : s.takesUp r 2 = true) (len : r.len = 8) (h : (s.received r 2).cfgWrite r.port addr v env = (st, t)) :
    s.askWrite r addr v env = t.replied r 2 .keep (Resp.of st) := by
  unfold State.askWrite
  rw [request_acts _ _ _ _ _ _ taken (decide_eq_true len), h]

/-- A CFG_WR that asks nothing of the environment. -/
theorem exec_cfgWr_unasked {s : State} (r : Req) {addr : BitVec 24} (v : W32) (live : s.live = true)
    (unasked : asksEnv addr.toNat = false) :
    exec (.cfgWr r addr v) s = .next (s.done (s.hush.askWrite r addr.toNat v Env.none)) := by
  show run (fun s => s.doCfgWr r addr.toNat v) s = _
  rw [run_live _ _ live]
  unfold State.doCfgWr
  rw [unasked]
  rfl

/-- The same, from what the write does. -/
theorem exec_cfgWr {s t : State} {r : Req} {addr : BitVec 24} {v : W32} {st : Nat} (live : s.live = true)
    (taken : s.hush.takesUp r 2 = true) (len : r.len = 8) (unasked : asksEnv addr.toNat = false)
    (h : (s.hush.received r 2).cfgWrite r.port addr.toNat v Env.none = (st, t)) :
    exec (.cfgWr r addr v) s = .next (s.done (t.replied r 2 .keep (Resp.of st))) := by
  rw [exec_cfgWr_unasked r v live unasked, askWrite_taken taken len h]

/-- A CFG_WR that asks the environment, with open answers. -/
theorem exec_cfgWr_asked {s t : State} {r : Req} {addr : BitVec 24} {v : W32} {st : Nat} (live : s.live = true)
    (taken : s.hush.openEnv.2.takesUp r 2 = true) (len : r.len = 8) (asked : asksEnv addr.toNat = true)
    (h : (s.hush.openEnv.2.received r 2).cfgWrite r.port addr.toNat v s.hush.openEnv.1 = (st, t)) :
    exec (.cfgWr r addr v) s = .next (s.done (t.replied r 2 .keep (Resp.of st))) := by
  show run (fun s => s.doCfgWr r addr.toNat v) s = _
  rw [run_live _ _ live]
  unfold State.doCfgWr
  rw [asked]
  exact congrArg (fun t => Host.Outcome.next (s.done t)) (askWrite_taken taken len h)

/-- Settles O5: the checks of a read, one after another. -/
theorem cfgReadAnswers : Obligations.CfgReadAnswers := by
  unfold Obligations.CfgReadAnswers
  intro r addr len pg off drop quiet
  refine ⟨?_, ?_, ?_, ?_⟩
  · exact cfgRdDoes_of (v := fun _ => 0) len quiet fun u unmapped => cfgRead_unmapped _ unmapped
  · exact cfgRdDoes_of (v := fun _ => 0) len quiet fun u ⟨mapped, denied⟩ => cfgRead_denied _ mapped denied
  · exact cfgRdDoes_of (v := fun _ => 0) len quiet fun u ⟨mapped, may, odd⟩ =>
      cfgRead_misaligned _ mapped may odd
  · exact cfgRdDoes_of len quiet fun u ⟨mapped, may, aligned, low, latch⟩ =>
      cfgRead_value _ mapped may aligned quiet low latch

/-- Settles O6: a read latches and returns the latch; a write of _LO is held, and the next access finds it or not. -/
theorem pairsLatchAndHold : Obligations.PairsLatchAndHold := by
  unfold Obligations.PairsLatchAndHold
  constructor
  · intro r addr len pg off drop quiet
    refine ⟨?_, fun w => ?_⟩
    · exact cfgRdDoes_of len quiet fun u ⟨mapped, may, aligned, low⟩ => cfgRead_low _ mapped may aligned quiet low
    · exact cfgRdDoes_of (v := fun _ => w) len quiet fun u ⟨mapped, may, aligned, low, latch⟩ =>
        cfgRead_latched _ mapped may aligned quiet low latch
  · intro r addr v s live taken len unasked pg off u mapped may aligned
    refine ⟨?_, ?_, rfl, ?_⟩
    · rintro ⟨low, ok⟩
      exact exec_cfgWr live taken len unasked (cfgWrite_low mapped may aligned low ok)
    · rintro a lo t t' ⟨low, high, held, own, wlo, whi⟩
      exact exec_cfgWr live taken len unasked (cfgWrite_high mapped may aligned low high held own wlo whi)
    · rintro ⟨low, other⟩
      exact exec_cfgWr live taken len unasked (cfgWrite_single mapped may aligned low other)

/-! One register written -/

theorem regWrite_locked {s : State} {pg off : Nat} (port : Nat) (v : W32) (env : Env) (h : s.lockedReg pg off = true) :
    s.regWrite port pg off v env = (St.locked, s) := by
  unfold State.regWrite
  exact if_pos h

/-- No lock holds an offset that is neither in the header nor in the block's table. -/
theorem lockedReg_undefined (s : State) {pg off : Nat} (h : 0x100 ≤ off) (undef : regDef pg off = none) :
    s.lockedReg pg off = false := by
  unfold State.lockedReg rwReg
  rw [if_neg (by omega), if_neg (by omega), undef]
  simp

/-- A reserved offset at 0x100 or above takes nothing. -/
theorem regWrite_undefined {s : State} {pg off : Nat} (port : Nat) (v : W32) (env : Env) (h : 0x100 ≤ off)
    (lit : s.dark pg = false) (undef : regDef pg off = none) : s.regWrite port pg off v env = (St.ok, s) := by
  unfold State.regWrite
  rw [lockedReg_undefined s h undef, lit, undef]
  simp [Nat.not_lt.2 h]

/-- A reserved offset of the common header (R25). -/
theorem headerWrite_reserved (s : State) (pg : Nat) {off : Nat} (mgmt : Bool) (v : W32) (bist : TestResult)
    (h : 0x02C ≤ off) : s.headerWrite pg off mgmt v bist = (St.ok, s) := by
  unfold State.headerWrite
  split
  case h_8 => rfl
  all_goals omega

theorem headerReg_reserved (s : State) (pg : Nat) {off : Nat} (h : 0x02C ≤ off) : s.headerReg pg off = 0 := by
  unfold State.headerReg
  split
  case h_12 => rfl
  all_goals omega

/-- An offset is reserved: in the header's free part, or in no row of the block's table. -/
def reservedOff (pg off : Nat) : Prop := (0x02C ≤ off ∧ off < 0x100) ∨ (0x100 ≤ off ∧ regDef pg off = none)

theorem regWrite_reserved {s : State} {pg off : Nat} (port : Nat) (v : W32) (env : Env) (h : reservedOff pg off)
    (lit : s.dark pg = false) : s.regWrite port pg off v env = (St.ok, s) := by
  rcases h with ⟨lo, hi⟩ | ⟨lo, undef⟩
  · have unlocked : s.lockedReg pg off = false := by
      unfold State.lockedReg
      rw [if_neg (by omega), if_neg (by omega), decide_eq_false (by omega)]
      rfl
    unfold State.regWrite
    rw [unlocked, lit, if_pos hi]
    exact headerWrite_reserved s pg _ v _ lo
  · exact regWrite_undefined port v env lo lit undef

theorem regRead_reserved (s : State) (port : Nat) {pg off : Nat} (h : reservedOff pg off) :
    s.regRead port pg off = 0 := by
  unfold State.regRead
  rcases h with ⟨lo, hi⟩ | ⟨lo, undef⟩
  · rw [if_pos hi]
    exact headerReg_reserved s pg lo
  · rw [if_neg (Nat.not_lt.2 lo), undef]

/-- The kinds of block whose registers have no rule of their own. -/
theorem regAct_plain (s : State) (port pg off : Nat) (v : W32) (io : IoResult)
    (h : blkOf pg ∈ [Blk.dev, .clk, .ctp, .scb, .rpl, .cor, .cnv, .sri, .gmc, .trp, .gwy]) :
    s.regAct port pg off v io = (St.ok, s.plainWrite port pg off v) := by
  unfold State.regAct
  generalize blkOf pg = b at h
  simp only [List.mem_cons, List.not_mem_nil, or_false] at h
  rcases h with rfl | rfl | rfl | rfl | rfl | rfl | rfl | rfl | rfl | rfl | rfl <;> rfl

/-- Settles O7: the checks of a write, one after another, then the plain store. -/
theorem cfgWriteAnswers : Obligations.CfgWriteAnswers := by
  unfold Obligations.CfgWriteAnswers
  intro r addr v s live taken len unasked pg off u answers
  have answered : ∀ {st : Nat} {t : State},
      (s.hush.received r 2).cfgWrite r.port addr.toNat v Env.none = (st, t) → answers t st :=
    fun h => exec_cfgWr live taken len unasked h
  refine ⟨fun unmapped => answered (cfgWrite_unmapped unmapped), ?_, ?_, ?_, ?_, ?_⟩
  · rintro ⟨mapped, denied⟩
    exact answered (cfgWrite_denied mapped denied)
  · rintro ⟨mapped, may, odd⟩
    exact answered (cfgWrite_misaligned mapped may odd)
  · rintro ⟨mapped, may, aligned, low, high, locked⟩
    exact answered ((cfgWrite_alone mapped may aligned low high).trans (regWrite_locked _ _ _ locked))
  · rintro ⟨mapped, may, aligned, lo, low, high, _, lit, undef⟩
    exact answered ((cfgWrite_alone mapped may aligned low high).trans (regWrite_undefined _ _ _ lo lit undef))
  · rintro ⟨granted, block⟩
    have wrote := askWrite_granted s.hush r pg off v Env.none taken len granted
    rw [regAct_plain _ _ _ _ _ _ block, regKey_page_offset] at wrote
    show exec _ s = _
    rw [exec_cfgWr_unasked r v live unasked, wrote]
    rfl

/-! The management port's own page (R29) -/

/-- The management port may not disable or reset its own CTP page. -/
theorem mayWrite_own_ctp (s : State) (port : Nat) (v : W32) (mgmt : s.isMgmt port = true)
    (h : bit v 0 = false ∨ bit v 1 = true) : s.mayWrite port (Pg.ctp port) 0x008 v = false := by
  unfold State.mayWrite
  rw [if_neg (by decide), if_pos mgmt]
  rcases h with h | h <;> simp [h]

theorem ctp_mapped (n : Fin 4) : (rowOf (Pg.ctp n)).isSome = true := by
  revert n
  decide

theorem cfgWrite_own_ctp {s : State} {port : Fin 4} {v : W32} (env : Env) (mgmt : (s.unheld port).isMgmt port = true)
    (h : bit v 0 = false ∨ bit v 1 = true) :
    s.cfgWrite port (regKey (Pg.ctp port) 0x008) v env = (St.denied, s.unheld port) := by
  refine cfgWrite_denied ?_ ?_
  · rw [page_regKey (by decide)]
    exact ctp_mapped port
  · rw [page_regKey (by decide), offset_regKey (by decide)]
    exact mayWrite_own_ctp _ _ _ mgmt h

/-- The words of a write of PG_CTRL that clears EN. -/
theorem bit_halt_zero (halt : Bool) : bit (w32 (4 * halt.toNat)) 0 = false := by
  cases halt <;> decide

theorem toNat_ctp (n : Fin 4) : (BitVec.ofNat 12 (Pg.ctp n)).toNat = Pg.ctp n := by
  revert n
  decide

/-- Settles O60: reserved offsets read 0 and take nothing, and the port's own page is refused before its write acts. -/
theorem reservedOffsetsAndOwnPage : Obligations.ReservedOffsetsAndOwnPage := by
  unfold Obligations.ReservedOffsetsAndOwnPage
  refine ⟨?_, ?_, ?_⟩
  · rintro r addr v pg off drop reserved mapped ⟨aligned, low, high, free⟩
    refine ⟨fun len quiet => ?_, fun len unasked s live taken ⟨may, lit⟩ => ?_⟩
    · refine cfgRdDoes_of (v := fun _ => 0) len quiet fun u ⟨may, latch⟩ => ?_
      rw [cfgRead_value _ mapped may aligned quiet low latch, regRead_reserved _ _ free]
      rfl
    · exact exec_cfgWr live taken len unasked
        ((cfgWrite_alone mapped may aligned low high).trans (regWrite_reserved _ _ _ free lit))
  · intro r halt bist s live taken len page u mgmt
    have refused : ∀ (w : W32) (env : Env), bit w 0 = false ∨ bit w 1 = true →
        run (fun s => s.askWrite r (regKey page.toNat 0x008) w env) s
          = .next (s.done (u.replied r 2 .keep (Resp.of 2))) := by
      intro w env h
      rw [run_live _ _ live, toNat_ctp, askWrite_taken taken len (cfgWrite_own_ctp env mgmt h)]
      rfl
    exact ⟨refused _ _ (.inl (bit_halt_zero halt)), refused _ _ (.inl (bit_halt_zero halt)), refused _ _ (.inr rfl)⟩
  · intro r addr v s live taken len u mgmt own off
    refine exec_cfgWr_asked live taken len ?_ ?_
    · unfold asksEnv
      rw [own, offset_regKey (by decide)]
      rfl
    · rw [own]
      exact cfgWrite_own_ctp _ mgmt off

end Sys2Proof.Machine
end

section
/-! The block state machine: a write of PG_CTRL by the page's state, and captures, counts and events of the page header
(R32 to R39, Tables 2.9 and 2.10). -/
namespace Sys2Proof.Machine

/-! HALT -/

theorem haltWrite_none {s : State} {pg : Nat} (halt : Bool) (h : hasHalt (blkOf pg) = false) :
    s.haltWrite pg halt = s := by
  unfold State.haltWrite
  rw [h]
  rfl

theorem haltWrite_stores {s : State} {pg : Nat} (halt : Bool) (h : hasHalt (blkOf pg) = true)
    (plain : blkOf pg ≠ .cnv) :
    s.haltWrite pg halt = s.setPage pg { s.page pg with halt := halt } := by
  unfold State.haltWrite
  simp only [h, plain, Bool.not_true, Bool.false_eq_true, false_and, if_false]

/-! EN (R36) -/

section Enable
variable {s : State} {pg : Nat}

theorem enWrite_off (h : (s.page pg).st = .off) (free : s.startRefused pg = false) :
    s.enWrite pg = (St.ok, s.beginStart pg) := by
  unfold State.enWrite
  simp only [h, free, Bool.false_eq_true, if_false]

theorem enWrite_off_refused (h : (s.page pg).st = .off) (refused : s.startRefused pg = true) :
    s.enWrite pg = (St.state, s) := by
  unfold State.enWrite
  simp only [h, refused, if_true]

theorem enWrite_up (h : (s.page pg).st = .on ∨ (s.page pg).st = .starting) :
    s.enWrite pg = (St.ok, s.setPage pg { s.page pg with en := true }) := by
  unfold State.enWrite
  rcases h with h | h <;> simp only [h]

theorem enWrite_stopping (h : (s.page pg).st = .stopping) :
    s.enWrite pg = (St.ok, s.setPage pg { s.page pg with en := true, reen := true }) := by
  unfold State.enWrite
  simp only [h]

theorem enWrite_failed (h : (s.page pg).st = .fault ∨ (s.page pg).st = .quarantined) :
    s.enWrite pg = (St.state, s) := by
  unfold State.enWrite
  rcases h with h | h <;> simp only [h]

theorem disWrite_on (h : (s.page pg).st = .on) (idle : blkOf pg = .par → (s.partSec (instOf pg)).quiet = true) :
    s.disWrite pg = (St.ok, (s.setPage pg { s.page pg with en := false }).enter pg .stopping) := by
  unfold State.disWrite
  simp only [h]
  refine if_neg ?_
  rintro ⟨par, busy⟩
  rw [idle par] at busy
  exact Bool.false_ne_true busy

theorem disWrite_busy (h : (s.page pg).st = .on) (par : blkOf pg = .par)
    (busy : (s.partSec (instOf pg)).quiet = false) :
    s.disWrite pg = (St.state, s) := by
  unfold State.disWrite
  simp only [h]
  exact if_pos ⟨par, by rw [busy]; rfl⟩

theorem disWrite_stopping (h : (s.page pg).st = .stopping) :
    s.disWrite pg = (St.ok, s.setPage pg { s.page pg with en := false, reen := false }) := by
  unfold State.disWrite
  simp only [h]

theorem disWrite_other (on : (s.page pg).st ≠ .on) (stopping : (s.page pg).st ≠ .stopping) :
    s.disWrite pg = (St.ok, s.setPage pg { s.page pg with en := false }) := by
  unfold State.disWrite
  cases h : (s.page pg).st
  case on => exact absurd h on
  case stopping => exact absurd h stopping
  all_goals simp only [h]

end Enable

/-! PG_CTRL -/

/-- The word of a write of PG_CTRL without SRST. -/
def ctrlWord (en halt : Bool) : W32 := w32 (4 * halt.toNat + en.toNat)

@[simp] theorem bit_ctrlWord_en (en halt : Bool) : bit (ctrlWord en halt) 0 = en := by
  revert en halt
  decide

@[simp] theorem bit_ctrlWord_srst (en halt : Bool) : bit (ctrlWord en halt) 1 = false := by
  revert en halt
  decide

@[simp] theorem bit_ctrlWord_halt (en halt : Bool) : bit (ctrlWord en halt) 2 = halt := by
  revert en halt
  decide

section Ctrl
variable {s t : State} {pg : Nat} (mgmt : Bool) {en : Bool} (halt : Bool) (r : TestResult) (sm : hasSM pg = true)
include sm

/-- What EN does is accepted: HALT takes its value too. -/
theorem ctrlWrite_accepted (h : (if en then s.enWrite pg else s.disWrite pg) = (0, t)) :
    s.ctrlWrite pg mgmt (ctrlWord en halt) r = (0, t.haltWrite pg halt) := by
  unfold State.ctrlWrite
  simp only [sm, h, bit_ctrlWord_en, bit_ctrlWord_srst, bit_ctrlWord_halt, Bool.not_true, Bool.false_eq_true, if_false]
  rfl

/-- What EN does is refused with STATE: so is the write. -/
theorem ctrlWrite_refused (h : (if en then s.enWrite pg else s.disWrite pg) = (St.state, t)) :
    s.ctrlWrite pg mgmt (ctrlWord en halt) r = (St.state, t) := by
  unfold State.ctrlWrite
  simp only [sm, h, bit_ctrlWord_en, bit_ctrlWord_srst, bit_ctrlWord_halt, Bool.not_true, Bool.false_eq_true, if_false]
  rfl

theorem ctrlWrite_srst : s.ctrlWrite pg mgmt 2 r = s.srstWrite pg mgmt r := by
  unfold State.ctrlWrite
  rw [sm]
  rfl

end Ctrl

/-- Settles O1: each write of PG_CTRL by what EN does in the page's state, and then HALT. -/
theorem pagesGoOnAndOff : Obligations.PagesGoOnAndOff := by
  unfold Obligations.PagesGoOnAndOff
  refine ⟨?_, ?_, ?_⟩
  · intro r page halt sm pg v
    refine ⟨?_, ?_, ?_, ?_, ?_⟩
    · exact headerDoes_of (fun _ => rfl) fun u _ ⟨off, free⟩ =>
        ctrlWrite_accepted (en := true) _ halt _ sm (enWrite_off off free)
    · exact headerDoes_of (fun _ => rfl) fun u _ ⟨off, refused⟩ =>
        ctrlWrite_refused (en := true) _ halt _ sm (enWrite_off_refused off refused)
    · exact headerDoes_of (fun _ => rfl) fun u _ up => ctrlWrite_accepted (en := true) _ halt _ sm (enWrite_up up)
    · exact headerDoes_of (fun _ => rfl) fun u _ stopping =>
        ctrlWrite_accepted (en := true) _ halt _ sm (enWrite_stopping stopping)
    · exact headerDoes_of (fun _ => rfl) fun u _ failed =>
        ctrlWrite_refused (en := true) _ halt _ sm (enWrite_failed failed)
  · intro r page halt sm pg v
    refine ⟨?_, ?_, ?_, ?_⟩
    · exact headerDoes_of (fun _ => rfl) fun u _ ⟨on, idle⟩ =>
        ctrlWrite_accepted (en := false) _ halt _ sm (disWrite_on on idle)
    · exact headerDoes_of (fun _ => rfl) fun u _ ⟨on, par, busy⟩ =>
        ctrlWrite_refused (en := false) _ halt _ sm (disWrite_busy on par busy)
    · exact headerDoes_of (fun _ => rfl) fun u _ stopping =>
        ctrlWrite_accepted (en := false) _ halt _ sm (disWrite_stopping stopping)
    · exact headerDoes_of (fun _ => rfl) fun u _ ⟨on, stopping⟩ =>
        ctrlWrite_accepted (en := false) _ halt _ sm (disWrite_other on stopping)
  · intro r page halt pg
    refine ⟨?_, ?_, ?_⟩
    · exact headerDoes_of (fun _ => rfl) fun u _ ⟨sm, on, has, plain⟩ =>
        (ctrlWrite_accepted (en := true) _ halt _ sm (enWrite_up (.inl on))).trans
          (congrArg (Prod.mk 0) (haltWrite_stores halt has plain))
    · exact headerDoes_of (fun _ => rfl) fun u _ ⟨sm, on, without⟩ =>
        (ctrlWrite_accepted (en := true) _ halt _ sm (enWrite_up (.inl on))).trans
          (congrArg (Prod.mk 0) (haltWrite_none halt without))
    · exact headerDoes_of (fun _ => rfl) fun u _ ⟨sm, on, without, other⟩ =>
        (ctrlWrite_accepted (en := false) _ halt _ sm (disWrite_on on fun par => absurd par other)).trans
          (congrArg (Prod.mk 0) (haltWrite_none halt without))

/-! SRST (R35, R37) -/

section Reset
variable {s : State} {pg : Nat} (mgmt : Bool) (r : TestResult)

theorem srstWrite_down (h : (s.page pg).st = .off ∨ (s.page pg).st = .fault) :
    s.srstWrite pg mgmt r = (St.ok, s.softReset pg) := by
  unfold State.srstWrite
  rcases h with h | h <;> simp only [h]

theorem srstWrite_up (h : (s.page pg).st = .on ∨ (s.page pg).st = .starting ∨ (s.page pg).st = .stopping) :
    s.srstWrite pg mgmt r = (St.state, s) := by
  unfold State.srstWrite
  rcases h with h | h | h <;> simp only [h]

theorem srstWrite_quarantined_denied (h : (s.page pg).st = .quarantined) :
    s.srstWrite pg false r = (St.denied, s) := by
  unfold State.srstWrite
  simp only [h, Bool.not_false, if_true]

/-- The management port resets a quarantined page whose self-test is the plain one, where that test passes. -/
theorem srstWrite_quarantined (h : (s.page pg).st = .quarantined) (cor : blkOf pg ≠ .cor) (ope : blkOf pg ≠ .ope) :
    s.srstWrite pg true r = (St.ok, if r.passed then s.softReset pg else s.testFails pg) := by
  unfold State.srstWrite
  simp only [h, Bool.not_true, Bool.false_eq_true, if_false]
  cases r.passed <;> simp

end Reset

/-- Settles O2: the soft reset by the page's state. -/
theorem pageSoftResetByState : Obligations.PageSoftResetByState := by
  unfold Obligations.PageSoftResetByState
  intro r page bist s sm live taken len pg u granted
  have reset : ∀ {st : Nat} {t : State}, u.srstWrite pg (u.isMgmt r.port) bist = (st, t) →
      exec (.pageSoftReset r page bist) s = .next (s.done (t.replied r 2 .keep (Resp.of st))) := by
    intro st t h
    show run (fun s => s.askWrite r (regKey pg 0x008) 2 ⟨bist, ⟨0, 0⟩⟩) s = _
    rw [run_live _ _ live, askWrite_header _ _ _ _ _ _ taken len granted]
    show Host.Outcome.next (s.done ((u.ctrlWrite pg (u.isMgmt r.port) 2 bist).2.replied r 2 .keep
      (Resp.of (u.ctrlWrite pg (u.isMgmt r.port) 2 bist).1))) = _
    rw [ctrlWrite_srst _ _ sm, h]
  refine ⟨fun down => reset (srstWrite_down _ _ down), fun up => reset (srstWrite_up _ _ up), ?_, ?_, ?_⟩
  · rintro ⟨quar, mgmt⟩
    exact reset (mgmt ▸ srstWrite_quarantined_denied _ quar)
  · rintro ⟨quar, mgmt, cor, ope, passed⟩
    exact reset (mgmt ▸ (srstWrite_quarantined _ quar cor ope).trans (by rw [if_pos passed]; rfl))
  · rintro ⟨quar, mgmt, cor, ope, failed⟩
    exact reset (mgmt ▸ (srstWrite_quarantined _ quar cor ope).trans
      (by rw [if_neg (Bool.eq_false_iff.1 failed)]; rfl))

/-! Captures and events (R32 to R34) -/

/-- The capture that was asked for copies every snapshotted counter and advances SEQ. -/
theorem doSnapComplete_takes {s : State} {pg : Nat} (h : (s.page pg).snapTake = true) :
    s.doSnapComplete pg = ((snapOffsets pg).foldl
        (fun s off => { s with snaps := s.snaps.set 0 (regKey pg off) (s.reg pg off) }) s).setPage pg
      { s.page pg with snapTake := false, snapValid := true, snapSeq := (s.page pg).snapSeq + 1 } := by
  unfold State.doSnapComplete
  simp only [h, Bool.not_true, Bool.false_eq_true, if_false]

/-- Settles O4: the writes of PG_SNAP and PG_ERR_CNT, the capture and the event. -/
theorem headerCommands : Obligations.HeaderCommands := by
  unfold Obligations.HeaderCommands
  refine ⟨fun r page => ?_, fun page => ?_, fun r page data => ?_, fun page b mapped event => ?_⟩
  · exact headerDoes_of (fun _ => rfl) fun u _ _ => congrArg (Prod.mk 0) (if_pos rfl)
  · exact eventDoes_of (fun _ => rfl) fun u taken => doSnapComplete_takes taken
  · exact headerDoes_of (fun _ => rfl) fun u _ _ => rfl
  · exact eventDoes_of (fun _ => rfl) fun u _ => if_pos ⟨mapped, event⟩

end Sys2Proof.Machine
end

section
/-! How start and stop sequences end, and their bounds (R37, R38, Table 2.10). -/
namespace Sys2Proof.Machine

/-! Start sequences -/

section Start
variable {s : State} {pg : Nat} {r : TestResult}

/-- The kinds of block with a start rule of their own. -/
def hasStartRule (b : Blk) : Prop := b = .par ∨ b = .cor ∨ b = .gmc ∨ b = .ope ∨ b = .ldg

theorem onHook_plain (h : ¬hasStartRule (blkOf pg)) : s.onHook pg = s := by
  unfold State.onHook
  unfold hasStartRule at h
  split <;> simp_all

theorem startDone_enabled (h : ¬hasStartRule (blkOf pg)) (en : (s.page pg).en = true) :
    s.startDone pg = s.enter pg .on := by
  unfold State.startDone
  rw [if_pos en, onHook_plain h]

theorem startDone_disabled (en : (s.page pg).en = false) : s.startDone pg = s.enter pg .stopping := by
  unfold State.startDone
  rw [if_neg (Bool.eq_false_iff.1 en)]

/-- A block without an engine and without a start rule of its own: its self-test decides. -/
theorem doStartComplete_plain (sm : hasSM pg = true) (starting : (s.page pg).st = .starting)
    (engine : engineOf pg = none) (h : ¬hasStartRule (blkOf pg)) :
    s.doStartComplete pg r =
      if r.passed then s.startDone pg else (s.testCode pg).2.startFault pg (s.testCode pg).1 := by
  unfold State.doStartComplete
  rw [if_neg (by simp [sm, starting])]
  unfold hasStartRule at h
  split
  case h_6 => rw [engine]
  all_goals simp_all

theorem testCode_of {c : Nat} (h : selfTestCode (blkOf pg) = some c) : s.testCode pg = (c, s) := by
  unfold State.testCode
  rw [h]

/-- A core with three failed columns in an array, or that fails elsewhere. -/
theorem doStartComplete_cor_fails (sm : hasSM pg = true) (starting : (s.page pg).st = .starting) (cor : blkOf pg = .cor)
    (fails : corePasses r = false) : s.doStartComplete pg r = (s.coreTest (instOf pg) r).startFault pg 0x13 := by
  unfold State.doStartComplete
  rw [if_neg (by simp [sm, starting])]
  simp only [cor, fails, Bool.false_eq_true, if_false]

end Start

/-! Stop sequences -/

section Stop
variable {s : State} {pg : Nat}

/-- The kinds of block that give something up as they stop, or finish what they had accepted. -/
def hasStopRule (b : Blk) : Prop :=
  b = .cor ∨ b = .par ∨ b = .trp ∨ b = .spn ∨ b = .cxl ∨ b = .ctp ∨ b = .ope ∨ b = .tol ∨ b = .col

theorem stopReady_plain (h : ¬hasStopRule (blkOf pg)) : s.stopReady pg = true := by
  unfold State.stopReady
  unfold hasStopRule at h
  split <;> simp_all

theorem stopHook_plain (h : ¬hasStopRule (blkOf pg)) : s.stopHook pg = s := by
  unfold State.stopHook
  unfold hasStopRule at h
  split <;> simp_all

theorem doStopComplete_plain (stopping : (s.page pg).st = .stopping) (h : ¬hasStopRule (blkOf pg)) :
    s.doStopComplete pg = if (s.page pg).reen then s.beginStart pg else s.enter pg .off := by
  unfold State.doStopComplete
  rw [if_neg (by simp [stopping, stopReady_plain h]), stopHook_plain h]

/-- A core that still runs a task does not end its stop sequence. -/
theorem doStopComplete_running (cor : blkOf pg = .cor) (busy : (s.core (instOf pg)).run.isSome = true) :
    s.doStopComplete pg = s := by
  have unready : s.stopReady pg = false := by
    unfold State.stopReady
    simp only [cor]
    exact Option.isNone_eq_false_iff.2 busy
  unfold State.doStopComplete
  exact if_pos (.inr (by rw [unready]; rfl))

end Stop

/-! Bounds (R38) -/

section Bounds
variable {s : State} {pg : Nat}

theorem doStartTimeout_early (h : s.now < (s.page pg).since + startBound (blkOf pg)) : s.doStartTimeout pg = s := by
  unfold State.doStartTimeout
  exact if_pos (.inr h)

section Late
variable (starting : (s.page pg).st = .starting) (late : (s.page pg).since + startBound (blkOf pg) ≤ s.now)
include starting late

theorem doStartTimeout_plain (gmc : blkOf pg ≠ .gmc) (ope : blkOf pg ≠ .ope) (engine : engineOf pg = none) :
    s.doStartTimeout pg = s.startFault pg 0x01 := by
  unfold State.doStartTimeout
  simp [starting, Nat.not_lt.2 late, gmc, ope, engine]

theorem doStartTimeout_gmc (gmc : blkOf pg = .gmc) : s.doStartTimeout pg = s.startFault pg 0x10 := by
  rw [gmc] at late
  unfold State.doStartTimeout
  simp [starting, gmc, Nat.not_lt.2 late]

end Late

theorem doStopTimeout_early (h : s.now < (s.page pg).since + 1000000) : s.doStopTimeout pg = s := by
  unfold State.doStopTimeout
  exact if_pos (.inr h)

theorem doStopTimeout_idle (stopping : (s.page pg).st = .stopping) (late : (s.page pg).since + 1000000 ≤ s.now)
    (idle : s.stopPartOf pg = none) :
    s.doStopTimeout pg = (s.errorOpen pg Cls.task 0 0x02).enter pg .fault := by
  unfold State.doStopTimeout
  simp [stopping, Nat.not_lt.2 late, idle]

end Bounds

/-- Settles O3: each ending by what the sequence does there, each bound by the time that has passed. -/
theorem sequencesEndOrTimeOut : Obligations.SequencesEndOrTimeOut := by
  unfold Obligations.SequencesEndOrTimeOut
  refine ⟨⟨fun page res => ?_, fun page => ?_⟩, fun page => ?_, fun page => ?_⟩
  · intro pg simple
    have plain : simple → hasSM pg = true ∧ engineOf pg = none ∧ ¬hasStartRule (blkOf pg) := by
      rintro ⟨sm, engine, par, cor, gmc, ope, ldg⟩
      exact ⟨sm, engine, by simp [hasStartRule, *]⟩
    refine ⟨?_, ?_, ?_, ?_⟩
    · refine eventDoes_of (fun _ => rfl) fun u ⟨isSimple, starting, en, passed⟩ => ?_
      obtain ⟨sm, engine, free⟩ := plain isSimple
      rw [doStartComplete_plain sm starting engine free, if_pos passed, startDone_enabled free en]
    · refine eventDoes_of (fun _ => rfl) fun u ⟨isSimple, starting, en, passed⟩ => ?_
      obtain ⟨sm, engine, free⟩ := plain isSimple
      rw [doStartComplete_plain sm starting engine free, if_pos passed, startDone_disabled en]
    · refine eventDoes_of (fun _ => rfl) fun u ⟨isSimple, starting, failed, code⟩ => ?_
      obtain ⟨sm, engine, free⟩ := plain isSimple
      rw [doStartComplete_plain sm starting engine free, if_neg (Bool.eq_false_iff.1 failed), testCode_of code]
      rfl
    · exact eventDoes_of (fun _ => rfl) fun u ⟨cor, sm, starting, fails⟩ =>
        doStartComplete_cor_fails sm starting cor fails
  · intro pg free
    have plain : free → ¬hasStopRule (blkOf pg) := by
      rintro ⟨cor, par, trp, spn, cxl, ctp, ope, tol, col⟩
      simp [hasStopRule, *]
    refine ⟨?_, ?_, ?_⟩
    · exact eventDoes_of (fun _ => rfl) fun u ⟨isFree, stopping, reen⟩ =>
        (doStopComplete_plain stopping (plain isFree)).trans (if_neg (Bool.eq_false_iff.1 reen))
    · exact eventDoes_of (fun _ => rfl) fun u ⟨isFree, stopping, reen⟩ =>
        (doStopComplete_plain stopping (plain isFree)).trans (if_pos reen)
    · exact eventDoes_of (fun _ => rfl) fun u ⟨cor, _, busy⟩ => doStopComplete_running cor busy
  · refine ⟨?_, ?_, ?_⟩
    · exact eventDoes_of (fun _ => rfl) fun u ⟨starting, late, gmc, ope, engine⟩ =>
        doStartTimeout_plain starting late gmc ope engine
    · exact eventDoes_of (fun _ => rfl) fun u ⟨starting, late, gmc⟩ =>
        doStartTimeout_gmc starting (by rw [gmc]; exact late) gmc
    · exact eventDoes_of (fun _ => rfl) fun u ⟨_, early⟩ => doStartTimeout_early early
  · refine ⟨?_, ?_⟩
    · exact eventDoes_of (fun _ => rfl) fun u ⟨stopping, late, idle⟩ => doStopTimeout_idle stopping late idle
    · exact eventDoes_of (fun _ => rfl) fun u ⟨_, early⟩ => doStopTimeout_early early

end Sys2Proof.Machine
end

section
/-! The Waystone's reference: markers by its mode, the loss of the reference, HOLDOVER, REF_EN, and the bounds of the servo
(R40 to R43, R46, R342). -/
namespace Sys2Proof.Machine

/-! Modes (R41) -/

theorem wstEnter_free {s : State} (h : s.way.mode ≠ .free) :
    s.wstEnter .free = { s with way := { s.way with mode := .free, lockRun := 0, adj := 0, adjI := 0 } } :=
  if_neg h

theorem wstEnter_acquire {s : State} (h : s.way.mode ≠ .acquire) :
    s.wstEnter .acquire = { s with way := { s.way with mode := .acquire, lockRun := 0 } } :=
  if_neg h

theorem wstEnter_holdover {s : State} (h : s.way.mode ≠ .holdover) :
    s.wstEnter .holdover =
      ({ s with way := { s.way with mode := .holdover, lockRun := 0, holdSince := s.now, lastServo := s.now }
        }.bump Pg.wst Reg.wstCntHold).irq Pg.wst 17 :=
  if_neg h

theorem refOff_acquire {s : State} (h : s.way.mode = .acquire) : s.refOff = s.wstEnter .free := by
  unfold State.refOff
  rw [h]

theorem refOff_locked {s : State} (h : s.way.mode = .locked) : s.refOff = s.wstEnter .holdover := by
  unfold State.refOff
  rw [h]

/-! Markers (R42, R43, R342) -/

/-- The state in which a marker with a good CRC reaches the Waystone: its source is shown, and it is counted. -/
def State.markerSeen (s : State) (src : W16) : State :=
  (s.setReg (Pg.ope 11) Reg.opeRefsrc (setFld (s.reg (Pg.ope 11) Reg.opeRefsrc) 15 0 src.toNat)).bump (Pg.ope 11)
    Reg.opeCntMarker

theorem doMarker_off {s : State} (m : W64) (src : W16) (ok : Bool) (h : s.isOn (Pg.ope 11) = false) :
    s.doMarker m src ok = s := by
  unfold State.doMarker
  simp [h]

theorem doMarker_bad {s : State} (m : W64) (src : W16) (h : s.isOn (Pg.ope 11) = true) :
    s.doMarker m src false = s.bump (Pg.ope 11) Reg.opeCntMkerr := by
  unfold State.doMarker
  simp [h]

theorem doMarker_good {s : State} (m : W64) (src : W16) (h : s.isOn (Pg.ope 11) = true) :
    s.doMarker m src true = (s.markerSeen src).marker m.toNat := by
  unfold State.doMarker
  simp [h, State.markerSeen]

/-- The marker comes within 999,000 ticks of the last accepted one. -/
def State.markEarly (s : State) : Prop := ∃ a, s.way.lastAccept = some a ∧ s.now < a + 999000

/-- The marker lies outside the window of WST_LOCK. -/
def State.markOut (s : State) (m : Nat) : Prop :=
  ((s.rf Pg.wst Reg.wstLock 31 16 * 256 : Nat) : Int) < s.markOff m ∨
    s.markOff m < -((s.rf Pg.wst Reg.wstLock 31 16 * 256 : Nat) : Int)

/-- A refused marker is counted, with REF_JUMP, and LOCKED falls to HOLDOVER (R43). -/
def State.markRefused (s : State) : State :=
  let t := (s.bump Pg.wst Reg.wstCntRef).irq Pg.wst 18
  if t.way.mode = .locked then t.wstEnter .holdover else t

/-- Where the Waystone refuses a marker, and what it does with one that it does not (R43). -/
theorem marker_enabled {s : State} (m : Nat) (ref : s.rb Pg.wst Reg.wstCtrl 6 = true)
    [Decidable (s.markEarly ∨ (s.way.mode = .locked ∧ s.markOut m))] :
    s.marker m =
      if s.markEarly ∨ (s.way.mode = .locked ∧ s.markOut m) then s.markRefused
      else if s.way.mode = .free then
        let t := s.wstEnter .acquire
        let t := t.setWst ((m + divEven (t.reg Pg.wst Reg.wstRefDly).toNat 256) * 2 ^ 40)
        t.markAccepted m (t.markOff m) true
      else s.markAccepted m (s.markOff m) false := by
  have early : (match s.way.lastAccept with | some t => decide (s.now < t + 999000) | none => false) = true
      ↔ s.markEarly := by
    unfold State.markEarly
    cases s.way.lastAccept <;> simp
  unfold State.marker
  simp only [ref, Bool.not_true, Bool.false_eq_true, if_false]
  exact ite_congr (propext (or_congr early Iff.rfl)) (fun _ => rfl) fun _ => rfl

/-- In LOCKED a marker that comes early or outside the window is refused. -/
theorem marker_refused {s : State} (m : Nat) (ref : s.rb Pg.wst Reg.wstCtrl 6 = true) (locked : s.way.mode = .locked)
    (h : s.markEarly ∨ s.markOut m) : s.marker m = s.markRefused := by
  classical
  rw [marker_enabled m ref]
  exact if_pos (h.imp_right fun out => ⟨locked, out⟩)

/-- In FREE one that does not come early enters ACQUIRE and loads the count; the servo runs on what is left of the
offset. -/
theorem marker_free {s : State} (m : Nat) (ref : s.rb Pg.wst Reg.wstCtrl 6 = true) (free : s.way.mode = .free)
    (h : ¬s.markEarly) :
    s.marker m =
      let t := { s with way := { s.way with mode := .acquire, lockRun := 0 } }
      let t := t.setWst ((m + divEven (t.reg Pg.wst Reg.wstRefDly).toNat 256) * 2 ^ 40)
      t.markAccepted m (t.markOff m) true := by
  classical
  rw [marker_enabled m ref, if_neg (by simp [h, free]), if_pos free, wstEnter_acquire (by simp [free])]

/-- Settles O8: what the lane lets through, and then the marker by the Waystone's mode. -/
theorem markerByMode : Obligations.MarkerByMode := by
  unfold Obligations.MarkerByMode
  intro m src ok seen early out
  refine ⟨?_, ?_, ?_, ?_⟩
  · exact eventDoes_of (fun _ => rfl) fun u off => doMarker_off m src ok off
  · exact eventDoes_of (fun _ => rfl) fun u on => doMarker_bad m src on
  · refine eventDoes_of (fun _ => rfl) fun u ⟨on, ref, free, late⟩ => ?_
    exact (doMarker_good m src on).trans ((marker_free m.toNat ref free late).trans (markAccepted_first _ _ _ rfl))
  · refine eventDoes_of (fun _ => rfl) fun u ⟨on, ref, locked, refused⟩ => ?_
    exact (doMarker_good m src on).trans (marker_refused m.toNat ref locked refused)

/-! The loss of the reference (R41, R43) -/

/-- No marker was accepted in the last 3,000,000 ticks, and one was before. -/
def State.refLost (s : State) : Prop := ∃ t, s.way.lastAccept = some t ∧ t + 3000000 ≤ s.now

theorem doRefLoss_lost {s : State} (h : s.refLost) :
    s.doRefLoss =
      let t := { s with way := { s.way with lockRun := 0 } }
      match t.way.mode with
      | .acquire => t.wstEnter .free
      | .locked => t.wstEnter .holdover
      | _ => t := by
  obtain ⟨a, accepted, late⟩ := h
  unfold State.doRefLoss
  simp only [accepted]
  exact if_pos late

theorem doRefLoss_kept {s : State} (h : ∀ t, s.way.lastAccept = some t → s.now < t + 3000000) : s.doRefLoss = s := by
  unfold State.doRefLoss
  split
  next => rfl
  next t accepted => exact if_neg (Nat.not_le.2 (h t accepted))

theorem doRefLoss_acquire {s : State} (h : s.refLost) (mode : s.way.mode = .acquire) :
    s.doRefLoss = { s with way := { s.way with mode := .free, lockRun := 0, adj := 0, adjI := 0 } } := by
  rw [doRefLoss_lost h]
  simp only [mode]
  exact wstEnter_free (by simp)

theorem doRefLoss_locked {s : State} (h : s.refLost) (mode : s.way.mode = .locked) :
    s.doRefLoss =
      ({ s with way := { s.way with mode := .holdover, lockRun := 0, holdSince := s.now, lastServo := s.now }
        }.bump Pg.wst Reg.wstCntHold).irq Pg.wst 17 := by
  rw [doRefLoss_lost h]
  simp only [mode]
  exact wstEnter_holdover (by simp)

/-! HOLDOVER (R46) -/

theorem servo_holdover_neighbours {s : State} (off : Int) (mode : s.way.mode = .holdover)
    (hold : s.rb Pg.wst Reg.wstCtrl 4 = true) (two : 2 ≤ s.nbrUse.length) : s.servo off = s.servoStep (-s.nbrMean) := by
  unfold State.servo
  simp only [mode]
  exact if_pos ⟨hold, two⟩

theorem servo_holdover_alone {s : State} (off : Int) (mode : s.way.mode = .holdover)
    (h : ¬(s.rb Pg.wst Reg.wstCtrl 4 = true ∧ 2 ≤ s.nbrUse.length)) :
    s.servo off = { s with way := { s.way with adj := s.way.adjI } } := by
  unfold State.servo
  simp only [mode]
  exact if_neg h

theorem doHoldoverServo_due {s : State} (mode : s.way.mode = .holdover) (due : s.way.lastServo + 1000000 ≤ s.now) :
    s.doHoldoverServo = { s with way := { s.way with lastServo := s.now } }.servo 0 :=
  if_pos ⟨mode, due⟩

/-! REF_EN (R41) -/

theorem regAct_wstCtrl (s : State) (port : Nat) (v : W32) (io : IoResult) :
    s.regAct port Pg.wst Reg.wstCtrl v io =
      (0, if s.rb Pg.wst Reg.wstCtrl 6 = true ∧ (!bit v 6) = true then (s.plainWrite port Pg.wst Reg.wstCtrl v).refOff
        else s.plainWrite port Pg.wst Reg.wstCtrl v) := rfl

theorem regAct_wstCtrl_stores {s : State} (port : Nat) {v : W32} (io : IoResult)
    (h : s.rb Pg.wst Reg.wstCtrl 6 = false ∨ bit v 6 = true) :
    s.regAct port Pg.wst Reg.wstCtrl v io = (0, s.plainWrite port Pg.wst Reg.wstCtrl v) := by
  rw [regAct_wstCtrl, if_neg]
  rintro ⟨was, cleared⟩
  rcases h with h | h <;> simp_all

theorem regAct_wstCtrl_clears {s : State} (port : Nat) {v : W32} (io : IoResult)
    (was : s.rb Pg.wst Reg.wstCtrl 6 = true) (cleared : bit v 6 = false) :
    s.regAct port Pg.wst Reg.wstCtrl v io = (0, (s.plainWrite port Pg.wst Reg.wstCtrl v).refOff) := by
  rw [regAct_wstCtrl, if_pos ⟨was, by rw [cleared]; rfl⟩]

/-- Settles O9: each mode that the loss of the reference and a cleared REF_EN leave, and the run of the servo in
HOLDOVER. -/
theorem referenceLostOrDisabled : Obligations.ReferenceLostOrDisabled := by
  unfold Obligations.ReferenceLostOrDisabled
  refine ⟨⟨?_, ?_, ?_, ?_, ?_⟩, fun r data => ⟨?_, ?_, ?_⟩⟩
  · exact eventDoes_of (fun _ => rfl) fun u ⟨lost, mode⟩ => doRefLoss_acquire lost mode
  · exact eventDoes_of (fun _ => rfl) fun u ⟨lost, mode⟩ => doRefLoss_locked lost mode
  · exact eventDoes_of (fun _ => rfl) fun u kept => doRefLoss_kept kept
  · refine eventDoes_of (fun _ => rfl) fun u ⟨mode, due, hold, two⟩ => ?_
    exact (doHoldoverServo_due mode due).trans (servo_holdover_neighbours 0 mode hold two)
  · refine eventDoes_of (fun _ => rfl) fun u ⟨mode, due, hold⟩ => ?_
    exact (doHoldoverServo_due mode due).trans
      (servo_holdover_alone 0 mode fun h => Bool.false_ne_true (hold.symm.trans h.1))
  · exact writeDoes_of (fun _ => rfl) fun u _ kept => regAct_wstCtrl_stores r.port _ kept
  · refine writeDoes_of (fun _ => rfl) fun u _ ⟨was, cleared, locked⟩ => ?_
    rw [regAct_wstCtrl_clears r.port _ was cleared, refOff_locked locked, wstEnter_holdover (by simp [locked])]
  · refine writeDoes_of (fun _ => rfl) fun u _ ⟨was, cleared, acquire⟩ => ?_
    rw [regAct_wstCtrl_clears r.port _ was cleared, refOff_acquire acquire, wstEnter_free (by simp [acquire])]

/-! The bounds of the rate (R40, R46) -/

/-- ADJ and ADJ_I within ±200 ppm. -/
def State.rateBounded (s : State) : Prop :=
  -219902325 ≤ s.way.adj ∧ s.way.adj ≤ 219902325 ∧ -219902325 ≤ s.way.adjI ∧ s.way.adjI ≤ 219902325

theorem clampAdj_bounds (v : Int) : -219902325 ≤ clampAdj v ∧ clampAdj v ≤ 219902325 := by
  unfold clampAdj
  split
  · omega
  · split <;> omega

/-- A step of the servo is bounded whatever the state before it. -/
theorem servoStep_bounded (s : State) (e : Int) : (s.servoStep e).rateBounded :=
  ⟨(clampAdj_bounds _).1, (clampAdj_bounds _).2, (clampAdj_bounds _).1, (clampAdj_bounds _).2⟩

theorem servo_bounded {s : State} (off : Int) (h : s.rateBounded) : (s.servo off).rateBounded := by
  obtain ⟨-, -, lo, hi⟩ := h
  unfold State.servo
  extract_lets w locked
  split
  case h_1 => split <;> exact servoStep_bounded _ _
  case h_2 =>
    split
    · exact servoStep_bounded _ _
    · exact ⟨lo, hi, lo, hi⟩
  case h_3 => exact servoStep_bounded _ _

theorem doHoldoverServo_bounded {s : State} (h : s.rateBounded) : s.doHoldoverServo.rateBounded := by
  unfold State.doHoldoverServo
  split
  · exact servo_bounded 0 h
  · exact h

/-- Entering a mode keeps the rate, or makes it 0. -/
theorem wstEnter_bounded {s : State} (mode : WstMode) (h : s.rateBounded) : (s.wstEnter mode).rateBounded := by
  unfold State.wstEnter
  split
  · exact h
  · cases mode
    case free => unfold State.rateBounded; simp
    case acquire => exact h
    all_goals
      unfold State.rateBounded
      simp only [irq_way, bump_way]
      exact h

theorem doRefLoss_bounded {s : State} (h : s.rateBounded) : s.doRefLoss.rateBounded := by
  unfold State.doRefLoss
  split
  · exact h
  · split
    · dsimp only
      split
      · exact wstEnter_bounded .free h
      · exact wstEnter_bounded .holdover h
      · exact h
    · exact h

/-- Settles O11: the clamp bounds every step of the servo, and every other change of the rate keeps it or clears it. -/
theorem servoStaysWithin200ppm : Obligations.ServoStaysWithin200ppm := by
  unfold Obligations.ServoStaysWithin200ppm
  intro within s off h
  exact ⟨servo_bounded off h, doHoldoverServo_bounded h, doRefLoss_bounded h⟩

end Sys2Proof.Machine
end

section
/-! The stream window and the stream commands (R50 to R52, Tables 3.3, 3.4 and 3.8), and when a stream runs and ends. -/
namespace Sys2Proof.Machine

/-! Where the registers of the stream page lie -/

theorem fld_w32_cmd_op {op n : Nat} (hop : op < 16) (hn : n < 2 ^ 13) : fld (w32 (at_ 16 op + n)) 19 16 = op := by
  unfold fld w32 at_ nbits
  rw [BitVec.toNat_ofNat, Nat.shiftLeft_eq, Nat.shiftRight_eq_div_pow]
  omega

theorem fld_w32_cmd_stream (op : Nat) {n : Nat} (hn : n < 2 ^ 13) : fld (w32 (at_ 16 op + n)) 12 0 = n := by
  unfold fld w32 at_ nbits
  rw [BitVec.toNat_ofNat, Nat.shiftLeft_eq, Nat.shiftRight_eq_div_pow]
  omega

theorem regIndex_evpop_strDwin (w : Fin 32) : regIndex (Reg.strEvpopp 0) 8 8 (Reg.strDwin w) = none := by
  revert w
  decide

theorem regIndex_dwin_strDwin (w : Fin 32) : regIndex (Reg.strDwin 0) 4 32 (Reg.strDwin w) = some w.val := by
  revert w
  decide

theorem strDwin_ne_strCmd (w : Fin 32) : Reg.strDwin w ≠ Reg.strCmd := by
  revert w
  decide

theorem regIndex_evpop_strEvpopp (p : Part) : regIndex (Reg.strEvpopp 0) 8 8 (Reg.strEvpopp p) = some p.val := by
  revert p
  decide

theorem strEvpopp_ne_strCmd (p : Part) : Reg.strEvpopp p ≠ Reg.strCmd := by
  revert p
  decide

/-! What a write of the stream page does -/

section Writes
variable {s : State} {port : Nat} (io : IoResult)

theorem regAct_str (off : Nat) (v : W32) :
    s.regAct port Pg.str off v io =
      if off = Reg.strCmd then
        if s.strCmdOk (fld v 19 16) (fld v 12 0) then (0, s.strCmd (fld v 19 16) (fld v 12 0)) else (4, s)
      else match regIndex (Reg.strEvpopp 0) 8 8 off, regIndex (Reg.strDwin 0) 4 32 off with
        | some p, _ =>
          if bit v 0 then
            (0, { s with str := { s.str with evq := vset s.str.evq p ((vget s.str.evq p).drop 1),
                                             evOvf := setBit s.str.evOvf p false } })
          else (0, s)
        | none, some w =>
          if s.dwinRefused (fld (s.portReg port Pg.str Reg.strDsel) 12 0) w v then (4, s)
          else (0, s.dwinStore (fld (s.portReg port Pg.str Reg.strDsel) 12 0) w v)
        | none, none => (0, s.plainWrite port Pg.str off v) := rfl

/-- The window (R50, R51). -/
theorem regAct_strDwin (w : Fin 32) (v : W32) :
    s.regAct port Pg.str (Reg.strDwin w) v io =
      if s.dwinRefused (fld (s.portReg port Pg.str Reg.strDsel) 12 0) w v then (4, s)
      else (0, s.dwinStore (fld (s.portReg port Pg.str Reg.strDsel) 12 0) w v) := by
  rw [regAct_str, if_neg (strDwin_ne_strCmd w), regIndex_evpop_strDwin, regIndex_dwin_strDwin]

theorem regAct_strDsel (v : W32) :
    s.regAct port Pg.str Reg.strDsel v io = (0, s.plainWrite port Pg.str Reg.strDsel v) := rfl

/-- A pop of a partition's event queue (Table 3.8). -/
theorem regAct_strEvpopp (p : Part) :
    s.regAct port Pg.str (Reg.strEvpopp p) 1 io =
      (0, { s with str := { s.str with evq := vset s.str.evq p ((vget s.str.evq p).drop 1),
                                       evOvf := setBit s.str.evOvf p false } }) := by
  rw [regAct_str, if_neg (strEvpopp_ne_strCmd p), regIndex_evpop_strEvpopp]
  rfl

/-- A stream command (R52). -/
theorem regAct_strCmd {op : Nat} (hop : op < 16) (n : BitVec 13) :
    s.regAct port Pg.str Reg.strCmd (w32 (at_ 16 op + n.toNat)) io =
      if s.strCmdOk op n.toNat then (0, s.strCmd op n.toNat) else (4, s) := by
  rw [regAct_str, if_pos rfl, fld_w32_cmd_op hop n.isLt, fld_w32_cmd_stream op n.isLt]

end Writes

/-- A stream command, by what an accepted one does. -/
theorem strCmdDoes_of {c : Instr} {r : Req} {op : Nat} {n : BitVec 13} {H : State → Prop} {E : State → State}
    (e : ∀ s, exec c s = run (fun s => s.regSet r Pg.str Reg.strCmd (w32 (at_ 16 op + n.toNat))) s) (hop : op < 16)
    (ok : ∀ u, H u → u.strCmdOk op n.toNat = true) (h : ∀ u, H u → u.strCmd op n.toNat = E u) :
    WriteDoes c r Pg.str Reg.strCmd (w32 (at_ 16 op + n.toNat)) 0 H E :=
  writeDoes_of e fun u _ hu => by rw [regAct_strCmd _ hop, if_pos (ok u hu), h u hu]

/-- A stream command that the stream's state does not list. -/
theorem strCmdRefused_of {c : Instr} {r : Req} {op : Nat} {n : BitVec 13}
    (e : ∀ s, exec c s = run (fun s => s.regSet r Pg.str Reg.strCmd (w32 (at_ 16 op + n.toNat))) s) (hop : op < 16) :
    WriteDoes c r Pg.str Reg.strCmd (w32 (at_ 16 op + n.toNat)) 4 (fun u => u.strCmdOk op n.toNat = false) (fun u => u) :=
  writeDoes_of e fun u _ bad => by rw [regAct_strCmd _ hop, if_neg (Bool.eq_false_iff.1 bad)]

theorem dwinStore_counter {s : State} (n : Nat) {w : Nat} (v : W32) (h : 0x19 ≤ w) : s.dwinStore n w v = s.setSw n w 0 :=
  if_pos h

theorem dwinStore_fields {s : State} (n : Nat) {w : Nat} (v : W32) (h : w < 0x19) :
    s.dwinStore n w v = s.setSw n w ((dwinFields w).foldl
      (fun x (f : Nat × Nat × Nat) => if f.2.2.testBit (s.strState n) then setFld x f.1 f.2.1 (fld v f.1 f.2.1) else x)
      (s.sw n w)) :=
  if_neg (Nat.not_le.2 h)

/-! The commands -/

/-- The state in which a stream is ARMED: nothing held of an earlier run but event times and bindings, the bucket
full, and the first tick at ORIGIN (Table 3.4). -/
def State.armed (s : State) (n : Nat) : State :=
  let s := s.setStrAux n { StreamAux.init with
    evTimes := (s.strAux n).evTimes, bound := (s.strAux n).bound, bucketAt := s.count }
  let s := s.setSf n 0x60 31 0 (s.sf n 4 27 24 * 2 ^ 16)
  let s := (s.setSf64 n 0x48 (s.sf64 n 0x10)).setSf n 0x50 31 0 0
  s.setSf n 0 2 0 Str.armed

/-- A stream that is not derived enters no other state with its ARM. -/
theorem startArm_own {s : State} {n : Nat} (h : (s.armed n).strDerived n = false) : s.startArm n = s.armed n :=
  if_neg (Bool.eq_false_iff.1 h)

section Close
variable {s : State} {n : Nat} (noFrames : (s.strAux n).reasm = [])
include noFrames

theorem closeOne_armed (armed : s.strState n = Str.armed) : s.closeOne n = s.strFree n := by
  unfold State.closeOne
  rw [noFrames]
  exact if_pos armed

theorem closeOne_running (armed : s.strState n ≠ Str.armed) (free : s.strState n ≠ Str.free) :
    s.closeOne n = (s.setStrAux n { s.strAux n with replay := none }).setSf n 0 2 0 Str.closing := by
  unfold State.closeOne
  rw [noFrames]
  exact (if_neg armed).trans (if_neg free)

end Close

theorem startClose_childless {s : State} {n : Nat} (h : s.children n = []) : s.startClose n = s.closeOne n := by
  unfold State.startClose
  rw [h]
  rfl

theorem strCmdOk_close (s : State) (n : Nat) :
    s.strCmdOk 2 n = decide (s.strState n = Str.armed ∨ s.strState n = Str.running ∨ s.strState n = Str.idle ∨
      s.strState n = Str.replay) := rfl

/-- CLOSE is not listed for a FREE stream. -/
theorem strState_ne_free_of_close {s : State} {n : Nat} (h : s.strCmdOk 2 n = true) : s.strState n ≠ Str.free := by
  intro free
  rw [strCmdOk_close, free] at h
  exact absurd h (by decide)

/-- Settles O13: the window by what a word is, and each command by what an accepted one does. -/
theorem streamWritesAndCommands : Obligations.StreamWritesAndCommands := by
  unfold Obligations.StreamWritesAndCommands
  refine ⟨⟨fun r word data => ⟨?_, ?_, ?_⟩, fun r data => ?_⟩, fun r n => ⟨?_, ?_⟩, fun r n => ⟨?_, ?_, ?_⟩,
    fun r n => ⟨?_, ?_⟩, fun r n => ⟨?_, ?_⟩, fun r p => ?_⟩
  · exact writeDoes_of (fun _ => rfl) fun u _ refused => by rw [regAct_strDwin, if_pos refused]
  · refine writeDoes_of (fun _ => rfl) fun u _ ⟨granted, field⟩ => ?_
    rw [regAct_strDwin, if_neg (Bool.eq_false_iff.1 granted), dwinStore_fields _ _ field]
  · refine writeDoes_of (fun _ => rfl) fun u _ ⟨granted, counter⟩ => ?_
    rw [regAct_strDwin, if_neg (Bool.eq_false_iff.1 granted), dwinStore_counter _ _ counter]
  · exact writeDoes_of (fun _ => rfl) fun u _ _ => regAct_strDsel _ data
  · exact strCmdDoes_of (fun _ => rfl) (by decide) (fun u h => h.1) fun u ⟨_, own⟩ => startArm_own own
  · exact strCmdRefused_of (fun _ => rfl) (by decide)
  · exact strCmdDoes_of (fun _ => rfl) (by decide) (fun u h => h.1.1) fun u ⟨⟨_, noFrames⟩, armed, childless⟩ =>
      (startClose_childless childless).trans (closeOne_armed noFrames armed)
  · exact strCmdDoes_of (fun _ => rfl) (by decide) (fun u h => h.1.1) fun u ⟨⟨ok, noFrames⟩, armed, childless⟩ =>
      (startClose_childless childless).trans (closeOne_running noFrames armed (strState_ne_free_of_close ok))
  · exact strCmdRefused_of (fun _ => rfl) (by decide)
  · exact strCmdDoes_of (fun _ => rfl) (by decide) (fun u ok => ok) fun u _ => rfl
  · exact strCmdRefused_of (fun _ => rfl) (by decide)
  · exact strCmdDoes_of (fun _ => rfl) (by decide) (fun u ok => ok) fun u _ => rfl
  · exact strCmdRefused_of (fun _ => rfl) (by decide)
  · exact writeDoes_of (fun _ => rfl) fun u _ _ => regAct_strEvpopp _ p

/-! When a stream runs and ends (Table 3.4) -/

theorem doOrigin_due {s : State} {n : Nat} (armed : s.strState n = Str.armed) (own : s.strDerived n = false)
    (due : s.sf64 n 0x10 ≤ s.count) : s.doOrigin n = s.strEnter n Str.running (some 0x01) :=
  if_pos ⟨armed, by rw [own]; rfl, due⟩

theorem doOrigin_early {s : State} {n : Nat} (early : s.count < s.sf64 n 0x10) : s.doOrigin n = s :=
  if_neg fun h => Nat.not_le.2 early h.2.2

theorem doCloseComplete_ended {s : State} {n : Nat} (closing : s.strState n = Str.closing)
    (ended : (s.strAux n).bound.all (·.done) = true) : s.doCloseComplete n = s.strFree n :=
  if_pos ⟨closing, ended⟩

theorem doCloseComplete_bound {s : State} {n : Nat} (bound : (s.strAux n).bound.all (·.done) = false) :
    s.doCloseComplete n = s :=
  if_neg fun h => Bool.false_ne_true (bound.symm.trans h.2)

/-- Settles O14: ORIGIN and the end of the bound steps, each due or not. -/
theorem streamRunsAndEnds : Obligations.StreamRunsAndEnds := by
  unfold Obligations.StreamRunsAndEnds
  refine fun n => ⟨?_, ?_, ?_, ?_⟩
  · exact eventDoes_of (fun _ => rfl) fun u ⟨armed, own, due⟩ => doOrigin_due armed own due
  · exact eventDoes_of (fun _ => rfl) fun u early => doOrigin_early early
  · exact eventDoes_of (fun _ => rfl) fun u ⟨closing, ended⟩ => doCloseComplete_ended closing ended
  · exact eventDoes_of (fun _ => rfl) fun u bound => doCloseComplete_bound bound

end Sys2Proof.Machine
end

section
/-! Frame fragments, ticks, bindings, deadlines and replay of a stream (R54, R56, R57, R59, R61, R62, R64, R66). -/
namespace Sys2Proof.Machine

/-! Fragments (R56, R59) -/

theorem doFragment_none {s : State} {pkt : Packet} (h : s.takeEjected pkt = none) : s.doFragment pkt = s := by
  unfold State.doFragment
  rw [h]

theorem doFragment_denied {s t : State} {pkt : Packet} (taken : s.takeEjected pkt = some t)
    (h : t.frameAllowed (fragHdr pkt.payload).stream pkt.tag = false) :
    s.doFragment pkt = t.bump Pg.str Reg.strCntNostream := by
  unfold State.doFragment
  rw [taken]
  simp [h]

/-- A fragment of a frame in reassembly goes to its frame. -/
theorem doFragment_further {s t : State} {pkt : Packet} {f : Reasm} (taken : s.takeEjected pkt = some t)
    (h : t.frameAllowed (fragHdr pkt.payload).stream pkt.tag = true)
    (found : (t.strAux (fragHdr pkt.payload).stream).reasm.find?
      (fun x => decide (x.seq = (fragHdr pkt.payload).seq)) = some f) :
    s.doFragment pkt = t.fragTake (fragHdr pkt.payload).stream f (fragHdr pkt.payload) (pkt.payload.drop 32) := by
  unfold State.doFragment
  rw [taken]
  simp only [h, found, Bool.not_true, Bool.false_eq_true, if_false]

section Take
variable {s : State} {n : Nat} {f : Reasm} {h : FragHdr} {bs : List Byte}

theorem fragTake_double (got : f.got.contains h.idx = true) : s.fragTake n f h bs = s.bump Pg.str Reg.strCntFrag :=
  if_pos got

/-- A further fragment that does not complete its frame is placed in the frame's record. -/
theorem fragTake_placed (new : f.got.contains h.idx = false) (space : f.full = false) (cnt : h.cnt = f.fragCnt)
    (len : h.len = f.len) (idx : h.idx < f.fragCnt) (fits : h.idx * 8160 + bs.length ≤ f.len)
    (more : f.got.length + 1 ≠ f.fragCnt) :
    s.fragTake n f h bs =
      let w := s.strWrite (s.strPart n) (s.ringBase n + f.roff + 64 + h.idx * 8160) bs n
      w.setStrAux n { w.strAux n with
        reasm := (w.strAux n).reasm.map (fun x => if x.seq = f.seq then { f with got := h.idx :: f.got } else x) } := by
  have agrees : ¬(h.cnt ≠ f.fragCnt ∨ h.len ≠ f.len ∨ f.fragCnt ≤ h.idx ∨ f.len < h.idx * 8160 + bs.length) := by
    omega
  unfold State.fragTake
  rw [if_neg (Bool.eq_false_iff.1 new), if_neg agrees, if_neg (Bool.eq_false_iff.1 space)]
  exact if_neg more

end Take

/-- A frame in reassembly is discarded one nominal period after its first fragment, and not before. -/
theorem doReassemblyTimeout_found {s : State} {n : Nat} {seq : W32} {f : Reasm}
    (found : (s.strAux n).reasm.find? (fun x => decide (x.seq = seq)) = some f) :
    s.doReassemblyTimeout n seq =
      if f.started * 2 ^ 32 + s.periodNom n ≤ s.now * 2 ^ 32 then s.frameDiscard n f else s := by
  unfold State.doReassemblyTimeout
  rw [found]

/-- Settles O15: what becomes of a fragment by its frame, and the discard by the time that has passed. -/
theorem frameFragments : Obligations.FrameFragments := by
  unfold Obligations.FrameFragments
  refine ⟨fun pkt t => ⟨?_, ?_, fun f found => ⟨?_, ?_⟩⟩, fun n seq f => ⟨?_, ?_⟩⟩
  · exact eventDoes_of (fun _ => rfl) fun u none => doFragment_none none
  · exact eventDoes_of (fun _ => rfl) fun u ⟨taken, denied⟩ => doFragment_denied taken denied
  · exact eventDoes_of (fun _ => rfl) fun u ⟨taken, allowed, got⟩ =>
      (doFragment_further taken allowed found).trans (fragTake_double got)
  · exact eventDoes_of (fun _ => rfl) fun u ⟨taken, allowed, new, space, cnt, len, idx, fits, more⟩ =>
      (doFragment_further taken allowed found).trans (fragTake_placed new space cnt len idx fits more)
  · exact eventDoes_of (fun _ => rfl) fun u ⟨found, late⟩ => (doReassemblyTimeout_found found).trans (if_pos late)
  · exact eventDoes_of (fun _ => rfl) fun u ⟨found, early⟩ =>
      (doReassemblyTimeout_found found).trans (if_neg (Nat.not_le.2 early))

/-! Ticks (R54, R57, R61) -/

/-- NEXT_SEQ and NEXT_TICK move on after the tick of a sequence number, by the phase of its frame. -/
def State.tickNext (s : State) (n : Nat) (seq : W32) (phase : Int) : State :=
  let t := s.setSw n 0x15 (seq + 1)
  t.setNextAcc n ((t.nextAcc n : Int) + ((t.periodNom n : Int) + t.trim n + phase))

/-- The state with the entry of the frame in a tick's slot made, and ABSENT_RUN 0. -/
def State.tickEntered (s : State) (n : Nat) (e : Entry) : State :=
  (s.setStrAux n { s.strAux n with
    slots := (s.strAux n).slots.filter (fun x => decide (x.seq ≠ s.nextSeq n)),
    entries := (s.strAux n).entries ++ [{ e with tick := s.sf64 n 0x48 }] }).setSf n 0x64 15 0 0

section Tick
variable {s : State} {n : Nat}

theorem doTick_idle (h : s.count < s.sf64 n 0x48 ∨ s.strDerived n = true) : s.doTick n = s :=
  if_pos (h.elim (fun early => .inr (.inr early)) .inl)

variable (own : s.strDerived n = false) (running : s.strState n = Str.running) (due : s.sf64 n 0x48 ≤ s.count)
include own running due

/-- The tick of a RUNNING stream that is not derived falls when the count has reached NEXT_TICK. -/
theorem tick_falls : ¬(s.strDerived n = true ∨ (!decide (s.strState n = Str.running ∨ s.strState n = Str.idle ∨
    s.strState n = Str.replay)) = true ∨ s.count < s.sf64 n 0x48) := by
  simp [own, running, due]

theorem doTick_absent (empty : (s.strAux n).slots.find? (fun e => decide (e.seq = s.nextSeq n)) = none) :
    s.doTick n = (s.tickAbsent n (s.nextSeq n) (s.sf64 n 0x48)).tickNext n (s.nextSeq n) 0 := by
  unfold State.doTick
  extract_lets +onlyGivenNames st
  rw [if_neg (tick_falls own running due)]
  simp only [empty]
  have notReplay : st ≠ Str.replay := by simp [st, running, Str.running, Str.replay]
  simp only [if_neg notReplay, ite_self]
  rfl

theorem doTick_frame {e : Entry} (slot : (s.strAux n).slots.find? (fun x => decide (x.seq = s.nextSeq n)) = some e)
    (onTick : e.tick = s.sf64 n 0x48) :
    s.doTick n = (s.tickEntered n e).tickNext n (s.nextSeq n) e.phase := by
  unfold State.doTick
  extract_lets +onlyGivenNames st
  rw [if_neg (tick_falls own running due)]
  simp only [slot, onTick, if_true]
  have notIdle : st ≠ Str.idle := by simp [st, running, Str.running, Str.idle]
  simp only [if_neg notIdle]
  obtain ⟨_, _, _, roff, _⟩ := e
  cases roff <;> rfl

end Tick

/-- Settles O16: a tick that is due, by what its slot holds, and one that is not. -/
theorem streamTickAdvances : Obligations.StreamTickAdvances := by
  unfold Obligations.StreamTickAdvances
  refine fun n => ⟨?_, fun e => ?_, ?_⟩
  · exact workDoes_of (fun _ => rfl) fun u ⟨⟨own, running, due⟩, empty⟩ => doTick_absent own running due empty
  · exact workDoes_of (fun _ => rfl) fun u ⟨⟨own, running, due⟩, slot, onTick⟩ =>
      doTick_frame own running due slot onTick
  · exact workDoes_of (fun _ => rfl) fun u idle => doTick_idle idle

/-! Bindings and deadlines (R62, R64) -/

theorem doBindingComplete_none {s : State} {p : Nat} (h : (s.schPart p).binds = []) : s.doBindingComplete p = s := by
  unfold State.doBindingComplete
  rw [h]

/-- The entry of one binding of a stream is written where it lies; a binding whose step is over is dropped with it. -/
def State.bindWritten (s : State) (p n : Nat) (b : Bound) : State :=
  let s := s.strWrite p b.addr (bindBytes b) n
  let s := s.mapBound n (fun x => if x.step = b.step then { x with written := true } else x)
  let s := s.setStrAux n { s.strAux n with bound := (s.strAux n).bound.filter (fun x => !(x.written && x.done)) }
  if b.latePhys then s.strEvent n 0x0F else s

/-- The entries of a step are written for every stream of a partition. -/
def State.stepWritten (s : State) (p : Nat) (step : W32) : State :=
  ((s.str.aux.map (·.1)).filter (fun n => decide (s.strPart n = p))).foldl
    (fun s n => ((s.strAux n).bound.filter (fun b => !b.written && decide (b.step = step))).foldl
      (fun s b => s.bindWritten p n b) s) s

theorem doBindingComplete_step {s : State} {p : Nat} {step : W32} {rest : List W32}
    (h : (s.schPart p).binds = step :: rest) :
    s.doBindingComplete p =
      let t := (s.setSchPart p { s.schPart p with binds := rest }).stepWritten p step
      t.signal p step (t.rf Pg.str (Reg.strBindpSig p) 14 0) 1 := by
  unfold State.doBindingComplete
  rw [h]
  rfl

section Deadline
variable {s : State} {n : Nat} {step : W32} {b : Bound}

theorem doDeadline_bound (settled : (s.schPart (s.strPart n)).voting.any (fun g => sameBase g.step step) = false)
    (found : (s.strAux n).bound.find? (fun x => sameBase x.step step && !x.passed && !x.done) = some b) :
    s.doDeadline n step = if b.deadline ≤ s.count then s.deadlineMiss n b else s := by
  unfold State.doDeadline
  rw [if_neg (Bool.eq_false_iff.1 settled), found]

theorem deadlineMiss_late (first : b.passed = false) (keep : s.sf n 0 9 9 ≠ 1) :
    s.deadlineMiss n b =
      ((s.mapBound n (fun x => if x.launch = b.launch then { x with passed := true } else x)).sBump n 0x68 31 0
        ).strEvent n 0x03 := by
  unfold State.deadlineMiss
  rw [if_neg (Bool.eq_false_iff.1 first), if_neg keep]

theorem deadlineMiss_dropped (first : b.passed = false) (drop : s.sf n 0 9 9 = 1) (unwritten : b.written = false) :
    s.deadlineMiss n b =
      ((s.mapBound n (fun x => if x.launch = b.launch then { x with passed := true, dropped := true } else x)
        ).sBump n 0x6C 31 0).strEvent n 0x04 := by
  unfold State.deadlineMiss
  rw [if_neg (Bool.eq_false_iff.1 first), if_pos drop]
  exact if_neg (Bool.eq_false_iff.1 unwritten)

end Deadline

/-- Settles O17: the oldest step that waits, a deadline by DROP_LATE, and a due record by its CRC. -/
theorem bindingsAndReplay : Obligations.BindingsAndReplay := by
  unfold Obligations.BindingsAndReplay
  refine ⟨fun p step rest => ⟨?_, ?_⟩, fun n step b => ⟨?_, ?_, ?_⟩, fun n r off h bs t => ⟨?_, ?_⟩⟩
  · exact workDoes_of (fun _ => rfl) fun u waits => doBindingComplete_step waits
  · exact workDoes_of (fun _ => rfl) fun u none => doBindingComplete_none none
  · exact eventDoes_of (fun _ => rfl) fun u ⟨⟨settled, found, first⟩, late, keep⟩ =>
      (doDeadline_bound settled found).trans ((if_pos late).trans (deadlineMiss_late first keep))
  · exact eventDoes_of (fun _ => rfl) fun u ⟨⟨settled, found, first⟩, late, drop, unwritten⟩ =>
      (doDeadline_bound settled found).trans ((if_pos late).trans (deadlineMiss_dropped first drop unwritten))
  · exact eventDoes_of (fun _ => rfl) fun u ⟨⟨settled, found, _⟩, early⟩ =>
      (doDeadline_bound settled found).trans (if_neg (Nat.not_le.2 early))
  · exact workDoes_of (fun _ => rfl) fun u ⟨⟨replay, next, state, due, read⟩, good⟩ =>
      (doPresent_due u t n.toNat r off h bs replay next state due read).trans (if_pos good)
  · exact workDoes_of (fun _ => rfl) fun u ⟨⟨replay, next, state, due, read⟩, bad⟩ =>
      (doPresent_due u t n.toNat r off h bs replay next state due read).trans (if_neg (Bool.eq_false_iff.1 bad))

end Sys2Proof.Machine
end

section
/-! The machine after reset (R40, R418, R422): every table is empty and every slot holds its first value, so that each
part of the device reads as at reset and nothing waits. -/
namespace Sys2Proof.Machine

theorem vget_replicate {α : Type} {n : Nat} [NeZero n] (a : α) (i : Nat) : vget (Vector.replicate n a) i = a := by
  unfold vget
  simp [Vector.get]

theorem reset_core (c : Nat) : State.reset.core c = CoreSt.init := vget_replicate _ _
theorem reset_drvUnit (n : Nat) : State.reset.drvUnit n = DrvUnit.init := vget_replicate _ _
theorem reset_cnvEng (n : Nat) : State.reset.cnvEng n = CnvEng.init := vget_replicate _ _
theorem reset_torus (n : Nat) : State.reset.torus n = Torus.init := vget_replicate _ _
theorem reset_spine (n : Nat) : State.reset.spine n = ⟨false, []⟩ := vget_replicate _ _
theorem reset_ctlPort (n : Nat) : State.reset.ctlPort n = CtlPort.init := vget_replicate _ _
theorem reset_partSec (p : Nat) : State.reset.partSec p = PartSec.init := vget_replicate _ _

/-- A page of the block state machine is OFF at reset. -/
theorem reset_off {pg : Nat} (h : hasSM pg = true) : State.reset.isOn pg = false := by
  unfold State.isOn State.page
  show decide ((Page.init (hasSM pg)).st = .on) = false
  rw [h]
  rfl

/-! Nothing waits -/

theorem reset_coreQuiet (c : Nat) : State.reset.coreQuiet c = true := by
  unfold State.coreQuiet
  rw [reset_core]
  rfl

theorem reset_unitQuiet (n : Nat) : State.reset.unitQuiet n = true := by
  unfold State.unitQuiet
  rw [reset_drvUnit, reset_cnvEng]
  simp [DrvUnit.init, CnvEng.init, vget_replicate]

theorem reset_torusUp (n : Nat) : State.reset.torusUp n = false := by
  unfold State.torusUp
  rw [reset_torus]
  rfl

theorem reset_cxl_off {n : Nat} (h : n < 2) : State.reset.isOn (Pg.cxl n) = false := by
  have two : ∀ k : Fin 2, hasSM (Pg.cxl k) = true := by decide
  exact reset_off (two ⟨n, h⟩)

/-- No port of an optical engine carries a link. -/
theorem reset_engineQuiet (n : Nat) : State.reset.engineQuiet n = true := by
  unfold State.engineQuiet
  rw [Bool.or_eq_true]
  refine .inr ?_
  split
  · rw [reset_torusUp, Bool.and_false]
    rfl
  · split
    · rw [reset_spine, reset_spine]
      rfl
    · split
      · rw [reset_cxl_off (by omega)]
        rfl
      · simp [reset_ctlPort, CtlPort.init]

theorem reset_quiet : State.reset.quiet = true := by
  have cores : (List.range 64).all State.reset.coreQuiet = true := List.all_eq_true.2 fun c _ => reset_coreQuiet c
  have units : (List.range 8).all State.reset.unitQuiet = true := List.all_eq_true.2 fun n _ => reset_unitQuiet n
  have engines : (List.range 12).all State.reset.engineQuiet = true := List.all_eq_true.2 fun n _ => reset_engineQuiet n
  unfold State.quiet
  rw [cores, units, engines]
  rfl

/-- Settles O55: what each part of the device reads as at reset. -/
theorem resetState : Obligations.ResetState := by
  unfold Obligations.ResetState
  refine ⟨rfl, rfl, rfl, rfl, rfl, rfl, fun _ => rfl, fun _ _ => rfl, fun n => ?_, fun p => ?_, rfl, reset_quiet⟩
  · rw [reset_ctlPort]
    rfl
  · rw [reset_partSec]
    exact ⟨rfl, rfl, rfl⟩

end Sys2Proof.Machine
end

section
/-! The launch table and its window (R83, Tables 4.5 and 4.6): the status of an entry, and what its write does. -/
namespace Sys2Proof.Machine

/-! The statuses of Table 4.6 -/

section Status
variable {s : State} {port k : Nat} {e : BitVec 128}

theorem launchStatus_denied (h : s.mayLaunch port (k / 64) = false ∨ lePart e ≠ k / 64) : s.launchStatus port k e = 3 :=
  if_pos (h.imp_left (congrArg not))

section Allowed
variable (may : s.mayLaunch port (k / 64) = true) (own : lePart e = k / 64)
include may own

/-- A port that may write the slot, with an entry of the slot's partition. -/
theorem launchStatus_allowed :
    s.launchStatus port k e =
      if s.partHalted (k / 64) ∨ 2 ≤ s.pwr.state then 4
      else if leValid (s.slotEntry k) ∧ leCount (s.slotEntry k) ≤ s.count + 10000 then 2
      else if leValid e ∧ leCount e < s.count + 10000 then 1 else 0 :=
  if_neg (by simp [may, own])

theorem launchStatus_halted (h : s.partHalted (k / 64) = true ∨ 2 ≤ s.pwr.state) : s.launchStatus port k e = 4 :=
  (launchStatus_allowed may own).trans (if_pos h)

/-- In a partition that is neither reset nor stopped, in A0 and A1, the status is one of the counts. -/
theorem launchStatus_open (runs : s.partHalted (k / 64) = false) (awake : s.pwr.state < 2) :
    s.launchStatus port k e =
      if leValid (s.slotEntry k) ∧ leCount (s.slotEntry k) ≤ s.count + 10000 then 2
      else if leValid e ∧ leCount e < s.count + 10000 then 1 else 0 :=
  (launchStatus_allowed may own).trans (if_neg (by simp [runs, awake]))

end Allowed

/-! What a write of an entry does -/

/-- An entry with a status other than 0 is counted, and leaves the slot. -/
theorem setLaunch_refused {st : Nat} (h : s.launchStatus port k e = st + 1) :
    s.setLaunch port k e = (st + 1, (s.bump Pg.lnt Reg.lntCntRef).irq Pg.lnt 16) := by
  unfold State.setLaunch
  rw [h]
  rfl

theorem setLaunch_valid (h : s.launchStatus port k e = 0) (valid : leValid e = true) :
    s.setLaunch port k e =
      (0, (s.setSlotEntry k e).setPartSec (k / 64) { s.partSec (k / 64) with quiet := false }) := by
  unfold State.setLaunch
  rw [h]
  exact if_pos valid

theorem setLaunch_empty (h : s.launchStatus port k e = 0) (invalid : leValid e = false) :
    s.setLaunch port k e = (0, s.setSlotEntry k 0) := by
  unfold State.setLaunch
  rw [h]
  exact if_neg (Bool.eq_false_iff.1 invalid)

end Status

/-- A LAUNCH_SET, by what the write of its entry does. -/
theorem launchSetDoes_of {r : Req} {slot : BitVec 9} {e : BitVec 128} {H : State → Prop} {st : Nat} {E : State → State}
    (len : r.len = 20) (h : ∀ u, H u → u.setLaunch r.port slot.toNat e = (st, E u)) :
    RequestDoes (.launchSet r slot e) r 5 .keep H (fun u => (Resp.of st, E u)) :=
  requestDoes_of (act := fun u => (Resp.of (u.setLaunch r.port slot.toNat e).1, (u.setLaunch r.port slot.toNat e).2))
    (fun _ => rfl) (fun u hu => by rw [h u hu]) (decide_eq_true len)

/-- A write of the window's last word writes the entry, and LNT_WSTAT takes the status. -/
theorem regAct_lntE3 (s : State) (port : Nat) (v : W32) (io : IoResult) :
    s.regAct port Pg.lnt (Reg.lntE 3) v io =
      let a := s.setLaunch port (fld (s.portReg port Pg.lnt Reg.lntSel) 8 0)
        (BitVec.ofNat 128 (s.windowWords port Pg.lnt (Reg.lntE 0) v))
      (if a.1 = 0 then 0 else 4, a.2.setPortReg port Pg.lnt Reg.lntWstat (w32 a.1)) := rfl

/-- Settles O18: a write of an entry by its status, and the window by the status of the entry it spells. -/
theorem launchTableAndWindow : Obligations.LaunchTableAndWindow := by
  unfold Obligations.LaunchTableAndWindow
  refine ⟨fun r slot e len => ⟨?_, ?_, ?_, ?_, ?_, ?_⟩, fun r word3 => ⟨?_, ?_⟩⟩
  · exact launchSetDoes_of len fun u denied => setLaunch_refused (launchStatus_denied denied)
  · exact launchSetDoes_of len fun u ⟨⟨may, own⟩, halted⟩ => setLaunch_refused (launchStatus_halted may own halted)
  · exact launchSetDoes_of len fun u ⟨⟨may, own⟩, ⟨runs, awake⟩, near⟩ =>
      setLaunch_refused ((launchStatus_open may own runs awake).trans (if_pos near))
  · exact launchSetDoes_of len fun u ⟨⟨may, own⟩, ⟨runs, awake⟩, far, late⟩ =>
      setLaunch_refused ((launchStatus_open may own runs awake).trans ((if_neg far).trans (if_pos late)))
  · exact launchSetDoes_of len fun u ⟨⟨may, own⟩, ⟨runs, awake⟩, far, early, valid⟩ =>
      setLaunch_valid ((launchStatus_open may own runs awake).trans ((if_neg far).trans (if_neg early))) valid
  · refine launchSetDoes_of len fun u ⟨⟨may, own⟩, ⟨runs, awake⟩, far, invalid⟩ => setLaunch_empty ?_ invalid
    have early : ¬(leValid e = true ∧ leCount e < u.count + 10000) := fun h => Bool.eq_false_iff.1 invalid h.1
    exact (launchStatus_open may own runs awake).trans ((if_neg far).trans (if_neg early))
  · refine writeDoes_of (fun _ => rfl) fun u _ accepted => ?_
    rw [regAct_lntE3]
    simp only [accepted, if_true]
    rfl
  · refine fun st refused => writeDoes_of (fun _ => rfl) fun u _ status => ?_
    rw [regAct_lntE3]
    simp only [status, if_neg refused]

end Sys2Proof.Machine
end

section
/-! Launches that fall due, are deferred or are discarded (R82, R84, R439). -/
namespace Sys2Proof.Machine

/-- The state in which a launch is processed: its entry has left the slot, and the device has left A1 (R416). -/
def State.slotTaken (s : State) (k : Nat) : State := (s.setSlotEntry k 0).leaveA1

theorem doLaunchDue_early {s : State} {k : Nat}
    (h : leValid (s.slotEntry k) = false ∨ s.count < leCount (s.slotEntry k)) : s.doLaunchDue k = s :=
  if_pos (h.imp (congrArg not) .inl)

/-- The scheduler launches while it is ON and no power-fail warning holds. -/
theorem slotTaken_runs {s : State} {k : Nat} (on : (s.slotTaken k).isOn Pg.sch = true)
    (power : (s.slotTaken k).pwr.pfw = false) :
    ¬((!(s.slotTaken k).isOn Pg.sch) = true ∨ (s.slotTaken k).pwr.pfw = true) := by
  simp [on, power]

section Due
variable {s : State} {k : Nat} (valid : leValid (s.slotEntry k) = true)
  (reached : leCount (s.slotEntry k) ≤ s.count) (first : s.slotFirst k = true)
include valid reached first

/-- The valid entry of a slot falls due at its count, where no other of its partition comes before it. -/
theorem launch_falls : ¬((!leValid (s.slotEntry k)) = true ∨ s.count < leCount (s.slotEntry k) ∨
    (!s.slotFirst k) = true) := by
  simp [valid, reached, first]

/-- A scheduler that is not ON discards the entry (R439). -/
theorem doLaunchDue_off (off : (s.slotTaken k).isOn Pg.sch = false) :
    s.doLaunchDue k = (s.slotTaken k).launchSkip true :=
  (if_neg (launch_falls valid reached first)).trans (if_pos (.inl (congrArg not off)))

section Runs
variable (on : (s.slotTaken k).isOn Pg.sch = true) (power : (s.slotTaken k).pwr.pfw = false)
include on power

/-- A background launch (R84). -/
theorem doLaunchDue_background (bg : leBg (s.slotEntry k) = true) :
    s.doLaunchDue k =
      if ((s.slotTaken k).schPart (k / 64)).bg.isSome then (s.slotTaken k).launchSkip false
      else (s.slotTaken k).launch (k / 64) true (leGraph (s.slotEntry k)) (leStep (s.slotEntry k))
        (leCount (s.slotEntry k)) false :=
  (if_neg (launch_falls valid reached first)).trans ((if_neg (slotTaken_runs on power)).trans (if_pos bg))

/-- A live launch (R82). -/
theorem doLaunchDue_live (live : leBg (s.slotEntry k) = false) :
    s.doLaunchDue k =
      if ((s.slotTaken k).schPart (k / 64)).deferred.isSome then (s.slotTaken k).launchSkip true
      else if (s.slotTaken k).liveBusy (k / 64) then
        (((s.slotTaken k).setSchPart (k / 64) { (s.slotTaken k).schPart (k / 64) with
          deferred := some ⟨leGraph (s.slotEntry k), leStep (s.slotEntry k), leCount (s.slotEntry k)⟩ }).bump Pg.sch
            Reg.schCntDefer).irq Pg.sch 18
      else (s.slotTaken k).launch (k / 64) false (leGraph (s.slotEntry k)) (leStep (s.slotEntry k))
        (leCount (s.slotEntry k)) false :=
  (if_neg (launch_falls valid reached first)).trans
    ((if_neg (slotTaken_runs on power)).trans (if_neg (Bool.eq_false_iff.1 live)))

end Runs
end Due

section Deferred
variable {s : State} {p : Nat}

theorem doDeferredLaunch_waits (h : (s.schPart p).deferred = none ∨ s.liveBusy p = true) : s.doDeferredLaunch p = s := by
  unfold State.doDeferredLaunch
  cases waiting : (s.schPart p).deferred with
  | none => rfl
  | some l =>
    have busy : s.liveBusy p = true := h.resolve_left (by simp [waiting])
    exact if_pos (.inr busy)

theorem doDeferredLaunch_starts {l : Launch} (waiting : (s.schPart p).deferred = some l)
    (runs : s.partHalted p = false) (free : s.liveBusy p = false) (power : s.pwr.pfw = false)
    (on : (s.setSchPart p { s.schPart p with deferred := none }).isOn Pg.sch = true) :
    s.doDeferredLaunch p =
      (s.setSchPart p { s.schPart p with deferred := none }).launch p false l.index l.step l.count false := by
  unfold State.doDeferredLaunch
  rw [waiting]
  have goes : ¬(s.partHalted p = true ∨ s.liveBusy p = true) := by simp [runs, free]
  exact (if_neg goes).trans (if_pos ⟨on, congrArg not power⟩)

end Deferred

/-- Settles O19: an entry that is due, by what its partition holds; one that is not; and the deferred launch. -/
theorem launchesFallDue : Obligations.LaunchesFallDue := by
  unfold Obligations.LaunchesFallDue
  refine ⟨fun slot => ⟨?_, ?_, ?_, ?_, ?_, ?_, ?_⟩, fun p l => ⟨?_, ?_⟩⟩
  · exact eventDoes_of (fun _ => rfl) fun u ⟨⟨valid, reached, first⟩, ⟨on, power⟩, live, alone, free⟩ =>
      (doLaunchDue_live valid reached first on power live).trans
        ((if_neg (Option.not_isSome_iff_eq_none.2 alone)).trans (if_neg (Bool.eq_false_iff.1 free)))
  · exact eventDoes_of (fun _ => rfl) fun u ⟨⟨valid, reached, first⟩, ⟨on, power⟩, live, alone, busy⟩ =>
      (doLaunchDue_live valid reached first on power live).trans
        ((if_neg (Option.not_isSome_iff_eq_none.2 alone)).trans (if_pos busy))
  · exact eventDoes_of (fun _ => rfl) fun u ⟨⟨valid, reached, first⟩, ⟨on, power⟩, live, second⟩ =>
      (doLaunchDue_live valid reached first on power live).trans (if_pos second)
  · exact eventDoes_of (fun _ => rfl) fun u ⟨⟨valid, reached, first⟩, ⟨on, power⟩, bg, another⟩ =>
      (doLaunchDue_background valid reached first on power bg).trans (if_pos another)
  · exact eventDoes_of (fun _ => rfl) fun u ⟨⟨valid, reached, first⟩, ⟨on, power⟩, bg, alone⟩ =>
      (doLaunchDue_background valid reached first on power bg).trans
        (if_neg (Option.not_isSome_iff_eq_none.2 alone))
  · exact eventDoes_of (fun _ => rfl) fun u ⟨⟨valid, reached, first⟩, off⟩ => doLaunchDue_off valid reached first off
  · exact eventDoes_of (fun _ => rfl) fun u early => doLaunchDue_early early
  · exact workDoes_of (fun _ => rfl) fun u ⟨waiting, runs, free, power, on⟩ =>
      doDeferredLaunch_starts waiting runs free power on
  · exact workDoes_of (fun _ => rfl) fun u waits => doDeferredLaunch_waits waits

end Sys2Proof.Machine
end

section
/-! The issue of tasks and their completion (R72, R76, R77). -/
namespace Sys2Proof.Machine

/-! Issue -/

section Issue
variable {s : State} {p i : Nat} {g : Graph} {bg : Bool}

theorem actOn_issue {c : Nat} (h : s.graph p bg = some g) : s.actOn p bg i (.issue c) = s.issueTask p bg g i c := by
  unfold State.actOn
  rw [h]

theorem actOn_skip (h : s.graph p bg = some g) :
    s.actOn p bg i .skip =
      ((s.setGraph p bg (some (g.setTask i .skipped))).bump Pg.sch Reg.schCntSkip).taskSignals p (g.desc i) := by
  unfold State.actOn
  rw [h]

theorem actOn_noCore (h : s.graph p bg = some g) : s.actOn p bg i .noCore = s.failGraph p bg 0x14 i i := by
  unfold State.actOn
  rw [h]

theorem doTaskIssue_idle (h : s.isOn Pg.sch = false ∨ s.partHalted p = true) : s.doTaskIssue p = s :=
  if_pos (h.imp_left (congrArg not))

section Runs
variable (on : s.isOn Pg.sch = true) (runs : s.partHalted p = false)
include on runs

/-- The scheduler of a running partition considers its live graph, and then its background graph. -/
theorem taskIssue_runs : ¬((!s.isOn Pg.sch) = true ∨ s.partHalted p = true) := by
  simp [on, runs]

theorem doTaskIssue_live {k : Pick} (pick : s.pickLive p = some (i, k)) : s.doTaskIssue p = s.actOn p false i k := by
  unfold State.doTaskIssue
  rw [if_neg (taskIssue_runs on runs), pick]

theorem doTaskIssue_background {k : Pick} (noLive : s.pickLive p = none) (pick : s.pickBg p = some (i, k)) :
    s.doTaskIssue p = s.actOn p true i k := by
  unfold State.doTaskIssue
  rw [if_neg (taskIssue_runs on runs), noLive, pick]

end Runs
end Issue

/-! Completion -/

section Complete
variable {s : State} {c : Nat}

theorem doTaskComplete_none (h : (s.core c).run = none) : s.doTaskComplete c = s := by
  unfold State.doTaskComplete
  rw [h]

/-- A task that ends without an error, whose tiles pass the range monitor and whose outputs are all written. -/
theorem doTaskComplete_completes {r : Run} {o : Option GrpOut} {ev : Ev} {t t' : State} (run : (s.core c).run = some r)
    (works : s.coreWorks c = true) (may : s.mayEnd c r = true) (own : dfld r.desc 0 7 0 ≠ 0x51)
    (eval : s.evalTask r (runTask r) = (.ok o, ev)) (room : s.canReturn r o = true)
    (tiles : ev.s.endTiles c r.index (ev.tiles.drop r.tiles) = (none, t))
    (writes : (t.coreCounts c r ev o).taskWrites c r.part r.index ev.writes.reverse = (true, t')) :
    s.doTaskComplete c = (t'.grpEffects r o).finishTask c r := by
  have ends : ¬((!s.coreWorks c) = true ∨ (!s.mayEnd c r) = true ∨ dfld r.desc 0 7 0 = 0x51) := by
    simp [works, may, own]
  unfold State.doTaskComplete
  simp only [run, if_neg ends, eval, room, tiles, writes, Bool.not_true, Bool.false_eq_true, if_false]

end Complete

/-- Settles O20: what the scan picks, by what becomes of it, and a core's task that completes. -/
theorem tasksIssueAndComplete : Obligations.TasksIssueAndComplete := by
  unfold Obligations.TasksIssueAndComplete
  refine ⟨fun p i g => ⟨fun c => ?_, fun c => ?_, ?_, ?_, ?_⟩, fun core r o ev t t' => ⟨?_, ?_⟩⟩
  · exact workDoes_of (fun _ => rfl) fun u ⟨⟨on, runs⟩, pick, graph⟩ =>
      (doTaskIssue_live on runs pick).trans (actOn_issue graph)
  · exact workDoes_of (fun _ => rfl) fun u ⟨⟨on, runs⟩, noLive, pick, graph⟩ =>
      (doTaskIssue_background on runs noLive pick).trans (actOn_issue graph)
  · exact workDoes_of (fun _ => rfl) fun u ⟨⟨on, runs⟩, pick, graph⟩ =>
      (doTaskIssue_live on runs pick).trans (actOn_skip graph)
  · exact workDoes_of (fun _ => rfl) fun u ⟨⟨on, runs⟩, pick, graph⟩ =>
      (doTaskIssue_live on runs pick).trans (actOn_noCore graph)
  · exact workDoes_of (fun _ => rfl) fun u idle => doTaskIssue_idle idle
  · exact workDoes_of (fun _ => rfl) fun u ⟨⟨run, works, may, own⟩, eval, room, tiles, writes⟩ =>
      doTaskComplete_completes run works may own eval room tiles writes
  · exact workDoes_of (fun _ => rfl) fun u free => doTaskComplete_none free

end Sys2Proof.Machine
end

section
/-! The end of a graph and its run-time limit (R81), and the reset of a partition (R86). -/
namespace Sys2Proof.Machine

/-! Graphs -/

section Graphs
variable {s : State} {p : Nat} {bg : Bool} {g : Graph} (active : s.graph p bg = some g)
include active

theorem doGraphComplete_ended (runs : s.partHalted p = false) (idle : g.busy = false)
    (ended : g.failed = true ∨ g.doneCount = g.count) : s.doGraphComplete p bg = s.graphEnd p bg := by
  have due : ¬(s.partHalted p = true ∨ g.busy = true) := by simp [runs, idle]
  unfold State.doGraphComplete
  rw [active]
  exact (if_neg due).trans (if_pos ended)

theorem doGraphComplete_unended (h : g.busy = true ∨ g.failed = false ∧ g.doneCount ≠ g.count) :
    s.doGraphComplete p bg = s := by
  unfold State.doGraphComplete
  simp only [active]
  obtain busy | ⟨sound, left⟩ := h
  · exact if_pos (.inr busy)
  · have unended : ¬(g.failed = true ∨ g.doneCount = g.count) := by simp [sound, left]
    rw [if_neg unended, ite_self]

/-- The first failure of a graph is recorded under its code (R77). -/
theorem failGraph_first (code detail task : Nat) (sound : g.failed = false) :
    s.failGraph p bg code detail task =
      (s.error Pg.sch Cls.task p code detail).markFailed p bg task (decide (code = 0x11)) := by
  unfold State.failGraph
  rw [active]
  exact if_neg (Bool.eq_false_iff.1 sound)

theorem doGraphLimit_reached (runs : s.partHalted p = false) (limited : g.limit ≠ 0) (late : g.limit ≤ s.runTime g) :
    s.doGraphLimit p bg = s.failGraph p bg 0x11 g.index 0 := by
  have due : ¬(s.partHalted p = true ∨ g.limit = 0 ∨ s.runTime g < g.limit) := by simp [runs, limited, late]
  unfold State.doGraphLimit
  rw [active]
  exact if_neg due

theorem doGraphLimit_early (h : g.limit = 0 ∨ s.runTime g < g.limit) : s.doGraphLimit p bg = s := by
  unfold State.doGraphLimit
  rw [active]
  exact if_pos (.inr h)

end Graphs

/-! Partition reset -/

theorem bit_schPrst_go (p : Part) : bit (w32 (at_ 8 1 + p.val)) 8 = true := by
  revert p
  decide

theorem fld_schPrst_part (p : Part) : fld (w32 (at_ 8 1 + p.val)) 2 0 = p.val := by
  revert p
  decide

theorem regAct_sch (s : State) (port off : Nat) (v : W32) (io : IoResult) :
    s.regAct port Pg.sch off v io =
      if off = Reg.schPrst ∧ bit v 8 then
        if (List.range 8).any (fun q => (s.schPart q).resetting) then (4, s)
        else (0, (s.plainWrite port Pg.sch off v).startPrst (fld v 2 0))
      else (0, s.plainWrite port Pg.sch off v) := rfl

/-- A write of SCH_PRST with GO. -/
theorem regAct_schPrst (s : State) (port : Nat) (p : Part) (io : IoResult) :
    s.regAct port Pg.sch Reg.schPrst (w32 (at_ 8 1 + p.val)) io =
      if (List.range 8).any (fun q => (s.schPart q).resetting) then (4, s)
      else (0, (s.plainWrite port Pg.sch Reg.schPrst (w32 (at_ 8 1 + p.val))).startPrst p.val) := by
  rw [regAct_sch, if_pos ⟨rfl, bit_schPrst_go p⟩, fld_schPrst_part]

theorem doPrstComplete_idle {s : State} {p : Nat} (h : (s.schPart p).resetting = false) : s.doPrstComplete p = s :=
  if_pos (congrArg not h)

/-- Settles O21: the end and the limit of a graph, each due or not; GO by whether a reset runs; and its completion. -/
theorem graphsEndAndPartitionsReset : Obligations.GraphsEndAndPartitionsReset := by
  unfold Obligations.GraphsEndAndPartitionsReset
  refine ⟨fun p bg g => ⟨?_, ?_, ?_, ?_⟩, fun r p => ⟨?_, ?_⟩, fun p => ⟨?_, ?_⟩⟩
  · exact workDoes_of (fun _ => rfl) fun u ⟨active, runs, idle, ended⟩ => doGraphComplete_ended active runs idle ended
  · exact workDoes_of (fun _ => rfl) fun u ⟨active, unended⟩ => doGraphComplete_unended active unended
  · exact workDoes_of (fun _ => rfl) fun u ⟨active, runs, limited, late, sound⟩ =>
      (doGraphLimit_reached active runs limited late).trans (failGraph_first active _ _ _ sound)
  · exact workDoes_of (fun _ => rfl) fun u ⟨active, early⟩ => doGraphLimit_early active early
  · exact writeDoes_of (fun _ => rfl) fun u _ idle =>
      (regAct_schPrst u _ p _).trans (if_neg (Bool.eq_false_iff.1 idle))
  · exact writeDoes_of (fun _ => rfl) fun u _ runs => (regAct_schPrst u _ p _).trans (if_pos runs)
  · refine eventDoes_of (fun _ => rfl) fun u resetting => ?_
    have runs : ¬(!(u.schPart p).resetting) = true := by simp [resetting]
    exact if_neg runs
  · exact eventDoes_of (fun _ => rfl) fun u idle => doPrstComplete_idle idle

end Sys2Proof.Machine
end

section
/-! The lanes of a Drover unit: grants, tokens and the end of a gate (R90, R94, R111). -/
namespace Sys2Proof.Machine

section Lanes
variable {s : State} {n l c : Nat} {r : Run} {g : GateRun}

/-! Grants (R90) -/

/-- The lowest core whose gate task asks for the lane. -/
def State.laneAsker (s : State) (n l : Nat) : Option Nat :=
  (List.range 64).find? (fun c => (s.gateRun c).any (fun g => decide (g.2.unit = n ∧ g.2.lane = l) && !g.2.granted))

theorem doLaneGrant_grants (on : s.isOn (Pg.drv n) = true) (free : (vget (s.drvUnit n).lanes l).core = none)
    (asks : s.laneAsker n l = some c) (gate : s.gateRun c = some (r, g)) :
    s.doLaneGrant n l =
      (s.setDrv n { s.drvUnit n with
        lanes := vset (s.drvUnit n).lanes l { vget (s.drvUnit n).lanes l with core := some c } }).setGate c
          { g with granted := true } := by
  have grants : ¬((!s.isOn (Pg.drv n)) = true ∨ (vget (s.drvUnit n).lanes l).core.isSome = true) := by simp [on, free]
  unfold State.laneAsker at asks
  unfold State.doLaneGrant
  simp only [if_neg grants, asks, gate]

theorem doLaneGrant_idle (h : s.isOn (Pg.drv n) = false ∨ (vget (s.drvUnit n).lanes l).core.isSome = true ∨
    s.laneAsker n l = none) : s.doLaneGrant n l = s := by
  unfold State.doLaneGrant
  obtain off | held | unasked := h
  · exact if_pos (.inl (congrArg not off))
  · exact if_pos (.inr held)
  · unfold State.laneAsker at unasked
    simp only [unasked, ite_self]

/-! Tokens (R94, R100) -/

/-- The next token of the lane's task may be taken: the unit runs and accepts it, and the core still works. -/
def State.tokenIn (s : State) (n l c : Nat) (r : Run) (g : GateRun) : Prop :=
  (vget (s.drvUnit n).lanes l).core = some c ∧ s.gateRun c = some (r, g) ∧ s.isOn (Pg.drv n) = true ∧
    (s.page (Pg.drv n)).halt = false ∧ g.issued = false ∧ g.unread < 256 ∧ s.drvHeld n = false ∧ s.coreWorks c = true

/-- The active bank, where it holds the route of the task. -/
def State.routeBank (s : State) (n : Nat) (g : GateRun) : Option Nat :=
  (s.activeBank n).filter (fun b => decide ((s.bank n b).addr = g.route))

/-- What the core computes for the token: its vector and its scores. -/
def State.tokenEval (s : State) (r : Run) (g : GateRun) : Except Stop (List Byte × List Val) × Ev :=
  s.evalTask r (do
    let x ← readGate r.desc
    gateToken x ({ op := 0x03, desc := r.desc, blk := 0 } : Task).conv g.next)

theorem doTokenSelect_none (h : (vget (s.drvUnit n).lanes l).core = none) : s.doTokenSelect n l = s := by
  unfold State.doTokenSelect
  rw [h]

section Token
variable (token : s.tokenIn n l c r g)
include token

/-- None of the reasons that keep a token back holds. -/
theorem token_proceeds : ¬((!s.isOn (Pg.drv n)) = true ∨ (s.page (Pg.drv n)).halt = true ∨ g.issued = true ∨
    256 ≤ g.unread ∨ s.drvHeld n = true ∨ (!s.coreWorks c) = true) := by
  obtain ⟨-, -, on, halt, issued, unread, held, works⟩ := token
  simp [on, halt, issued, Nat.not_le.2 unread, held, works]

/-- A token whose route is not in the active bank waits once, and its record is asked for (R94). -/
theorem doTokenSelect_waits (route : s.routeBank n g = none) :
    s.doTokenSelect n l =
      (if (s.drvUnit n).waits.contains l then s
        else s.setDrv n { s.drvUnit n with waits := (s.drvUnit n).waits ++ [l] }).demand n := by
  have proceeds := token_proceeds token
  obtain ⟨lane, gate, -⟩ := token
  unfold State.routeBank at route
  unfold State.doTokenSelect
  simp only [lane, gate, if_neg proceeds, route]

section Routed
variable {b : Nat} (route : s.routeBank n g = some b)
include route

/-- A token that its core cannot evaluate stops the task. -/
theorem doTokenSelect_stops {st : Stop} {e : Ev} (eval : s.tokenEval r g = (.error st, e)) :
    s.doTokenSelect n l = e.s.stopTask c st := by
  have proceeds := token_proceeds token
  obtain ⟨lane, gate, -⟩ := token
  unfold State.routeBank at route
  unfold State.tokenEval at eval
  unfold State.doTokenSelect
  simp only [lane, gate, if_neg proceeds, route, eval]

/-- A token whose outputs are all written goes to the selection (R100). -/
theorem doTokenSelect_selects {vec : List Byte} {vs : List Val} {e : Ev} {t : State}
    (eval : s.tokenEval r g = (.ok (vec, vs), e))
    (writes : e.s.taskWrites c r.part r.index e.writes.reverse = (true, t)) :
    s.doTokenSelect n l =
      (t.setCore c { t.core c with run := (t.core c).run.map (fun y => { y with once := true }) }).selectToken
        n l b c { r with once := true } g vec vs := by
  have proceeds := token_proceeds token
  obtain ⟨lane, gate, -⟩ := token
  unfold State.routeBank at route
  unfold State.tokenEval at eval
  unfold State.doTokenSelect
  simp only [lane, gate, if_neg proceeds, route, eval, writes]

end Routed
end Token

/-! The end of a gate (R111) -/

/-- The lowest core whose issued gate task on the lane has not ended. -/
def State.laneIssued (s : State) (n l : Nat) : Option Nat :=
  (List.range 64).find? (fun c => (s.gateRun c).any (fun g =>
    decide (g.2.unit = n ∧ g.2.lane = l) && g.2.issued && !g.2.ended))

theorem doFetchComplete_issued (h : s.laneIssued n l = some c) : s.doFetchComplete n l = s.gateEnd n c := by
  unfold State.laneIssued at h
  unfold State.doFetchComplete
  rw [h]

theorem doFetchComplete_none (h : s.laneIssued n l = none) : s.doFetchComplete n l = s := by
  unfold State.laneIssued at h
  unfold State.doFetchComplete
  rw [h]

end Lanes

/-- Settles O22: a lane that is asked for or not; a token by whether the active bank holds its route; and the end of a
gate whose weights are fetched. -/
theorem droverLanes : Obligations.DroverLanes := by
  unfold Obligations.DroverLanes
  intro n l c r g lane asks fetched token route eval
  refine ⟨?_, ?_, ?_, ?_, fun b vec vs e t => ?_, fun b st e => ?_, ?_, ?_, ?_⟩
  · exact workDoes_of (fun _ => rfl) fun u ⟨on, free, asked, gate⟩ => doLaneGrant_grants on free asked gate
  · exact workDoes_of (fun _ => rfl) fun u idle => doLaneGrant_idle idle
  · exact workDoes_of (fun _ => rfl) fun u ⟨taken, absent, new⟩ =>
      (doTokenSelect_waits taken absent).trans
        (congrArg (State.demand · n) (if_neg (Bool.eq_false_iff.1 new)))
  · exact workDoes_of (fun _ => rfl) fun u ⟨taken, absent, waits⟩ =>
      (doTokenSelect_waits taken absent).trans (congrArg (State.demand · n) (if_pos waits))
  · exact workDoes_of (fun _ => rfl) fun u ⟨taken, routed, evaluated, written⟩ =>
      doTokenSelect_selects taken routed evaluated written
  · exact workDoes_of (fun _ => rfl) fun u ⟨taken, routed, stopped⟩ => doTokenSelect_stops taken routed stopped
  · exact workDoes_of (fun _ => rfl) fun u free => doTokenSelect_none free
  · exact workDoes_of (fun _ => rfl) fun u issued => doFetchComplete_issued issued
  · exact workDoes_of (fun _ => rfl) fun u ended => doFetchComplete_none ended

end Sys2Proof.Machine
end

section
/-! The banks of a Drover unit: loads and the switch (R92 to R96). -/
namespace Sys2Proof.Machine

section Banks
variable {s : State} {n b : Nat}

/-! Loads (R93) -/

/-- The bank of a unit that a load fills. -/
def State.loadingBank (s : State) (n : Nat) : Option Nat :=
  [0, 1].find? (fun b => decide ((s.bank n b).st = .loading))

theorem doBankLoad_none (readErr : Bool) (h : s.loadingBank n = none) : s.doBankLoad n readErr = s := by
  unfold State.loadingBank at h
  unfold State.doBankLoad
  rw [h]

/-- The lists that a record names lie in its partition's memory, and its counter in the partition's scoreboard. -/
def State.listsInside (s : State) (p : Nat) (w : BitVec 1024) : Prop :=
  s.inGdr p (rrLoc w) (8 * rrNexp w) = true ∧ s.inGdr p (rrBias w) (4 * rrNexp w) = true ∧
    (rrFetch w = true → s.inScb p (rrWfSig w) = true)

theorem listsInside_passes {p : Nat} {w : BitVec 1024} (lists : s.listsInside p w) :
    ¬((!s.inGdr p (rrLoc w) (8 * rrNexp w)) = true ∨
      (rrBiasEn w = true ∧ (!s.inGdr p (rrBias w) (4 * rrNexp w)) = true) ∨
      (rrFetch w = true ∧ (!s.inScb p (rrWfSig w)) = true)) := by
  obtain ⟨locs, biases, counter⟩ := lists
  simpa [locs, biases] using counter

section Load
variable (loading : s.loadingBank n = some b)
include loading

theorem doBankLoad_outside (readErr : Bool) (h : s.inGdr (s.bank n b).part (s.bank n b).addr 128 = false) :
    s.doBankLoad n readErr = s.loadFail n b 0x11 none := by
  unfold State.loadingBank at loading
  unfold State.doBankLoad
  rw [loading]
  exact if_pos (congrArg not h)

section Inside
variable (inside : s.inGdr (s.bank n b).part (s.bank n b).addr 128 = true)
include inside

theorem doBankLoad_unread : s.doBankLoad n true = s.loadFail n b 0x12 none := by
  unfold State.loadingBank at loading
  unfold State.doBankLoad
  rw [loading]
  exact (if_neg (Bool.eq_false_iff.1 (congrArg not inside))).trans (if_pos rfl)

section Read
variable {bs : List Byte} {t : State} (record : s.read (s.bank n b).part (s.bank n b).addr 128 = (.ok bs, t))
include record

/-- The field of the record at offset f is not permitted. -/
theorem doBankLoad_bad {f : Nat} (bad : recordBad (wordsOf 1024 bs) = some f) :
    s.doBankLoad n false = t.loadFail n b 0x10 (some f) := by
  unfold State.loadingBank at loading
  unfold State.doBankLoad
  simp only [loading, inside, record, bad, Bool.not_true, Bool.false_eq_true, if_false]

/-- A record with biases whose fields and lists are in order makes its bank READY. -/
theorem doBankLoad_ready {ls cs : List Byte} {t' t'' : State} (good : recordBad (wordsOf 1024 bs) = none)
    (lists : t.listsInside (s.bank n b).part (wordsOf 1024 bs)) (biased : rrBiasEn (wordsOf 1024 bs) = true)
    (locs : t.read (s.bank n b).part (rrLoc (wordsOf 1024 bs)) (8 * rrNexp (wordsOf 1024 bs)) = (.ok ls, t'))
    (biases : t'.read (s.bank n b).part (rrBias (wordsOf 1024 bs)) (4 * rrNexp (wordsOf 1024 bs)) = (.ok cs, t'')) :
    s.doBankLoad n false = t''.setBank n b { Bank.init with
      st := .ready, addr := (s.bank n b).addr, part := (s.bank n b).part, words := wordsOf 1024 bs,
      locs := (chunks 8 (rrNexp (wordsOf 1024 bs)) ls).map leNat,
      bias := (chunks 4 (cs.length / 4) cs).map (fun c => w32 (leNat c)) } := by
  have passes := listsInside_passes lists
  unfold State.loadingBank at loading
  unfold State.doBankLoad
  simp only [loading, inside, record, good, if_neg passes, locs, if_pos biased, biases, Bool.not_true,
    Bool.false_eq_true, if_false]

end Read
end Inside
end Load

/-! The switch (R94, R95) -/

/-- The READY bank whose record a waiting lane needs. -/
def State.wantedBank (s : State) (n : Nat) : Option Nat :=
  [0, 1].find? (fun b => decide ((s.bank n b).st = .ready) &&
    (s.drvUnit n).waits.any (fun l => decide (s.laneRoute n l = some (s.bank n b).addr)))

/-- A lane's task uses the record of a bank. -/
def State.bankInUse (s : State) (n a : Nat) : Bool :=
  (List.range 4).any (fun l => decide (s.laneRoute n l = some (s.bank n a).addr))

/-- The bank that was ACTIVE, if one was, is EMPTY. -/
def State.bankVacated (s : State) (n : Nat) : Option Nat → State
  | some a => s.setBank n a Bank.init
  | none => s

/-- Bank b is ACTIVE with the contents x: its lanes wait no longer, and the record's NEXT is prefetched into the other
bank. -/
def State.bankActivated (s : State) (n b : Nat) (x : Bank) : State :=
  let t := s.setBank n b { x with st := .active }
  let t := t.setDrv n { t.drvUnit n with
    waits := (t.drvUnit n).waits.filter (fun l => decide (t.laneRoute n l ≠ some x.addr)) }
  let t :=
    if rrNext x.words ≠ 0 ∧ t.rb (Pg.drv n) Reg.drvCtrl 1 ∧ !t.bankHolds n (rrNext x.words) then
      t.startLoad n (1 - b) (rrNext x.words) x.part
    else t
  t.demand n

theorem doBankSwitch_off (off : s.isOn (Pg.drv n) = false) : s.doBankSwitch n = s := if_pos (congrArg not off)

section Switch
variable (on : s.isOn (Pg.drv n) = true)
include on

theorem doBankSwitch_unwanted (h : (s.trimWaits n).wantedBank n = none) : s.doBankSwitch n = s.trimWaits n := by
  unfold State.wantedBank at h
  unfold State.doBankSwitch
  simp only [on, h, Bool.not_true, Bool.false_eq_true, if_false]

/-- No lane uses the active bank: the wanted one takes its place. -/
theorem doBankSwitch_switches {act : Option Nat} (wanted : (s.trimWaits n).wantedBank n = some b)
    (active : (s.trimWaits n).activeBank n = act) (idle : act.any ((s.trimWaits n).bankInUse n) = false) :
    s.doBankSwitch n = ((s.trimWaits n).bankVacated n act).bankActivated n b ((s.trimWaits n).bank n b) := by
  unfold State.wantedBank at wanted
  unfold State.doBankSwitch
  simp only [on, wanted, active, Bool.not_true, Bool.false_eq_true, if_false]
  exact if_neg (Bool.eq_false_iff.1 idle)

end Switch
end Banks

/-- Settles O23: a load by what its record and its reads come to, and the switch by what the waiting lanes want. -/
theorem droverBanks : Obligations.DroverBanks := by
  unfold Obligations.DroverBanks
  intro n b loading at_ p
  refine ⟨?_, fun e => ?_, fun bs t f => ?_, fun bs ls cs q t t' t'' => ?_, fun e => ?_, fun act => ?_, ?_, ?_⟩
  · exact workDoes_of (fun _ => rfl) fun u ⟨load, inside⟩ => doBankLoad_unread load inside
  · exact workDoes_of (fun _ => rfl) fun u ⟨load, outside⟩ => doBankLoad_outside load e outside
  · exact workDoes_of (fun _ => rfl) fun u ⟨load, inside, record, bad⟩ => doBankLoad_bad load inside record bad
  · refine workDoes_of (fun _ => rfl) ?_
    rintro u ⟨load, rfl, inside, record, good, locsIn, biased, biasesIn, counter, locs, biases⟩
    exact doBankLoad_ready load inside record good ⟨locsIn, biasesIn, counter⟩ biased locs biases
  · exact workDoes_of (fun _ => rfl) fun u none => doBankLoad_none e none
  · exact workDoes_of (fun _ => rfl) fun u ⟨on, wanted, active, idle⟩ => doBankSwitch_switches on wanted active idle
  · exact workDoes_of (fun _ => rfl) fun u ⟨on, unwanted⟩ => doBankSwitch_unwanted on unwanted
  · exact workDoes_of (fun _ => rfl) fun u off => doBankSwitch_off off

end Sys2Proof.Machine
end

section
/-! The INV command of a Drover unit, load hints and parity errors (R96, R103, R113). -/
namespace Sys2Proof.Machine

/-! INV (R96) -/

theorem blkOf_drv (n : Fin 8) : blkOf (Pg.drv n) = .drv := by
  revert n
  decide

theorem instOf_drv (n : Fin 8) : instOf (Pg.drv n) = n := by
  revert n
  decide

section Inv
variable {s : State}

theorem drvInv_held {n : Nat} (h : (List.range 4).any (fun l => (vget (s.drvUnit n).lanes l).core.isSome) = true) :
    s.drvInv n = (false, s) := if_pos h

theorem drvInv_free {n : Nat} (h : (List.range 4).any (fun l => (vget (s.drvUnit n).lanes l).core.isSome) = false) :
    s.drvInv n = (true, s.setDrv n { s.drvUnit n with banks := Vector.replicate 2 Bank.init, waits := [] }) :=
  if_neg (Bool.eq_false_iff.1 h)

/-- A write of DRV_CMD with INV is answered by whether the unit takes it. -/
theorem regAct_drvCmd {t : State} {took : Bool} (port : Nat) (n : Fin 8) (io : IoResult) (h : s.drvInv n = (took, t)) :
    s.regAct port (Pg.drv n) Reg.drvCmd 1 io = (if took then 0 else 4, t) := by
  unfold State.regAct
  simp only [blkOf_drv, instOf_drv, h]
  cases took <;> rfl

end Inv

/-! Load hints (R103) -/

section Hint
variable {s : State} {pkt : Packet}

theorem doLoadHint_none (h : s.takeEjected pkt = none) : s.doLoadHint pkt = s := by
  unfold State.doLoadHint
  simp only [h, ite_self]

/-- What a hint for partition p does in a unit: under dynamic load balancing it marks the expert in the active bank. -/
def State.hintMarks (pkt : Packet) (p : Nat) (s : State) (n : Nat) : State :=
  match s.activeBank n with
  | some b =>
    let x := s.bank n b
    if s.owns p (Pg.drv n) ∧ s.isOn (Pg.drv n) ∧ s.rb (Pg.drv n) Reg.drvCtrl 0 ∧ rrPol x.words = 3 ∧
        x.part = p ∧ rrLayer x.words = pkt.layerOf then
      s.setBank n b { x with hot := x.hot.set false (pkt.fld 0x1C 13 0) (decide (pkt.fld 0x1C 15 15 = 1)) }
    else s
  | none => s

section Taken
variable {t : State} (vc : pkt.vc = 2) (type : pkt.type = 4) (taken : s.takeEjected pkt = some t)
include vc type taken

theorem doLoadHint_crcBad (crc : pkt.crcOk = false) : s.doLoadHint pkt = t.baleCrc := by
  unfold State.doLoadHint
  simp only [vc, type, taken, crc, ne_eq, not_true_eq_false, or_self, Bool.not_false, if_false, if_true]

theorem doLoadHint_marks {p : Nat} (crc : pkt.crcOk = true) (part : t.balePart pkt = some p) :
    s.doLoadHint pkt = (List.range 8).foldl (State.hintMarks pkt p) t := by
  unfold State.doLoadHint
  simp only [vc, type, taken, crc, part, ne_eq, not_true_eq_false, or_self, Bool.not_true, Bool.false_eq_true, if_false]
  rfl

end Taken
end Hint

/-! Parity errors (R113) -/

section Parity
variable {s : State} {n : Nat}

/-- The state in which a parity error of a unit is noted, with its event. -/
def State.parityNoted (s : State) (n : Nat) : State :=
  (s.setDrv n { s.drvUnit n with parityAt := some s.now }).irq (Pg.drv n) 22

/-- The cores whose gate task holds a lane of the unit, with the tasks. -/
def State.heldGates (s : State) (n : Nat) : List (Nat × Nat) :=
  (List.range 64).filterMap (fun c => (s.gateRun c).bind (fun g =>
    if g.2.unit = n ∧ g.2.granted ∧ !g.2.ended then some (c, g.1.index) else none))

/-- The unit had a parity error within the second before. -/
def State.parityAgain (s : State) (n : Nat) : Bool :=
  (s.drvUnit n).parityAt.any (fun t => decide (s.now ≤ t + 1000000000))

/-- With no gate task on the unit the error is recorded open, and the unit is emptied. -/
theorem doDroverParity_idle (gates : (s.parityNoted n).heldGates n = []) :
    s.doDroverParity n =
      let t := ((s.parityNoted n).errorOpen (Pg.drv n) Cls.task (s.partOf (Pg.drv n)) 0x14).drvEmpty n
      if s.parityAgain n then t.quarantine (Pg.drv n) else t := by
  unfold State.parityNoted State.heldGates at gates
  unfold State.doDroverParity
  simp only [gates]
  rfl

/-- With gate tasks on the unit the error names the first, and all of them end. -/
theorem doDroverParity_busy {c i : Nat} {more : List (Nat × Nat)}
    (gates : (s.parityNoted n).heldGates n = (c, i) :: more) :
    s.doDroverParity n =
      let t := (((c, i) :: more).foldl (fun s x => s.taskEnd x.1)
        ((s.parityNoted n).error (Pg.drv n) Cls.task (s.partOf (Pg.drv n)) 0x14 i)).drvEmpty n
      if s.parityAgain n then t.quarantine (Pg.drv n) else t := by
  unfold State.parityNoted State.heldGates at gates
  unfold State.doDroverParity
  simp only [gates]
  rfl

end Parity

/-- Settles O24: INV by whether a lane is held, a hint by its CRC, and a parity error by the gate tasks of the unit and
by whether it is the second. -/
theorem droverCommands : Obligations.DroverCommands := by
  unfold Obligations.DroverCommands
  refine ⟨fun r n => ⟨?_, ?_⟩, fun pkt t p => ⟨?_, ?_, ?_⟩, fun n => ⟨?_, ?_, fun c i more => ?_⟩⟩
  · exact writeDoes_of (fun _ => rfl) fun u _ free => regAct_drvCmd r.port n _ (drvInv_free free)
  · exact writeDoes_of (fun _ => rfl) fun u _ held => regAct_drvCmd r.port n _ (drvInv_held held)
  · exact workDoes_of (fun _ => rfl) fun u ⟨vc, type, taken, crc⟩ => doLoadHint_crcBad vc type taken crc
  · exact workDoes_of (fun _ => rfl) fun u ⟨vc, type, taken, crc, part⟩ => doLoadHint_marks vc type taken crc part
  · exact workDoes_of (fun _ => rfl) fun u absent => doLoadHint_none absent
  · exact eventDoes_of (fun _ => rfl) fun u ⟨gates, once⟩ =>
      (doDroverParity_idle gates).trans (if_neg (Bool.eq_false_iff.1 once))
  · exact eventDoes_of (fun _ => rfl) fun u ⟨gates, again⟩ => (doDroverParity_idle gates).trans (if_pos again)
  · exact eventDoes_of (fun _ => rfl) fun u ⟨gates, once⟩ =>
      (doDroverParity_busy gates).trans (if_neg (Bool.eq_false_iff.1 once))

end Sys2Proof.Machine
end

section
/-! The records that Drover hands to a Convoy engine (R118, R122 to R124, R139). -/
namespace Sys2Proof.Machine

section Records
variable {s t : State} {n : Nat} {r : CnvRec}

/-! Dispatch records (R118, R122) -/

/-- The record is kept for the combine of its lane. -/
def State.keepRecord (s : State) (n : Nat) (w : BitVec 256) : State :=
  s.setCnv n { s.cnvEng n with
    kept := vset (s.cnvEng n).kept (recLane w) (vget (s.cnvEng n).kept (recLane w) ++ [w]) }

theorem doDispatchRecord_none (h : s.takeRecord n 0 = none) : s.doDispatchRecord n = s := by
  unfold State.doDispatchRecord
  rw [h]

section Dispatch
variable {v : State} {i : Nat} {c : CloseCtx} (taken : s.takeRecord n 0 = some (r, t))
  (ctx : (t.keepRecord n r.word).ctxFor n r.part (recStep r.word) (recLayer r.word) (some (recToken r.word)) = (some i, v))
  (opened : vget v.sri.ctxs i = some c) (good : c.bad = false)
include taken ctx opened good

/-- The close list names the destination and the queue: the rank counts there. -/
theorem doDispatchRecord_counts {es : List (Nat × Nat × Nat)}
    (listed : countRank (recDest r.word) (recQueue r.word) c.entries = some es) :
    s.doDispatchRecord n = v.setCtx i (some { c with entries := es }) := by
  unfold State.keepRecord at ctx
  unfold State.doDispatchRecord
  simp only [taken, ctx, opened, good, listed, Bool.false_eq_true, if_false]

theorem doDispatchRecord_unlisted (unlisted : countRank (recDest r.word) (recQueue r.word) c.entries = none) :
    s.doDispatchRecord n = v.cnvErr n r.part 0x11 (some (recQueue r.word)) (recStep r.word) := by
  unfold State.keepRecord at ctx
  unfold State.doDispatchRecord
  simp only [taken, ctx, opened, good, unlisted, Bool.false_eq_true, if_false]

end Dispatch

/-! Token records (R118, R136, R139) -/

/-- The lane's kept records are taken. -/
def State.clearKept (s : State) (n : Nat) (w : BitVec 256) : State :=
  s.setCnv n { s.cnvEng n with kept := vset (s.cnvEng n).kept (recLane w) [] }

/-- The kept records of a token record's lane that are of its token and step. -/
def State.keptRanks (s : State) (n : Nat) (w : BitVec 256) : List (BitVec 256) :=
  (vget (s.cnvEng n).kept (recLane w)).filter (fun x => decide (recToken x = recToken w ∧ recStep x = recStep w))

/-- The token counts as one that its task has still to write, and its vector has been read. -/
def State.tokenCounted (s : State) (n id : Nat) (r : CnvRec) : State :=
  (s.mapGateTask n id (fun t => { t with unwritten := t.unwritten + 1 })).vectorDone r

/-- The fence of the close context of a record. -/
def State.ctxFence (s : State) (r : CnvRec) : Option Nat :=
  (s.ctxOf r.part (recStep r.word) (recLayer r.word)).bind (fun i => (vget s.sri.ctxs i).bind (·.fence))

theorem doTokenRecord_none (h : s.takeRecord n 1 = none) : s.doTokenRecord n = s := by
  unfold State.doTokenRecord
  rw [h]

section Token
variable {v : State} {id : Nat} (taken : s.takeRecord n 1 = some (r, t))
  (task : (t.clearKept n r.word).laneTaskFor n (recLane r.word) r.part (recStep r.word) (recLayer r.word) = (id, v))
include taken task

/-- A token without experts combines to zero at once (R139). -/
theorem doTokenRecord_zero (alone : recMask r.word = 0) :
    s.doTokenRecord n = (v.tokenCounted n id r).zeroToken n r id := by
  unfold State.clearKept at task
  unfold State.doTokenRecord
  simp only [taken, task, alone, if_true]
  rfl

theorem doTokenRecord_scatters {m : Nat} {v' : State} (ranks : recMask r.word ≠ 0)
    (manifest : ((v.tokenCounted n id r).combEnter n r id (t.keptRanks n r.word)).manFor n r.part false (recStep r.word)
      (recLayer r.word) (((v.tokenCounted n id r).combEnter n r id (t.keptRanks n r.word)).ctxFence r) = (m, v')) :
    s.doTokenRecord n = v'.scatter n r.part m (t.keptRanks n r.word) r.vec := by
  unfold State.clearKept at task
  unfold State.ctxFence State.tokenCounted State.keptRanks at manifest
  unfold State.doTokenRecord
  simp only [taken, task, ranks, manifest, if_false]
  rfl

end Token

/-! End records (R123, R124) -/

/-- The number of ends a context expects once an END record that names k has come: the first one's. -/
def CloseCtx.expectsEnds (c : CloseCtx) (k : Nat) : Nat := if c.ends = 0 then k else c.expect

/-- The context counts an end whose record names k. -/
def State.countEnd (s : State) (i : Nat) (c : CloseCtx) (k : Nat) : State :=
  s.setCtx i (some { c with ends := c.ends + 1, expect := c.expectsEnds k, due := c.expectsEnds k ≤ c.ends + 1 })

theorem doEndRecord_none (h : s.takeRecord n 2 = none) : s.doEndRecord n = s := by
  unfold State.doEndRecord
  rw [h]

section Ends
variable {v : State} {i : Nat} {c : CloseCtx} (taken : s.takeRecord n 2 = some (r, t))
  (ctx : (t.laneEnd n r.word).ctxFor n r.part (recStep r.word) (recLayer r.word) none = (some i, v))
  (opened : vget v.sri.ctxs i = some c)
include taken ctx opened

/-- An END for a context that is due already. -/
theorem doEndRecord_late (due : c.due = true) : s.doEndRecord n = v.cnvErr n r.part 0x12 none (recStep r.word) := by
  unfold State.doEndRecord
  simp only [taken, ctx, opened, due, if_true]

/-- An END before that counts, and is an error where it names another number than the first. -/
theorem doEndRecord_counts (early : c.due = false) :
    s.doEndRecord n =
      if max 1 (recEndExpect r.word) ≠ c.expectsEnds (max 1 (recEndExpect r.word)) then
        (v.countEnd i c (max 1 (recEndExpect r.word))).cnvErr n r.part 0x12 none (recStep r.word)
      else v.countEnd i c (max 1 (recEndExpect r.word)) := by
  unfold State.doEndRecord
  simp only [taken, ctx, opened, early, Bool.false_eq_true, if_false]
  rfl

end Ends
end Records

/-- Settles O25: each record by whether it may be taken, a dispatch record by whether its close list names it, a token
record by its experts, and an end record by what its context expects. -/
theorem convoyRecords : Obligations.ConvoyRecords := by
  unfold Obligations.ConvoyRecords
  intro n r t i c w lane e kept count endsIn expect
  refine ⟨fun v es => ?_, fun v => ?_, ?_, fun id v => ⟨?_, fun m v' => ?_⟩, ?_, fun v => ⟨?_, ?_, ?_⟩, ?_⟩
  · exact workDoes_of (fun _ => rfl) fun u ⟨taken, ⟨ctx, opened, good⟩, listed⟩ =>
      doDispatchRecord_counts taken ctx opened good listed
  · exact workDoes_of (fun _ => rfl) fun u ⟨taken, ⟨ctx, opened, good⟩, unlisted⟩ =>
      doDispatchRecord_unlisted taken ctx opened good unlisted
  · exact workDoes_of (fun _ => rfl) fun u absent => doDispatchRecord_none absent
  · exact workDoes_of (fun _ => rfl) fun u ⟨⟨taken, task⟩, alone⟩ => doTokenRecord_zero taken task alone
  · exact workDoes_of (fun _ => rfl) fun u ⟨⟨taken, task⟩, ranks, manifest⟩ =>
      doTokenRecord_scatters taken task ranks manifest
  · exact workDoes_of (fun _ => rfl) fun u absent => doTokenRecord_none absent
  · exact workDoes_of (fun _ => rfl) fun u ⟨taken, ⟨ctx, opened⟩, early, same⟩ =>
      (doEndRecord_counts taken ctx opened early).trans (if_neg fun other => other same)
  · exact workDoes_of (fun _ => rfl) fun u ⟨taken, ⟨ctx, opened⟩, early, other⟩ =>
      (doEndRecord_counts taken ctx opened early).trans (if_pos other)
  · exact workDoes_of (fun _ => rfl) fun u ⟨taken, ⟨ctx, opened⟩, due⟩ => doEndRecord_late taken ctx opened due
  · exact workDoes_of (fun _ => rfl) fun u absent => doEndRecord_none absent

end Sys2Proof.Machine
end

section
/-! Convoy's CLOSE bales, returns, acknowledgements, manifests and parity errors (R123, R133, R137, R140 to R142,
R149). -/
namespace Sys2Proof.Machine

/-! CLOSE bales (R123) -/

/-- Send one CLOSE bale of a context, to the destination g.1 with the entries g.2, counted in the manifest. -/
def State.sendCloseBale (c : CloseCtx) (eng man : Nat) (s : State) (g : Nat × List (Nat × Nat × Nat)) : State :=
  (s.manAdd eng man [g.1]).sendOne c.part 1 2 (BitVec.ofNat 16 g.1)
    [(0, 31, 24, c.layer), (0x10, 31, 0, c.step.toNat), (0x18, 24, 22, eng), (0x18, 31, 25, man),
     (0x1C, 15, 0, g.2.length)]
    (g.2.flatMap (fun e => toLE 8 (e.2.1 + at_ 32 e.2.2)))

section Close
variable {s : State} {i : Nat} {c : CloseCtx} (opened : vget s.sri.ctxs i = some c)
include opened

theorem doCloseSend_early (early : c.due = false) : s.doCloseSend i = s := by
  unfold State.doCloseSend
  rw [opened]
  exact if_pos (.inl (congrArg not early))

section Ready
variable (due : c.due = true) (idle : s.ctxBusy c = false)
include due idle

theorem doCloseSend_empty (empty : c.entries = []) : s.doCloseSend i = s.ctxDone i c := by
  unfold State.doCloseSend
  simp only [opened, due, idle, empty, Bool.not_true, Bool.false_eq_true, or_self, List.isEmpty_nil, if_false, if_true]

theorem doCloseSend_sends {eng man : Nat} {t : State} (entries : c.entries.isEmpty = false)
    (engine : s.firstEng c.part = some eng) (room : s.manRoom eng c.part false c.step c.layer = true)
    (manifest : s.manFor eng c.part false c.step c.layer c.fence = (man, t)) :
    s.doCloseSend i = ((closeBales c.entries).foldl (State.sendCloseBale c eng man) t).ctxDone i c := by
  unfold State.doCloseSend
  simp only [opened, due, idle, entries, engine, room, manifest, Bool.not_true, Bool.false_eq_true, or_self, if_false]
  rfl

end Ready
end Close

/-! Returns (R133, R137) -/

section Bales
variable {s t : State} {pkt : Packet}

theorem doReturnBale_none (h : s.takeEjected pkt = none) : s.doReturnBale pkt = s := by
  unfold State.doReturnBale
  simp only [h, ite_self]

section Return
variable (vc : pkt.vc = 2) (notAck : pkt.type ≠ 3) (notHint : pkt.type ≠ 4) (taken : s.takeEjected pkt = some t)
  (on : t.isOn (Pg.cnv pkt.engOf) = true)
include vc notAck notHint taken on

theorem doReturnBale_bad (bad : pkt.crcOk = false ∨ pkt.type ≠ 1) : s.doReturnBale pkt = t.baleCrc := by
  have dropped : (!pkt.crcOk) = true ∨ pkt.type ≠ 1 := bad.imp_left (congrArg not)
  unfold State.doReturnBale
  simp only [vc, notAck, notHint, taken, on, if_pos dropped, ne_eq, not_true_eq_false, or_self, Bool.not_true,
    Bool.false_eq_true, if_false]

/-- A return that passes its CRC counts, is matched unless its step has retired, and is acknowledged. -/
theorem doReturnBale_counts {p : Nat} (crc : pkt.crcOk = true) (type : pkt.type = 1) (part : t.balePart pkt = some p) :
    s.doReturnBale pkt =
      let counted := t.bump (Pg.cnv pkt.engOf) Reg.cnvCntRetin
      if counted.retiredStep p pkt.stepOf then (counted.bump (Pg.cnv pkt.engOf) Reg.cnvCntStale).ackBale p pkt
      else (counted.matchReturn pkt.engOf p pkt).ackBale p pkt := by
  have sound : ¬((!pkt.crcOk) = true ∨ pkt.type ≠ 1) := by simp [crc, type]
  unfold State.doReturnBale
  simp only [vc, notAck, notHint, taken, on, if_neg sound, part, ne_eq, not_true_eq_false, or_self, Bool.not_true,
    Bool.false_eq_true, if_false]

end Return

/-! Acknowledgements (R140, R141) -/

theorem doAckBale_none (h : s.takeEjected pkt = none) : s.doAckBale pkt = s := by
  unfold State.doAckBale
  simp only [h, ite_self]

section Ack
variable (vc : pkt.vc = 2) (type : pkt.type = 3) (taken : s.takeEjected pkt = some t)
include vc type taken

theorem doAckBale_crcBad (crc : pkt.crcOk = false) : s.doAckBale pkt = t.baleCrc := by
  unfold State.doAckBale
  simp only [vc, type, taken, crc, ne_eq, not_true_eq_false, or_self, Bool.not_false, if_false, if_true]

/-- The manifest that the bale names gives up the bale's count of its sender. -/
theorem doAckBale_subtracts {p eng : Nat} {m : Man} (crc : pkt.crcOk = true) (part : t.balePart pkt = some p)
    (acked : t.ackedEng pkt.engOf (pkt.fld 0x18 31 25) = some eng) (manifest : t.man eng (pkt.fld 0x18 31 25) = some m)
    (own : m.part = p) :
    s.doAckBale pkt =
      ((t.bump (Pg.cnv eng) Reg.cnvCntAck).setMan eng (pkt.fld 0x18 31 25)
        (some (m.sub pkt.src.toNat (pkt.fld 0x1C 15 0)))).checkMan eng (pkt.fld 0x18 31 25) := by
  unfold State.doAckBale
  simp only [vc, type, taken, crc, part, acked, manifest, own, ne_eq, not_true_eq_false, or_self, Bool.not_true,
    Bool.false_eq_true, if_false, if_true]

end Ack
end Bales

/-! Manifest timeouts (R142) -/

section Timeout
variable {s : State} {n i at_ : Nat} {m : Man}

/-- The manifest is freed, and the destinations that it still counts become suspects. -/
def State.dropMan (s : State) (n i : Nat) (m : Man) : State :=
  let t := s.setMan n i none
  let sh := t.tagShape ((t.ptag m.part).getD 0)
  let t := m.dests.foldl (fun s kv => s.suspect (s.toPhys sh (BitVec.ofNat 16 kv.1)) Cause.manifest) t
  if 0 < m.other then t.suspectBit Cause.other else t

theorem doManifestTimeout_none (h : s.man n i = none) : s.doManifestTimeout n i = s := by
  unfold State.doManifestTimeout
  rw [h]

section Sealed
variable (manifest : s.man n i = some m) (sealedAt : m.sealedAt = some at_)
include manifest sealedAt

theorem doManifestTimeout_passed (late : at_ + (s.reg (Pg.cnv n) Reg.cnvMtmo).toNat ≤ s.now) :
    s.doManifestTimeout n i = (s.dropMan n i m).cnvErr n m.part 0x15 (some i) m.step := by
  unfold State.doManifestTimeout
  simp only [manifest, sealedAt, if_pos late]
  rfl

theorem doManifestTimeout_early (early : s.now < at_ + (s.reg (Pg.cnv n) Reg.cnvMtmo).toNat) :
    s.doManifestTimeout n i = s := by
  unfold State.doManifestTimeout
  simp only [manifest, sealedAt, if_neg (Nat.not_le.2 early)]

end Sealed
end Timeout

/-! Parity errors (R149) -/

section Parity
variable {s : State} {n : Nat}

/-- The state in which a parity error of an engine is noted and recorded, with its event. -/
def State.cnvParityNoted (s : State) (n : Nat) : State :=
  ((s.setCnv n { s.cnvEng n with parityAt := some s.now }).irq (Pg.cnv n) 19).errorOpen (Pg.cnv n) Cls.task
    (s.partOf (Pg.cnv n)) 0x14

/-- The engine had a parity error within the second before. -/
def State.cnvParityAgain (s : State) (n : Nat) : Bool :=
  (s.cnvEng n).parityAt.any (fun t => decide (s.now ≤ t + 1000000000))

/-- Where the engine's partition has no live graph, nothing fails. -/
theorem doConvoyParity_idle (idle : ((s.cnvParityNoted n).schPart (s.partOf (Pg.cnv n))).live = none) :
    s.doConvoyParity n =
      if s.cnvParityAgain n then (s.cnvParityNoted n).quarantine (Pg.cnv n) else s.cnvParityNoted n := by
  unfold State.cnvParityNoted at idle
  unfold State.doConvoyParity
  simp only [idle]
  rfl

/-- Else the step of the live graph fails. -/
theorem doConvoyParity_live {g : Graph} (live : ((s.cnvParityNoted n).schPart (s.partOf (Pg.cnv n))).live = some g)
    (own : (s.cnvParityNoted n).owns (s.partOf (Pg.cnv n)) (Pg.cnv n) = true) :
    s.doConvoyParity n =
      let t := (s.cnvParityNoted n).failStep (s.partOf (Pg.cnv n)) g.step
      if s.cnvParityAgain n then t.quarantine (Pg.cnv n) else t := by
  unfold State.cnvParityNoted at live own
  unfold State.doConvoyParity
  simp only [live, if_pos own]
  rfl

end Parity

/-- Settles O26: a context by whether it is due, a return and an acknowledgement by their CRC, a manifest by CNV_MTMO,
and a parity error by the live graph and by whether it is the second. -/
theorem convoyBales : Obligations.ConvoyBales := by
  unfold Obligations.ConvoyBales
  refine ⟨fun i c eng man t => ⟨?_, ?_, ?_⟩, fun pkt t p => ⟨?_, ?_, ?_, ?_⟩, fun pkt t p eng m => ⟨?_, ?_, ?_⟩,
    fun n i m at_ => ⟨?_, ?_, ?_⟩, fun n => ⟨?_, ?_, fun g => ?_⟩⟩
  · exact workDoes_of (fun _ => rfl) fun u ⟨⟨opened, due, idle⟩, empty⟩ => doCloseSend_empty opened due idle empty
  · exact workDoes_of (fun _ => rfl) fun u ⟨⟨opened, due, idle⟩, entries, engine, room, manifest⟩ =>
      doCloseSend_sends opened due idle entries engine room manifest
  · exact workDoes_of (fun _ => rfl) fun u ⟨opened, early⟩ => doCloseSend_early opened early
  · exact workDoes_of (fun _ => rfl) fun u ⟨⟨vc, notAck, notHint, taken, on⟩, bad⟩ =>
      doReturnBale_bad vc notAck notHint taken on bad
  · exact workDoes_of (fun _ => rfl) fun u ⟨⟨vc, notAck, notHint, taken, on⟩, crc, type, part, retired⟩ =>
      (doReturnBale_counts vc notAck notHint taken on crc type part).trans (if_pos retired)
  · exact workDoes_of (fun _ => rfl) fun u ⟨⟨vc, notAck, notHint, taken, on⟩, crc, type, part, fresh⟩ =>
      (doReturnBale_counts vc notAck notHint taken on crc type part).trans (if_neg (Bool.eq_false_iff.1 fresh))
  · exact workDoes_of (fun _ => rfl) fun u absent => doReturnBale_none absent
  · exact workDoes_of (fun _ => rfl) fun u ⟨⟨vc, type, taken⟩, crc⟩ => doAckBale_crcBad vc type taken crc
  · exact workDoes_of (fun _ => rfl) fun u ⟨⟨vc, type, taken⟩, crc, part, acked, manifest, own⟩ =>
      doAckBale_subtracts vc type taken crc part acked manifest own
  · exact workDoes_of (fun _ => rfl) fun u absent => doAckBale_none absent
  · exact workDoes_of (fun _ => rfl) fun u ⟨⟨manifest, sealedAt⟩, late⟩ => doManifestTimeout_passed manifest sealedAt late
  · exact workDoes_of (fun _ => rfl) fun u ⟨⟨manifest, sealedAt⟩, early⟩ => doManifestTimeout_early manifest sealedAt early
  · exact workDoes_of (fun _ => rfl) fun u absent => doManifestTimeout_none absent
  · exact eventDoes_of (fun _ => rfl) fun u ⟨once, idle⟩ =>
      (doConvoyParity_idle idle).trans (if_neg (Bool.eq_false_iff.1 once))
  · exact eventDoes_of (fun _ => rfl) fun u ⟨again, idle⟩ => (doConvoyParity_idle idle).trans (if_pos again)
  · exact eventDoes_of (fun _ => rfl) fun u ⟨once, live, own⟩ =>
      (doConvoyParity_live live own).trans (if_neg (Bool.eq_false_iff.1 once))

end Sys2Proof.Machine
end

section
/-! Serai's bales, its queue timeouts, acknowledgements and parity errors (R126, R131 to R133, R140,
R149). -/
namespace Sys2Proof.Machine

section Bales
variable {s t : State} {pkt : Packet}

/-- What a DISPATCH bale for partition p does at its targets: its payload gets a cell, and each rank is taken with it;
without one each is refused (R126, R131). -/
def State.enterRanks (pkt : Packet) (s : State) (p : Nat) (ts : List Target) : State :=
  match s.alloc p Cl.serai 0 pkt.len with
  | (none, s) => ts.foldl (fun s t => s.takeRank p pkt none false t) s
  | (some (a, pool), s) =>
    let s := ((if pkt.len = 0 then s else s.noteSpill pool).bump Pg.sri Reg.sriCntBales).chainWrite pkt.stepOf a pkt.payload
    (ts.foldl (fun s t => s.takeRank p pkt (some a) (1 < ts.length) t) s).freeUnused p [a]

theorem doDispatchBale_none (h : s.takeEjected pkt = none) : s.doDispatchBale pkt = s := by
  unfold State.doDispatchBale
  simp only [h, ite_self]

theorem doDispatchBale_arrives (vc : pkt.vc = 1) (type : pkt.type = 0) (taken : s.takeEjected pkt = some t) :
    s.doDispatchBale pkt = t.baleArrive pkt (t.dispatchTargets pkt) (State.enterRanks pkt) := by
  have here : ¬(pkt.vc ≠ 1 ∨ pkt.type = 2) := by simp [vc, type]
  unfold State.doDispatchBale
  rw [if_neg here, taken]
  exact if_neg fun other => other type

/-- A reserved TYPE fails as a CRC would (R133). -/
theorem doDispatchBale_reserved (vc : pkt.vc = 1) (notDispatch : pkt.type ≠ 0) (notClose : pkt.type ≠ 2)
    (taken : s.takeEjected pkt = some t) (on : t.isOn Pg.sri = true) : s.doDispatchBale pkt = t.baleCrc := by
  have here : ¬(pkt.vc ≠ 1 ∨ pkt.type = 2) := by simp [vc, notClose]
  unfold State.doDispatchBale
  rw [if_neg here, taken]
  exact (if_pos notDispatch).trans (if_pos on)

theorem doCloseBale_none (h : s.takeEjected pkt = none) : s.doCloseBale pkt = s := by
  unfold State.doCloseBale
  simp only [h, ite_self]

theorem doCloseBale_arrives (vc : pkt.vc = 1) (type : pkt.type = 2) (taken : s.takeEjected pkt = some t) :
    s.doCloseBale pkt =
      t.baleArrive pkt (closeTargets pkt) fun s p ts => ts.foldl (fun s t => s.takeClose p pkt t) s := by
  have here : ¬(pkt.vc ≠ 1 ∨ pkt.type ≠ 2) := by simp [vc, type]
  unfold State.doCloseBale
  rw [if_neg here, taken]

end Bales

/-! Queue timeouts (R132) -/

section Timeout
variable {s : State} {q : Nat} {next : Bool}

/-- The current or the next generation of a queue. -/
def State.genAt (s : State) (q : Nat) (next : Bool) : Option Gen := if next then (s.queue q).nxt else (s.queue q).cur

theorem doQueueTimeout_none (h : s.genAt q next = none) : s.doQueueTimeout q next = s := by
  unfold State.genAt at h
  unfold State.doQueueTimeout
  rw [h]

theorem doQueueTimeout_some {g : Gen} (h : s.genAt q next = some g) :
    s.doQueueTimeout q next =
      if g.st = .opened ∧ g.openedAt + (s.reg Pg.sri Reg.sriQtmo).toNat ≤ s.now then
        (s.genErr q g 0x15).suspectBit Cause.other
      else s := by
  unfold State.genAt at h
  unfold State.doQueueTimeout
  rw [h]

end Timeout

/-! Acknowledgements (R140) -/

/-- The acknowledgements to a sender's manifest that are 500 ticks old. -/
def State.acksDue (s : State) (coord : Coord) (eng man : Nat) : List Ack :=
  s.sri.acks.filter (fun a => decide (a.coord = coord ∧ a.eng = eng ∧ a.man = man ∧ a.since + 500 ≤ s.now))

theorem doAckSend_eq_foldl (s : State) (coord : Coord) (eng man : Nat) :
    s.doAckSend coord eng man = (s.acksDue coord eng man).foldl State.sendAck s := rfl

/-! Parity errors (R149) -/

/-- The partition whose queues include q. -/
def State.queueOwner (s : State) (q : Nat) : Option Nat := (List.range 8).find? (fun p => s.inSri p q)

theorem doSeraiParity_owned {s : State} {q p : Nat} (h : s.queueOwner q = some p) :
    s.doSeraiParity q = (s.irq Pg.sri 20).errorOpen Pg.sri Cls.partition p 0x18 := by
  unfold State.queueOwner at h
  unfold State.doSeraiParity
  rw [h]

theorem doSeraiParity_unowned {s : State} {q : Nat} (h : s.queueOwner q = none) : s.doSeraiParity q = s := by
  unfold State.queueOwner at h
  unfold State.doSeraiParity
  rw [h]

end Sys2Proof.Machine
end

section
/-! The requests of the control ports to the Ledger (R147). -/
namespace Sys2Proof.Machine

/-! Grants (R147) -/

/-- The port may name the partition: it is a management port, or the partition is its own. -/
def State.portMay (s : State) (port p : Nat) : Bool := s.isMgmt port || s.ownsPart port p

theorem regAct_ldg (s : State) (port off : Nat) (v : W32) (io : IoResult) :
    s.regAct port Pg.ldg off v io =
      if off = Reg.ldgAreq then (0, s.portAlloc port v (s.portMay port (fld v 14 12)))
      else if off = Reg.ldgFreeHi then
        (0, (s.setPortReg port Pg.ldg Reg.ldgFreeLo 0).portFree port
          ((s.portReg port Pg.ldg Reg.ldgFreeLo).toNat + 2 ^ 32 * fld v 11 0) (s.portMay port))
      else if off = Reg.ldgFreeLo then (0, s.setPortReg port Pg.ldg off v)
      else (0, s.plainWrite port Pg.ldg off v) := rfl

theorem regAct_ldgAreq (s : State) (port : Nat) (v : W32) (io : IoResult) :
    s.regAct port Pg.ldg Reg.ldgAreq v io = (0, s.portAlloc port v (s.portMay port (fld v 14 12))) := by
  rw [regAct_ldg, if_pos rfl]

theorem regAct_ldgFreeHi (s : State) (port : Nat) (v : W32) (io : IoResult) :
    s.regAct port Pg.ldg Reg.ldgFreeHi v io =
      (0, (s.setPortReg port Pg.ldg Reg.ldgFreeLo 0).portFree port
        ((s.portReg port Pg.ldg Reg.ldgFreeLo).toNat + 2 ^ 32 * fld v 11 0) (s.portMay port)) := by
  rw [regAct_ldg, if_neg (by decide), if_pos rfl]

section Alloc
variable {s : State} {port : Nat} {v : W32}

theorem portAlloc_denied : s.portAlloc port v false = s.setAstat port 1 0 2 := rfl

theorem portAlloc_unserved (h : fld v 11 10 = 3 ∨
    s.servingPool (fld v 14 12) Cl.host (fld v 11 10) ((fld v 9 0 + 1) * cellSize (fld v 11 10)) = none) :
    s.portAlloc port v true = (s.bump Pg.ldg Reg.ldgCntFail).setAstat port 1 0 1 := by
  unfold State.portAlloc
  obtain reserved | unserved := h
  · exact if_pos reserved
  · simp only [unserved, ite_self, Bool.not_true, Bool.false_eq_true, if_false]

/-- The grant's pool and the head of its chain go to the port's registers. -/
def State.noteGrant (s : State) (port h q : Nat) : State :=
  let t := (s.setAstat port 1 0 0).setAstat port 3 2 q
  (t.setPortReg port Pg.ldg Reg.ldgAresLo (w32 (h % 2 ^ 32))).setPortReg port Pg.ldg Reg.ldgAresHi (w32 (h / 2 ^ 32))

theorem portAlloc_grants {q h : Nat} {t : State} (pool : fld v 11 10 ≠ 3)
    (serves : s.servingPool (fld v 14 12) Cl.host (fld v 11 10) ((fld v 9 0 + 1) * cellSize (fld v 11 10)) = some q)
    (granted : s.grant (fld v 14 12) Cl.host (fld v 11 10) ((fld v 9 0 + 1) * cellSize (fld v 11 10)) q = (h, t)) :
    s.portAlloc port v true = t.noteGrant port h q := by
  unfold State.portAlloc
  simp only [if_neg pool, serves, granted, Bool.not_true, Bool.false_eq_true, if_false]
  rfl

/-- A write of LDG_AREQ by a port that may name the partition. -/
theorem regAct_ldgAreq_may (io : IoResult) (may : s.portMay port (fld v 14 12) = true) :
    s.regAct port Pg.ldg Reg.ldgAreq v io = (0, s.portAlloc port v true) := by
  rw [regAct_ldgAreq, may]

end Alloc

/-! Frees (R147) -/

section Free
variable {s : State} {port a : Nat} {may : Nat → Bool}

theorem portFree_none (h : s.chainAt a = none) :
    s.portFree port a may = (s.bump Pg.ldg Reg.ldgCntBadptr).setAstat port 5 4 1 := by
  unfold State.portFree
  rw [h]

section Chained
variable {c : Chain} (chain : s.chainAt a = some c)
include chain

theorem portFree_denied (denied : may c.part = false) :
    s.portFree port a may = (s.bump Pg.ldg Reg.ldgCntBadptr).setAstat port 5 4 2 := by
  unfold State.portFree
  rw [chain]
  exact if_pos (congrArg not denied)

section Allowed
variable (allowed : may c.part = true)
include allowed

theorem portFree_notHost (cls : c.cls ≠ Cl.host) :
    s.portFree port a may = (s.bump Pg.ldg Reg.ldgCntBadptr).setAstat port 5 4 1 := by
  unfold State.portFree
  simp only [chain, allowed, if_pos cls, Bool.not_true, Bool.false_eq_true, if_false]

theorem portFree_frees (cls : c.cls = Cl.host) :
    s.portFree port a may = (s.setChain a none).setAstat port 5 4 0 := by
  unfold State.portFree
  simp only [chain, allowed, cls, ne_eq, not_true_eq_false, Bool.not_true, Bool.false_eq_true, if_false]

end Allowed
end Chained
end Free

/-- A write of LDG_FREE_HI, by what the free of the pointer in both words comes to. -/
theorem freeDoes_of {r : Req} {lo hi : W32} {H : State → Prop} {E : State → State}
    (h : ∀ t, H t →
      (t.setPortReg r.port Pg.ldg Reg.ldgFreeLo 0).portFree r.port
        ((t.portReg r.port Pg.ldg Reg.ldgFreeLo).toNat + 2 ^ 32 * fld hi 11 0) (t.portMay r.port) = E t) :
    HighDoes (.ledgerFree r hi) r Pg.ldg Reg.ldgFreeHi lo hi H E :=
  highDoes_of (fun _ => rfl) fun t ht => by rw [regAct_ldgFreeHi, h t ht]

/-- Settles O27: a bale by its type, a timeout, an acknowledgement and a parity error by whether it is due, and a grant
and a free by whether the port may ask and the Ledger can serve it. -/
theorem seraiAndLedger : Obligations.SeraiAndLedger := by
  unfold Obligations.SeraiAndLedger
  refine ⟨fun pkt t => ⟨?_, ?_, ?_, ?_, ?_⟩, fun q next g => ⟨?_, ?_⟩, fun c eng man a => ⟨?_, ?_⟩,
    fun q p => ⟨?_, ?_⟩, ?_, fun r data => ⟨?_, ?_, fun q h t => ?_⟩, fun r lo hi c => ⟨?_, ?_, ?_, ?_⟩⟩
  · exact workDoes_of (fun _ => rfl) fun u ⟨vc, type, taken⟩ => doDispatchBale_arrives vc type taken
  · exact workDoes_of (fun _ => rfl) fun u ⟨vc, notDispatch, notClose, taken, on⟩ =>
      doDispatchBale_reserved vc notDispatch notClose taken on
  · exact workDoes_of (fun _ => rfl) fun u absent => doDispatchBale_none absent
  · exact workDoes_of (fun _ => rfl) fun u ⟨vc, type, taken⟩ => doCloseBale_arrives vc type taken
  · exact workDoes_of (fun _ => rfl) fun u absent => doCloseBale_none absent
  · exact workDoes_of (fun _ => rfl) fun u ⟨gen, late⟩ => (doQueueTimeout_some gen).trans (if_pos late)
  · refine workDoes_of (fun _ => rfl) fun u idle => ?_
    obtain absent | ⟨gen, early⟩ := idle
    · exact doQueueTimeout_none absent
    · exact (doQueueTimeout_some gen).trans (if_neg early)
  · exact workDoes_of (fun _ => rfl) fun u due =>
      (doAckSend_eq_foldl u c eng man.toNat).trans (congrArg (List.foldl State.sendAck u) due)
  · exact workDoes_of (fun _ => rfl) fun u due =>
      (doAckSend_eq_foldl u c eng man.toNat).trans (congrArg (List.foldl State.sendAck u) due)
  · exact eventDoes_of (fun _ => rfl) fun u owned => doSeraiParity_owned owned
  · exact eventDoes_of (fun _ => rfl) fun u unowned => doSeraiParity_unowned unowned
  · exact eventDoes_of (fun _ => rfl) fun u _ => rfl
  · refine writeDoes_of (fun _ => rfl) fun u _ foreign => ?_
    have denied : u.portMay r.port (fld data 14 12) = false := Bool.eq_false_iff.2 foreign
    rw [regAct_ldgAreq, denied, portAlloc_denied]
  · refine writeDoes_of (fun _ => rfl) fun u _ ⟨may, unserved⟩ => ?_
    rw [regAct_ldgAreq_may _ may, portAlloc_unserved unserved]
  · refine writeDoes_of (fun _ => rfl) fun u _ ⟨may, pool, serves, granted⟩ => ?_
    rw [regAct_ldgAreq_may _ may, portAlloc_grants pool serves granted]
    rfl
  · exact freeDoes_of fun t absent => portFree_none absent
  · exact freeDoes_of fun t ⟨chain, denied⟩ => portFree_denied chain (Bool.eq_false_iff.2 denied)
  · exact freeDoes_of fun t ⟨chain, may, cls⟩ => portFree_notHost chain may cls
  · exact freeDoes_of fun t ⟨chain, may, cls⟩ => portFree_frees chain may cls

end Sys2Proof.Machine
end

section
/-! The checks of a core: the residue check, the parity of the scratchpad and the range monitor (R173, R188, R205). -/
namespace Sys2Proof.Machine

/-! The residue check (R188) -/

/-- The mismatches of the running pass of an array, with the one that is checked. -/
def Run.missCount (r : Run) (array : Nat) : Nat := r.tries.get 0 array + 1

/-- The state in which a residue mismatch is counted and recorded, with its event. -/
def State.missNoted (s : State) (c array : Nat) (r : Run) : State :=
  (((s.setCore c { s.core c with run := some { r with tries := r.tries.set 0 array (r.missCount array % 3) } }).bump
    (Pg.cor c) Reg.corCntRmiss).setReg (Pg.cor c) Reg.corResLast
      (w32 (at_ 31 1 + at_ 16 (r.index % 2 ^ 14) + at_ 4 (min r.passes 0xFFF) + at_ 2 array +
        min (r.missCount array) 3))).irq (Pg.cor c) 16

/-- The state in which a pass that ends is counted. -/
def State.passCounted (s : State) (c array : Nat) (r : Run) : State :=
  (s.setCore c { s.core c with run := some { r with passes := r.passes + 1, tries := r.tries.set 0 array 0 } }).bump
    (Pg.cor c) Reg.corCntPasses

section PassCheck
variable {s : State} {c array : Nat} {r : Run}

theorem doPassCheck_idle {mismatch : Bool} (idle : (s.core c).run = none) : s.doPassCheck c array mismatch = s := by
  unfold State.doPassCheck
  rw [idle]

section Running
variable (running : (s.core c).run = some r) (works : s.coreWorks c = true)
include running works

/-- A mismatch that the checker sees recomputes the pass, or is the third and quarantines the core. -/
theorem doPassCheck_mismatch (checks : s.rb (Pg.cor c) Reg.corCtrl 0 = true) :
    s.doPassCheck c array true =
      if r.missCount array < 3 then (s.missNoted c array r).bump (Pg.cor c) Reg.corCntRecomp
      else (((s.missNoted c array r).error (Pg.cor c) Cls.recomputed r.part 0x1A r.index).quarantine
        (Pg.cor c)).coreLeaves c := by
  unfold State.doPassCheck
  simp only [running, works, checks, Bool.not_true, Bool.false_eq_true, Bool.and_self, if_false, if_true]
  rfl

/-- A pass that agrees counts, and as checked too where the checker is on. -/
theorem doPassCheck_agrees :
    s.doPassCheck c array false =
      if (s.passCounted c array r).rb (Pg.cor c) Reg.corCtrl 0 then
        (s.passCounted c array r).bump (Pg.cor c) Reg.corCntRchk
      else s.passCounted c array r := by
  unfold State.doPassCheck
  simp only [running, works, Bool.not_true, Bool.false_and, Bool.false_eq_true, if_false]
  rfl

end Running
end PassCheck

/-! The parity of the scratchpad (R205) -/

/-- The state in which a parity error of a core's scratchpad is noted and counted, with its event. -/
def State.corParityNoted (s : State) (c : Nat) : State :=
  ((s.setCore c { s.core c with parityAt := some s.now }).bump (Pg.cor c) Reg.corCntPar).irq (Pg.cor c) 17

/-- The core had a scratchpad parity error within the second before. -/
def State.corParityAgain (s : State) (c : Nat) : Bool :=
  (s.core c).parityAt.any (fun t => decide (s.now ≤ t + 1000000000))

/-- The state in which a parity error has ended the running task, or is recorded with an open detail where the core is
idle (log 89). -/
def State.corParityTaken (s : State) (c : Nat) : State :=
  match (s.core c).run with
  | some r => (s.corParityNoted c).taskError c 0x14 r.index
  | none => (s.corParityNoted c).errorOpen (Pg.cor c) Cls.task ((s.corParityNoted c).partOf (Pg.cor c)) 0x14

section Parity
variable {s : State} {c : Nat}

theorem corParityTaken_running {r : Run} (running : (s.core c).run = some r) :
    s.corParityTaken c = (s.corParityNoted c).taskError c 0x14 r.index := by
  unfold State.corParityTaken
  rw [running]

theorem corParityTaken_idle (idle : (s.core c).run = none) :
    s.corParityTaken c =
      (s.corParityNoted c).errorOpen (Pg.cor c) Cls.task ((s.corParityNoted c).partOf (Pg.cor c)) 0x14 := by
  unfold State.corParityTaken
  rw [idle]

theorem doScratchParity_notWorking (off : s.coreWorks c = false) : s.doScratchParity c = s :=
  if_pos (congrArg not off)

section Working
variable (works : s.coreWorks c = true)
include works

theorem doScratchParity_first (first : s.corParityAgain c = false) : s.doScratchParity c = s.corParityTaken c :=
  (if_neg (Bool.eq_false_iff.1 (congrArg not works))).trans (if_neg (Bool.eq_false_iff.1 first))

theorem doScratchParity_again (again : s.corParityAgain c = true) :
    s.doScratchParity c = ((s.corParityTaken c).quarantine (Pg.cor c)).coreLeaves c :=
  (if_neg (Bool.eq_false_iff.1 (congrArg not works))).trans (if_pos again)

end Working
end Parity

/-! The range monitor (R173) -/

/-- The state in which the six classes of a monitor tile are counted. -/
def State.tileCounted (s : State) (c : Nat) (m : Mon) : State :=
  (List.range 6).foldl (fun t k => t.bumpBy (Pg.cor c) (Reg.corRmCnt k) (m.cls k)) s

/-- The state in which a tile's breaches are counted, and the first is recorded in COR_RM_LAST while that is not
valid. -/
def State.breachRecorded (s : State) (c task : Nat) (m : Mon) : State :=
  let t := s.bumpBy (Pg.cor c) Reg.corRmTiles (s.rmOver c m).length
  if t.rb (Pg.cor c) Reg.corRmLast 31 then t
  else t.setReg (Pg.cor c) Reg.corRmLast (w32 (at_ 31 1 + at_ 16 (task % 2 ^ 14) + (s.rmOver c m).headD 0))

/-- The first class whose breach by a tile ends the task. -/
def State.breachEnding (s : State) (c task : Nat) (m : Mon) : Option Nat :=
  (s.rmOver c m).find? fun k => (s.breachRecorded c task m).rb (Pg.cor c) Reg.corRmCtrl k

section Tile
variable {s : State} {c task : Nat} {m : Mon}

/-- A tile that exceeds no threshold is counted alone. -/
theorem endTile_within (within : (s.tileCounted c m).rmOver c m = []) :
    s.endTile c task m = (none, s.tileCounted c m) := by
  unfold State.tileCounted at within
  unfold State.endTile
  simp only [within]
  rfl

/-- A tile that exceeds thresholds is recorded, with its event, and ends the task by the first class that does so. -/
theorem endTile_exceeds (exceeds : (s.tileCounted c m).rmOver c m ≠ []) :
    s.endTile c task m =
      ((s.tileCounted c m).breachEnding c task m, ((s.tileCounted c m).breachRecorded c task m).irq (Pg.cor c) 24) := by
  obtain ⟨k, ks, breaches⟩ := List.exists_cons_of_ne_nil exceeds
  unfold State.breachEnding State.breachRecorded
  rw [breaches]
  unfold State.tileCounted at breaches
  unfold State.endTile
  simp only [breaches]
  rfl

end Tile

/-- The state in which the running task of a core is one tile further and the classes of that tile are counted. -/
def State.nextTileCounted (s : State) (c : Nat) (r : Run) (m : Mon) : State :=
  (s.setCore c { s.core c with run := some { r with tiles := r.tiles + 1 } }).tileCounted c m

/-- The state after the end of a tile of a core: the task ends in an error where the tile names a class. -/
def State.afterTile (c : Nat) : Option Nat × State → State
  | (none, t) => t
  | (some k, t) => t.taskError c 0x20 k

section Range
variable {s : State} {c : Nat}

theorem doRange_idle (idle : (s.core c).run = none) : s.doRange c = s := by
  unfold State.doRange
  rw [idle]

section Running
variable {r : Run} {m : Mon} (running : (s.core c).run = some r) (works : s.coreWorks c = true)
  (tile : ((s.evalTask r (runTask r)).2.tiles)[r.tiles]? = some m)
include running works tile

theorem doRange_tile :
    s.doRange c = State.afterTile c
      ((s.setCore c { s.core c with run := some { r with tiles := r.tiles + 1 } }).endTile c r.index m) := by
  unfold State.doRange
  simp only [running, works, tile, Bool.not_true, Bool.false_eq_true, if_false]
  rfl

theorem doRange_within (within : (s.nextTileCounted c r m).rmOver c m = []) :
    s.doRange c = s.nextTileCounted c r m := by
  unfold State.nextTileCounted at within
  rw [doRange_tile running works tile, endTile_within within]
  rfl

section Exceeds
variable (exceeds : (s.nextTileCounted c r m).rmOver c m ≠ [])
include exceeds

theorem doRange_goesOn (goesOn : (s.nextTileCounted c r m).breachEnding c r.index m = none) :
    s.doRange c = ((s.nextTileCounted c r m).breachRecorded c r.index m).irq (Pg.cor c) 24 := by
  unfold State.nextTileCounted at exceeds goesOn
  rw [doRange_tile running works tile, endTile_exceeds exceeds, goesOn]
  rfl

theorem doRange_breach {k : Nat} (ends : (s.nextTileCounted c r m).breachEnding c r.index m = some k) :
    s.doRange c = (((s.nextTileCounted c r m).breachRecorded c r.index m).irq (Pg.cor c) 24).taskError c 0x20 k := by
  unfold State.nextTileCounted at exceeds ends
  rw [doRange_tile running works tile, endTile_exceeds exceeds, ends]
  rfl

end Exceeds
end Running
end Range

/-- Settles O28: a pass by what the checker says and by the mismatches before, a parity error by the task and by whether
it is the second, and a monitor tile by the thresholds it exceeds. -/
theorem coreChecks : Obligations.CoreChecks := by
  unfold Obligations.CoreChecks
  refine ⟨fun core array r => ⟨?_, ?_, ?_, ?_, fun bad => ?_⟩, fun core r => ⟨?_, ?_, ?_, ?_⟩,
    fun core r m => ⟨?_, ?_, fun k => ?_, ?_⟩⟩
  · exact workDoes_of (fun _ => rfl) fun u ⟨⟨running, works, checks⟩, again⟩ =>
      (doPassCheck_mismatch running works checks).trans (if_pos again)
  · exact workDoes_of (fun _ => rfl) fun u ⟨⟨running, works, checks⟩, third⟩ =>
      (doPassCheck_mismatch running works checks).trans (if_neg (Nat.not_lt.2 third))
  · exact workDoes_of (fun _ => rfl) fun u ⟨⟨running, works, _⟩, checks⟩ =>
      (doPassCheck_agrees running works).trans (if_pos checks)
  · exact workDoes_of (fun _ => rfl) fun u ⟨running, works, unchecked⟩ =>
      (doPassCheck_agrees running works).trans (if_neg (Bool.eq_false_iff.1 unchecked))
  · exact workDoes_of (fun _ => rfl) fun u idle => doPassCheck_idle idle
  · exact eventDoes_of (fun _ => rfl) fun u ⟨works, first, running⟩ =>
      (doScratchParity_first works first).trans (corParityTaken_running running)
  · refine eventDoes_of (fun _ => rfl) fun u ⟨works, again, running⟩ => ?_
    rw [doScratchParity_again works again, corParityTaken_running running]
    rfl
  · exact eventDoes_of (fun _ => rfl) fun u ⟨works, first, idle⟩ =>
      (doScratchParity_first works first).trans (corParityTaken_idle idle)
  · exact eventDoes_of (fun _ => rfl) fun u off => doScratchParity_notWorking off
  · exact workDoes_of (fun _ => rfl) fun u ⟨⟨running, works, tile⟩, within⟩ =>
      doRange_within (r := r) (m := m) running works tile within
  · exact workDoes_of (fun _ => rfl) fun u ⟨⟨running, works, tile⟩, exceeds, goesOn⟩ =>
      doRange_goesOn (r := r) (m := m) running works tile exceeds goesOn
  · exact workDoes_of (fun _ => rfl) fun u ⟨⟨running, works, tile⟩, exceeds, ends⟩ =>
      doRange_breach (r := r) (m := m) running works tile exceeds ends
  · exact workDoes_of (fun _ => rfl) fun u idle => doRange_idle idle

end Sys2Proof.Machine
end

section
/-! Memory stays in its canonical form over every step (R231, R239; log 5): a tick writes none of it, and a command
leaves it as it was or as `State.done` does. -/
namespace Sys2Proof.Machine

theorem run_wf {f : State → State} {s t : State} (h : Memory.wf s.mem = true) (e : run f s = .next t) :
    Memory.wf t.mem = true := by
  cases live : s.live with
  | true =>
    rw [run_live f s live] at e
    obtain rfl := Host.Outcome.next.inj e
    exact done_wf _ _
  | false =>
    rw [run_dead f s live] at e
    exact Host.Outcome.next.inj e ▸ h

/-- Every command keeps the form, whichever of the four forms its meaning has. -/
theorem exec_wf {c : Instr} {s t : State} (h : Memory.wf s.mem = true) (e : exec c s = .next t) :
    Memory.wf t.mem = true := by
  obtain ⟨still, -⟩ | ⟨f, runs, -⟩ | ⟨f, works, -⟩ | ⟨f, acts, -⟩ := exec_form c
  · rw [still] at e
    exact Host.Outcome.next.inj e ▸ h
  · exact run_wf h ((runs s).symm.trans e)
  · exact run_wf h ((works s).symm.trans e)
  · rw [acts, always_eq] at e
    obtain rfl := Host.Outcome.next.inj e
    exact done_wf _ _

theorem step_cons {s : State} {c : Instr} {rest : List Instr} (waiting : s.pending = c :: rest) :
    step s = exec c { s with pending := rest } := by
  unfold step
  rw [waiting]

/-- Settles O54: the step is a tick where no command waits, and otherwise the command at the front. -/
theorem stepKeepsMemoryCanonical : Obligations.StepKeepsMemoryCanonical := by
  unfold Obligations.StepKeepsMemoryCanonical
  intro s t h e
  cases waiting : s.pending with
  | nil =>
    rw [step_nil s waiting] at e
    obtain rfl := Host.Outcome.next.inj e
    rwa [tick_mem]
  | cons c rest =>
    rw [step_cons waiting] at e
    exact exec_wf (s := { s with pending := rest }) h e

end Sys2Proof.Machine
end

section
/-! Migration and the CXL tier (R242 to R245, R248, R249, R254): the entries of a partition's list, the pages of a FILL
and a STORE, CXL reads that bring no data, the loss of a link or of its IDE stream, and CXL.io accesses. -/
namespace Sys2Proof.Machine

/-! The next entry of a list (R242, R243, R245) -/

/-- The next entry of a partition's list can start, once it is read, valid and its wait met. -/
def State.migReady (s : State) (p : Nat) : Prop :=
  s.isOn Pg.tir = true ∧ (s.mig p).halted = false ∧ (s.mig p).pos < s.rf Pg.tir (Reg.tirMigpCnt p) 15 0 ∧
    (s.mig p).running.length < 8 ∧ s.parOff p = false ∧ bit s.stopped p = false

/-- The read of that entry. -/
def State.migRead (s : State) (p : Nat) : Option (List Byte) × State :=
  s.blockRead p (s.reg64 Pg.tir (Reg.tirMigpLo p) (Reg.tirMigpHi p) + 32 * (s.mig p).pos) 32 (s.mig p).pos

/-- The wait of an entry, from its bytes (Table 10.4). -/
def migWait (bs : List Byte) : Bool × Nat × Nat := listWait ((wordsOf 256 bs).truncate 512) 4

section Entry
variable {s t : State} {p : Nat} {bs : List Byte}

theorem doMigration_done (h : s.rf Pg.tir (Reg.tirMigpCnt p) 15 0 ≤ (s.mig p).pos ∨ (s.mig p).halted = true) :
    s.doMigration p = s := by
  refine if_pos ?_
  obtain past | halted := h
  · exact .inr (.inr (.inl past))
  · exact .inr (.inl halted)

section Ready
variable (ready : s.migReady p)
include ready

theorem migReady_proceeds :
    ¬((!s.isOn Pg.tir) = true ∨ (s.mig p).halted = true ∨ s.rf Pg.tir (Reg.tirMigpCnt p) 15 0 ≤ (s.mig p).pos ∨
      8 ≤ (s.mig p).running.length ∨ s.parOff p = true ∨ bit s.stopped p = true) := by
  obtain ⟨on, halted, pos, room, par, stopped⟩ := ready
  simp only [on, halted, par, stopped, Bool.not_true, Bool.false_eq_true, false_or, or_false, not_or, Nat.not_le]
  exact ⟨pos, room⟩

/-- An entry that cannot be read halts the list and fails the live graph. -/
theorem doMigration_unread (read : s.migRead p = (none, t)) :
    s.doMigration p = (t.setMig p { t.mig p with halted := true }).failLive p := by
  unfold State.migRead at read
  unfold State.doMigration
  simp only [if_neg (migReady_proceeds ready), read]

section Read
variable (read : s.migRead p = (some bs, t))
include read

/-- An entry that is read halts the list, waits, or starts. -/
theorem doMigration_read :
    s.doMigration p =
      if t.listWaitBad p (migWait bs) = true ∨ (!t.migOk p (wordsOf 256 bs)) = true then t.migHalt p (s.mig p).pos
      else if (!t.listWaitMet p (migWait bs)) = true then t
      else (t.setMig p { s.mig p with pos := (s.mig p).pos + 1 }).migBegin p (s.mig p).pos (wordsOf 256 bs) := by
  unfold State.migRead at read
  unfold State.doMigration
  simp only [if_neg (migReady_proceeds ready), read]
  rfl

theorem doMigration_invalid (invalid : t.migOk p (wordsOf 256 bs) = false) :
    s.doMigration p = t.migHalt p (s.mig p).pos := by
  rw [doMigration_read ready read, if_pos (.inr (congrArg not invalid))]

section Valid
variable (inRange : t.listWaitBad p (migWait bs) = false) (valid : t.migOk p (wordsOf 256 bs) = true)
include inRange valid

theorem doMigration_waits (unmet : t.listWaitMet p (migWait bs) = false) : s.doMigration p = t := by
  rw [doMigration_read ready read, if_neg (by simp [inRange, valid]), if_pos (by simp [unmet])]

theorem doMigration_starts (met : t.listWaitMet p (migWait bs) = true) :
    s.doMigration p =
      (t.setMig p { s.mig p with pos := (s.mig p).pos + 1 }).migBegin p (s.mig p).pos (wordsOf 256 bs) := by
  rw [doMigration_read ready read, if_neg (by simp [inRange, valid]), if_neg (by simp [met])]

end Valid
end Read
end Ready
end Entry

/-! The pages of a FILL and of a STORE (R243, R244, R249) -/

/-- The run of an entry of a list, where one with that operation is in progress. -/
def State.migRunning (s : State) (p entry op : Nat) : Option MigRun :=
  (s.mig p).running.find? (fun r => decide (r.entry = entry ∧ r.op = op))

/-- The page in hand of a FILL has been read: it is in its frame, or its frame is free and the error recorded. -/
def State.fillPageRead (s : State) (p entry : Nat) (r : MigRun) : CxlResult → State
  | .data => s.fillDone p r
  | bad => ((s.setFrame (r.gdr / 2 ^ 21 + r.done) none).cxlBad (r.cxl + r.done * 2 ^ 21) p bad).error Pg.tir Cls.task p
      0x12 entry

section Pages
variable {s t : State} {p entry : Nat} {r : MigRun}

theorem doFillPage_none (out : CxlResult) (idle : s.migRunning p entry 1 = none) : s.doFillPage p entry out = s := by
  unfold State.migRunning at idle
  unfold State.doFillPage
  rw [idle]

/-- Once its page is read a FILL goes on with the next page it needs, or ends. -/
theorem doFillPage_next {out : CxlResult} {next : Option MigRun} (running : s.migRunning p entry 1 = some r)
    (setup : (s.fillPageRead p entry r out).fillSetup p (r.npage + 1) { r with done := r.done + 1 } = (next, t)) :
    s.doFillPage p entry out = t.setMigRun p entry next := by
  unfold State.migRunning at running
  unfold State.fillPageRead at setup
  unfold State.doFillPage
  simp only [running]
  cases out
  all_goals
    simp only at setup ⊢
    rw [setup]
    cases next <;> rfl

theorem doStorePage_none (idle : s.migRunning p entry 3 = none) : s.doStorePage p entry = s := by
  unfold State.migRunning at idle
  unfold State.doStorePage
  rw [idle]

/-- The page in hand of a STORE whose source is read goes to the CXL tier. -/
theorem doStorePage_stores {bs : List Byte} (running : s.migRunning p entry 3 = some r)
    (read : s.blockRead p (r.gdr + r.done * 2 ^ 21) (2 ^ 21) entry = (some bs, t)) :
    s.doStorePage p entry =
      ((t.cxlPut p (r.cxl + r.done * 2 ^ 21) bs).cxlLines (r.cxl + r.done * 2 ^ 21) (2 ^ 21) true).setMigRun p entry
        (if r.done + 1 < r.npage then some { r with done := r.done + 1 } else none) := by
  unfold State.migRunning at running
  unfold State.doStorePage
  simp only [running, read]

end Pages

/-! CXL reads that bring no data (R249) -/

/-- What a CXL read that is poisoned or fails IDE ends: the task, the page of the FILL, the refetch or the live graph
that asked for it. -/
def State.cxlUnserved (s : State) (a : Nat) (bad : CxlResult) : CxlReader → State
  | .core c =>
    match (s.core c.val).run with
    | some x => (s.cxlBad a x.part bad).cxlTaskEnd c.val
    | none => s
  | .fill p e => s.doFillPage p.val e.toNat bad
  | .refetch _ => s.doRefetch a bad
  | .other p => (s.cxlBad a p.val bad).failLive p.val

theorem doCxlRead_bad (s : State) (a : Nat) (r : CxlReader) {bad : CxlResult} (h : bad ≠ .data) :
    s.doCxlRead a r bad = s.cxlUnserved a bad r := by
  cases bad with
  | data => exact absurd rfl h
  | poison => rfl
  | ideFail => rfl

theorem cxlUnserved_core {s : State} {c : Fin 64} {x : Run} (a : Nat) (bad : CxlResult)
    (running : (s.core c).run = some x) :
    s.cxlUnserved a bad (.core c) = (s.cxlBad a x.part bad).cxlTaskEnd c := by
  unfold State.cxlUnserved
  simp only [running]

/-! The loss of a CXL link, and of its IDE stream (R249, R387) -/

/-- The state in which a CXL port has lost its IDE stream. -/
def State.ideLost (s : State) (n : Nat) : State := s.setCxlPort n { s.cxlPort n with ide := false }

/-- The first Confidential partition that is not OFF and has a CXL range. -/
def State.confWithCxl (s : State) : Option Nat :=
  (List.range 8).find? (fun p => !s.parOff p && s.parConf p && decide (s.cxlLo p < s.cxlHi p))

section Loss
variable {s : State} {n : Nat}

theorem doCxlLoss_on (on : s.isOn (Pg.cxl n) = true) :
    s.doCxlLoss n =
      (((s.setCxlPort n { s.cxlPort n with up := false, ide := false }).irq (Pg.cxl n) 16).errorOpen (Pg.cxl n)
        Cls.recomputed 0 0x14).quarantine (Pg.cxl n) := if_pos on

theorem doCxlLoss_off (off : s.isOn (Pg.cxl n) = false) : s.doCxlLoss n = s := if_neg (Bool.eq_false_iff.1 off)

theorem doIdeLost_inactive (h : s.isOn (Pg.cxl n) = false ∨ (s.cxlPort n).ide = false) : s.doIdeLost n = s := by
  refine if_neg ?_
  rintro ⟨on, ide⟩
  obtain off | none := h
  · exact Bool.false_ne_true (off.symm.trans on)
  · exact Bool.false_ne_true (none.symm.trans ide)

section Active
variable (on : s.isOn (Pg.cxl n) = true) (ide : (s.cxlPort n).ide = true)
include on ide

theorem doIdeLost_confidential {p : Nat} (conf : (s.ideLost n).confWithCxl = some p) :
    s.doIdeLost n =
      (((s.ideLost n).irq (Pg.cxl n) 18).errorOpen (Pg.cxl n) Cls.task p 0x12).quarantine (Pg.cxl n) := by
  unfold State.ideLost State.confWithCxl at *
  unfold State.doIdeLost
  simp only [if_pos (And.intro on ide), conf]

theorem doIdeLost_open (conf : (s.ideLost n).confWithCxl = none) : s.doIdeLost n = s.ideLost n := by
  unfold State.ideLost State.confWithCxl at *
  unfold State.doIdeLost
  simp only [if_pos (And.intro on ide), conf]

end Active
end Loss

/-! CXL.io accesses (R254, Table 10.9) -/

theorem blkOf_cxl (n : Fin 2) : blkOf (Pg.cxl n) = .cxl := by
  revert n
  decide

theorem instOf_cxl (n : Fin 2) : instOf (Pg.cxl n) = n := by
  revert n
  decide

theorem rowOf_cxl (n : Fin 2) : (rowOf (Pg.cxl n)).isSome = true := by
  revert n
  decide

theorem actsOnRead_cxlIoData (n : Fin 2) : actsOnRead (Pg.cxl n) Reg.cxlIoData = true := by
  revert n
  decide

theorem readAct_cxl (s : State) (n : Fin 2) (io : IoResult) : s.readAct (Pg.cxl n) io = (io.data, s.ioDone n io) := by
  have notDbg : Pg.cxl n ≠ Pg.dbg := by
    unfold Pg.cxl Pg.dbg
    omega
  unfold State.readAct
  rw [if_neg notDbg, instOf_cxl]

/-- A read of a register whose read performs an access answers what the access does. -/
theorem cfgRead_acts {s : State} {port addr : Nat} (env : Env) (mapped : (rowOf (addr / 0x1000)).isSome = true)
    (may : (s.unheld port).mayRead port (addr / 0x1000) (addr % 0x1000) = true) (aligned : addr % 0x1000 % 4 = 0)
    (acts : actsOnRead (addr / 0x1000) (addr % 0x1000) = true) :
    s.cfgRead port addr env = ((St.ok, ((s.unheld port).readAct (addr / 0x1000) env.io).1),
      ((s.unheld port).readAct (addr / 0x1000) env.io).2) := by
  unfold State.unheld at *
  unfold State.cfgRead
  simp only [Option.isNone_eq_false_iff.2 mapped, may, aligned, acts, Bool.not_true, Bool.false_eq_true, if_false,
    if_true, ne_eq, not_true_eq_false]

/-- A read of CXL_IO_DATA answers what the far end does. -/
theorem cfgRead_cxlIoData {s : State} {port : Nat} (n : Fin 2) (env : Env)
    (may : (s.unheld port).mayRead port (Pg.cxl n) Reg.cxlIoData = true) :
    s.cfgRead port (regKey (Pg.cxl n) Reg.cxlIoData) env =
      ((St.ok, env.io.data), (s.unheld port).ioDone n env.io) := by
  have page : regKey (Pg.cxl n) Reg.cxlIoData / 0x1000 = Pg.cxl n := page_regKey (by decide)
  have offset : regKey (Pg.cxl n) Reg.cxlIoData % 0x1000 = Reg.cxlIoData := offset_regKey (by decide)
  rw [cfgRead_acts env (by rw [page]; exact rowOf_cxl n) (by rw [page, offset]; exact may) (by rw [offset]; rfl)
    (by rw [page, offset]; exact actsOnRead_cxlIoData n), page, readAct_cxl]

theorem regAct_cxlIoData (s : State) (port : Nat) (n : Fin 2) (v : W32) (io : IoResult) :
    s.regAct port (Pg.cxl n) Reg.cxlIoData v io =
      (St.ok, (s.plainWrite port (Pg.cxl n) Reg.cxlIoData v).ioDone n io) := by
  unfold State.regAct
  simp only [blkOf_cxl, instOf_cxl, if_true]

/-- A register write that asks the environment, from what its register does with the answer. -/
theorem writeAskDoes_of {c : Instr} {r : Req} {pg off : Nat} {v : W32} {env : Env} {st : Nat} {H : State → Prop}
    {E : State → State} (e : ∀ s, exec c s = run (fun s => s.askWrite r (regKey pg off) v env) s)
    (h : ∀ u, H u → u.regAct r.port pg off v env.io = (st, E u)) : WriteDoes c r pg off v st H E := by
  intro s live taken len granted hh
  rw [e, run_live _ _ live, askWrite_granted _ _ _ _ _ _ taken len granted, h _ hh]

/-- Settles O30: an entry by what its read brings, a page by whether its entry runs, a CXL read by what asked for it, a
loss by what the port was, and a CXL.io access by what its register does. -/
theorem migrationAndCxl : Obligations.MigrationAndCxl := by
  unfold Obligations.MigrationAndCxl
  refine ⟨fun p bs t => ⟨?_, ?_, ?_, ?_, ?_⟩, fun p entry r next t => ⟨?_, ?_, fun o => ?_, fun bs => ?_, ?_⟩,
    fun addr bad h => ⟨fun r => ?_, fun c x => ?_, fun p => ?_, fun p e => ?_, fun f => ?_⟩,
    fun n p => ⟨?_, ?_, ?_, ?_, ?_, fun r v res => ?_, fun r res len => ?_⟩⟩
  · exact workDoes_of (fun _ => rfl) fun u ⟨ready, read, inRange, valid, met⟩ =>
      doMigration_starts ready read inRange valid met
  · exact workDoes_of (fun _ => rfl) fun u ⟨ready, read, inRange, valid, unmet⟩ =>
      doMigration_waits ready read inRange valid unmet
  · exact workDoes_of (fun _ => rfl) fun u ⟨ready, read, invalid⟩ => doMigration_invalid ready read invalid
  · exact workDoes_of (fun _ => rfl) fun u ⟨ready, read⟩ => doMigration_unread ready read
  · exact workDoes_of (fun _ => rfl) fun u done => doMigration_done done
  · exact workDoes_of (fun _ => rfl) fun u ⟨running, setup⟩ => doFillPage_next (out := .data) running setup
  · exact workDoes_of (fun _ => rfl) fun u ⟨running, setup⟩ => doFillPage_next (out := .poison) running setup
  · exact workDoes_of (fun _ => rfl) fun u idle => doFillPage_none o idle
  · exact workDoes_of (fun _ => rfl) fun u ⟨running, read⟩ => doStorePage_stores running read
  · exact workDoes_of (fun _ => rfl) fun u idle => doStorePage_none idle
  · exact eventDoes_of (fun _ => rfl) fun u _ => rfl
  · exact eventDoes_of (fun _ => rfl) fun u running =>
      (doCxlRead_bad u addr.toNat (.core c) h).trans (cxlUnserved_core addr.toNat bad running)
  · exact eventDoes_of (fun _ => rfl) fun u _ => doCxlRead_bad u addr.toNat (.other p) h
  · exact eventDoes_of (fun _ => rfl) fun u _ => doCxlRead_bad u addr.toNat (.fill p e) h
  · exact eventDoes_of (fun _ => rfl) fun u _ => doCxlRead_bad u addr.toNat (.refetch f) h
  · exact eventDoes_of (fun _ => rfl) fun u on => doCxlLoss_on on
  · exact eventDoes_of (fun _ => rfl) fun u off => doCxlLoss_off off
  · exact eventDoes_of (fun _ => rfl) fun u ⟨on, ide, conf⟩ => doIdeLost_confidential on ide conf
  · exact eventDoes_of (fun _ => rfl) fun u ⟨on, ide, conf⟩ => doIdeLost_open on ide conf
  · exact eventDoes_of (fun _ => rfl) fun u inactive => doIdeLost_inactive inactive
  · exact writeAskDoes_of (fun _ => rfl) fun u _ => regAct_cxlIoData u r.port n v res
  · refine requestDoes_of (fun _ => rfl) (fun u may => ?_) (decide_eq_true len)
    rw [cfgRead_cxlIoData n _ may]
    rfl

end Sys2Proof.Machine
end

section
/-! Packets at the router (R261, R266 to R273, R278): injection, reception, the head of an input buffer, and what ends
its wait. -/
namespace Sys2Proof.Machine

/-! Injection (R261) -/

section Inject
variable {s : State} {p : Nat} {pkt : Packet}

theorem inject_refused (h : s.injectRefused p pkt = true) : s.inject p pkt = (s.refuseInject p).failLive p := if_pos h

theorem inject_accepted (h : s.injectRefused p pkt = false) : s.inject p pkt = s.injectGo pkt :=
  if_neg (Bool.eq_false_iff.1 h)

end Inject

/-! Reception (R272) -/

/-- An arrived packet has been taken up. -/
def State.takeArrived (s : State) (i : Nat) (pkt : Packet) : State :=
  { s with rte := { s.rte with arrived := s.rte.arrived.erase (i, pkt) } }

section Receive
variable {s : State} {i : Nat} {pkt : Packet}

theorem receive_absent (absent : s.rte.arrived.contains (i, pkt) = false) : s.receive i pkt = s :=
  if_neg fun h => Bool.false_ne_true (absent.symm.trans h.1)

section Arrived
variable (arrived : s.rte.arrived.contains (i, pkt) = true) (ordinary : ¬(pkt.vc = 7 ∧ pkt.type = 15 ∧ pkt.tag = 0))
include arrived ordinary

theorem receive_arrived :
    s.receive i pkt =
      if (s.takeArrived i pkt).tagOk pkt then (s.takeArrived i pkt).bufPush i pkt
      else ((s.takeArrived i pkt).tagDrop pkt).owe i pkt.vc pkt.flits :=
  if_pos ⟨arrived, congrArg not (decide_eq_false ordinary)⟩

theorem receive_allowed (allowed : (s.takeArrived i pkt).tagOk pkt = true) :
    s.receive i pkt = (s.takeArrived i pkt).bufPush i pkt :=
  (receive_arrived arrived ordinary).trans (if_pos allowed)

theorem receive_barred (barred : (s.takeArrived i pkt).tagOk pkt = false) :
    s.receive i pkt = ((s.takeArrived i pkt).tagDrop pkt).owe i pkt.vc pkt.flits :=
  (receive_arrived arrived ordinary).trans (if_neg (Bool.eq_false_iff.1 barred))

end Arrived
end Receive

/-! The packet at the head of an input buffer (R266 to R271, R278) -/

/-- The head packet has left its buffer, and the credit of its flits is owed. -/
def State.headGone (s : State) (i v : Nat) (b : Buffered) : State := (s.bufPop i v).owe i v b.pkt.flits

/-- The head packet is counted as forwarded and has left its buffer. -/
def State.headForwarded (s : State) (i v : Nat) (b : Buffered) : State :=
  (s.bump Pg.rte Reg.rteCntFwd).headGone i v b

/-- The head packet, whose turn on an UP torus port has come, leaves on that port. -/
def State.headToTorus (s : State) (i v : Nat) (b : Buffered) (pkt : Packet) (n : Nat) : State :=
  let s := s.headForwarded i v b
  let s := if b.escape then s.bump Pg.rte Reg.rteCntEscape else s
  (({ s with rte := { s.rte with lastIn := s.rte.lastIn.set 10 (n * 8 + v) i } } : State).toTorus n pkt).checkDrain

/-- What becomes of the unicast head packet on its route; t is the state in which the packet has the current epoch. -/
def State.forwardOn (s t : State) (i v : Nat) (b : Buffered) (pkt : Packet) : Route × Bool → State
  | (.eject, _) => ((t.headForwarded i v b).deliver pkt).checkDrain
  | (.spine n dest, _) =>
    if t.spineReady n then
      (((t.headForwarded i v b).bump (Pg.spn n) Reg.spnCntTxfrm).send (.spine n (t.spineFrame n dest pkt))).checkDrain
    else s
  | (.torus n, ad) =>
    if !t.torusUp n then
      ((((t.bump Pg.rte Reg.rteCntNoroute).headGone i v b).errorOpen Pg.rte Cls.task 0 0x11).irq Pg.rte 18).checkDrain
    else if needed i n ad pkt ≤ s.creditOf n v ∧ s.isTurn i v n then t.headToTorus i v b pkt n
    else s

/-- The branches of a multicast packet at this router, from the input port (R273). -/
def State.branchesFrom (s : State) (i : Nat) (pkt : Packet) : List Branch :=
  s.branches pkt (s.toLog (s.tagShape pkt.tag) s.selfCoord) 5 (mcastPhase i).1 (mcastPhase i).2

section Forward
variable {s : State} {i v : Nat}

theorem forward_stopped (stopped : s.routerRuns = false) : s.forward i v = s := if_pos (congrArg not stopped)

theorem forward_empty (empty : s.headOf i v = none) : s.forward i v = s := by
  unfold State.forward
  simp only [empty, ite_self]

section Head
variable {b : Buffered} (runs : s.routerRuns = true) (head : s.headOf i v = some b)
include runs head

/-- A multicast packet goes on all of its branches at once. -/
theorem forward_branches (mcast : b.pkt.mcast = true)
    (ready : (s.branchesFrom i b.pkt).all (s.branchReady i b.pkt) = true) :
    s.forward i v =
      ((s.branchesFrom i b.pkt).foldl (fun s x => s.doBranch b.pkt x) (s.headForwarded i v b)).checkDrain := by
  unfold State.branchesFrom at *
  unfold State.forward
  simp only [runs, head, mcast, ready, Bool.not_true, Bool.false_eq_true, if_false, if_true]
  rfl

section Unicast
variable {t : State} {pkt : Packet} {n : Nat} {ad : Bool} (unicast : b.pkt.mcast = false)
  (current : s.reepoch b.pkt = (pkt, t)) (still : pkt.mcast = false)
include unicast current still

theorem forward_unicast : s.forward i v = s.forwardOn t i v b pkt (t.route pkt b.escape) := by
  unfold State.forward
  simp only [runs, head, unicast, current, still, Bool.not_true, Bool.false_eq_true, if_false]
  rfl

theorem forward_ejects (route : t.route pkt b.escape = (.eject, ad)) :
    s.forward i v = ((t.headForwarded i v b).deliver pkt).checkDrain := by
  rw [forward_unicast runs head unicast current still, route]
  rfl

theorem forward_spine {dest : Coord} (route : t.route pkt b.escape = (.spine n dest, ad))
    (ready : t.spineReady n = true) :
    s.forward i v =
      (((t.headForwarded i v b).bump (Pg.spn n) Reg.spnCntTxfrm).send
        (.spine n (t.spineFrame n dest pkt))).checkDrain := by
  rw [forward_unicast runs head unicast current still, route]
  exact if_pos ready

section Torus
variable (route : t.route pkt b.escape = (.torus n, ad))
include route

/-- A packet whose torus port is not UP is discarded with code 0x11 (R278). -/
theorem forward_torusDown (down : t.torusUp n = false) :
    s.forward i v =
      ((((t.bump Pg.rte Reg.rteCntNoroute).headGone i v b).errorOpen Pg.rte Cls.task 0 0x11).irq
        Pg.rte 18).checkDrain := by
  rw [forward_unicast runs head unicast current still, route]
  exact if_pos (congrArg not down)

theorem forward_torusUp (up : t.torusUp n = true) :
    s.forward i v =
      if needed i n ad pkt ≤ s.creditOf n v ∧ s.isTurn i v n then t.headToTorus i v b pkt n else s := by
  rw [forward_unicast runs head unicast current still, route]
  exact if_neg (Bool.eq_false_iff.1 (congrArg not up))

theorem forward_torusSends (up : t.torusUp n = true) (room : needed i n ad pkt ≤ s.creditOf n v)
    (turn : s.isTurn i v n = true) : s.forward i v = t.headToTorus i v b pkt n :=
  (forward_torusUp runs head unicast current still route up).trans (if_pos ⟨room, turn⟩)

theorem forward_torusFull (up : t.torusUp n = true) (full : s.creditOf n v < needed i n ad pkt) : s.forward i v = s :=
  (forward_torusUp runs head unicast current still route up).trans (if_neg fun h => Nat.not_le.2 full h.1)

end Torus
end Unicast
end Head
end Forward

/-! The adaptive wait and the watchdog (R268, R278) -/

/-- The head of an input buffer may still move adaptively. -/
def State.mayAdapt (s : State) (v : Nat) (b : Buffered) : Prop :=
  (v = 1 ∨ v = 3) ∧ b.pkt.mcast = false ∧ b.escape = false ∧ s.rb Pg.rte Reg.rteCtrl 12 = true

/-- The virtual channels of adaptive packets. -/
theorem adaptiveVc_toNat {vc : BitVec 3} (h : vc = 1 ∨ vc = 3) : vc.toNat = 1 ∨ vc.toNat = 3 :=
  h.imp (congrArg BitVec.toNat) (congrArg BitVec.toNat)

section Wait
variable {s : State} {i v : Nat} {b : Buffered} {rest : List Buffered}

theorem escapeTimeout_empty (empty : s.rte.bufs.get [] (i * 8 + v) = []) : s.escapeTimeout i v = s := by
  unfold State.escapeTimeout
  simp only [empty]

section Adaptive
variable (queue : s.rte.bufs.get [] (i * 8 + v) = b :: rest) (adapts : s.mayAdapt v b)
include queue adapts

theorem escapeTimeout_adaptive :
    s.escapeTimeout i v =
      if s.rf Pg.rte Reg.rteCtrl 11 0 ≤ 2 * (s.now - b.headAt) then
        { s with rte := { s.rte with bufs := s.rte.bufs.set [] (i * 8 + v) ({ b with escape := true } :: rest) } }
      else s := by
  obtain ⟨vc, unicast, adaptive, enabled⟩ := adapts
  unfold State.escapeTimeout
  simp only [queue, vc, unicast, adaptive, enabled, Bool.not_false, true_and]

theorem escapeTimeout_escapes (late : s.rf Pg.rte Reg.rteCtrl 11 0 ≤ 2 * (s.now - b.headAt)) :
    s.escapeTimeout i v =
      { s with rte := { s.rte with bufs := s.rte.bufs.set [] (i * 8 + v) ({ b with escape := true } :: rest) } } :=
  (escapeTimeout_adaptive queue adapts).trans (if_pos late)

theorem escapeTimeout_waits (early : 2 * (s.now - b.headAt) < s.rf Pg.rte Reg.rteCtrl 11 0) : s.escapeTimeout i v = s :=
  (escapeTimeout_adaptive queue adapts).trans (if_neg (Nat.not_le.2 early))

end Adaptive

theorem stallDrop_empty (empty : s.headOf i v = none) : s.stallDrop i v = s := by
  unfold State.stallDrop
  simp only [empty]

section Stall
variable (head : s.headOf i v = some b)
include head

theorem stallDrop_drops (late : (s.reg Pg.rte Reg.rteWdog).toNat ≤ s.now - b.headAt) :
    s.stallDrop i v =
      ((((s.headGone i v b).bump Pg.rte Reg.rteCntStall).errorOpen Pg.rte Cls.task 0 0x12).irq
        Pg.rte 22).checkDrain := by
  unfold State.stallDrop
  simp only [head, if_pos late]
  rfl

theorem stallDrop_waits (early : s.now - b.headAt < (s.reg Pg.rte Reg.rteWdog).toNat) : s.stallDrop i v = s := by
  unfold State.stallDrop
  simp only [head, if_neg (Nat.not_le.2 early)]

end Stall
end Wait

/-- Settles O31: an injection by whether it is refused, an arrival by its tag, and a head packet by its route, or by how
long it has waited. -/
theorem routerForwarding : Obligations.RouterForwarding := by
  unfold Obligations.RouterForwarding
  refine ⟨fun p pkt => ⟨?_, ?_⟩, fun i pkt ordinary => ⟨?_, ?_, ?_⟩,
    fun i vc b pkt t => ⟨fun ad => ?_, fun n dest ad => ?_, fun n ad => ?_, fun n ad => ?_, fun n ad => ?_, ?_, ?_⟩,
    fun i vc b rest => ⟨?_, ?_, ?_, ?_, ?_, ?_⟩⟩
  · exact eventDoes_of (fun _ => rfl) fun u refused => inject_refused refused
  · exact eventDoes_of (fun _ => rfl) fun u accepted => inject_accepted accepted
  · exact eventDoes_of (fun _ => rfl) fun u ⟨arrived, allowed⟩ => receive_allowed arrived ordinary allowed
  · exact eventDoes_of (fun _ => rfl) fun u ⟨arrived, barred⟩ => receive_barred arrived ordinary barred
  · exact eventDoes_of (fun _ => rfl) fun u absent => receive_absent absent
  · exact eventDoes_of (fun _ => rfl) fun u ⟨⟨⟨runs, head⟩, unicast, current, still⟩, route⟩ =>
      forward_ejects runs head unicast current still route
  · exact eventDoes_of (fun _ => rfl) fun u ⟨⟨⟨runs, head⟩, unicast, current, still⟩, route, ready⟩ =>
      forward_spine runs head unicast current still route ready
  · exact eventDoes_of (fun _ => rfl) fun u ⟨⟨⟨runs, head⟩, unicast, current, still⟩, route, down⟩ =>
      forward_torusDown runs head unicast current still route down
  · exact eventDoes_of (fun _ => rfl) fun u ⟨⟨⟨runs, head⟩, unicast, current, still⟩, route, up, room, turn⟩ =>
      forward_torusSends runs head unicast current still route up room turn
  · exact eventDoes_of (fun _ => rfl) fun u ⟨⟨⟨runs, head⟩, unicast, current, still⟩, route, up, full⟩ =>
      forward_torusFull runs head unicast current still route up full
  · exact eventDoes_of (fun _ => rfl) fun u ⟨⟨runs, head⟩, mcast, ready⟩ => forward_branches runs head mcast ready
  · exact eventDoes_of (fun _ => rfl) fun u idle => idle.elim forward_empty forward_stopped
  · exact eventDoes_of (fun _ => rfl) fun u ⟨⟨queue, adaptiveVc, held⟩, late⟩ =>
      escapeTimeout_escapes queue ⟨adaptiveVc_toNat adaptiveVc, held⟩ late
  · exact eventDoes_of (fun _ => rfl) fun u ⟨⟨queue, adaptiveVc, held⟩, early⟩ =>
      escapeTimeout_waits queue ⟨adaptiveVc_toNat adaptiveVc, held⟩ early
  · exact eventDoes_of (fun _ => rfl) fun u empty => escapeTimeout_empty empty
  · exact eventDoes_of (fun _ => rfl) fun u ⟨head, late⟩ => stallDrop_drops head late
  · exact eventDoes_of (fun _ => rfl) fun u ⟨head, early⟩ => stallDrop_waits head early
  · exact eventDoes_of (fun _ => rfl) fun u empty => stallDrop_empty empty

end Sys2Proof.Machine
end

section
/-! Flit groups of a torus link (R275, R276, R284, R285): sending one, and what becomes of one that arrives. -/
namespace Sys2Proof.Machine

/-! Sending (R275, R276) -/

/-- The group of these flits and this credit return leaves; one with flits is kept in the retry buffer. -/
def State.groupLeaves (s : State) (n : Nat) (vk : Nat × Nat) (fs : List Flit) : State :=
  let x := s.torus n
  let g : FlitGroup := { seq := if fs.isEmpty then x.txNext - 1 else x.txNext, ack := x.rxLast, nak := x.nak,
                         cvc := BitVec.ofNat 3 vk.1, credit := BitVec.ofNat 12 vk.2, flits := fs, crcOk := true }
  let x := if fs.isEmpty then { x with nak := false }
    else { x with nak := false, txNext := x.txNext + 1, retry := x.retry ++ [g] }
  ((s.setTorus n x).bumpBy (Pg.trp n) Reg.trpCntTxflit fs.length).send (.group n g)

section Send
variable {s t t' : State} {n : Nat} {vk : Nat × Nat} {fs : List Flit}

theorem sendGroup_down (down : (s.torus n).link ≠ .up) : s.sendGroup n = s := if_pos down

section Up
variable (up : (s.torus n).link = .up)
include up

theorem sendGroup_flits (room : (s.torus n).retry.length < 512) (flits : s.takeFlits n 8 = (fs, t))
    (credit : t.takeCredit n = (vk, t')) : s.sendGroup n = t'.groupLeaves n vk fs := by
  unfold State.sendGroup
  simp only [up, room, flits, credit, ne_eq, not_true_eq_false, if_false, if_true]
  rfl

/-- While the retry buffer is full a group carries no flits. -/
theorem sendGroup_full (full : 512 ≤ (s.torus n).retry.length) (credit : s.takeCredit n = (vk, t')) :
    s.sendGroup n = t'.groupLeaves n vk [] := by
  unfold State.sendGroup
  simp only [up, if_neg (Nat.not_lt.2 full), credit, ne_eq, not_true_eq_false, if_false]
  rfl

end Up
end Send

/-! Reception (R276) -/

/-- A group in order frees what it acknowledges, returns its credit and delivers its flits. -/
def State.groupHeard (s : State) (n : Nat) (g : FlitGroup) : State :=
  let x := s.torus n
  let left := unacked g.ack x.retry
  let x := { x with retry := left, lastGroup := s.now,
                    resends := if left.length < x.retry.length then 0 else x.resends }
  let t := s.setTorus n (if g.flits.isEmpty then x else { x with rxLast := g.seq, rxValid := true })
  let cv := g.cvc.toNat
  let t := { t with rte := { t.rte with
    credit := t.rte.credit.set bufFlits (n * 8 + cv) (min bufFlits (t.creditOf n cv + g.credit.toNat)) } }
  g.flits.foldl (fun s f => s.takeIn n f) (t.bumpBy (Pg.trp n) Reg.trpCntRxflit g.flits.length)

section Receive
variable {s : State} {n : Nat} {g : FlitGroup}

theorem recvGroup_down (down : (s.torus n).link ≠ .up) : s.recvGroup n g = s := if_pos down

section Up
variable (up : (s.torus n).link = .up)
include up

theorem recvGroup_up :
    s.recvGroup n g =
      if !g.crcOk then (s.setTorus n { s.torus n with nak := true }).bump (Pg.trp n) Reg.trpCntCrcerr
      else if ¬g.flits.isEmpty ∧ g.seq ≠ expectSeq (s.torus n) then
        s.setTorus n { s.torus n with
          nak := decide (g.seq ≠ (s.torus n).rxLast) || !(s.torus n).rxValid, lastGroup := s.now }
      else (if g.nak then (s.groupHeard n g).resend n else s.groupHeard n g).checkDrain :=
  if_neg (not_not_intro up)

theorem recvGroup_crcBad (bad : g.crcOk = false) :
    s.recvGroup n g = (s.setTorus n { s.torus n with nak := true }).bump (Pg.trp n) Reg.trpCntCrcerr :=
  (recvGroup_up up).trans (if_pos (congrArg not bad))

section Crc
variable (crc : g.crcOk = true)
include crc

theorem recvGroup_outOfOrder (flits : g.flits ≠ []) (other : g.seq ≠ expectSeq (s.torus n)) :
    s.recvGroup n g = s.setTorus n { s.torus n with
      nak := decide (g.seq ≠ (s.torus n).rxLast) || !(s.torus n).rxValid, lastGroup := s.now } := by
  rw [recvGroup_up up, if_neg (by rw [crc]; decide), if_pos ⟨mt List.isEmpty_iff.1 flits, other⟩]

theorem recvGroup_inOrder (order : g.flits = [] ∨ g.seq = expectSeq (s.torus n)) :
    s.recvGroup n g = (if g.nak then (s.groupHeard n g).resend n else s.groupHeard n g).checkDrain := by
  have inOrder : ¬(¬g.flits.isEmpty ∧ g.seq ≠ expectSeq (s.torus n)) := fun ⟨flits, other⟩ =>
    order.elim (fun none => flits (List.isEmpty_iff.2 none)) other
  rw [recvGroup_up up, if_neg (by rw [crc]; decide), if_neg inOrder]

theorem recvGroup_heard (order : g.flits = [] ∨ g.seq = expectSeq (s.torus n)) (acked : g.nak = false) :
    s.recvGroup n g = (s.groupHeard n g).checkDrain := by
  rw [recvGroup_inOrder up crc order, acked]
  rfl

theorem recvGroup_nak (order : g.flits = [] ∨ g.seq = expectSeq (s.torus n)) (nak : g.nak = true) :
    s.recvGroup n g = ((s.groupHeard n g).resend n).checkDrain := by
  rw [recvGroup_inOrder up crc order, nak]
  rfl

end Crc
end Up
end Receive

/-- Settles O32: a port that sends by whether its retry buffer is full, and a group that arrives by its CRC, its order
and its NAK. -/
theorem torusGroups : Obligations.TorusGroups := by
  unfold Obligations.TorusGroups
  refine fun n g => ⟨fun fs vk t t' => ⟨?_, ?_⟩, ?_, ?_, ?_, ⟨?_, ?_⟩, ?_⟩
  · exact eventDoes_of (fun _ => rfl) fun u ⟨up, room, flits, credit⟩ => sendGroup_flits up room flits credit
  · exact eventDoes_of (fun _ => rfl) fun u ⟨up, full, credit⟩ => sendGroup_full up full credit
  · exact eventDoes_of (fun _ => rfl) fun u down => sendGroup_down down
  · exact eventDoes_of (fun _ => rfl) fun u ⟨up, bad⟩ => recvGroup_crcBad up bad
  · exact eventDoes_of (fun _ => rfl) fun u ⟨up, crc, flits, other⟩ => recvGroup_outOfOrder up crc flits other
  · exact eventDoes_of (fun _ => rfl) fun u ⟨⟨up, crc, order⟩, acked⟩ => recvGroup_heard up crc order acked
  · exact eventDoes_of (fun _ => rfl) fun u ⟨⟨up, crc, order⟩, nak⟩ => recvGroup_nak up crc order nak
  · exact eventDoes_of (fun _ => rfl) fun u down => recvGroup_down down

end Sys2Proof.Machine
end

section
/-! Torus links lost and trained (R277, R279, R284, R285): the loss of a link, the notice of a fault, what waits for the
far end's notice, and training. -/
namespace Sys2Proof.Machine

/-! The loss of a link (R284) -/

/-- The cause loses the link of a port that is ON and UP. -/
def State.lossDue (s : State) (n : Nat) : LossCause → Bool
  | .noGroup => decide (min 9000 (s.rf (Pg.trp n) Reg.trpLoss 15 0) ≤ s.now - (s.torus n).lastGroup) &&
      (s.engine n).swaps.isEmpty
  | .retries => decide (max 1 (min 8 (s.rf (Pg.trp n) Reg.trpLoss 23 16)) ≤ (s.torus n).resends) &&
      (s.engine n).swaps.isEmpty
  | .lanes => true

theorem lossDue_noGroup_iff (s : State) (n : Nat) :
    s.lossDue n .noGroup = true ↔
      min 9000 (s.rf (Pg.trp n) Reg.trpLoss 15 0) ≤ s.now - (s.torus n).lastGroup ∧ (s.engine n).swaps = [] := by
  simp only [State.lossDue, Bool.and_eq_true, decide_eq_true_eq, List.isEmpty_iff]

theorem lossDue_retries_iff (s : State) (n : Nat) :
    s.lossDue n .retries = true ↔
      max 1 (min 8 (s.rf (Pg.trp n) Reg.trpLoss 23 16)) ≤ (s.torus n).resends ∧ (s.engine n).swaps = [] := by
  simp only [State.lossDue, Bool.and_eq_true, decide_eq_true_eq, List.isEmpty_iff]

section Lost
variable {s : State} {n : Nat} {c : LossCause}

theorem linkLost_eq :
    s.linkLost n c =
      if s.isOn (Pg.trp n) = true ∧ (s.torus n).link = .up ∧ s.lossDue n c = true then s.loseLink n else s := by
  unfold State.linkLost State.lossDue
  cases c with
  | noGroup => simp only [Bool.not_not]
  | retries => simp only [Bool.not_not]
  | lanes => rfl

theorem linkLost_lost (on : s.isOn (Pg.trp n) = true) (up : (s.torus n).link = .up) (due : s.lossDue n c = true) :
    s.linkLost n c = s.loseLink n := linkLost_eq.trans (if_pos ⟨on, up, due⟩)

theorem linkLost_early (early : ¬s.lossDue n c = true) : s.linkLost n c = s :=
  linkLost_eq.trans (if_neg fun ⟨_, _, due⟩ => early due)

theorem linkLost_down (down : ¬(s.isOn (Pg.trp n) = true ∧ (s.torus n).link = .up)) : s.linkLost n c = s :=
  linkLost_eq.trans (if_neg fun ⟨on, up, _⟩ => down ⟨on, up⟩)

end Lost

/-! What waits for the far end's notice (R285) -/

section Reinject
variable {s : State} {n d : Nat}

theorem reinjectTimeout_idle (idle : (s.torus n).waitNotice = none) : s.reinjectTimeout n = s := by
  unfold State.reinjectTimeout
  simp only [idle]

theorem reinjectTimeout_early (waits : (s.torus n).waitNotice = some d) (early : s.now < d) :
    s.reinjectTimeout n = s := by
  unfold State.reinjectTimeout
  simp only [waits, if_neg (Nat.not_le.2 early)]

theorem reinjectTimeout_late (waits : (s.torus n).waitNotice = some d) (late : d ≤ s.now) :
    s.reinjectTimeout n = ((s.emptyPort n).reinject n (s.unsent n (s.torus n).retry) true).checkDrain := by
  unfold State.reinjectTimeout
  simp only [waits, if_pos late]

end Reinject

/-! The notice of a fault (R279, R284, R285) -/

/-- The fault that a notice names. -/
def noticeFault (pkt : Packet) : Nat := pkt.fld 0x10 11 0

/-- The device that reports it. -/
def noticeReporter (pkt : Packet) : Coord := BitVec.ofNat 16 (pkt.fld 0x14 15 0)

/-- The notice has been taken up, and the credit of its flit is owed. -/
def State.noticeTaken (s : State) (i : Nat) (pkt : Packet) : State :=
  ({ s with rte := { s.rte with arrived := s.rte.arrived.erase (i, pkt) } } : State).owe i 7 1

/-- A notice is sent on with its TTL one lower unless its fault is known of that reporter, and its fault is entered. -/
def State.noticeEntered (s : State) (i : Nat) (pkt : Packet) : State :=
  let t := if 1 < pkt.fld 0x10 23 16 ∧ !s.hasReporter (noticeFault pkt) (noticeReporter pkt) then
      s.sendNotice (pkt.set 0x10 23 16 (pkt.fld 0x10 23 16 - 1)).seal (some i) else s
  (t.enterFault (noticeFault pkt) (noticeReporter pkt)).2

/-- The lost port of this device whose far end sends the notice. -/
def State.noticeAwaited (s : State) (pkt : Packet) : Option Nat :=
  (List.range 8).find? (fun n => decide ((s.torus n).waitNotice.isSome ∧ (s.torus n).nbr = noticeReporter pkt ∧
    s.rf (Pg.trp n) Reg.trpFault 11 0 = noticeFault pkt ∧ (s.torus n).nbrPort = pkt.fld 0x14 18 16))

/-- The port that awaits the notice, if one does, is resolved with it. -/
def State.noticeResolved (s : State) (pkt : Packet) : State :=
  match s.noticeAwaited pkt with
  | some n => s.resolve n (decide (pkt.fld 0x14 19 19 = 1)) (pkt.fld 0x18 15 0)
  | none => s

section Notice
variable {s : State} {i : Nat} {pkt : Packet}

theorem notice_absent (absent : s.rte.arrived.contains (i, pkt) = false) : s.notice i pkt = s :=
  if_neg fun h => Bool.false_ne_true (absent.symm.trans h.1)

section Came
variable (came : s.rte.arrived.contains (i, pkt) = true ∧ pkt.vc = 7 ∧ pkt.type = 15 ∧ pkt.tag = 0)
  (room : (s.noticeTaken i pkt).hasFault (noticeFault pkt) = true ∨ (s.noticeTaken i pkt).rte.faults.length < 16)
include came room

theorem notice_enters :
    s.notice i pkt = ((s.noticeTaken i pkt).noticeEntered i pkt).noticeResolved pkt := by
  have notFull : (!(s.noticeTaken i pkt).hasFault (noticeFault pkt) &&
      decide (16 ≤ (s.noticeTaken i pkt).rte.faults.length)) = false := by
    obtain known | free := room
    · rw [known]; rfl
    · rw [decide_eq_false (Nat.not_le.2 free), Bool.and_false]
  unfold State.noticeTaken noticeFault at notFull
  unfold State.notice
  simp only [if_pos came, notFull, Bool.false_eq_true, if_false]
  rfl

theorem notice_unawaited (unawaited : ((s.noticeTaken i pkt).noticeEntered i pkt).noticeAwaited pkt = none) :
    s.notice i pkt = (s.noticeTaken i pkt).noticeEntered i pkt := by
  rw [notice_enters came room]
  unfold State.noticeResolved
  rw [unawaited]

theorem notice_resolves {n : Nat} (awaited : ((s.noticeTaken i pkt).noticeEntered i pkt).noticeAwaited pkt = some n) :
    s.notice i pkt = ((s.noticeTaken i pkt).noticeEntered i pkt).resolve n (decide (pkt.fld 0x14 19 19 = 1))
      (pkt.fld 0x18 15 0) := by
  rw [notice_enters came room]
  unfold State.noticeResolved
  rw [awaited]

end Came
end Notice

/-! Training (R277) -/

/-- The TRAIN units of the neighbour have been noted. -/
def State.neighbourMet (s : State) (n : Nat) (i : TrainInfo) : State :=
  s.setTorus n { s.torus n with nbr := i.coord, nbrPort := i.port.toNat }

/-- The neighbour that the port expects is another. -/
def State.wrongNeighbour (s : State) (n : Nat) (i : TrainInfo) : Prop :=
  s.rb (Pg.trp n) Reg.trpNbr 31 = true ∧
    ¬(s.rf (Pg.trp n) Reg.trpNbr 15 0 = i.coord.toNat ∧ s.rf (Pg.trp n) Reg.trpNbr 18 16 = i.port.toNat)

/-- The link of the port can complete its training. -/
def State.mayTrain (s : State) (n : Nat) : Prop :=
  s.isOn (Pg.ope n) = true ∧
    s.trains (Pg.trp n) (decide ((s.torus n).link = .lost)) (s.rb (Pg.trp n) Reg.trpCtrl 0) = true ∧
    (s.torus n).link ≠ .up

/-- The link comes UP with full credit. -/
def State.torusComesUp (s : State) (n : Nat) : State :=
  let t := { s with rte := { s.rte with credit := s.rte.credit.dropRange (8 * n) (8 * n + 8),
                                        owed := s.rte.owed.dropRange (8 * n) (8 * n + 8) } }
  let t := t.setTorus n { t.torus n with link := .up, rxValid := false, txNext := 0, resends := 0,
                                         lastGroup := t.now, waitNotice := none, nak := false }
  ((t.lanesUp n (List.range 8)).irq (Pg.trp n) 16).checkDrain

section Train
variable {s : State} {n : Nat} {i : TrainInfo}

theorem torusTrained_up (up : (s.torus n).link = .up) : s.torusTrained n i = s := if_pos (.inr up)

section May
variable (may : s.mayTrain n)
include may

theorem torusTrained_proceeds :
    ¬((!(s.isOn (Pg.ope n) &&
      s.trains (Pg.trp n) (decide ((s.torus n).link = .lost)) (s.rb (Pg.trp n) Reg.trpCtrl 0))) = true ∨
        (s.torus n).link = .up) := by
  obtain ⟨on, trains, notUp⟩ := may
  simp only [on, trains, notUp, Bool.and_self, Bool.not_true, Bool.false_eq_true, or_self, not_false_eq_true]

/-- A wrong neighbour fails a start, and otherwise leaves the link as it was. -/
theorem torusTrained_wrong (wrong : (s.neighbourMet n i).wrongNeighbour n i) :
    s.torusTrained n i =
      if ((s.neighbourMet n i).page (Pg.trp n)).st = .starting then (s.neighbourMet n i).startFault (Pg.trp n) 0x11
      else s.neighbourMet n i := by
  obtain ⟨checks, other⟩ := wrong
  unfold State.neighbourMet at *
  unfold State.torusTrained
  simp only [if_neg (torusTrained_proceeds may), checks, decide_eq_false other, Bool.not_false, Bool.and_self, if_true]

/-- The training of a port whose link was never lost has nothing to re-inject. -/
theorem torusTrained_comesUp (right : ¬(s.neighbourMet n i).wrongNeighbour n i) (down : (s.torus n).link = .down) :
    s.torusTrained n i = (s.neighbourMet n i).torusComesUp n := by
  have passes : ((s.neighbourMet n i).rb (Pg.trp n) Reg.trpNbr 31 &&
      !decide ((s.neighbourMet n i).rf (Pg.trp n) Reg.trpNbr 15 0 = i.coord.toNat ∧
        (s.neighbourMet n i).rf (Pg.trp n) Reg.trpNbr 18 16 = i.port.toNat)) = false := by
    simpa [State.wrongNeighbour] using right
  have notLost : (s.torus n).link ≠ .lost := by rw [down]; decide
  unfold State.neighbourMet at *
  unfold State.torusTrained
  simp only [if_neg (torusTrained_proceeds may), passes, if_neg notLost, Bool.false_eq_true, if_false]
  rfl

end May
end Train

/-- Settles O33: a loss by its cause, a notice by who awaits it, a wait by its time, and a training by its neighbour. -/
theorem linksLostAndTrained : Obligations.LinksLostAndTrained := by
  unfold Obligations.LinksLostAndTrained
  refine ⟨fun n => ⟨?_, ?_, ?_, ?_, ?_, fun c => ?_, fun d => ⟨?_, ?_⟩, ?_⟩, fun i pkt => ⟨?_, fun n => ?_, ?_⟩,
    fun n i => ⟨?_, ?_, ?_, ?_⟩, fun i => ?_⟩
  · exact eventDoes_of (fun _ => rfl) fun u ⟨on, up⟩ => linkLost_lost on up rfl
  · exact eventDoes_of (fun _ => rfl) fun u ⟨⟨on, up⟩, still, silent⟩ =>
      linkLost_lost on up ((lossDue_noGroup_iff u n).2 ⟨silent, still⟩)
  · exact eventDoes_of (fun _ => rfl) fun u heard =>
      linkLost_early fun due => heard ((lossDue_noGroup_iff u n).1 due).1
  · exact eventDoes_of (fun _ => rfl) fun u ⟨⟨on, up⟩, still, tried⟩ =>
      linkLost_lost on up ((lossDue_retries_iff u n).2 ⟨tried, still⟩)
  · exact eventDoes_of (fun _ => rfl) fun u untried =>
      linkLost_early fun due => untried ((lossDue_retries_iff u n).1 due).1
  · exact eventDoes_of (fun _ => rfl) fun u down => linkLost_down down
  · exact eventDoes_of (fun _ => rfl) fun u ⟨waits, late⟩ => reinjectTimeout_late waits late
  · exact eventDoes_of (fun _ => rfl) fun u ⟨waits, early⟩ => reinjectTimeout_early waits early
  · exact eventDoes_of (fun _ => rfl) fun u idle => reinjectTimeout_idle idle
  · exact eventDoes_of (fun _ => rfl) fun u ⟨came, room, unawaited⟩ => notice_unawaited came room unawaited
  · exact eventDoes_of (fun _ => rfl) fun u ⟨came, room, awaited⟩ => notice_resolves came room awaited
  · exact eventDoes_of (fun _ => rfl) fun u absent => notice_absent absent
  · exact eventDoes_of (fun _ => rfl) fun u ⟨may, wrong, starting⟩ =>
      (torusTrained_wrong may wrong).trans (if_pos starting)
  · exact eventDoes_of (fun _ => rfl) fun u ⟨may, wrong, running⟩ =>
      (torusTrained_wrong may wrong).trans (if_neg running)
  · exact eventDoes_of (fun _ => rfl) fun u ⟨may, right, down⟩ => torusTrained_comesUp may right down
  · exact eventDoes_of (fun _ => rfl) fun u up => torusTrained_up up
  · exact eventDoes_of (fun _ => rfl) fun u _ => rfl

end Sys2Proof.Machine
end

section
/-! Routing epochs, overrides, the fault set and the spine (R278 to R283, R286, R288, R340, R353). -/
namespace Sys2Proof.Machine

/-! Epochs (R280) -/

/-- RTE_EPCMD.ARM is answered STATE. -/
def State.armBusy (s : State) : Prop :=
  s.reg64 Pg.rte Reg.rteEpswLo Reg.rteEpswHi < s.count + 10000 ∨ s.rte.held = true ∨ s.rte.armed = true

/-- The armed switch takes the other bank and holds the old one. -/
def State.switched (s : State) : State :=
  { s with rte := { s.rte with active := !s.rte.active, held := true, armed := false, armFclr := false,
                               faults := if s.rte.armFclr then [] else s.rte.faults } }

section Epochs
variable {s : State}

theorem epochArm_busy {fclr : Bool} (busy : s.armBusy) : s.epochArm fclr = (true, s) := if_pos busy

theorem epochArm_free {fclr : Bool} (free : ¬s.armBusy) :
    s.epochArm fclr = (false, { s with rte := { s.rte with armed := true, armFclr := fclr } }) := if_neg free

theorem epochSwitch_due (armed : s.rte.armed = true) (due : s.reg64 Pg.rte Reg.rteEpswLo Reg.rteEpswHi ≤ s.count) :
    s.epochSwitch = (s.switched.irq Pg.rte 20).checkDrain := if_pos ⟨armed, due⟩

theorem epochSwitch_early (h : s.rte.armed = false ∨ s.count < s.reg64 Pg.rte Reg.rteEpswLo Reg.rteEpswHi) :
    s.epochSwitch = s := by
  refine if_neg fun ⟨armed, due⟩ => ?_
  obtain unarmed | early := h
  · exact Bool.false_ne_true (unarmed.symm.trans armed)
  · exact Nat.not_le.2 early due

/-! Overrides and the fault set (R278, R279) -/

theorem overrideWrite_locked {bank : Bool} {entry words : Nat}
    (locked : bank = s.rte.active ∨ s.rte.held = true ∨ s.rte.armed = true) :
    s.overrideWrite bank entry words = (true, s) := if_pos locked

theorem overrideWrite_free {bank : Bool} {entry words : Nat}
    (free : ¬(bank = s.rte.active ∨ s.rte.held = true ∨ s.rte.armed = true)) :
    s.overrideWrite bank entry words = (false, { s with rte := { s.rte with
      ovr := s.rte.ovr.set 0 (bank.toNat * 4096 + entry) (BitVec.ofNat 128 words) } }) := if_neg free

theorem faultClear_clears {w : W32} (clear : bit w 31 = true) :
    s.faultClear w = { s with rte := { s.rte with
      faults := if bit w 12 then [] else s.rte.faults.filter (fun x => decide (x.fault ≠ fld w 11 0)) } } :=
  if_pos clear

theorem faultClear_keeps {w : W32} (keep : bit w 31 = false) : s.faultClear w = s := if_neg (Bool.eq_false_iff.1 keep)

end Epochs

/-! The router's command registers -/

/-- The answer to a write that the router refuses with STATE or takes. -/
def rteAnswer : Bool × State → Nat × State
  | (true, s) => (4, s)
  | (false, s) => (0, s)

section Writes
variable {s : State} (port : Nat) (io : IoResult)

theorem regAct_rteEpcmd (v : W32) :
    s.regAct port Pg.rte Reg.rteEpcmd v io =
      if bit v 0 then rteAnswer ((if bit v 2 then s.epochDisarm else s).epochArm (bit v 1))
      else (0, if bit v 2 then s.epochDisarm else s) := rfl

/-- A write of RTE_EPCMD with ARM. -/
theorem regAct_rteEpcmd_arm (fclr : Bool) :
    s.regAct port Pg.rte Reg.rteEpcmd (w32 (1 + 2 * fclr.toNat)) io = rteAnswer (s.epochArm fclr) := by
  cases fclr <;> rfl

/-- A write of RTE_EPCMD with DISARM. -/
theorem regAct_rteEpcmd_disarm : s.regAct port Pg.rte Reg.rteEpcmd 4 io = (0, s.epochDisarm) := rfl

theorem regAct_rteFclr (v : W32) : s.regAct port Pg.rte Reg.rteFclr v io = (0, s.faultClear v) := rfl

theorem regAct_rteOent (w : W32) :
    s.regAct port Pg.rte (Reg.rteOent 3) w io =
      rteAnswer (s.overrideWrite (bit (s.portReg port Pg.rte Reg.rteOsel) 12)
        (fld (s.portReg port Pg.rte Reg.rteOsel) 11 0) (s.windowWords port Pg.rte (Reg.rteOent 0) w)) := rfl

end Writes

/-! Spine frames (R282, R283) -/

/-- The spine port takes frames. -/
def State.spineOpen (s : State) (n : Nat) : Bool :=
  s.isOn (Pg.spn n) && (s.spine n).up && s.rb (Pg.spn n) Reg.spnCtrl 1

/-- The address of the spine port. -/
def State.spineSelf (s : State) (n : Nat) : BitVec 48 := spineMac (s.rf (Pg.spn n) Reg.spnMacpfx 23 0) n s.selfCoord

/-- A frame is dropped and counted. -/
def State.spineDrop (s : State) (n off : Nat) : State := (s.bump (Pg.spn n) off).irq (Pg.spn n) 18

/-- The frame's packet passes the tag check and enters its buffer, or is dropped (R272). -/
def State.spineAccept (s : State) (n : Nat) (f : SpineFrame) : State :=
  let s := s.bump (Pg.spn n) Reg.spnCntRxfrm
  if s.tagOk f.pkt then s.bufPush (8 + n) f.pkt else s.tagDrop f.pkt

section Frames
variable {s : State} {n : Nat} {f : SpineFrame}

theorem spineReceive_closed (closed : ¬s.spineOpen n = true) : s.spineReceive n f = s :=
  if_pos (congrArg not (Bool.eq_false_iff.2 closed))

section Open
variable (opened : s.spineOpen n = true)
include opened

theorem spineReceive_open :
    s.spineReceive n f =
      if !f.fcsOk then s.spineDrop n Reg.spnCntFcserr
      else if f.dst ≠ s.spineSelf n then s.spineDrop n Reg.spnCntDadrop
      else if f.vlan then s.spineDrop n Reg.spnCntFmtdrop
      else if f.etype.toNat ≠ s.rf (Pg.spn n) Reg.spnEtype 15 0 then s.spineDrop n Reg.spnCntEtdrop
      else if f.bytes ≠ 64 + (f.pkt.carried + 63) / 64 * 64 then s.spineDrop n Reg.spnCntFmtdrop
      else s.spineAccept n f :=
  if_neg (Bool.eq_false_iff.1 (congrArg not opened))

theorem spineReceive_fcsBad (bad : f.fcsOk = false) : s.spineReceive n f = s.spineDrop n Reg.spnCntFcserr :=
  (spineReceive_open opened).trans (if_pos (congrArg not bad))

section Fcs
variable (fcs : f.fcsOk = true)
include fcs

theorem spineReceive_fcs :
    s.spineReceive n f =
      if f.dst ≠ s.spineSelf n then s.spineDrop n Reg.spnCntDadrop
      else if f.vlan then s.spineDrop n Reg.spnCntFmtdrop
      else if f.etype.toNat ≠ s.rf (Pg.spn n) Reg.spnEtype 15 0 then s.spineDrop n Reg.spnCntEtdrop
      else if f.bytes ≠ 64 + (f.pkt.carried + 63) / 64 * 64 then s.spineDrop n Reg.spnCntFmtdrop
      else s.spineAccept n f :=
  (spineReceive_open opened).trans (if_neg (Bool.eq_false_iff.1 (congrArg not fcs)))

theorem spineReceive_foreign (foreign : f.dst ≠ s.spineSelf n) : s.spineReceive n f = s.spineDrop n Reg.spnCntDadrop :=
  (spineReceive_fcs opened fcs).trans (if_pos foreign)

section Mine
variable (mine : f.dst = s.spineSelf n)
include mine

theorem spineReceive_vlan (vlan : f.vlan = true) : s.spineReceive n f = s.spineDrop n Reg.spnCntFmtdrop := by
  rw [spineReceive_fcs opened fcs, if_neg (not_not_intro mine), if_pos vlan]

section Untagged
variable (untagged : f.vlan = false)
include untagged

theorem spineReceive_untagged :
    s.spineReceive n f =
      if f.etype.toNat ≠ s.rf (Pg.spn n) Reg.spnEtype 15 0 then s.spineDrop n Reg.spnCntEtdrop
      else if f.bytes ≠ 64 + (f.pkt.carried + 63) / 64 * 64 then s.spineDrop n Reg.spnCntFmtdrop
      else s.spineAccept n f := by
  rw [spineReceive_fcs opened fcs, if_neg (not_not_intro mine), if_neg (Bool.eq_false_iff.1 untagged)]

theorem spineReceive_etypeOther (other : f.etype.toNat ≠ s.rf (Pg.spn n) Reg.spnEtype 15 0) :
    s.spineReceive n f = s.spineDrop n Reg.spnCntEtdrop :=
  (spineReceive_untagged opened fcs mine untagged).trans (if_pos other)

section Typed
variable (typed : f.etype.toNat = s.rf (Pg.spn n) Reg.spnEtype 15 0)
include typed

theorem spineReceive_lengthOther (other : f.bytes ≠ 64 + (f.pkt.carried + 63) / 64 * 64) :
    s.spineReceive n f = s.spineDrop n Reg.spnCntFmtdrop := by
  rw [spineReceive_untagged opened fcs mine untagged, if_neg (not_not_intro typed), if_pos other]

theorem spineReceive_accepts (length : f.bytes = 64 + (f.pkt.carried + 63) / 64 * 64) :
    s.spineReceive n f = s.spineAccept n f := by
  rw [spineReceive_untagged opened fcs mine untagged, if_neg (not_not_intro typed), if_neg (not_not_intro length)]

end Typed
end Untagged
end Mine
end Fcs
end Open

theorem spineAccept_allowed (allowed : (s.bump (Pg.spn n) Reg.spnCntRxfrm).tagOk f.pkt = true) :
    s.spineAccept n f = (s.bump (Pg.spn n) Reg.spnCntRxfrm).bufPush (8 + n) f.pkt := if_pos allowed

theorem spineAccept_barred (barred : (s.bump (Pg.spn n) Reg.spnCntRxfrm).tagOk f.pkt = false) :
    s.spineAccept n f = (s.bump (Pg.spn n) Reg.spnCntRxfrm).tagDrop f.pkt := if_neg (Bool.eq_false_iff.1 barred)

end Frames

/-! The link of a spine port (R286, R340) -/

/-- The losses of the port's link within a second, this one with them. -/
def State.spineLosses (s : State) (n : Nat) : List Nat :=
  (s.spine n).losses.filter (fun x => decide (s.now - x < 1000000000)) ++ [s.now]

/-- The port's link is down. -/
def State.spineLost (s : State) (n : Nat) : State := (s.setSpine n ⟨false, s.spineLosses n⟩).irq (Pg.spn n) 17

section Link
variable {s : State} {n : Nat}

theorem spineDown_down (down : (s.spine n).up = false) : s.spineDown n = s := if_pos (congrArg not down)

theorem spineDown_up (up : (s.spine n).up = true) :
    s.spineDown n =
      if 3 ≤ (s.spineLosses n).length then
        ((s.spineLost n).quarantine (Pg.spn n)).errorOpen (Pg.spn n) Cls.recomputed 0 0x14
      else s.spineLost n := if_neg (Bool.eq_false_iff.1 (congrArg not up))

theorem spineDown_rare (up : (s.spine n).up = true) (rare : (s.spineLosses n).length < 3) :
    s.spineDown n = s.spineLost n := (spineDown_up up).trans (if_neg (Nat.not_le.2 rare))

theorem spineDown_third (up : (s.spine n).up = true) (third : 3 ≤ (s.spineLosses n).length) :
    s.spineDown n = ((s.spineLost n).quarantine (Pg.spn n)).errorOpen (Pg.spn n) Cls.recomputed 0 0x14 :=
  (spineDown_up up).trans (if_pos third)

theorem spineUp_comesUp (serves : s.isOn (Pg.spn n) = true ∨ (s.page (Pg.spn n)).st = .starting)
    (down : (s.spine n).up = false) (lit : s.isOn (Pg.ope 8) = true) :
    s.spineUp n = (s.setSpine n { s.spine n with up := true }).irq (Pg.spn n) 16 :=
  if_pos ⟨serves, congrArg not down, lit⟩

theorem spineUp_stays (h : (s.spine n).up = true ∨ s.isOn (Pg.ope 8) = false) : s.spineUp n = s := by
  refine if_neg fun ⟨_, down, lit⟩ => ?_
  obtain up | dark := h
  · exact Bool.false_ne_true ((congrArg not up).symm.trans down)
  · exact Bool.false_ne_true (dark.symm.trans lit)

end Link

/-- Settles O34: a write by what the router answers it, a switch by its count, a frame by its first failing check, and a
spine link by what it was. -/
theorem routingEpochsAndSpine : Obligations.RoutingEpochsAndSpine := by
  unfold Obligations.RoutingEpochsAndSpine
  refine ⟨fun r fclr => ⟨?_, ?_, ?_⟩, ?_, ?_, fun r w => ⟨?_, ?_, ?_, ?_⟩,
    fun n f => ⟨?_, ?_, ?_, ?_, ?_, ?_, ?_, ?_⟩, fun n => ⟨?_, ?_, ?_, ?_, ?_⟩, ?_⟩
  · refine writeDoes_of (fun _ => rfl) fun u _ busy => ?_
    rw [regAct_rteEpcmd_arm, epochArm_busy busy]
    rfl
  · refine writeDoes_of (fun _ => rfl) fun u _ free => ?_
    rw [regAct_rteEpcmd_arm, epochArm_free free]
    rfl
  · exact writeDoes_of (fun _ => rfl) fun u _ _ => regAct_rteEpcmd_disarm r.port _
  · exact eventDoes_of (fun _ => rfl) fun u ⟨armed, due⟩ => epochSwitch_due armed due
  · exact eventDoes_of (fun _ => rfl) fun u early => epochSwitch_early early
  · refine writeDoes_of (fun _ => rfl) fun u _ locked => ?_
    rw [regAct_rteOent, overrideWrite_locked locked]
    rfl
  · refine writeDoes_of (fun _ => rfl) fun u _ free => ?_
    rw [regAct_rteOent, overrideWrite_free free]
    rfl
  · refine writeDoes_of (fun _ => rfl) fun u _ clear => ?_
    rw [regAct_rteFclr, faultClear_clears clear]
  · refine writeDoes_of (fun _ => rfl) fun u _ keep => ?_
    rw [regAct_rteFclr, faultClear_keeps keep]
  · exact eventDoes_of (fun _ => rfl) fun u closed => spineReceive_closed closed
  · exact eventDoes_of (fun _ => rfl) fun u ⟨opened, bad⟩ => spineReceive_fcsBad opened bad
  · exact eventDoes_of (fun _ => rfl) fun u ⟨opened, fcs, foreign⟩ => spineReceive_foreign opened fcs foreign
  · exact eventDoes_of (fun _ => rfl) fun u ⟨⟨opened, fcs, mine⟩, vlan⟩ => spineReceive_vlan opened fcs mine vlan
  · exact eventDoes_of (fun _ => rfl) fun u ⟨⟨opened, fcs, mine⟩, untagged, other⟩ =>
      spineReceive_etypeOther opened fcs mine untagged other
  · exact eventDoes_of (fun _ => rfl) fun u ⟨⟨⟨opened, fcs, mine⟩, untagged, typed⟩, other⟩ =>
      spineReceive_lengthOther opened fcs mine untagged typed other
  · exact eventDoes_of (fun _ => rfl) fun u ⟨⟨⟨opened, fcs, mine⟩, untagged, typed⟩, length, allowed⟩ =>
      (spineReceive_accepts opened fcs mine untagged typed length).trans (spineAccept_allowed allowed)
  · exact eventDoes_of (fun _ => rfl) fun u ⟨⟨⟨opened, fcs, mine⟩, untagged, typed⟩, length, barred⟩ =>
      (spineReceive_accepts opened fcs mine untagged typed length).trans (spineAccept_barred barred)
  · exact eventDoes_of (fun _ => rfl) fun u ⟨up, rare⟩ => spineDown_rare up rare
  · exact eventDoes_of (fun _ => rfl) fun u ⟨up, third⟩ => spineDown_third up third
  · exact eventDoes_of (fun _ => rfl) fun u down => spineDown_down down
  · exact eventDoes_of (fun _ => rfl) fun u ⟨serves, down, lit⟩ => spineUp_comesUp serves down lit
  · exact eventDoes_of (fun _ => rfl) fun u stays => spineUp_stays stays
  · exact eventDoes_of (fun _ => rfl) fun u _ => rfl

end Sys2Proof.Machine
end

section
/-! The sending side of the remote engines (R290, R291, R295, R297 to R300): the next entry of a list, a response, the
time limits of a slot, of a gateway segment and of a held STORE, and a write of a window. -/
namespace Sys2Proof.Machine

/-! The next entry of a list (R290) -/

/-- The next entry of an engine's list can start for partition p in its live graph g, once it is read, its wait met and
its fence held. -/
def State.entryReady (s : State) (n p : Nat) (g : Graph) : Prop :=
  s.rmoPart n = some p ∧ (s.schPart p).live = some g ∧ s.isOn Pg.rmo = true ∧ (s.rmoEng n).halted = false ∧
    (s.rmoEng n).pos < s.rf Pg.rmo (Reg.rmoEngnCnt n) 15 0 ∧ (s.rmoEng n).room = true ∧ bit s.stopped p = false

/-- The read of that entry. -/
def State.entryRead (s : State) (n p : Nat) : Option (List Byte) × State :=
  s.blockRead p (s.reg64 Pg.rmo (Reg.rmoEngnListLo n) (Reg.rmoEngnListHi n) + 64 * (s.rmoEng n).pos) 64 (s.rmoEng n).pos

/-- The engine, as e when its entry was read, passes the entry and has it in progress for the graph's step. -/
def State.entryTaken (s : State) (n : Nat) (e : RmoEng) (d : BitVec 512) (p : Nat) (g : Graph) : RmoRun × State :=
  (s.setRmo n { e with pos := e.pos + 1 }).rmoEnter n e.pos none d p g.step

section Entry
variable {s t : State} {n p : Nat} {g : Graph} {bs : List Byte}

theorem doEntryStart_unassigned (unassigned : s.rmoPart n = none) : s.doEntryStart n = s := by
  unfold State.doEntryStart
  simp only [unassigned]

section Ready
variable (ready : s.entryReady n p g)
include ready

theorem entryReady_proceeds :
    ¬((!s.isOn Pg.rmo) = true ∨ (s.rmoEng n).halted = true ∨
      s.rf Pg.rmo (Reg.rmoEngnCnt n) 15 0 ≤ (s.rmoEng n).pos ∨ (!(s.rmoEng n).room) = true ∨
        bit s.stopped p = true) := by
  obtain ⟨_, _, on, halted, pos, room, stopped⟩ := ready
  simp only [on, halted, room, stopped, Bool.not_true, Bool.false_eq_true, false_or, or_false, Nat.not_le]
  exact pos

/-- An entry that cannot be read halts the list and fails the step. -/
theorem doEntryStart_unread (read : s.entryRead n p = (none, t)) :
    s.doEntryStart n = (t.setRmo n { t.rmoEng n with halted := true }).failStep p g.step := by
  have proceeds := entryReady_proceeds ready
  obtain ⟨part, live, _⟩ := ready
  unfold State.entryRead at read
  unfold State.doEntryStart
  simp only [part, live, if_neg proceeds, read]

section Read
variable (read : s.entryRead n p = (some bs, t))
include read

/-- An entry that is read waits, or starts. -/
theorem doEntryStart_read :
    s.doEntryStart n =
      if (!t.listWaitMet p (listWait (wordsOf 512 bs) 0x28)) = true ∨
          rmFence (wordsOf 512 bs) = true ∧ (!(s.rmoEng n).runs.all (fun r => r.fetch.isSome)) = true then t
      else (t.entryTaken n (s.rmoEng n) (wordsOf 512 bs) p g).2.rmoBegin n
        (t.entryTaken n (s.rmoEng n) (wordsOf 512 bs) p g).1 := by
  have proceeds := entryReady_proceeds ready
  obtain ⟨part, live, _⟩ := ready
  unfold State.entryRead at read
  unfold State.doEntryStart
  simp only [part, live, if_neg proceeds, read]
  rfl

theorem doEntryStart_waits (unmet : t.listWaitMet p (listWait (wordsOf 512 bs) 0x28) = false) :
    s.doEntryStart n = t := (doEntryStart_read ready read).trans (if_pos (.inl (congrArg not unmet)))

theorem doEntryStart_fenced (fence : rmFence (wordsOf 512 bs) = true)
    (busy : (s.rmoEng n).runs.all (fun r => r.fetch.isSome) = false) : s.doEntryStart n = t :=
  (doEntryStart_read ready read).trans (if_pos (.inr ⟨fence, congrArg not busy⟩))

theorem doEntryStart_starts {r : RmoRun} {v : State}
    (met : t.listWaitMet p (listWait (wordsOf 512 bs) 0x28) = true) (fence : rmFence (wordsOf 512 bs) = false)
    (taken : t.entryTaken n (s.rmoEng n) (wordsOf 512 bs) p g = (r, v)) : s.doEntryStart n = v.rmoBegin n r := by
  rw [doEntryStart_read ready read, taken, if_neg (by simp [met, fence])]

end Read
end Ready
end Entry

/-! Responses (R295, R297, R298) -/

/-- The engine whose request a response answers (Table 12.5). -/
def respEng (q : Packet) : Nat := q.fld 0x14 15 12

/-- The slot of that request. -/
def respSlot (q : Packet) : Nat := q.fld 0x14 8 0

/-- The status of a response (Table 12.4). -/
def respStatus (q : Packet) : Nat := q.fld 0x18 24 22

/-- A response of status 0 that fits the slot x: what it returns is written, and the slot is done, but for a bulk get
that waits for further fragments. -/
def State.slotAnswered (s : State) (q : Packet) (x : RmoSlot) : State :=
  let step := (s.slotStep (respEng q) x).1
  let entry := (s.slotStep (respEng q) x).2
  match q.type with
  | 0 => (s.putReturned x entry x.raddr step q.payload).slotDone (respEng q) (respSlot q) x
  | 2 =>
    (s.putReturned x entry x.raddr step (toLE x.len (q.fld 0x30 63 0))).slotDone (respEng q) (respSlot q) x
  | 3 =>
    let frag := q.fld 0x14 23 16
    let s := s.putReturned x entry (x.base + 8192 * frag) step q.payload
    let got := if x.got.contains frag then x.got else x.got ++ [frag]
    if q.fld 0x14 31 24 + 1 ≤ got.length then s.slotDone (respEng q) (respSlot q) x
    else s.setSlot (respEng q) (respSlot q) (some { x with got := got })
  | _ => s.slotDone (respEng q) (respSlot q) x

section Response
variable {s t : State} {q : Packet} {x : RmoSlot}

theorem doRemoteResponse_none (absent : s.takeEjected q = none) : s.doRemoteResponse q = s := by
  unfold State.doRemoteResponse
  simp only [absent, ite_self]

section Came
variable (vc : q.vc = 5) (taken : s.takeEjected q = some t) (crc : q.crcOk = true)
include vc taken crc

theorem doRemoteResponse_unmatched (unmatched : t.rmoSlot (respEng q) (respSlot q) = none) :
    s.doRemoteResponse q = t.stray q := by
  unfold respEng respSlot at unmatched
  unfold State.doRemoteResponse
  simp only [vc, taken, unmatched, crc, ne_eq, not_true_eq_false, if_false, if_true]

section Matched
variable (slot : t.rmoSlot (respEng q) (respSlot q) = some x) (asked : x.runs.isEmpty = false)
include slot asked

/-- A response to a slot in use is a stray unless it fits, and is then settled by its status. -/
theorem doRemoteResponse_matched :
    s.doRemoteResponse q =
      if (!x.fits q) = true then t.stray q
      else if respStatus q ≠ 0 then t.slotFail (respEng q) (respSlot q) x (statusCode (respStatus q))
      else t.slotAnswered q x := by
  unfold respEng respSlot at slot
  unfold State.doRemoteResponse
  simp only [vc, taken, slot, crc, asked, ne_eq, not_true_eq_false, Bool.not_true, Bool.false_eq_true, if_false]
  rfl

theorem doRemoteResponse_misfit (misfit : x.fits q = false) : s.doRemoteResponse q = t.stray q :=
  (doRemoteResponse_matched vc taken crc slot asked).trans (if_pos (congrArg not misfit))

section Fits
variable (fits : x.fits q = true)
include fits

theorem doRemoteResponse_failed (failed : respStatus q ≠ 0) :
    s.doRemoteResponse q = t.slotFail (respEng q) (respSlot q) x (statusCode (respStatus q)) := by
  rw [doRemoteResponse_matched vc taken crc slot asked, if_neg (by simp [fits]), if_pos failed]

theorem doRemoteResponse_answered (ok : respStatus q = 0) : s.doRemoteResponse q = t.slotAnswered q x := by
  rw [doRemoteResponse_matched vc taken crc slot asked, if_neg (by simp [fits]), if_neg (not_not_intro ok)]

end Fits
end Matched
end Came

theorem slotAnswered_data (type : q.type = 0) :
    s.slotAnswered q x =
      (s.putReturned x (s.slotStep (respEng q) x).2 x.raddr (s.slotStep (respEng q) x).1 q.payload).slotDone (respEng q)
        (respSlot q) x := by
  unfold State.slotAnswered
  simp only [type]

theorem slotAnswered_ack (type : q.type = 1) : s.slotAnswered q x = s.slotDone (respEng q) (respSlot q) x := by
  unfold State.slotAnswered
  simp only [type]

theorem slotAnswered_old (type : q.type = 2) :
    s.slotAnswered q x =
      (s.putReturned x (s.slotStep (respEng q) x).2 x.raddr (s.slotStep (respEng q) x).1
        (toLE x.len (q.fld 0x30 63 0))).slotDone (respEng q) (respSlot q) x := by
  unfold State.slotAnswered
  simp only [type]

end Response

/-! Time limits (R297, R299, R300) -/

/-- The target of a slot becomes a suspect. -/
def State.suspectTarget (s : State) (x : RmoSlot) : State :=
  s.suspect (s.toPhys (s.tagShape ((s.ptag x.part).getD 0)) x.dest) Cause.remote

section Limits
variable {s : State} {n k : Nat} {x : RmoSlot}

section Slot
variable (slot : s.rmoSlot n k = some x)
include slot

theorem doRemoteTimeout_early
    (early : x.gw = true ∨ ¬x.sentAt + (s.reg Pg.rmo Reg.rmoTmo).toNat ≤ s.now) : s.doRemoteTimeout n k = s := by
  unfold State.doRemoteTimeout
  simp only [slot, if_pos (early.imp_right Nat.not_le.1)]

theorem doRemoteTimeout_late (direct : x.gw = false) (late : x.sentAt + (s.reg Pg.rmo Reg.rmoTmo).toNat ≤ s.now)
    (asked : x.runs.isEmpty = false) :
    s.doRemoteTimeout n k = ((s.bump Pg.rmo Reg.rmoCntTmo).suspectTarget x).slotFail n k x 0x14 := by
  have passed : ¬(x.gw = true ∨ s.now < x.sentAt + (s.reg Pg.rmo Reg.rmoTmo).toNat) := by
    simp [direct, late]
  unfold State.doRemoteTimeout
  simp only [slot, if_neg passed, asked, Bool.false_eq_true, if_false]
  rfl

theorem doSegTimeout_early
    (early : x.gw = false ∨ ¬x.sentAt + (s.reg Pg.gwy Reg.gwyTmo).toNat ≤ s.now) : s.doSegTimeout n k = s := by
  have waits : (!x.gw) = true ∨ s.now < x.sentAt + (s.reg Pg.gwy Reg.gwyTmo).toNat :=
    early.imp (congrArg not) Nat.not_le.1
  unfold State.doSegTimeout
  simp only [slot, if_pos waits]

theorem doSegTimeout_late (segment : x.gw = true) (late : x.sentAt + (s.reg Pg.gwy Reg.gwyTmo).toNat ≤ s.now)
    (asked : x.runs.isEmpty = false) : s.doSegTimeout n k = s.segAgain n k x := by
  have passed : ¬((!x.gw) = true ∨ s.now < x.sentAt + (s.reg Pg.gwy Reg.gwyTmo).toNat) := by
    simp [segment, late]
  unfold State.doSegTimeout
  simp only [slot, if_neg passed, asked, Bool.false_eq_true, if_false]

end Slot

theorem doHoldExpire_none (idle : (s.rmoEng n).held = none) : s.doHoldExpire n = s := by
  unfold State.doHoldExpire
  simp only [idle]

theorem doHoldExpire_held {h : RmoHold} (held : (s.rmoEng n).held = some h) :
    s.doHoldExpire n =
      if h.since + (s.reg Pg.gwy Reg.gwyHold).toNat ≤ s.now then s.flushHold n else s := by
  unfold State.doHoldExpire
  simp only [held]

end Limits

/-! Windows (R291) -/

/-- A write of the last word of a port's window entry applies all four. -/
theorem regAct_rmoWent3 (s : State) (port : Nat) (w : W32) (io : IoResult) :
    s.regAct port Pg.rmo (Reg.rmoWent 3) w io =
      (0, { s with rmo := { s.rmo with
        wins := s.rmo.wins.set 0
          (32 * fld (s.portReg port Pg.rmo Reg.rmoWsel) 7 5 + fld (s.portReg port Pg.rmo Reg.rmoWsel) 4 0)
          (BitVec.ofNat 128 (s.windowWords port Pg.rmo (Reg.rmoWent 0) w)) } }) := rfl

/-- Settles O35: an entry by what its read brings and what it waits for, a response by its slot, its status and its
type, a time limit by the time that has passed, and a window by its words. -/
theorem remoteRequests : Obligations.RemoteRequests := by
  unfold Obligations.RemoteRequests
  refine ⟨fun n p g bs t => ⟨fun r v => ?_, ?_, ?_, ?_, ?_⟩, fun q t x => ⟨?_, ?_, ?_, ?_, ?_, ?_, ?_⟩,
    fun n k x h => ⟨?_, ?_, ?_, ?_, ?_, ?_⟩, fun r w => ?_⟩
  · exact workDoes_of (fun _ => rfl) fun u ⟨ready, read, met, fence, taken⟩ =>
      doEntryStart_starts ready read met fence taken
  · exact workDoes_of (fun _ => rfl) fun u ⟨ready, read, unmet⟩ => doEntryStart_waits ready read unmet
  · exact workDoes_of (fun _ => rfl) fun u ⟨ready, read, fence, busy⟩ => doEntryStart_fenced ready read fence busy
  · exact workDoes_of (fun _ => rfl) fun u ⟨ready, read⟩ => doEntryStart_unread ready read
  · exact workDoes_of (fun _ => rfl) fun u unassigned => doEntryStart_unassigned unassigned
  · exact workDoes_of (fun _ => rfl) fun u ⟨⟨⟨vc, taken⟩, slot, crc, asked, fits⟩, ok, type⟩ =>
      (doRemoteResponse_answered vc taken crc slot asked fits ok).trans (slotAnswered_data type)
  · exact workDoes_of (fun _ => rfl) fun u ⟨⟨⟨vc, taken⟩, slot, crc, asked, fits⟩, ok, type⟩ =>
      (doRemoteResponse_answered vc taken crc slot asked fits ok).trans (slotAnswered_ack type)
  · exact workDoes_of (fun _ => rfl) fun u ⟨⟨⟨vc, taken⟩, slot, crc, asked, fits⟩, ok, type⟩ =>
      (doRemoteResponse_answered vc taken crc slot asked fits ok).trans (slotAnswered_old type)
  · exact workDoes_of (fun _ => rfl) fun u ⟨⟨⟨vc, taken⟩, slot, crc, asked, fits⟩, failed⟩ =>
      doRemoteResponse_failed vc taken crc slot asked fits failed
  · exact workDoes_of (fun _ => rfl) fun u ⟨⟨vc, taken⟩, slot, crc, asked, misfit⟩ =>
      doRemoteResponse_misfit vc taken crc slot asked misfit
  · exact workDoes_of (fun _ => rfl) fun u ⟨⟨vc, taken⟩, unmatched, crc⟩ =>
      doRemoteResponse_unmatched vc taken crc unmatched
  · exact workDoes_of (fun _ => rfl) fun u absent => doRemoteResponse_none absent
  · exact workDoes_of (fun _ => rfl) fun u ⟨slot, direct, late, asked⟩ => doRemoteTimeout_late slot direct late asked
  · exact workDoes_of (fun _ => rfl) fun u ⟨slot, early⟩ => doRemoteTimeout_early slot early
  · exact workDoes_of (fun _ => rfl) fun u ⟨slot, segment, late, asked⟩ => doSegTimeout_late slot segment late asked
  · exact workDoes_of (fun _ => rfl) fun u ⟨slot, early⟩ => doSegTimeout_early slot early
  · exact workDoes_of (fun _ => rfl) fun u ⟨held, due⟩ => (doHoldExpire_held held).trans (if_pos due)
  · refine workDoes_of (fun _ => rfl) fun u idle => ?_
    obtain none | ⟨held, early⟩ := idle
    · exact doHoldExpire_none none
    · exact (doHoldExpire_held held).trans (if_neg (Nat.not_le.2 early))
  · exact writeDoes_of (fun _ => rfl) fun u _ _ => regAct_rmoWent3 u r.port w _

end Sys2Proof.Machine
end

section
/-! The target's side of remote requests (R293, R294, R300, R301): the requests of VC4, and the fragments of a bulk
write. -/
namespace Sys2Proof.Machine

/-! Requests (R293, R294) -/

/-- A LOAD at the target. -/
def State.targetLoad (s : State) (q : Packet) : State :=
  let st := s.targetStatus (q.fld 0x20 63 0) q.len 8 false
  if st ≠ 0 then (s.noteTarget st).replyTo q 0 st 0 0 0 []
  else
    match s.targetRead (q.fld 0x20 63 0) q.len with
    | (none, s) => (s.noteTarget 4).replyTo q 0 4 0 0 0 []
    | (some bs, s) => (s.noteTarget 0).replyTo q 0 0 0 0 0 bs

/-- A STORE at the target. -/
def State.targetStore (s : State) (q : Packet) : State :=
  ((s.targetPut (q.fld 0x20 63 0) q).2.noteTarget (s.targetPut (q.fld 0x20 63 0) q).1).replyTo q 1
    (s.targetPut (q.fld 0x20 63 0) q).1 0 0 0 []

section Target
variable {s t : State} {q : Packet}

theorem doRemoteRequest_none (absent : s.takeEjected q = none) : s.doRemoteRequest q = s := by
  unfold State.doRemoteRequest
  simp only [absent, ite_self]

section Came
variable (vc : q.vc = 4) (taken : s.takeEjected q = some t)
include vc taken

/-- A packet that fails its CRC, or finds RMO not ON, is discarded. -/
theorem doRemoteRequest_discards (notWrite : q.type ≠ 4) (bad : q.crcOk = false ∨ t.isOn Pg.rmo = false) :
    s.doRemoteRequest q = t := by
  have discards : (!q.crcOk) = true ∨ (!t.isOn Pg.rmo) = true := bad.imp (congrArg not) (congrArg not)
  unfold State.doRemoteRequest
  simp only [vc, notWrite, taken, if_pos discards, ne_eq, not_true_eq_false, or_self, if_false]

section Good
variable (crc : q.crcOk = true) (on : t.isOn Pg.rmo = true)
include crc on

/-- A request is carried out by its type. -/
theorem doRemoteRequest_performs (notWrite : q.type ≠ 4) :
    s.doRemoteRequest q =
      if q.type = 0 then t.targetLoad q
      else if q.type = 1 then t.targetStore q
      else if q.type = 2 then t.targetAtomic q
      else if q.type = 5 then t.targetGet q
      else t := by
  unfold State.doRemoteRequest
  simp only [vc, notWrite, taken, crc, on, ne_eq, not_true_eq_false, or_self, Bool.not_true, Bool.false_eq_true,
    if_false]
  rfl

theorem doRemoteRequest_load (type : q.type = 0) : s.doRemoteRequest q = t.targetLoad q := by
  rw [doRemoteRequest_performs vc taken crc on (by omega), if_pos type]

theorem doRemoteRequest_store (type : q.type = 1) : s.doRemoteRequest q = t.targetStore q := by
  rw [doRemoteRequest_performs vc taken crc on (by omega), if_neg (by omega), if_pos type]

theorem doRemoteRequest_atomic (type : q.type = 2) : s.doRemoteRequest q = t.targetAtomic q := by
  rw [doRemoteRequest_performs vc taken crc on (by omega), if_neg (by omega), if_neg (by omega), if_pos type]

theorem doRemoteRequest_get (type : q.type = 5) : s.doRemoteRequest q = t.targetGet q := by
  rw [doRemoteRequest_performs vc taken crc on (by omega), if_neg (by omega), if_neg (by omega), if_neg (by omega),
    if_pos type]

end Good
end Came

theorem targetLoad_refused (refused : s.targetStatus (q.fld 0x20 63 0) q.len 8 false ≠ 0) :
    s.targetLoad q =
      (s.noteTarget (s.targetStatus (q.fld 0x20 63 0) q.len 8 false)).replyTo q 0
        (s.targetStatus (q.fld 0x20 63 0) q.len 8 false) 0 0 0 [] := if_pos refused

section Allowed
variable (allowed : s.targetStatus (q.fld 0x20 63 0) q.len 8 false = 0)
include allowed

theorem targetLoad_unread (read : s.targetRead (q.fld 0x20 63 0) q.len = (none, t)) :
    s.targetLoad q = (t.noteTarget 4).replyTo q 0 4 0 0 0 [] := by
  unfold State.targetLoad
  simp only [if_neg (not_not_intro allowed), read]

theorem targetLoad_read {bs : List Byte} (read : s.targetRead (q.fld 0x20 63 0) q.len = (some bs, t)) :
    s.targetLoad q = (t.noteTarget 0).replyTo q 0 0 0 0 0 bs := by
  unfold State.targetLoad
  simp only [if_neg (not_not_intro allowed), read]

end Allowed

theorem targetStore_put {st : Nat} (put : s.targetPut (q.fld 0x20 63 0) q = (st, t)) :
    s.targetStore q = (t.noteTarget st).replyTo q 1 st 0 0 0 [] := by
  unfold State.targetStore
  rw [put]

end Target

/-! The fragments of a bulk write (R300, R301) -/

/-- The bulk write of a fragment, with that fragment and its status. -/
def State.bulkWith (s : State) (q : Packet) (st : Nat) : GwIn := (bulkIn q s.rmo.gwIn).fragment (q.fld 0x14 23 16) st

/-- The bulk write of the packet has left those in arrival. -/
def State.dropBulk (s : State) (q : Packet) : State :=
  { s with rmo := { s.rmo with gwIn := s.rmo.gwIn.filter (fun y => !ofBulk q y) } }

/-- The bulk write of the packet stands as x among those in arrival. -/
def State.keepBulk (s : State) (q : Packet) (x : GwIn) : State :=
  { s with rmo := { s.rmo with gwIn := s.rmo.gwIn.filter (fun y => !ofBulk q y) ++ [x] } }

/-- A fragment's bytes have been written, with the status st: its bulk write is answered, or waits for others. -/
def State.fragmentPut (s : State) (q : Packet) (st : Nat) : State :=
  let x := s.bulkWith q st
  if q.fld 0x14 31 24 + 1 ≤ x.frags.length then ((s.dropBulk q).noteTarget x.status).replyTo q 4 x.status 0 0 0 []
  else s.keepBulk q x

section Fragment
variable {s t v : State} {q : Packet} {st : Nat}

theorem isFragment_proceeds (vc : q.vc = 4) (type : q.type = 4) : ¬(q.vc ≠ 4 ∨ q.type ≠ 4) :=
  not_or.2 ⟨not_not_intro vc, not_not_intro type⟩

theorem doGwFragment_none (absent : s.takeEjected q = none) : s.doGwFragment q = s := by
  unfold State.doGwFragment
  simp only [absent, ite_self]

section Came
variable (vc : q.vc = 4) (type : q.type = 4) (taken : s.takeEjected q = some t)
include vc type taken

/-- A fragment is dropped while RMO is not ON, counted where it fails its CRC, and otherwise written. -/
theorem doGwFragment_taken :
    s.doGwFragment q =
      if (!t.isOn Pg.rmo) = true then t
      else if (!q.crcOk) = true then t.bump Pg.gwy Reg.gwyCntCrc
      else (t.targetPut (q.fld 0x20 63 0) q).2.fragmentPut q (t.targetPut (q.fld 0x20 63 0) q).1 := by
  unfold State.doGwFragment
  rw [if_neg (isFragment_proceeds vc type)]
  split
  case h_1 absent => exact absurd (taken.symm.trans absent) (Option.some_ne_none t)
  case h_2 u came =>
    obtain rfl := Option.some.inj (taken.symm.trans came)
    generalize t.targetPut (q.fld 0x20 63 0) q = put
    obtain ⟨st, v⟩ := put
    unfold State.fragmentPut State.bulkWith State.dropBulk State.keepBulk
    rfl

theorem doGwFragment_off (off : t.isOn Pg.rmo = false) : s.doGwFragment q = t :=
  (doGwFragment_taken vc type taken).trans (if_pos (congrArg not off))

section On
variable (on : t.isOn Pg.rmo = true)
include on

theorem doGwFragment_crcBad (crc : q.crcOk = false) : s.doGwFragment q = t.bump Pg.gwy Reg.gwyCntCrc := by
  rw [doGwFragment_taken vc type taken, if_neg (by simp [on]), if_pos (by simp [crc])]

theorem doGwFragment_put (crc : q.crcOk = true) (put : t.targetPut (q.fld 0x20 63 0) q = (st, v)) :
    s.doGwFragment q = v.fragmentPut q st := by
  rw [doGwFragment_taken vc type taken, if_neg (by simp [on]), if_neg (by simp [crc]), put]

end On
end Came

theorem fragmentPut_last (last : q.fld 0x14 31 24 + 1 ≤ (s.bulkWith q st).frags.length) :
    s.fragmentPut q st =
      ((s.dropBulk q).noteTarget (s.bulkWith q st).status).replyTo q 4 (s.bulkWith q st).status 0 0 0 [] := if_pos last

theorem fragmentPut_more (more : (s.bulkWith q st).frags.length < q.fld 0x14 31 24 + 1) :
    s.fragmentPut q st = s.keepBulk q (s.bulkWith q st) := if_neg (Nat.not_le.2 more)

end Fragment

/-- Settles O36: a request by its CRC, its type and what the target answers it, and a fragment by whether it is the
last of its bulk write. -/
theorem remoteTargets : Obligations.RemoteTargets := by
  unfold Obligations.RemoteTargets
  refine ⟨fun q t v bs st => ⟨?_, ?_, ?_, ?_, ?_, ?_, ?_, ?_⟩, fun q t v st => ⟨?_, ?_, ?_, ?_, ?_⟩⟩
  · exact workDoes_of (fun _ => rfl) fun u ⟨⟨⟨vc, taken⟩, crc, on⟩, type, allowed, read⟩ =>
      (doRemoteRequest_load vc taken crc on type).trans (targetLoad_read allowed read)
  · exact workDoes_of (fun _ => rfl) fun u ⟨⟨⟨vc, taken⟩, crc, on⟩, type, allowed, read⟩ =>
      (doRemoteRequest_load vc taken crc on type).trans (targetLoad_unread allowed read)
  · refine workDoes_of (fun _ => rfl) ?_
    rintro u ⟨⟨⟨vc, taken⟩, crc, on⟩, type, rfl, refused⟩
    exact (doRemoteRequest_load vc taken crc on type).trans (targetLoad_refused refused)
  · exact workDoes_of (fun _ => rfl) fun u ⟨⟨⟨vc, taken⟩, crc, on⟩, type, put⟩ =>
      (doRemoteRequest_store vc taken crc on type).trans (targetStore_put put)
  · exact workDoes_of (fun _ => rfl) fun u ⟨⟨⟨vc, taken⟩, crc, on⟩, type⟩ => doRemoteRequest_atomic vc taken crc on type
  · exact workDoes_of (fun _ => rfl) fun u ⟨⟨⟨vc, taken⟩, crc, on⟩, type⟩ => doRemoteRequest_get vc taken crc on type
  · exact workDoes_of (fun _ => rfl) fun u ⟨⟨vc, taken⟩, notWrite, bad⟩ =>
      doRemoteRequest_discards vc taken notWrite bad
  · exact workDoes_of (fun _ => rfl) fun u absent => doRemoteRequest_none absent
  · exact workDoes_of (fun _ => rfl) fun u ⟨⟨⟨vc, type, taken⟩, on, crc, put⟩, last⟩ =>
      (doGwFragment_put vc type taken on crc put).trans (fragmentPut_last last)
  · exact workDoes_of (fun _ => rfl) fun u ⟨⟨⟨vc, type, taken⟩, on, crc, put⟩, more⟩ =>
      (doGwFragment_put vc type taken on crc put).trans (fragmentPut_more more)
  · exact workDoes_of (fun _ => rfl) fun u ⟨⟨vc, type, taken⟩, on, crc⟩ => doGwFragment_crcBad vc type taken on crc
  · exact workDoes_of (fun _ => rfl) fun u ⟨⟨vc, type, taken⟩, off⟩ => doGwFragment_off vc type taken off
  · exact workDoes_of (fun _ => rfl) fun u absent => doGwFragment_none absent

end Sys2Proof.Machine
end

section
/-! The Tollgate (R306 to R308, R310, Table 13.5): contributions that arrive for the slot of their key, results that pass
down it, and what ends a slot or an operation. -/
namespace Sys2Proof.Machine

/-! Contributions (R307, R308, R310) -/

/-- The contribution of a child's packet joins the slot i, which holds x, once. -/
def State.joinSlot (s : State) (pkt : Packet) (i : Nat) (x : TolSlot) : State :=
  if x.sent ∨ x.kids.any (fun kv => decide (kv.1 = pkt.src)) then s
  else ((s.setTolSlot i (some { x with kids := x.kids ++ [(pkt.src, tolContrib pkt)] })).trySlot i).tolPump

/-- The packet's step has passed and no slot waits for it (R310). -/
def State.upStale (s : State) (pkt : Packet) : Bool :=
  (s.slotOf (tolGroup pkt) (tolStep pkt) (tolIdx pkt)).isNone && s.tolStale (tolGroup pkt) (tolStep pkt)

section Up
variable {s t : State} {pkt : Packet} {i : Nat} {x : TolSlot}

theorem joinSlot_new (waits : x.sent = false) (new : x.kids.any (fun kv => decide (kv.1 = pkt.src)) = false) :
    s.joinSlot pkt i x =
      ((s.setTolSlot i (some { x with kids := x.kids ++ [(pkt.src, tolContrib pkt)] })).trySlot i).tolPump :=
  if_neg (by simp [waits, new])

theorem doTollgateUp_none (absent : s.takeEjected pkt = none) : s.doTollgateUp pkt = s := by
  unfold State.doTollgateUp
  simp only [absent, ite_self]

section Came
variable (vc : pkt.vc = 0) (type : pkt.type = 0) (taken : s.takeEjected pkt = some t)
include vc type taken

theorem doTollgateUp_discards (bad : t.isOn Pg.tol = false ∨ t.grpOk (tolGroup pkt) = false ∨
    (t.grpKids (tolGroup pkt)).contains pkt.src = false) : s.doTollgateUp pkt = t := by
  have discards : (!t.isOn Pg.tol) = true ∨ (!t.grpOk (tolGroup pkt)) = true ∨
      (!(t.grpKids (tolGroup pkt)).contains pkt.src) = true :=
    bad.imp (congrArg not) (Or.imp (congrArg not) (congrArg not))
  unfold State.doTollgateUp
  simp only [vc, type, taken, if_pos discards, ne_eq, not_true_eq_false, or_self, if_false]

section Mine
variable (on : t.isOn Pg.tol = true) (ok : t.grpOk (tolGroup pkt) = true)
  (child : (t.grpKids (tolGroup pkt)).contains pkt.src = true)
include on ok child

/-- A child's packet is counted as stale, or finds no slot free, or joins the slot of its key. -/
theorem doTollgateUp_mine :
    s.doTollgateUp pkt =
      if t.upStale pkt then t.bump Pg.tol Reg.tolCntStale
      else match t.keySlot (tolGroup pkt) (tolStep pkt) (tolIdx pkt) with
        | none => t
        | some (i, x) => (t.seeStep (tolGroup pkt) (tolStep pkt)).joinSlot pkt i x := by
  unfold State.doTollgateUp
  simp only [vc, type, taken, on, ok, child, ne_eq, not_true_eq_false, or_self, Bool.not_true, Bool.false_eq_true,
    if_false]
    <;> rfl

theorem doTollgateUp_stale (stale : t.upStale pkt = true) : s.doTollgateUp pkt = t.bump Pg.tol Reg.tolCntStale :=
  (doTollgateUp_mine vc type taken on ok child).trans (if_pos stale)

theorem doTollgateUp_full (current : ¬t.upStale pkt = true)
    (full : t.keySlot (tolGroup pkt) (tolStep pkt) (tolIdx pkt) = none) : s.doTollgateUp pkt = t := by
  rw [doTollgateUp_mine vc type taken on ok child, if_neg current, full]

theorem doTollgateUp_joins (current : ¬t.upStale pkt = true)
    (slot : t.keySlot (tolGroup pkt) (tolStep pkt) (tolIdx pkt) = some (i, x)) :
    s.doTollgateUp pkt = (t.seeStep (tolGroup pkt) (tolStep pkt)).joinSlot pkt i x := by
  rw [doTollgateUp_mine vc type taken on ok child, if_neg current, slot]

end Mine
end Came
end Up

/-! Results (R307, R308, R310) -/

section Down
variable {s t : State} {pkt : Packet} {i : Nat}

theorem doTollgateDown_none (absent : s.takeEjected pkt = none) : s.doTollgateDown pkt = s := by
  unfold State.doTollgateDown
  simp only [absent, ite_self]

section Came
variable (vc : pkt.vc = 0) (type : pkt.type = 1) (taken : s.takeEjected pkt = some t)
include vc type taken

theorem doTollgateDown_discards (bad : t.isOn Pg.tol = false ∨ t.grpOk (tolGroup pkt) = false) :
    s.doTollgateDown pkt = t := by
  have discards : (!t.isOn Pg.tol) = true ∨ (!t.grpOk (tolGroup pkt)) = true := bad.imp (congrArg not) (congrArg not)
  unfold State.doTollgateDown
  simp only [vc, type, taken, if_pos discards, ne_eq, not_true_eq_false, or_self, if_false]

section Known
variable (on : t.isOn Pg.tol = true) (ok : t.grpOk (tolGroup pkt) = true)
include on ok

theorem doTollgateDown_passes (slot : t.slotOf (tolGroup pkt) (tolStep pkt) (tolIdx pkt) = some i) :
    s.doTollgateDown pkt = (t.passDown i (tolContrib pkt)).tolPump := by
  unfold State.doTollgateDown
  simp only [vc, type, taken, on, ok, slot, ne_eq, not_true_eq_false, or_self, Bool.not_true, Bool.false_eq_true,
    if_false]

theorem doTollgateDown_stale (noSlot : t.slotOf (tolGroup pkt) (tolStep pkt) (tolIdx pkt) = none)
    (stale : t.tolStale (tolGroup pkt) (tolStep pkt) = true) :
    s.doTollgateDown pkt = t.bump Pg.tol Reg.tolCntStale := by
  unfold State.doTollgateDown
  simp only [vc, type, taken, on, ok, noSlot, stale, ne_eq, not_true_eq_false, or_self, Bool.not_true,
    Bool.false_eq_true, if_false, if_true]

end Known
end Came
end Down

/-! What ends a slot or an operation (R310, Table 13.5) -/

section Limits
variable {s : State} {g idx : Nat} {step : W32}

theorem doSlotTimeout_none {i : Nat} (free : s.tolSlot i = none) : s.doSlotTimeout i = s := by
  unfold State.doSlotTimeout
  simp only [free]

theorem doSlotTimeout_held {i : Nat} {x : TolSlot} (slot : s.tolSlot i = some x) :
    s.doSlotTimeout i =
      if x.takenAt + (s.reg Pg.tol Reg.tolTmo).toNat ≤ s.now then
        (s.setTolSlot i none).bump Pg.tol Reg.tolCntTmo
      else s := by
  unfold State.doSlotTimeout
  simp only [slot]

theorem doOpTimeout_none (absent : s.opOf g step idx = none) : s.doOpTimeout g step idx = s := by
  unfold State.doOpTimeout
  simp only [absent]

theorem doOpTimeout_outstanding {o : TolOp} (op : s.opOf g step idx = some o) :
    s.doOpTimeout g step idx =
      if o.startedAt.getD s.now + (s.reg Pg.tol Reg.tolTmo).toNat ≤ s.now then
        ((((s.bump Pg.tol Reg.tolCntTmo).irq Pg.tol 16).errorOpen Pg.tol Cls.task (s.grpPart g) 0x10).opEnd o
          none).tolPump
      else s := by
  unfold State.doOpTimeout
  simp only [op]

end Limits

/-- Settles O37: a contribution by whether its device is a child, its step and its slot, a result by its slot, and the
time limits by the time that has passed. -/
theorem tollgatePackets : Obligations.TollgatePackets := by
  unfold Obligations.TollgatePackets
  refine ⟨fun pkt t i x => ⟨fun v => ⟨?_, ?_⟩, ?_, ?_, ?_, ⟨?_, ?_, ?_, ?_⟩, ?_⟩, fun i x => ⟨?_, ?_⟩,
    fun g step idx o => ⟨?_, ?_⟩, ?_, ?_⟩
  · refine eventDoes_of (fun _ => rfl) ?_
    rintro u ⟨⟨⟨vc, type, taken⟩, on, ok, child⟩, current, ⟨slot, rfl⟩, waits, new⟩
    exact (doTollgateUp_joins vc type taken on ok child current slot).trans (joinSlot_new waits new)
  · refine eventDoes_of (fun _ => rfl) ?_
    rintro u ⟨⟨⟨vc, type, taken⟩, on, ok, child⟩, current, ⟨slot, rfl⟩, again⟩
    exact (doTollgateUp_joins vc type taken on ok child current slot).trans (if_pos again)
  · exact eventDoes_of (fun _ => rfl) fun u ⟨⟨⟨vc, type, taken⟩, on, ok, child⟩, current, full⟩ =>
      doTollgateUp_full vc type taken on ok child current full
  · exact eventDoes_of (fun _ => rfl) fun u ⟨⟨⟨vc, type, taken⟩, on, ok, child⟩, stale⟩ =>
      doTollgateUp_stale vc type taken on ok child stale
  · exact eventDoes_of (fun _ => rfl) fun u ⟨⟨vc, type, taken⟩, bad⟩ => doTollgateUp_discards vc type taken bad
  · exact eventDoes_of (fun _ => rfl) fun u ⟨⟨⟨vc, type, taken⟩, on, ok⟩, slot⟩ =>
      doTollgateDown_passes vc type taken on ok slot
  · exact eventDoes_of (fun _ => rfl) fun u ⟨⟨⟨vc, type, taken⟩, on, ok⟩, noSlot, stale⟩ =>
      doTollgateDown_stale vc type taken on ok noSlot stale
  · exact eventDoes_of (fun _ => rfl) fun u ⟨⟨vc, type, taken⟩, bad⟩ => doTollgateDown_discards vc type taken bad
  · exact eventDoes_of (fun _ => rfl) fun u absent => doTollgateDown_none absent
  · exact eventDoes_of (fun _ => rfl) fun u absent => doTollgateUp_none absent
  · exact eventDoes_of (fun _ => rfl) fun u ⟨slot, late⟩ => (doSlotTimeout_held slot).trans (if_pos late)
  · refine eventDoes_of (fun _ => rfl) fun u early => ?_
    obtain free | ⟨slot, early⟩ := early
    · exact doSlotTimeout_none free
    · exact (doSlotTimeout_held slot).trans (if_neg early)
  · exact eventDoes_of (fun _ => rfl) fun u ⟨op, late⟩ => (doOpTimeout_outstanding op).trans (if_pos late)
  · refine eventDoes_of (fun _ => rfl) fun u early => ?_
    obtain absent | ⟨op, early⟩ := early
    · exact doOpTimeout_none absent
    · exact (doOpTimeout_outstanding op).trans (if_neg early)
  · exact eventDoes_of (fun _ => rfl) fun u on => if_pos on
  · exact eventDoes_of (fun _ => rfl) fun u off => if_neg (Bool.eq_false_iff.1 off)

end Sys2Proof.Machine
end

section
/-! Twin digests (R321 to R323): a counterpart's digest that arrives, and an own digest that none has answered in
time. -/
namespace Sys2Proof.Machine

/-! The counterpart's digests (R322) -/

/-- The digest of a packet and the partition it is for. -/
def digestOf (pkt : Packet) : Nat × Nat := nth (tolContrib pkt).vals (0, 0) 0

/-- The counterpart's digests of the partition with that of the packet in place of an older one of its step. -/
def State.digestsWith (s : State) (pkt : Packet) : List (W32 × BitVec 64) :=
  (s.twin (digestOf pkt).2).other.filter (fun x => decide (x.1 ≠ tolStep pkt)) ++
    [(tolStep pkt, BitVec.ofNat 64 (digestOf pkt).1)]

section Digest
variable {s t : State} {pkt : Packet}

theorem doTwinDigest_none (absent : s.takeEjected pkt = none) : s.doTwinDigest pkt = s := by
  unfold State.doTwinDigest
  simp only [absent, ite_self]

section Came
variable (vc : pkt.vc = 0) (type : pkt.type = 2) (taken : s.takeEjected pkt = some t)
include vc type taken

/-- A digest is dropped while TOL is not ON or where it names no partition; of the others the 8 newest are kept. -/
theorem doTwinDigest_taken :
    s.doTwinDigest pkt =
      if (!t.isOn Pg.tol) = true ∨ 8 ≤ (digestOf pkt).2 then t
      else
        (t.setTwin (digestOf pkt).2 { t.twin (digestOf pkt).2 with
          other := (t.digestsWith pkt).drop ((t.digestsWith pkt).length - 8) }).twinCompare (digestOf pkt).2 := by
  unfold State.doTwinDigest
  simp only [vc, type, taken, ne_eq, not_true_eq_false, or_self, if_false]
  rfl

theorem doTwinDigest_kept (on : t.isOn Pg.tol = true) (part : (digestOf pkt).2 < 8) :
    s.doTwinDigest pkt =
      (t.setTwin (digestOf pkt).2 { t.twin (digestOf pkt).2 with
        other := (t.digestsWith pkt).drop ((t.digestsWith pkt).length - 8) }).twinCompare (digestOf pkt).2 :=
  (doTwinDigest_taken vc type taken).trans (if_neg (by simp [on, part]))

theorem doTwinDigest_drops (bad : t.isOn Pg.tol = false ∨ 8 ≤ (digestOf pkt).2) : s.doTwinDigest pkt = t :=
  (doTwinDigest_taken vc type taken).trans (if_pos (bad.imp_left (congrArg not)))

end Came
end Digest

/-! Own digests without an answer (R323) -/

/-- The oldest own digest of the partition is given up and counted; rest are the others. -/
def State.twinMissed (s : State) (p : Nat) (rest : List (W32 × BitVec 64 × Nat)) : State :=
  ((s.setTwin p { s.twin p with own := rest, misses := (s.twin p).misses + 1 }).bump Pg.tol Reg.tolCntTwmiss).irq Pg.tol 18

/-- The twin becomes ALONE and its device a suspect. -/
def State.twinLost (s : State) (p : Nat) : State :=
  let t := (s.setRf Pg.tol (Reg.tolTwinp p) 30 30 1).irq Pg.tol 19
  let t := t.setTwin p { t.twin p with own := [] }
  t.suspect (t.toPhys (t.tagShape (t.rf Pg.tol (Reg.tolTwinp p) 11 0))
    (BitVec.ofNat 16 (t.rf Pg.tol (Reg.tolTwinpDest p) 15 0))) Cause.twin

section Missing
variable {s : State} {p : Nat} {x : W32 × BitVec 64 × Nat} {rest : List (W32 × BitVec 64 × Nat)}

theorem doTwinMissing_none (empty : (s.twin p).own = []) : s.doTwinMissing p = s := by
  unfold State.doTwinMissing
  simp only [empty]

section Own
variable (own : (s.twin p).own = x :: rest)
include own

theorem doTwinMissing_own :
    s.doTwinMissing p =
      if s.now < x.2.2 + (s.reg Pg.tol Reg.tolTwtmo).toNat then s
      else if (s.twin p).misses + 1 < max 1 ((s.twinMissed p rest).rf Pg.tol (Reg.tolTwinpDest p) 23 16) ∨
          (s.twinMissed p rest).twinAlone p then s.twinMissed p rest
      else (s.twinMissed p rest).twinLost p := by
  unfold State.doTwinMissing
  simp only [own]
  rfl

theorem doTwinMissing_early (early : ¬x.2.2 + (s.reg Pg.tol Reg.tolTwtmo).toNat ≤ s.now) : s.doTwinMissing p = s :=
  (doTwinMissing_own own).trans (if_pos (Nat.not_le.1 early))

section Due
variable (due : x.2.2 + (s.reg Pg.tol Reg.tolTwtmo).toNat ≤ s.now)
include due

theorem doTwinMissing_counts
    (kept : ¬(max 1 ((s.twinMissed p rest).rf Pg.tol (Reg.tolTwinpDest p) 23 16) ≤ (s.twin p).misses + 1 ∧
      (s.twinMissed p rest).twinAlone p = false)) :
    s.doTwinMissing p = s.twinMissed p rest := by
  rw [doTwinMissing_own own, if_neg (Nat.not_lt.2 due), if_pos]
  rwa [not_and_or, Nat.not_le, Bool.not_eq_false] at kept

theorem doTwinMissing_lost
    (limit : max 1 ((s.twinMissed p rest).rf Pg.tol (Reg.tolTwinpDest p) 23 16) ≤ (s.twin p).misses + 1)
    (paired : (s.twinMissed p rest).twinAlone p = false) :
    s.doTwinMissing p = (s.twinMissed p rest).twinLost p := by
  rw [doTwinMissing_own own, if_neg (Nat.not_lt.2 due), if_neg]
  rw [not_or, Nat.not_lt, Bool.not_eq_true]
  exact ⟨limit, paired⟩

end Due
end Own
end Missing

/-- Settles O38: a digest by whether TOL is ON and it names a partition, and an own one by its age and the number of
misses in a row. -/
theorem twinDigests : Obligations.TwinDigests := by
  unfold Obligations.TwinDigests
  refine ⟨fun pkt t => ⟨?_, ?_, ?_⟩, fun p x rest => ⟨?_, ?_, ?_, ?_⟩⟩
  · exact eventDoes_of (fun _ => rfl) fun u ⟨⟨vc, type, taken⟩, on, part⟩ => doTwinDigest_kept vc type taken on part
  · exact eventDoes_of (fun _ => rfl) fun u ⟨⟨vc, type, taken⟩, bad⟩ => doTwinDigest_drops vc type taken bad
  · exact eventDoes_of (fun _ => rfl) fun u absent => doTwinDigest_none absent
  · exact eventDoes_of (fun _ => rfl) fun u ⟨own, due, kept⟩ => doTwinMissing_counts own due kept
  · exact eventDoes_of (fun _ => rfl) fun u ⟨own, due, limit, paired⟩ => doTwinMissing_lost own due limit paired
  · exact eventDoes_of (fun _ => rfl) fun u ⟨own, early⟩ => doTwinMissing_early own early
  · exact eventDoes_of (fun _ => rfl) fun u empty => doTwinMissing_none empty

end Sys2Proof.Machine
end

section
/-! The collective engine (R311, R313, R316 to R318, R320, R324, R325): descriptors handed over, chunks and NAKs that
arrive, what a collective waits for, and RESUME. -/
namespace Sys2Proof.Machine

/-! Descriptors (R311) -/

section Start
variable {s t : State} {c : Nat} {r : Run}

theorem doCollStart_none (idle : (s.core c).run = none) : s.doCollStart c = s := by
  unfold State.doCollStart
  simp only [idle]

section Task
variable (run : (s.core c).run = some r) (works : s.coreWorks c = true) (task : dfld r.desc 0 7 0 = 0x51)
include run works task

/-- A COLLECTIVE task ends, waits or fails by what the engine makes of its descriptor. -/
theorem doCollStart_task :
    s.doCollStart c =
      match s.collAccept r.part r.step false (dfld r.desc 0x30 63 0) with
      | (.wait, t) => t
      | (.bad, t) => t.taskEnd c
      | (.taken, t) => t.finishTask c r := by
  unfold State.doCollStart
  simp only [run, works, task, Bool.not_true, Bool.false_eq_true, ne_eq, not_true_eq_false, or_self, if_false]
    <;> rfl

theorem doCollStart_takes (asked : s.collAccept r.part r.step false (dfld r.desc 0x30 63 0) = (.taken, t)) :
    s.doCollStart c = t.finishTask c r := by
  rw [doCollStart_task run works task, asked]

theorem doCollStart_waits (asked : s.collAccept r.part r.step false (dfld r.desc 0x30 63 0) = (.wait, t)) :
    s.doCollStart c = t := by
  rw [doCollStart_task run works task, asked]

theorem doCollStart_refused (asked : s.collAccept r.part r.step false (dfld r.desc 0x30 63 0) = (.bad, t)) :
    s.doCollStart c = t.taskEnd c := by
  rw [doCollStart_task run works task, asked]

end Task
end Start

/-- A write of COL_KICK_HI is answered by what the engine makes of the descriptor at the pair's address (R311). -/
theorem regAct_colKickHi (s : State) (port : Nat) (hi : W32) (io : IoResult) :
    s.regAct port Pg.col Reg.colKickHi hi io =
      match s.collKick ((s.reg Pg.col Reg.colKickLo).toNat + 2 ^ 32 * fld hi 11 0) with
      | (.wait, _) => (4, s.setReg Pg.col Reg.colKickLo 0)
      | (_, t) => (0, t.setReg Pg.col Reg.colKickLo 0) := rfl

/-! Chunks (R313, R316, R324) -/

section Chunks
variable {s t : State} {pkt : Packet} {i : Nat} {x : CollCtx}

theorem collArrive_none (absent : s.takeEjected pkt = none) : s.collArrive pkt = s := by
  unfold State.collArrive
  simp only [absent]

section Here
variable (taken : s.takeEjected pkt = some t) (on : t.isOn Pg.col = true)
include taken on

theorem collArrive_retired (retired : t.collRetired pkt = true) :
    s.collArrive pkt = t.bump Pg.col Reg.colCntStale := by
  unfold State.collArrive
  simp only [taken, on, retired, Bool.not_true, Bool.false_eq_true, if_false, if_true]

theorem collArrive_takes (current : t.collRetired pkt = false) (ctx : t.collOf pkt true = some i)
    (held : t.collCtx i = some x) (fits : t.canTake x pkt = true) :
    s.collArrive pkt = (t.collTake i pkt).collGo i := by
  unfold State.collArrive
  simp only [taken, on, current, ctx, held, fits, Bool.not_true, Bool.false_eq_true, if_false, if_true]

/-! NAKs (R317) -/

section Nak
variable (vc : pkt.vc = 3) (type : pkt.type = 1) (ctx : t.collOf pkt true = some i) (held : t.collCtx i = some x)
include vc type ctx held

/-- A NAK of a broadcast chunk that the root has sent in this round resends it. -/
theorem doNak_broadcast (phase : ckPhase pkt = 4) :
    s.doNak pkt =
      if (t.isRoot x.desc && decide (ckRstep pkt = x.round ∧ x.res.get 0 (ckChunk pkt) ≠ 0)) = true then
        (t.bcSend i (ckChunk pkt) (some pkt.src) (some (x.res.get 0 (ckChunk pkt) - 1))).bump Pg.col Reg.colCntResend
      else t.collFail i (some 0x11) := by
  unfold State.doNak
  simp only [vc, type, taken, on, ctx, held, phase, ne_eq, not_true_eq_false, or_self, Bool.not_true,
    Bool.false_eq_true, if_false, if_true]

theorem doNak_resends (phase : ckPhase pkt = 4) (root : t.isRoot x.desc = true)
    (sent : ckRstep pkt = x.round ∧ x.res.get 0 (ckChunk pkt) ≠ 0) :
    s.doNak pkt =
      (t.bcSend i (ckChunk pkt) (some pkt.src) (some (x.res.get 0 (ckChunk pkt) - 1))).bump Pg.col Reg.colCntResend :=
  (doNak_broadcast taken on vc type ctx held phase).trans (if_pos (by rw [root, decide_eq_true sent]; rfl))

theorem doNak_notSent (phase : ckPhase pkt = 4)
    (notSent : ¬(t.isRoot x.desc = true ∧ ckRstep pkt = x.round ∧ x.res.get 0 (ckChunk pkt) ≠ 0)) :
    s.doNak pkt = t.collFail i (some 0x11) :=
  (doNak_broadcast taken on vc type ctx held phase).trans
    (if_neg (by rwa [Bool.and_eq_true, decide_eq_true_eq]))

theorem doNak_hopNotSent (phase : ckPhase pkt ≠ 4)
    (notSent : x.res.get 0 (sentKey (ckRstep pkt) (ckPart pkt) (ckChunk pkt)) = 0) :
    s.doNak pkt = t.collFail i (some 0x11) := by
  unfold State.doNak
  simp only [vc, type, taken, on, ctx, held, phase, notSent, ne_eq, not_true_eq_false, or_self, Bool.not_true,
    Bool.false_eq_true, if_false, if_true]

end Nak
end Here

theorem doNak_none (absent : s.takeEjected pkt = none) : s.doNak pkt = s := by
  unfold State.doNak
  simp only [absent, ite_self]

end Chunks

/-! What a collective waits for, and RESUME (R320, R324, R325) -/

section Waits
variable {s : State} {i at_ : Nat} {x : CollCtx} {h : Hop}

section Live
variable (live : s.collLive i = some x)
include live

theorem doCollTimeout_fails (last : x.lastAt = some at_) (bulk : 0x10 ≤ cdOp x.desc ∧ cdOp x.desc ≤ 0x13)
    (late : at_ + (s.reg Pg.col Reg.colTmo).toNat < s.now) (hop : (s.collHops x.desc)[x.hop]? = some h) :
    s.doCollTimeout i =
      ((s.suspect (s.toPhys (s.grpShape (cdGroup x.desc)) (s.ringPrev x.desc h.axis)) Cause.coll).bump Pg.col
        Reg.colCntTmo).collFail i (some 0x12) := by
  have due : ¬((!decide (0x10 ≤ cdOp x.desc ∧ cdOp x.desc ≤ 0x13)) = true ∨
      s.now ≤ at_ + (s.reg Pg.col Reg.colTmo).toNat) := by
    simp [bulk, late]
  unfold State.doCollTimeout
  simp only [live, last, hop, if_neg due]

theorem doCollTimeout_waits (last : x.lastAt = some at_)
    (early : ¬(0x10 ≤ cdOp x.desc ∧ cdOp x.desc ≤ 0x13) ∨ ¬at_ + (s.reg Pg.col Reg.colTmo).toNat < s.now) :
    s.doCollTimeout i = s := by
  have waits : (!decide (0x10 ≤ cdOp x.desc ∧ cdOp x.desc ≤ 0x13)) = true ∨
      s.now ≤ at_ + (s.reg Pg.col Reg.colTmo).toNat :=
    early.imp (fun other => congrArg not (decide_eq_false other)) Nat.not_lt.1
  unfold State.doCollTimeout
  simp only [live, last, if_pos waits]

/-- A broadcast's member whose round has not ended tells what it lacks 20,000 ticks after the last chunk. -/
theorem doBcRoundTimeout_waiting (last : x.lastAt = some at_) (op : cdOp x.desc = Coll.broadcast)
    (member : s.isRoot x.desc = false) (untold : x.told = false) (goesOn : x.stalled = none) :
    s.doBcRoundTimeout i = if at_ + 20000 ≤ s.now then s.bcTell i else s := by
  unfold State.doBcRoundTimeout
  simp only [live, last, op, member, untold, goesOn, Bool.not_false, true_and]

theorem doResumeTimeout_stalled (stalled : x.stalled = some at_) :
    s.doResumeTimeout i =
      if at_ + 1000 * (s.reg Pg.col Reg.colTmo).toNat ≤ s.now then
        (s.bump Pg.col Reg.colCntTmo).collFail i (some 0x15)
      else s := by
  unfold State.doResumeTimeout
  simp only [live, stalled]

theorem doResume_stalled (stalled : x.stalled.isSome = true) :
    s.doResume i = (s.setCollCtx i (some { x with stalled := none })).bcTell i := by
  unfold State.doResume
  simp only [live, stalled, if_true]

end Live

theorem doResume_none (idle : s.collLive i = none) : s.doResume i = s := by
  unfold State.doResume
  simp only [idle]

/-- A write of COL_BCMD with RESUME names the context to take up. -/
theorem regAct_colBcmd_resume (s : State) (port : Nat) (i : Fin 16) (io : IoResult) :
    s.regAct port Pg.col Reg.colBcmd (w32 (0x10 + i.val)) io = (0, s.doResume i) := by
  have resume : bit (w32 (0x10 + i.val)) 4 = true := by
    revert i
    decide
  have ctx : fld (w32 (0x10 + i.val)) 3 0 = i := by
    revert i
    decide
  change ((0, if bit (w32 (0x10 + i.val)) 4 then s.doResume (fld (w32 (0x10 + i.val)) 3 0) else s) : Nat × State) = _
  rw [if_pos resume, ctx]

end Waits

/-- Settles O39: a descriptor by what the engine makes of it, a chunk and a NAK by the context they are for, and a
wait by the time that has passed. -/
theorem collectivesRun : Obligations.CollectivesRun := by
  unfold Obligations.CollectivesRun
  refine ⟨fun core r t => ⟨?_, ?_, ?_, ?_⟩, fun r lo hi t' => ⟨?_, ?_, ?_⟩,
    fun pkt t i x => ⟨?_, ?_, ?_, ?_, ?_, ⟨?_, ?_, ?_, ?_⟩⟩,
    fun i x at_ => ⟨fun h => ?_, ?_, ⟨?_, ?_⟩, ⟨?_, ?_⟩, fun r => ⟨?_, ?_⟩⟩⟩
  · exact workDoes_of (fun _ => rfl) fun u ⟨⟨run, works, task⟩, asked⟩ => doCollStart_takes run works task asked
  · exact workDoes_of (fun _ => rfl) fun u ⟨⟨run, works, task⟩, asked⟩ => doCollStart_waits run works task asked
  · exact workDoes_of (fun _ => rfl) fun u ⟨⟨run, works, task⟩, asked⟩ => doCollStart_refused run works task asked
  · exact workDoes_of (fun _ => rfl) fun u idle => doCollStart_none idle
  · exact highDoes_of (fun _ => rfl) fun u asked => by rw [regAct_colKickHi, asked]
  · exact highDoes_of (fun _ => rfl) fun u asked => by rw [regAct_colKickHi, asked]
  · exact highRefused_of (fun _ => rfl) fun u asked => by rw [regAct_colKickHi, asked]
  · exact workDoes_of (fun _ => rfl) fun u ⟨vc, type, ⟨taken, on⟩, current, ctx, held, fits⟩ =>
      (if_pos ⟨vc, type⟩).trans (collArrive_takes taken on current ctx held fits)
  · exact workDoes_of (fun _ => rfl) fun u ⟨vc, type, ⟨taken, on⟩, current, ctx, held, fits⟩ =>
      (if_pos ⟨vc, type⟩).trans (collArrive_takes taken on current ctx held fits)
  · exact workDoes_of (fun _ => rfl) fun u ⟨vc, type, ⟨taken, on⟩, current, ctx, held, fits⟩ =>
      (if_pos ⟨vc, type⟩).trans (collArrive_takes taken on current ctx held fits)
  · exact workDoes_of (fun _ => rfl) fun u ⟨vc, type, ⟨taken, on⟩, retired⟩ =>
      (if_pos ⟨vc, type⟩).trans (collArrive_retired taken on retired)
  · exact workDoes_of (fun _ => rfl) fun u absent => (congrArg (ite _ · u) (collArrive_none absent)).trans (ite_self u)
  · exact workDoes_of (fun _ => rfl) fun u ⟨⟨vc, type, ⟨taken, on⟩, ctx, held⟩, phase, root, sent⟩ =>
      doNak_resends taken on vc type ctx held phase root sent
  · exact workDoes_of (fun _ => rfl) fun u ⟨⟨vc, type, ⟨taken, on⟩, ctx, held⟩, phase, notSent⟩ =>
      doNak_notSent taken on vc type ctx held phase notSent
  · exact workDoes_of (fun _ => rfl) fun u ⟨⟨vc, type, ⟨taken, on⟩, ctx, held⟩, phase, notSent⟩ =>
      doNak_hopNotSent taken on vc type ctx held phase notSent
  · exact workDoes_of (fun _ => rfl) fun u absent => doNak_none absent
  · exact workDoes_of (fun _ => rfl) fun u ⟨live, last, bulk, late, hop⟩ =>
      doCollTimeout_fails live last bulk late hop
  · exact workDoes_of (fun _ => rfl) fun u ⟨live, last, early⟩ => doCollTimeout_waits live last early
  · exact workDoes_of (fun _ => rfl) fun u ⟨⟨live, last, op, member, untold, goesOn⟩, late⟩ =>
      (doBcRoundTimeout_waiting live last op member untold goesOn).trans (if_pos late)
  · exact workDoes_of (fun _ => rfl) fun u ⟨⟨live, last, op, member, untold, goesOn⟩, early⟩ =>
      (doBcRoundTimeout_waiting live last op member untold goesOn).trans (if_neg (Nat.not_le.2 early))
  · exact workDoes_of (fun _ => rfl) fun u ⟨live, stalled, late⟩ =>
      (doResumeTimeout_stalled live stalled).trans (if_pos late)
  · exact workDoes_of (fun _ => rfl) fun u ⟨live, stalled, early⟩ =>
      (doResumeTimeout_stalled live stalled).trans (if_neg (Nat.not_le.2 early))
  · exact writeDoes_of (fun _ => rfl) fun u _ ⟨live, stalled⟩ => by
      rw [regAct_colBcmd_resume, doResume_stalled live stalled]
  · exact writeDoes_of (fun _ => rfl) fun u _ idle => by rw [regAct_colBcmd_resume, doResume_none idle]

end Sys2Proof.Machine
end

section
/-! Optical engines (R330, R333, R335 to R338): laser samples, failed lanes, the two sides of a swap, and the training
of CXL and control ports. -/
namespace Sys2Proof.Machine

/-! Laser inputs (R330) -/

/-- The samples in a row below LOW_FAULT with one of power pw. -/
def State.lowRunAfter (s : State) (e : Nat) (pw : Int) : Nat :=
  if bit (s.laserFlags e pw) 1 then (s.engine e).lowRun + 1 else 0

/-- The sample's flags are set, with their events. -/
def State.laserSeen (s : State) (e : Nat) (pw : Int) : State :=
  let f := s.laserFlags e pw
  let t := s.setEngine e { s.engine e with power := pw, flags := f, lowRun := s.lowRunAfter e pw }
  let t := if bit f 1 && !bit (s.engine e).flags 1 then t.alert 6 else t
  let t := if bit f 0 ∨ bit f 2 then t.irq (Pg.ope e) 16 else t
  if bit f 3 then (t.irq (Pg.ope e) 17).bump (Pg.ope e) Reg.opeCntLaser else t

/-- The engine's laser has failed: the engine is quarantined and its ports lose their links. -/
def State.laserGone (s : State) (e : Nat) : State :=
  let t := ((s.bump (Pg.ope e) Reg.opeCntLaser).errorOpen (Pg.ope e) Cls.recomputed 0 0x11).quarantine (Pg.ope e)
  (t.setEngine e { t.engine e with lit := false }).portsLost e

section Laser
variable {s : State} {e : Nat} {pw : Int}

theorem doLaserSample_eq :
    s.doLaserSample e pw =
      if 3 ≤ s.lowRunAfter e pw ∧ (s.laserSeen e pw).isOn (Pg.ope e) then (s.laserSeen e pw).laserGone e
      else s.laserSeen e pw := rfl

end Laser

/-! Failed lanes (R335, R336, R338) -/

/-- The failure of a lane in use is counted, with its event. -/
def State.laneNoted (s : State) (e : Nat) : State := (s.bump (Pg.ope e) Reg.opeCntLanefail).irq (Pg.ope e) 18

/-- A lane that carries a logical lane is to be given up: for a spare where the engine may swap, and otherwise, where it
has failed, the logical lane is gone. -/
def State.laneGivenUp (s : State) (e l phys : Nat) (degraded : Bool) : State :=
  match if s.rb (Pg.ope e) Reg.opeCtrl 0 then s.startSwap e l (!degraded) else none with
  | some t => t
  | none => if degraded then s else s.laneGone e l phys

section Lane
variable {s v : State} {e l phys : Nat} {d : Bool}

theorem doLaneFail_idle (idle : s.isOn (Pg.ope e) = false ∨ s.lane e phys = .failed) : s.doLaneFail e phys d = s :=
  if_pos (idle.imp_left (congrArg not))

section Working
variable (on : s.isOn (Pg.ope e) = true) (works : s.lane e phys ≠ .failed) (spared : e ≠ 8)
  (carrier : ¬(e = 11 ∧ l = 4))
include on works spared carrier

theorem doLaneFail_fails (logical : (s.laneNoted e).logicalOf e phys = some l)
    (unswapped : (s.laneNoted e).swapOf e l = none) :
    s.doLaneFail e phys false = (s.laneNoted e).laneGivenUp e l phys false := by
  unfold State.laneNoted at logical unswapped
  unfold State.doLaneFail
  simp only [on, works, spared, carrier, logical, unswapped, Bool.not_true, Bool.false_eq_true, or_self, if_false]
  rfl

theorem doLaneFail_degrades (logical : s.logicalOf e phys = some l) (unswapped : s.swapOf e l = none) :
    s.doLaneFail e phys true = s.laneGivenUp e l phys true := by
  unfold State.doLaneFail
  simp only [on, works, spared, carrier, logical, unswapped, Bool.not_true, Bool.false_eq_true, or_self, if_false,
    if_true]
  rfl

end Working

theorem laneGivenUp_swaps (enabled : s.rb (Pg.ope e) Reg.opeCtrl 0 = true)
    (spare : s.startSwap e l (!d) = some v) : s.laneGivenUp e l phys d = v := by
  unfold State.laneGivenUp
  simp only [enabled, spare, if_true]

theorem laneGivenUp_gone
    (noSwap : s.rb (Pg.ope e) Reg.opeCtrl 0 = false ∨ s.startSwap e l true = none) :
    s.laneGivenUp e l phys false = s.laneGone e l phys := by
  unfold State.laneGivenUp
  obtain disabled | noSpare := noSwap
  · simp only [disabled, Bool.false_eq_true, if_false]
  · simp only [Bool.not_false, noSpare, ite_self, Bool.false_eq_true, if_false]

end Lane

/-! The two sides of a swap (R336, R337) -/

/-- The spare that a REQ names is free, or this end gives it up where both ends ask for it. -/
def State.spareFree (s : State) (e spare : Nat) : Bool :=
  (s.freeSpares e).contains spare ||
    ((s.engine e).swaps.any (fun x => decide (x.spare = spare) && !x.acked) && !s.swapPriority e)

section Swap
variable {s : State} {e l spare : Nat} {k : SwapKind} {x : LaneSwap}

theorem doSwap_off (off : ¬s.isOn (Pg.ope e) = true) : s.doSwap e k l spare = s :=
  if_pos (.inl (by rw [Bool.eq_false_iff.2 off]; rfl))

section On
variable (on : s.isOn (Pg.ope e) = true) (spared : e ≠ 8)
include on spared

theorem doSwap_req_new (new : s.swapOf e l = none) :
    s.doSwap e .req l spare =
      if (s.canSwap e l && s.spareFree e spare) = true then
        (s.takeSpare e l spare true (decide (s.lane e ((s.laneOf e l).getD 8) = .failed))).sendSwap e .ack l spare
      else s.sendSwap e .nak l spare := by
  unfold State.doSwap
  simp only [on, spared, new, Bool.not_true, Bool.false_eq_true, or_self, if_false]
  rfl

theorem doSwap_req_again (swap : s.swapOf e l = some x) (asked : x.acked = false) :
    s.doSwap e .req l spare = s.setSwap e l (some { x with acked := true }) := by
  unfold State.doSwap
  simp only [on, spared, swap, asked, Bool.not_true, Bool.false_eq_true, or_self, if_false]

theorem doSwap_ack (swap : s.swapOf e l = some x) :
    s.doSwap e .ack l spare = s.setSwap e l (some { x with acked := true }) := by
  unfold State.doSwap
  simp only [on, spared, swap, Bool.not_true, Bool.false_eq_true, or_self, if_false]

theorem doSwap_nak (swap : s.swapOf e l = some x) (asked : x.acked = false) (sound : x.oldFails = false) :
    s.doSwap e .nak l spare = (s.setSwap e l none).irq (Pg.ope e) 21 := by
  unfold State.doSwap
  simp only [on, spared, swap, asked, sound, Bool.not_true, Bool.false_eq_true, or_self, if_false]

theorem doSwap_done (swap : s.swapOf e l = some x) :
    s.doSwap e .done l spare = (s.setSwap e l (some { x with doneThere := true })).swapEnds e l := by
  unfold State.doSwap
  simp only [on, spared, swap, Bool.not_true, Bool.false_eq_true, or_self, if_false]

theorem doLaneAlign_spare (works : s.lane e spare ≠ .failed)
    (swap : (s.engine e).swaps.find? (fun x => decide (x.spare = spare) && x.acked && !x.doneHere) = some x) :
    s.doLaneAlign e spare =
      (((s.setLane e spare .aligned).setSwap e x.logical (some { x with aligned := true, doneHere := true })).sendSwap e
        .done x.logical spare).swapEnds e x.logical := by
  unfold State.doLaneAlign
  simp only [on, spared, works, swap, Bool.not_true, Bool.false_eq_true, or_self, if_false]

end On

theorem doLaneAlign_idle (idle : ¬s.isOn (Pg.ope e) = true ∨ s.lane e spare = .failed) : s.doLaneAlign e spare = s :=
  if_pos (idle.imp (fun off => by rw [Bool.eq_false_iff.2 off]; rfl) .inl)

end Swap

theorem blkOf_ope (e : Fin 12) : blkOf (Pg.ope e) = .ope := by
  revert e
  decide

theorem instOf_ope (e : Fin 12) : instOf (Pg.ope e) = e := by
  revert e
  decide

/-- A write of OPE_SWAP with GO starts a swap of the lane that it names. -/
theorem regAct_opeSwap (s : State) (port : Nat) (e : Fin 12) (v : W32) (io : IoResult) :
    s.regAct port (Pg.ope e) Reg.opeSwap v io =
      (0, if bit v 31 then (s.startSwap e (fld v 2 0) false).getD s else s) := by
  unfold State.regAct
  simp only [blkOf_ope, instOf_ope]
  rfl

/-! Training (R333, R344) -/

/-- A control port that trains is UP: it knows the node's buffer, resends what the node has not received and goes on. -/
def State.ctlUpWith (s : State) (n : Nat) (i : TrainInfo) : State :=
  let left := afterAck i.rxLast (s.ctlPort n).retry
  let t := s.setCtlPort n { s.ctlPort n with
    link := .up, nodeBuf := i.rxbuf.toNat, credit := i.rxbuf.toNat - left.length, retry := left, resends := 0,
    lastFlit := s.now }
  State.pump ((((t.lanesUp 11 [n]).irq (Pg.ctp n) 16).resendFlits n).flushEvents n 1024) n 256

section Train
variable {s : State} {n : Nat} {i : TrainInfo}

theorem ctlTrained_up (up : (s.ctlPort n).link = .up) : s.ctlTrained n i = s := if_pos (.inr up)

theorem ctlTrained_trains (on : s.isOn (Pg.ope 11) = true) (down : (s.ctlPort n).link ≠ .up)
    (trains : s.trains (Pg.ctp n) (decide ((s.ctlPort n).link = .lost)) (s.rb (Pg.ctp n) Reg.ctpCtrl 0) = true) :
    s.ctlTrained n i = s.ctlUpWith n i := by
  unfold State.ctlTrained
  simp only [on, down, trains, Bool.and_self, Bool.not_true, Bool.false_eq_true, or_self, if_false]
  rfl

end Train

/-- Settles O40: a sample by how many in a row were low, a lane by whether a spare is free for it, a SWAP unit by the
swap of its lane, and a training by the port's state. -/
theorem opticalEngines : Obligations.OpticalEngines := by
  unfold Obligations.OpticalEngines
  refine ⟨fun e pw => ⟨?_, ?_, ?_⟩, fun e lane l v ⟨spared, carrier⟩ => ⟨?_, ?_, ?_, fun d => ?_⟩,
    fun e l n x spared => ⟨?_, ?_, ?_, ?_, ?_, ?_, fun k => ?_, ?_, ?_⟩, fun r e data v => ⟨?_, ?_⟩,
    fun n i => ⟨?_, ?_⟩, fun n i => ⟨?_, ?_⟩⟩
  · exact eventDoes_of (fun _ => rfl) fun u few => doLaserSample_eq.trans (if_neg fun h => Nat.not_le.2 few h.1)
  · exact eventDoes_of (fun _ => rfl) fun u ⟨_, off⟩ =>
      doLaserSample_eq.trans (if_neg fun h => Bool.false_ne_true (off.symm.trans h.2))
  · exact eventDoes_of (fun _ => rfl) fun u ⟨third, on⟩ => doLaserSample_eq.trans (if_pos ⟨third, on⟩)
  · exact eventDoes_of (fun _ => rfl) fun u ⟨⟨on, works, logical, unswapped⟩, enabled, spare⟩ =>
      (doLaneFail_fails on works spared carrier logical unswapped).trans (laneGivenUp_swaps enabled spare)
  · exact eventDoes_of (fun _ => rfl) fun u ⟨⟨on, works, logical, unswapped⟩, noSwap⟩ =>
      (doLaneFail_fails on works spared carrier logical unswapped).trans (laneGivenUp_gone noSwap)
  · exact eventDoes_of (fun _ => rfl) fun u ⟨on, works, logical, unswapped, enabled, spare⟩ =>
      (doLaneFail_degrades on works spared carrier logical unswapped).trans (laneGivenUp_swaps enabled spare)
  · exact eventDoes_of (fun _ => rfl) fun u idle => doLaneFail_idle idle
  · exact eventDoes_of (fun _ => rfl) fun u ⟨on, new, may, free⟩ =>
      (doSwap_req_new on spared new).trans (if_pos (Bool.and_eq_true_iff.2 ⟨may, free⟩))
  · exact eventDoes_of (fun _ => rfl) fun u ⟨on, new, taken⟩ =>
      (doSwap_req_new on spared new).trans (if_neg (taken ∘ Bool.and_eq_true_iff.1))
  · exact eventDoes_of (fun _ => rfl) fun u ⟨on, swap, asked⟩ => doSwap_req_again on spared swap asked
  · exact eventDoes_of (fun _ => rfl) fun u ⟨on, swap⟩ => doSwap_ack on spared swap
  · exact eventDoes_of (fun _ => rfl) fun u ⟨on, swap, asked, sound⟩ => doSwap_nak on spared swap asked sound
  · exact eventDoes_of (fun _ => rfl) fun u ⟨on, swap⟩ => doSwap_done on spared swap
  · exact eventDoes_of (fun _ => rfl) fun u off => doSwap_off off
  · exact eventDoes_of (fun _ => rfl) fun u ⟨on, works, swap⟩ => doLaneAlign_spare on spared works swap
  · exact eventDoes_of (fun _ => rfl) fun u idle => doLaneAlign_idle idle
  · exact writeDoes_of (fun _ => rfl) fun u _ ⟨go, spare⟩ => by
      rw [regAct_opeSwap, if_pos go, spare, Option.getD_some]
  · refine writeDoes_of (fun _ => rfl) fun u _ idle => ?_
    rw [regAct_opeSwap]
    obtain noGo | noSpare := idle
    · rw [if_neg (Bool.eq_false_iff.1 noGo)]
    · rw [noSpare, Option.getD_none, ite_self]
  · exact eventDoes_of (fun _ => rfl) fun u starting => if_pos starting
  · exact eventDoes_of (fun _ => rfl) fun u past => if_neg fun h => past h.2
  · exact eventDoes_of (fun _ => rfl) fun u ⟨on, down, trains⟩ => ctlTrained_trains on down trains
  · exact eventDoes_of (fun _ => rfl) fun u up => ctlTrained_up up

end Sys2Proof.Machine
end

section
/-! The flit link of a control port (R343, R344, R349, R423): a flit that arrives, the loss of the link, heartbeats, a
silent node, and the start that is tried again. -/
namespace Sys2Proof.Machine

/-! Flits (R343, R344) -/

/-- A valid flit has arrived now. -/
def State.flitHeard (s : State) (n : Nat) : State := s.setCtlPort n { s.ctlPort n with lastFlit := s.now }

/-- A HEAD or BODY flit in sequence: its number is taken, its link fields act, and its content is delivered. -/
def State.flitTaken (s : State) (n : Nat) (f : BitVec 512) : State :=
  let t := (s.flitHeard n).setCtlPort n { (s.flitHeard n).ctlPort n with fseqRx := flitSeq f }
  (t.flitLink n f).flitContent n f

section Flit
variable {s : State} {n : Nat} {f : BitVec 512}

theorem doControlFlit_down (down : s.ctlUp n = false) : s.doControlFlit n f = s := if_pos (congrArg not down)

section Up
variable (up : s.ctlUp n = true)
include up

theorem doControlFlit_bad (bad : flitOk f = false) :
    s.doControlFlit n f = (s.bump (Pg.ctp n) Reg.ctpCntCrcerr).idleFlit n true := by
  unfold State.doControlFlit
  simp only [up, bad, Bool.not_true, Bool.not_false, Bool.false_eq_true, if_false, if_true]

section Good
variable (good : flitOk f = true)
include good

/-- A valid flit acts by its kind and its sequence number. -/
theorem doControlFlit_good :
    s.doControlFlit n f =
      if flitFld f 0 1 0 = 3 then s.flitHeard n
      else if flitFld f 0 1 0 = 0 then
        if flitSeq f = (s.ctlPort n).fseqRx then State.pump ((s.flitHeard n).flitLink n f) n 256
        else (s.flitHeard n).idleFlit n true
      else if flitSeq f ≠ (s.ctlPort n).fseqRx + 1 then (s.flitHeard n).idleFlit n true
      else (State.pump (s.flitTaken n f) n 256).idleFlit n false := by
  unfold State.doControlFlit
  simp only [up, good, Bool.not_true, Bool.false_eq_true, if_false]
  rfl

theorem doControlFlit_reserved (kind : flitFld f 0 1 0 = 3) : s.doControlFlit n f = s.flitHeard n := by
  rw [doControlFlit_good up good, if_pos kind]

theorem doControlFlit_idle (kind : flitFld f 0 1 0 = 0) :
    s.doControlFlit n f =
      if flitSeq f = (s.ctlPort n).fseqRx then State.pump ((s.flitHeard n).flitLink n f) n 256
      else (s.flitHeard n).idleFlit n true := by
  rw [doControlFlit_good up good, if_neg (by omega), if_pos kind]

/-- HEAD and BODY flits. -/
theorem doControlFlit_content (kind : flitFld f 0 1 0 = 1 ∨ flitFld f 0 1 0 = 2) :
    s.doControlFlit n f =
      if flitSeq f ≠ (s.ctlPort n).fseqRx + 1 then (s.flitHeard n).idleFlit n true
      else (State.pump (s.flitTaken n f) n 256).idleFlit n false := by
  rw [doControlFlit_good up good, if_neg (by omega), if_neg (by omega)]

end Good
end Up
end Flit

/-! The loss of the link, heartbeats and silence (R344, R349) -/

section Timers
variable {s : State} {n : Nat}

theorem doControlLoss_lost (up : s.ctlUp n = true) (still : s.ctlSwapping n = false)
    (worn : s.retryMax n ≤ (s.ctlPort n).resends ∨ (s.ctlPort n).lastFlit + s.rf (Pg.ctp n) Reg.ctpLoss 15 0 ≤ s.now) :
    s.doControlLoss n = s.ctlLost n :=
  if_pos ⟨up, congrArg not still, worn⟩

theorem doControlLoss_sound
    (sound : s.ctlUp n = false ∨ ¬(s.retryMax n ≤ (s.ctlPort n).resends ∨
      (s.ctlPort n).lastFlit + s.rf (Pg.ctp n) Reg.ctpLoss 15 0 ≤ s.now)) :
    s.doControlLoss n = s :=
  if_neg fun ⟨up, _, worn⟩ => sound.elim (fun down => Bool.false_ne_true (down.symm.trans up)) fun fresh => fresh worn

/-- The period of the unsolicited heartbeats has passed. -/
def State.hbNoted (s : State) (n : Nat) : State := s.setCtlPort n { s.ctlPort n with hbAt := s.now }

theorem doHbTimer_early (early : s.ctlUp n = false ∨ s.now < (s.ctlPort n).hbAt + (s.reg (Pg.ctp n) Reg.ctpHb).toNat) :
    s.doHbTimer n = s :=
  if_neg fun ⟨up, _, late⟩ => early.elim (fun down => Bool.false_ne_true (down.symm.trans up)) (Nat.not_lt.2 late)

theorem doNodeSilent_silent (up : s.ctlUp n = true) (untold : (s.ctlPort n).silent = false)
    (late : (s.ctlPort n).nodeAt + (s.reg (Pg.ctp n) Reg.ctpNtmo).toNat ≤ s.now) :
    s.doNodeSilent n = (s.setCtlPort n { s.ctlPort n with silent := true }).irq (Pg.ctp n) 18 :=
  if_pos ⟨up, congrArg not untold, late⟩

theorem doNodeSilent_heard
    (heard : s.ctlUp n = false ∨ (s.ctlPort n).silent = true ∨
      ¬(s.ctlPort n).nodeAt + (s.reg (Pg.ctp n) Reg.ctpNtmo).toNat ≤ s.now) :
    s.doNodeSilent n = s := by
  refine if_neg fun ⟨up, untold, late⟩ => ?_
  obtain down | told | early := heard
  · exact Bool.false_ne_true (down.symm.trans up)
  · simp [told] at untold
  · exact early late

/-! The start that is tried again (R423) -/

theorem doCtpRetry_starts (step : s.pwr.step = 4) (failed : (s.page (Pg.ctp n)).st = .fault)
    (down : (List.range 4).any (fun n => s.ctlUp n) = false)
    (late : (s.page (Pg.ctp n)).since + 1000000000 ≤ s.now) (goes : s.pwr.pfw = false) :
    s.doCtpRetry n = (s.softReset (Pg.ctp n)).beginStart (Pg.ctp n) :=
  if_pos ⟨step, failed, congrArg not down, late, congrArg not goes⟩

theorem doCtpRetry_waits (waits : s.pwr.step ≠ 4 ∨ s.now < (s.page (Pg.ctp n)).since + 1000000000) :
    s.doCtpRetry n = s :=
  if_neg fun ⟨step, _, _, late, _⟩ => waits.elim (· step) (Nat.not_lt.2 late)

end Timers

section Beat
variable {s : State} {n : Nat} (up : s.ctlUp n = true) (on : (s.reg (Pg.ctp n) Reg.ctpHb).toNat ≠ 0)
  (late : (s.ctlPort n).hbAt + (s.reg (Pg.ctp n) Reg.ctpHb).toNat ≤ s.now)
include up on late

/-- A heartbeat that is due goes out, but in an image switch. -/
theorem doHbTimer_due :
    s.doHbTimer n =
      if (s.hbNoted n).switching then s.hbNoted n
      else
        let t := (s.hbNoted n).setCtlPort n { (s.hbNoted n).ctlPort n with devSeq := (s.ctlPort n).devSeq + 1 }
        t.sendMsg n ⟨7, false, false, false, (s.ctlPort n).devSeq, 0, 0, t.hbPayload n⟩ false :=
  if_pos ⟨up, on, late⟩

end Beat

/-- Settles O41: a flit by its check, its kind and its number, and the timers by the time that has passed. -/
theorem controlLinks : Obligations.ControlLinks := by
  unfold Obligations.ControlLinks
  refine ⟨fun n f => ⟨?_, ?_, ?_, ?_, ?_, ?_, ?_⟩, fun n => ⟨?_, ?_, ?_, ?_, ?_, ?_, ?_, ?_, ?_⟩⟩
  · exact eventDoes_of (fun _ => rfl) fun u ⟨up, bad⟩ => doControlFlit_bad up bad
  · exact eventDoes_of (fun _ => rfl) fun u ⟨⟨up, good⟩, kind, next⟩ =>
      (doControlFlit_content up good kind).trans (if_neg (not_not_intro next))
  · exact eventDoes_of (fun _ => rfl) fun u ⟨⟨up, good⟩, kind, other⟩ =>
      (doControlFlit_content up good kind).trans (if_pos other)
  · exact eventDoes_of (fun _ => rfl) fun u ⟨⟨up, good⟩, kind, last⟩ =>
      (doControlFlit_idle up good kind).trans (if_pos last)
  · exact eventDoes_of (fun _ => rfl) fun u ⟨⟨up, good⟩, kind, other⟩ =>
      (doControlFlit_idle up good kind).trans (if_neg other)
  · exact eventDoes_of (fun _ => rfl) fun u ⟨⟨up, good⟩, kind⟩ => doControlFlit_reserved up good kind
  · exact eventDoes_of (fun _ => rfl) fun u down => doControlFlit_down down
  · exact eventDoes_of (fun _ => rfl) fun u ⟨up, still, worn⟩ => doControlLoss_lost up still worn
  · exact eventDoes_of (fun _ => rfl) fun u sound => doControlLoss_sound sound
  · exact eventDoes_of (fun _ => rfl) fun u ⟨⟨up, on, late⟩, still⟩ =>
      (doHbTimer_due up on late).trans (if_neg (Bool.eq_false_iff.1 still))
  · exact eventDoes_of (fun _ => rfl) fun u ⟨⟨up, on, late⟩, switching⟩ =>
      (doHbTimer_due up on late).trans (if_pos switching)
  · exact eventDoes_of (fun _ => rfl) fun u early => doHbTimer_early early
  · exact eventDoes_of (fun _ => rfl) fun u ⟨up, untold, late⟩ => doNodeSilent_silent up untold late
  · exact eventDoes_of (fun _ => rfl) fun u heard => doNodeSilent_heard heard
  · exact eventDoes_of (fun _ => rfl) fun u ⟨step, failed, down, late, goes⟩ =>
      doCtpRetry_starts step failed down late goes
  · exact eventDoes_of (fun _ => rfl) fun u waits => doCtpRetry_waits waits

end Sys2Proof.Machine
end

section
/-! The requests of a control port (R345 to R348, R384, R389, R394): those that are refused, and MEM_RD, MEM_WR,
HEARTBEAT and FW_LOAD. -/
namespace Sys2Proof.Machine

/-! Requests that are refused, and duplicates (R347, R348, R394) -/

section Admission
variable {s : State} {r : Req} {type : Nat} {k : ReqKind} {n : W32}

theorem admission_unsealed (bad : s.authFails r type = true) :
    s.admission r type k = (.refused 10, (s.bump Pg.sec Reg.secCntAuth).irq Pg.sec 17) := if_pos bad

section Sealed
variable (good : s.authFails r type = false) (expects : (s.ctlPort r.port).expect = some n) (other : r.mseq ≠ n)
include good expects other

/-- A request with another number than the one expected is a duplicate where its first answer is kept, and otherwise out
of sequence. -/
theorem admission_other :
    s.admission r type k =
      match if below64 n r.mseq then (s.ctlPort r.port).kept r.mseq else none with
      | some (_, st, d) =>
        (match k with
          | .redo => .again
          | .keep => .first st []
          | .whole => .first st d, s.bump (Pg.ctp r.port) Reg.ctpCntDup)
      | none => (.refused 7, (s.bump (Pg.ctp r.port) Reg.ctpCntSeq).irq (Pg.ctp r.port) 19) := by
  unfold State.admission
  simp only [good, expects, other, Bool.false_eq_true, if_false]
    <;> rfl

theorem admission_duplicate {x : W32 × Nat × List Byte} (near : below64 n r.mseq = true)
    (kept : (s.ctlPort r.port).kept r.mseq = some x) :
    s.admission r type .keep = (.first x.2.1 [], s.bump (Pg.ctp r.port) Reg.ctpCntDup) := by
  rw [admission_other good expects other, if_pos near, kept]

theorem admission_outOfSequence (unknown : below64 n r.mseq = false ∨ (s.ctlPort r.port).kept r.mseq = none) :
    s.admission r type k = (.refused 7, (s.bump (Pg.ctp r.port) Reg.ctpCntSeq).irq (Pg.ctp r.port) 19) := by
  have none_kept : (if below64 n r.mseq then (s.ctlPort r.port).kept r.mseq else none) = none := by
    obtain far | gone := unknown
    · exact if_neg (Bool.eq_false_iff.1 far)
    · rw [gone, ite_self]
  rw [admission_other good expects other, none_kept]

end Sealed
end Admission

/-- A command of a live device, by what its effect makes of the state. -/
theorem exec_of_run {c : Instr} {f : State → State} {s t : State} (e : ∀ s, exec c s = run f s) (live : s.live = true)
    (act : f s.hush = t) : exec c s = .next (s.done t) := by
  rw [e, run_live _ _ live, act]

/-- A new request whose length is not accepted. -/
theorem requestDoes_badLength {c : Instr} {r : Req} {type : Nat} {k : ReqKind} {ok : Bool} {H : State → Prop}
    {act : State → Resp × State} (e : ∀ s, exec c s = run (fun s => s.request r type k ok act) s) (bad : ok = false) :
    RequestDoes c r type k H (fun u => (Resp.of 9, u)) := by
  intro s live taken _
  rw [e, run_live _ _ live, request_taken _ _ _ _ _ _ taken, carryOut_new, bad]
  rfl

/-! MEM_RD (R346, R397) -/

/-- The bytes as the owner port of a partition sees them, or as the management port does. -/
def State.readAs (s : State) (who : Option Nat) (a n : Nat) : Resp × State :=
  match who with
  | some p => (readResp (s.read p a n).1.toOption, (s.read p a n).2)
  | none => (readResp (s.readStored a n).1, (s.readStored a n).2)

section Read
variable {s : State} {port a n : Nat}

theorem memRead_misaligned (odd : a % 4 ≠ 0 ∨ n % 4 ≠ 0) : s.memRead port a n = (Resp.of 5, s) := if_pos odd

section Aligned
variable (start : a % 4 = 0) (size : n % 4 = 0)
include start size

theorem memRead_aligned :
    s.memRead port a n =
      if n < 4 ∨ 4096 < n then (Resp.of 9, s)
      else match s.msgRange port a n false with
        | none => (Resp.of 2, s)
        | some who => if a < cxlBase ∧ s.memShut a n then (Resp.of 2, s) else s.readAs who a n :=
  if_neg (not_or.2 ⟨not_not_intro start, not_not_intro size⟩)

theorem memRead_badLength (bad : n < 4 ∨ 4096 < n) : s.memRead port a n = (Resp.of 9, s) :=
  (memRead_aligned start size).trans (if_pos bad)

section Whole
variable (least : 4 ≤ n) (most : n ≤ 4096)
include least most

theorem memRead_outside (outside : s.msgRange port a n false = none) : s.memRead port a n = (Resp.of 2, s) := by
  rw [memRead_aligned start size, if_neg (by omega), outside]

/-- A read of a range the port may reach. -/
theorem memRead_inside {who : Option Nat} (inside : s.msgRange port a n false = some who) :
    s.memRead port a n =
      if a < cxlBase ∧ s.memShut a n then (Resp.of 2, s) else s.readAs who a n := by
  rw [memRead_aligned start size, if_neg (by omega), inside]

end Whole
end Aligned
end Read

/-! MEM_WR (R241, R346, R397) -/

/-- Bytes stored for a partition, or as they are for the management port. -/
def State.putAs (s : State) (who : Option Nat) (a : Nat) (bs : List Byte) : Bool × State :=
  match who with
  | some p => (s.cow p a bs.length).put p a bs
  | none => s.writeStored a bs

section Write
variable {s v : State} {port a : Nat} {bs : List Byte} {bad : Bool}

theorem memWrite_misaligned (odd : a % 4 ≠ 0 ∨ bs.length % 4 ≠ 0) : s.memWrite port a bs = (Resp.of 5, s) := if_pos odd

section Aligned
variable (start : a % 4 = 0) (size : bs.length % 4 = 0)
include start size

theorem aligned_proceeds : ¬(a % 4 ≠ 0 ∨ bs.length % 4 ≠ 0) := not_or.2 ⟨not_not_intro start, not_not_intro size⟩

theorem memWrite_outside (outside : s.msgRange port a bs.length true = none)
    (noTier : (s.portParts port).find? (fun p => s.inCxl p a bs.length) = none) :
    s.memWrite port a bs = (Resp.of 2, s) := by
  unfold State.memWrite
  simp only [if_neg (aligned_proceeds start size), outside, noTier]
  rfl

section Inside
variable (opened : s.memShut a bs.length = false) (gddr : a < cxlBase) (noFrame : s.touchesFrame a bs.length = false)
include opened gddr noFrame

/-- A write of GDDR7 that the port may make is answered POISON where the bytes cannot be stored. -/
theorem memWrite_stores {who : Option Nat} (inside : s.msgRange port a bs.length true = some who)
    (put : s.putAs who a bs = (bad, v)) :
    s.memWrite port a bs = (Resp.of (if bad then 6 else 0), v) := by
  unfold State.memWrite
  simp only [if_neg (aligned_proceeds start size), inside, opened, if_neg (Nat.not_le.2 gddr), noFrame,
    Bool.false_eq_true, if_false]
  change (Resp.of (if (s.putAs who a bs).1 then 6 else 0), (s.putAs who a bs).2) = _
  rw [put]

end Inside
end Aligned
end Write

/-! FW_LOAD (R384) -/

/-- What FW_LOAD does, by the state of the device. -/
def State.fwAct (r : Req) (off : W32) (data : List Byte) (last : Bool) (s : State) : Resp × State :=
  if s.pwr.dev = .fwload then s.bootLoad r.port off.toNat data last
  else if s.pwr.dev = .ready then s.stageLoad r.port off.toNat data last
  else (Resp.of 8, s)

/-- Settles O42: a request by its protection check and its number, and one that is taken up by what it asks for. -/
theorem controlRequests : Obligations.ControlRequests := by
  unfold Obligations.ControlRequests
  refine ⟨fun r addr data s live up => ⟨fun unsealed => ?_, fun n sealed expects other =>
      ⟨fun x near kept => ?_, fun unknown => ?_⟩⟩,
    fun r addr len lenOk => ⟨?_, ?_, ?_, fun p => ?_, fun p => ?_, ?_⟩,
    fun r addr data lenOk least most => ⟨?_, fun p bad v => ?_, fun bad v => ?_, ?_⟩, fun r lenOk => ?_,
    fun r lenBad => ?_, fun r off data last lenOk least most => ⟨?_, ?_, ?_⟩⟩
  · exact exec_of_run (fun _ => rfl) live (request_refused _ _ r 4 .keep _ _ 10 up (admission_unsealed unsealed))
  · exact exec_of_run (fun _ => rfl) live
      (request_first _ _ r 4 .keep _ _ x.2.1 [] up (admission_duplicate sealed expects other near kept))
  · exact exec_of_run (fun _ => rfl) live
      (request_refused _ _ r 4 .keep _ _ 7 up (admission_outOfSequence sealed expects other unknown))
  · exact requestDoes_of (fun _ => rfl) (fun u odd => memRead_misaligned odd) (decide_eq_true lenOk)
  · exact requestDoes_of (fun _ => rfl) (fun u ⟨start, size, bad⟩ => memRead_badLength start size bad)
      (decide_eq_true lenOk)
  · exact requestDoes_of (fun _ => rfl)
      (fun u ⟨⟨start, size, least, most⟩, outside⟩ => memRead_outside start size least most outside)
      (decide_eq_true lenOk)
  · exact requestDoes_of (fun _ => rfl)
      (fun u ⟨⟨start, size, least, most⟩, inside, gddr, shut⟩ =>
        (memRead_inside start size least most inside).trans (if_pos ⟨gddr, shut⟩))
      (decide_eq_true lenOk)
  · exact requestDoes_of (fun _ => rfl)
      (fun u ⟨⟨start, size, least, most⟩, inside, opened⟩ =>
        (memRead_inside start size least most inside).trans (if_neg opened))
      (decide_eq_true lenOk)
  · exact requestDoes_of (fun _ => rfl)
      (fun u ⟨⟨start, size, least, most⟩, inside, opened⟩ =>
        (memRead_inside start size least most inside).trans (if_neg opened))
      (decide_eq_true lenOk)
  · exact requestDoes_of (fun _ => rfl) (fun u odd => memWrite_misaligned odd) (decide_eq_true ⟨lenOk, least, most⟩)
  · exact requestDoes_of (fun _ => rfl)
      (fun u ⟨⟨start, size, inside, opened, gddr, noFrame⟩, put⟩ =>
        memWrite_stores start size opened gddr noFrame inside put)
      (decide_eq_true ⟨lenOk, least, most⟩)
  · exact requestDoes_of (fun _ => rfl)
      (fun u ⟨⟨start, size, inside, opened, gddr, noFrame⟩, put⟩ =>
        memWrite_stores start size opened gddr noFrame inside put)
      (decide_eq_true ⟨lenOk, least, most⟩)
  · exact requestDoes_of (fun _ => rfl)
      (fun u ⟨start, size, outside, noTier⟩ => memWrite_outside start size outside noTier)
      (decide_eq_true ⟨lenOk, least, most⟩)
  · exact requestDoes_of (fun _ => rfl) (fun u _ => rfl) (decide_eq_true lenOk)
  · exact requestDoes_badLength (fun _ => rfl) (decide_eq_false lenBad)
  · exact requestDoes_of (act := State.fwAct r off data last) (fun _ => rfl) (fun u loads => if_pos loads)
      (decide_eq_true ⟨lenOk, least, most⟩)
  · refine requestDoes_of (act := State.fwAct r off data last) (fun _ => rfl) (fun u ready => ?_)
      (decide_eq_true ⟨lenOk, least, most⟩)
    exact (if_neg (by rw [ready]; decide)).trans (if_pos ready)
  · exact requestDoes_of (act := State.fwAct r off data last) (fun _ => rfl)
      (fun u ⟨notLoading, notReady⟩ => (if_neg notLoading).trans (if_neg notReady))
      (decide_eq_true ⟨lenOk, least, most⟩)

end Sys2Proof.Machine
end

section
/-! Attestation and sessions (R386, R392, R393): GET_KEY, REPORT, START and END, and a request that waits for the end of
an image switch. -/
namespace Sys2Proof.Machine

section Held
variable {s t : State} {c : Instr} {r : Req} {type : Nat} {k : ReqKind} {ok : Bool} {act : State → Resp × State}
  (held : heldReq c = some ⟨r, type, k, ok, act⟩)
include held

theorem doHeldReq_still (still : s.switching = false) : s.doHeldReq c = s.request r type k ok act := by
  unfold State.doHeldReq
  simp only [held, still, Bool.false_eq_true, if_false]

/-- In an image switch a request that is in order is received, and waits (R386). -/
theorem doHeldReq_waits (switching : s.switching = true) (up : s.ctlUp r.port = true)
    (fresh : (s.takeMsg r type).admission r type k = (.fresh, t)) :
    s.doHeldReq c = { t with sec := { t.sec with heldMsgs := t.sec.heldMsgs ++ [c] } } := by
  unfold State.doHeldReq
  simp only [held, switching, up, fresh, Bool.not_true, Bool.false_eq_true, if_false, if_true]

/-- Where no image switch runs, such a request that its port takes up is carried out as any other. -/
theorem exec_held_still (e : ∀ s, exec c s = run (fun s => s.doHeldReq c) s) (live : s.live = true)
    (taken : s.hush.takesUp r type = true) (still : s.hush.switching = false) (len : ok = true) :
    exec c s =
      .next (s.done ((act (s.hush.received r type)).2.replied r type k (act (s.hush.received r type)).1)) := by
  rw [e, run_live _ _ live, doHeldReq_still held still, request_acts _ _ _ _ _ _ taken len]

end Held

theorem attestKey_eq (s : State) : attestKey s = (⟨0, identPub ++ List.replicate 3 0⟩, s) := rfl

/-- Settles O43: a request of the four kinds by its act, a report by its body and signature, and one that comes in an
image switch by its admission. -/
theorem attestationAndSessions : Obligations.AttestationAndSessions := by
  unfold Obligations.AttestationAndSessions
  refine ⟨fun r => ⟨fun len => ⟨fun s live taken still => ?_, fun n s live taken still => ?_⟩,
      fun len k n s live taken still => ?_, fun len s live taken still => ?_⟩,
    fun port n s x session inRange => ?_, fun r s live up switching t fresh => ?_⟩
  · have held : heldReq (.getKey r) = some ⟨r, 9, .redo, decide (r.len = 36), attestKey⟩ := rfl
    rw [exec_held_still held (fun _ => rfl) live taken still (decide_eq_true len), attestKey_eq]
  · have held : heldReq (.report r n) = some ⟨r, 9, .redo, decide (r.len = 36), fun s => s.attestReport r.port n⟩ := rfl
    rw [exec_held_still held (fun _ => rfl) live taken still (decide_eq_true len)]
  · have held : heldReq (.sessionStart r k n) =
        some ⟨r, 10, .whole, decide (r.len = 136), fun s => s.sessionBegin r.port k n⟩ := rfl
    rw [exec_held_still held (fun _ => rfl) live taken still (decide_eq_true len)]
  · have held : heldReq (.sessionEnd r) =
        some ⟨r, 10, .whole, decide (r.len = 4), fun s => s.sessionDone r.port⟩ := rfl
    rw [exec_held_still held (fun _ => rfl) live taken still (decide_eq_true len)]
    rfl
  · rfl
  · exact exec_of_run (fun _ => rfl) live (doHeldReq_waits (c := .getKey r) rfl switching up fresh)

end Sys2Proof.Machine
end

section
/-! Suspects and their aggregation (R354 to R358): the table of suspects, rounds, and the wait of a router for the
children of a group 15 operation. -/
namespace Sys2Proof.Machine

/-! The registers of the FLT page -/

theorem regAct_fltClr (s : State) (port : Nat) (v : W32) (io : IoResult) :
    s.regAct port Pg.flt Reg.fltClr v io = (0, s.suspectClear v) := rfl

theorem regAct_fltAggStat (s : State) (port : Nat) (v : W32) (io : IoResult) :
    s.regAct port Pg.flt Reg.fltAggStat v io = (0, s.aggClear v) := rfl

section Clear
variable {s : State} {v : W32}

theorem suspectClear_idle (noGo : bit v 31 = false) : s.suspectClear v = s := if_pos (congrArg not noGo)

theorem suspectClear_go (go : bit v 31 = true) :
    s.suspectClear v =
      if bit v 6 then { s with suspects := Vector.replicate 64 none } else s.setSuspect (fld v 5 0) none :=
  if_neg (by simp [go])

theorem aggClear_idle (noClear : bit v 31 = false) : s.aggClear v = s := if_pos (congrArg not noClear)

theorem aggClear_go (clear : bit v 31 = true) :
    s.aggClear v =
      (let t := (List.range 4).foldl (fun s i => s.setReg Pg.flt (Reg.fltAggPages i) 0) (s.setReg Pg.flt Reg.fltAggStat 0)
       { t with agg := { t.agg with map := [] } }) :=
  if_neg (by simp [clear])

end Clear

/-! Rounds (R356) -/

/-- The device contributes its due suspects in the round of the present count. -/
def State.roundStarted (s : State) : State :=
  let r := s.count / (s.reg Pg.flt Reg.fltPeriod).toNat
  let x := ({ s with agg := { s.agg with last := some r } } : State).roundTake r
  let pages := x.1.1.map (· / 512)
  let t := { x.2 with agg := { x.2.agg with rounds := x.2.agg.rounds ++ [(w32 r, x.1.1)] } }
  (t.bump Pg.flt Reg.fltCntRound).opAdd 15 (w32 r) (some 0) (orOf [bits64 pages 0, bits64 pages 64, x.1.2.toNat])
    (.agg (w32 r) 0)

section Round
variable {s : State}

theorem doAggRound_starts (enabled : s.rb Pg.flt Reg.fltCtrl 0 = true)
    (periodic : (s.reg Pg.flt Reg.fltPeriod).toNat ≠ 0) (ok : s.grpOk 15 = true)
    (new : s.agg.last ≠ some (s.count / (s.reg Pg.flt Reg.fltPeriod).toNat)) :
    s.doAggRound = s.roundStarted := by
  have due : ¬((!s.rb Pg.flt Reg.fltCtrl 0) = true ∨ (s.reg Pg.flt Reg.fltPeriod).toNat = 0 ∨ (!s.grpOk 15) = true ∨
      s.agg.last = some (s.count / (s.reg Pg.flt Reg.fltPeriod).toNat)) := by
    simp [enabled, periodic, ok, new]
  unfold State.doAggRound State.roundStarted
  rw [if_neg due]

theorem doAggRound_waits
    (waits : ¬(s.rb Pg.flt Reg.fltCtrl 0 = true ∧ (s.reg Pg.flt Reg.fltPeriod).toNat ≠ 0 ∧ s.grpOk 15 = true) ∨
      s.agg.last = some (s.count / (s.reg Pg.flt Reg.fltPeriod).toNat)) : s.doAggRound = s := by
  have idle : (!s.rb Pg.flt Reg.fltCtrl 0) = true ∨ (s.reg Pg.flt Reg.fltPeriod).toNat = 0 ∨ (!s.grpOk 15) = true ∨
      s.agg.last = some (s.count / (s.reg Pg.flt Reg.fltPeriod).toNat) := by
    obtain disabled | done := waits
    · rw [not_and_or, not_and_or, not_not, Bool.not_eq_true, Bool.not_eq_true] at disabled
      exact disabled.imp (congrArg not) (Or.imp id fun bad => .inl (congrArg not bad))
    · exact .inr (.inr (.inr done))
  unfold State.doAggRound
  rw [if_pos idle]

end Round

/-! The wait for children (R357) -/

/-- The children of group 15 that have not contributed to a slot. -/
def State.kidsMissing (s : State) (x : TolSlot) : List Coord :=
  (s.grpKids 15).filter (fun k => !x.kids.any (fun kv => decide (kv.1 = k)))

/-- How long this router waits for the children of a group 15 operation. -/
def State.childWait (s : State) : Nat :=
  (s.rf Pg.flt Reg.fltTree 23 16 - s.aggDepth) * s.rf Pg.flt Reg.fltTree 15 0

section ChildWait
variable {s : State} {step : W32} {idx i : Nat} {x : TolSlot}

theorem doChildWait_none (absent : s.slotOf 15 step idx = none) : s.doChildWait step idx = s := by
  unfold State.doChildWait
  simp only [absent]

section Slot
variable (slot : s.slotOf 15 step idx = some i) (held : s.tolSlot i = some x)
include slot held

theorem doChildWait_early (early : x.sent = true ∨ s.now < x.ownAt + s.childWait) : s.doChildWait step idx = s := by
  have waits : x.sent = true ∨ x.own.isNone = true ∨ s.now < x.ownAt + s.childWait := early.imp_right .inr
  unfold State.childWait at waits
  unfold State.doChildWait
  simp only [slot, held, if_pos waits]

theorem doChildWait_over (waits : x.sent = false) (own : x.own.isSome = true) (late : x.ownAt + s.childWait ≤ s.now)
    (missing : (s.kidsMissing x).isEmpty = false) :
    s.doChildWait step idx =
      ((((s.kidsMissing x).foldl (fun s k => s.suspect (s.toPhys (s.grpShape 15) k) Cause.tree) s).bump Pg.flt
        Reg.fltCntPartial).slotUp i).tolPump := by
  have passed : ¬(x.sent = true ∨ x.own.isNone = true ∨ s.now < x.ownAt + s.childWait) := by
    simp [waits, Option.isSome_iff_ne_none.1 own, late]
  unfold State.childWait at passed
  unfold State.kidsMissing at missing ⊢
  unfold State.doChildWait
  simp only [slot, held, if_neg passed, missing, Bool.false_eq_true, if_false]

end Slot
end ChildWait

/-- Settles O45: an entry by its age, a clear by its GO bit, a round by whether it is due, and a wait by the time that
has passed. -/
theorem suspectsAndAggregation : Obligations.SuspectsAndAggregation := by
  unfold Obligations.SuspectsAndAggregation
  refine ⟨fun i => ⟨?_, ?_⟩, fun r v => ⟨?_, ?_, ?_, ?_, ?_⟩, ⟨?_, ?_⟩, fun step idx i x => ⟨?_, ?_, ?_⟩⟩
  · exact eventDoes_of (fun _ => rfl) fun u old => if_pos old
  · exact eventDoes_of (fun _ => rfl) fun u seen => if_neg seen
  · exact writeDoes_of (fun _ => rfl) fun u _ ⟨go, all⟩ => by rw [regAct_fltClr, suspectClear_go go, if_pos all]
  · exact writeDoes_of (fun _ => rfl) fun u _ ⟨go, one⟩ => by
      rw [regAct_fltClr, suspectClear_go go, if_neg (Bool.eq_false_iff.1 one)]
  · exact writeDoes_of (fun _ => rfl) fun u _ noGo => by rw [regAct_fltClr, suspectClear_idle noGo]
  · exact writeDoes_of (fun _ => rfl) fun u _ clear => by rw [regAct_fltAggStat, aggClear_go clear]
  · exact writeDoes_of (fun _ => rfl) fun u _ noClear => by rw [regAct_fltAggStat, aggClear_idle noClear]
  · refine eventDoes_of (f := State.doAggRound) (fun _ => rfl) fun u ⟨⟨enabled, periodic, ok⟩, new⟩ => ?_
    rw [doAggRound_starts enabled periodic ok new, State.roundStarted]
  · exact eventDoes_of (fun _ => rfl) fun u waits => doAggRound_waits waits
  · exact eventDoes_of (fun _ => rfl) fun u ⟨⟨slot, held⟩, waits, own, late, missing⟩ =>
      doChildWait_over slot held waits own late missing
  · exact eventDoes_of (fun _ => rfl) fun u ⟨⟨slot, held⟩, early⟩ => doChildWait_early slot held early
  · exact eventDoes_of (fun _ => rfl) fun u absent => doChildWait_none absent

end Sys2Proof.Machine
end

section
/-! Aborts and recomputation (R360 to R362): an ABORT by the step that it names, and a recomputation that waits for its
partition. -/
namespace Sys2Proof.Machine

/-! Aborts (R360) -/

section Abort
variable {s t : State} {pkt : Packet} {q : Nat}

theorem doAbort_none (absent : s.takeEjected pkt = none) : s.doAbort pkt = s := by
  unfold State.doAbort
  simp only [absent, ite_self]

section Came
variable (vc : pkt.vc = 6) (type : pkt.type = 9) (taken : s.takeEjected pkt = some t) (crc : pkt.crcOk = true)
include vc type taken crc

theorem doAbort_untagged (untagged : t.tagPart pkt.tag = none) : s.doAbort pkt = t.bump Pg.flt Reg.fltCntAbortRx := by
  unfold State.doAbort
  simp only [vc, type, taken, crc, untagged, ne_eq, not_true_eq_false, or_self, Bool.not_true, Bool.false_eq_true,
    if_false]

section Here
variable (here : t.tagPart pkt.tag = some q)
include here

/-- An ABORT of a partition fails the live graph of its step, is held for the next launch, or is counted. -/
theorem doAbort_here :
    s.doAbort pkt =
      if (t.schPart q).live.map (·.step) = some pkt.stepOf then
        if (t.schPart q).live.any (·.failed) then t
        else (t.errorOpen Pg.flt Cls.task q 0x13).markFailed q false 0 false
      else if t.nextLaunch q = some pkt.stepOf then
        if (t.schPart q).heldAborts.contains pkt.stepOf then t
        else t.setSchPart q { t.schPart q with heldAborts := (t.schPart q).heldAborts ++ [pkt.stepOf] }
      else t.bump Pg.flt Reg.fltCntAbortRx := by
  unfold State.doAbort
  simp only [vc, type, taken, crc, here, ne_eq, not_true_eq_false, or_self, Bool.not_true, Bool.false_eq_true, if_false]

theorem doAbort_active (active : (t.schPart q).live.map (·.step) = some pkt.stepOf) :
    s.doAbort pkt =
      if (t.schPart q).live.any (·.failed) then t
      else (t.errorOpen Pg.flt Cls.task q 0x13).markFailed q false 0 false :=
  (doAbort_here vc type taken crc here).trans (if_pos active)

theorem doAbort_held (inactive : ¬(t.schPart q).live.map (·.step) = some pkt.stepOf)
    (next : t.nextLaunch q = some pkt.stepOf) (new : (t.schPart q).heldAborts.contains pkt.stepOf = false) :
    s.doAbort pkt =
      t.setSchPart q { t.schPart q with heldAborts := (t.schPart q).heldAborts ++ [pkt.stepOf] } := by
  rw [doAbort_here vc type taken crc here, if_neg inactive, if_pos next, if_neg (Bool.eq_false_iff.1 new)]

theorem doAbort_counted (inactive : ¬(t.schPart q).live.map (·.step) = some pkt.stepOf)
    (other : t.nextLaunch q ≠ some pkt.stepOf) : s.doAbort pkt = t.bump Pg.flt Reg.fltCntAbortRx := by
  rw [doAbort_here vc type taken crc here, if_neg inactive, if_neg other]

end Here
end Came
end Abort

/-! Recomputation (R361, R362) -/

/-- The recomputation of a partition no longer waits. -/
def State.rcmpTaken (s : State) (p : Nat) : State := s.setSchPart p { s.schPart p with rcmp := none }

section Recompute
variable {s : State} {p : Nat}

theorem doRecompute_runs {l : Launch} (waiting : (s.schPart p).rcmp = some l) (runs : s.partHalted p = false)
    (on : s.isOn Pg.sch = true) :
    s.doRecompute p =
      ((((s.rcmpTaken p).bump Pg.flt Reg.fltCntRcmp).setReg Pg.flt (Reg.fltRstatp p) l.step).irq Pg.flt 20).launch p
        false l.index l.step l.count true := by
  unfold State.doRecompute
  simp only [waiting, runs, on, Bool.not_true, Bool.false_eq_true, or_self, if_false]
  rfl

theorem doRecompute_waits
    (waits : (s.schPart p).rcmp = none ∨ s.partHalted p = true ∨ s.isOn Pg.sch = false) : s.doRecompute p = s := by
  unfold State.doRecompute
  cases waiting : (s.schPart p).rcmp with
  | none => rfl
  | some l =>
    have held : s.partHalted p = true ∨ (!s.isOn Pg.sch) = true :=
      (waits.resolve_left (by simp [waiting])).imp_right (congrArg not)
    exact if_pos held

end Recompute

/-- Settles O46: an ABORT by its partition and the step that it names, and a recomputation by whether its partition may
run. -/
theorem abortAndRecompute : Obligations.AbortAndRecompute := by
  unfold Obligations.AbortAndRecompute
  refine ⟨fun pkt t q => ⟨?_, ?_, ?_, ?_, ?_, ?_⟩, fun p l => ⟨?_, ?_⟩⟩
  · exact eventDoes_of (fun _ => rfl) fun u ⟨⟨⟨vc, type, taken, crc⟩, here⟩, active, sound⟩ =>
      (doAbort_active vc type taken crc here active).trans (if_neg (Bool.eq_false_iff.1 sound))
  · exact eventDoes_of (fun _ => rfl) fun u ⟨⟨⟨vc, type, taken, crc⟩, here⟩, active, failed⟩ =>
      (doAbort_active vc type taken crc here active).trans (if_pos failed)
  · exact eventDoes_of (fun _ => rfl) fun u ⟨⟨⟨vc, type, taken, crc⟩, here⟩, inactive, next, new⟩ =>
      doAbort_held vc type taken crc here inactive next new
  · exact eventDoes_of (fun _ => rfl) fun u ⟨⟨⟨vc, type, taken, crc⟩, here⟩, inactive, other⟩ =>
      doAbort_counted vc type taken crc here inactive other
  · exact eventDoes_of (fun _ => rfl) fun u ⟨⟨vc, type, taken, crc⟩, untagged⟩ =>
      doAbort_untagged vc type taken crc untagged
  · exact eventDoes_of (fun _ => rfl) fun u absent => doAbort_none absent
  · exact workDoes_of (fun _ => rfl) fun u ⟨waiting, runs, on⟩ => doRecompute_runs waiting runs on
  · exact workDoes_of (fun _ => rfl) fun u waits => doRecompute_waits waits

end Sys2Proof.Machine
end

section
/-! Checkpoints and restores (R370 to R376): arming, the buddy's writes, acknowledgements and reads, the data of a
restore, and what waits too long. -/
namespace Sys2Proof.Machine

/-! The registers of the CKP page (R371, R375) -/

theorem regIndex_armp_ckpArmp (p : Part) : regIndex (Reg.ckpArmp 0) 0x40 8 (Reg.ckpArmp p) = some p.val := by
  revert p
  decide

theorem regIndex_armp_ckpCmdp (p : Part) : regIndex (Reg.ckpArmp 0) 0x40 8 (Reg.ckpCmdp p) = none := by
  revert p
  decide

theorem regIndex_cmdp_ckpCmdp (p : Part) : regIndex (Reg.ckpCmdp 0) 0x40 8 (Reg.ckpCmdp p) = some p.val := by
  revert p
  decide

section Registers
variable (s : State) (port : Nat) (p : Part) (io : IoResult)

theorem blkOf_ckp : blkOf Pg.ckp = .ckp := rfl

theorem regAct_ckpArmp (v : W32) : s.regAct port Pg.ckp (Reg.ckpArmp p) v io = (0, s.ckpArm p v) := by
  unfold State.regAct
  simp only [blkOf_ckp, regIndex_armp_ckpArmp]
  rfl

/-- A write of CKP_CMDp aborts a restore, starts one, or both. -/
theorem regAct_ckpCmdp (v : W32) :
    s.regAct port Pg.ckp (Reg.ckpCmdp p) v io =
      (0, if bit v 0 then (if bit v 1 then s.abortRestore p else s).startRestore p
          else if bit v 1 then s.abortRestore p else s) := by
  unfold State.regAct
  simp only [blkOf_ckp, regIndex_armp_ckpCmdp, regIndex_cmdp_ckpCmdp]
  rfl

theorem regAct_ckpCmdp_restore : s.regAct port Pg.ckp (Reg.ckpCmdp p) 1 io = (0, s.startRestore p) := by
  rw [regAct_ckpCmdp, if_pos (by decide), if_neg (by decide)]

theorem regAct_ckpCmdp_abort : s.regAct port Pg.ckp (Reg.ckpCmdp p) 2 io = (0, s.abortRestore p) := by
  rw [regAct_ckpCmdp, if_neg (by decide), if_pos (by decide)]

end Registers

/-! Arming (R371) -/

section Arm
variable {s t : State} {p : Nat} {step : W32} {l : List (Nat × Nat × Nat)}

theorem ckpArm_unread (list : (s.setReg Pg.ckp (Reg.ckpArmp p) step).shardList p = (none, t)) :
    s.ckpArm p step = (t.setCkpt p { t.ckpt p with armed := none }).snapFail p := by
  unfold State.ckpArm
  simp only [list]

theorem ckpArm_read (list : (s.setReg Pg.ckp (Reg.ckpArmp p) step).shardList p = (some l, t)) :
    s.ckpArm p step =
      if t.shardsFit p l then t.setCkpt p { t.ckpt p with armed := some step }
      else t.setCkpt p { t.ckpt p with armed := none, sstat := 4 } := by
  unfold State.ckpArm
  simp only [list]

end Arm

/-! The buddy's writes and reads (R374) -/

/-- The partition in whose GUEST slots the source of a CK_WRITE may write its bytes. -/
def State.guestOf (s : State) (pkt : Packet) : Option Nat :=
  (List.range 8).find? fun q =>
    s.rb Pg.ckp (Reg.ckpGuestp q) 31 &&
      decide (s.rf Pg.ckp (Reg.ckpGuestp q) 27 16 = pkt.tag ∧ s.rf Pg.ckp (Reg.ckpGuestp q) 15 0 = pkt.src.toNat ∧
        2 * s.ckpSlot q ≤ pkt.fld 0x20 63 0 ∧ pkt.fld 0x20 63 0 + pkt.payload.length ≤ 4 * s.ckpSlot q)

section Guest
variable {s t v : State} {pkt : Packet} {q : Nat}

theorem doCkWrite_none (absent : s.takeEjected pkt = none) : s.doCkWrite pkt = s := by
  unfold State.doCkWrite
  simp only [absent, ite_self]

theorem doCkRead_none (absent : s.takeEjected pkt = none) : s.doCkRead pkt = s := by
  unfold State.doCkRead
  simp only [absent, ite_self]

section Write
variable (vc : pkt.vc = 6) (type : pkt.type = 10) (taken : s.takeEjected pkt = some t) (crc : pkt.crcOk = true)
  (on : t.isOn Pg.ckp = true)
include vc type taken crc on

theorem doCkWrite_outside (outside : t.guestOf pkt = none) : s.doCkWrite pkt = t.ckReply pkt 11 1 [] [] := by
  unfold State.guestOf at outside
  unfold State.doCkWrite
  simp only [vc, type, taken, crc, on, outside, ne_eq, not_true_eq_false, or_self, Bool.not_true, Bool.false_eq_true,
    if_false]

section Inside
variable (inside : t.guestOf pkt = some q)
include inside

theorem doCkWrite_written (put : t.write q (t.ckpBase q + pkt.fld 0x20 63 0) pkt.payload 0 = (none, v)) :
    s.doCkWrite pkt = v.ckReply pkt 11 0 [] [] := by
  unfold State.guestOf at inside
  unfold State.doCkWrite
  simp only [vc, type, taken, crc, on, inside, put, ne_eq, not_true_eq_false, or_self, Bool.not_true,
    Bool.false_eq_true, if_false]

theorem doCkWrite_poisoned (put : t.write q (t.ckpBase q + pkt.fld 0x20 63 0) pkt.payload 0 = (some .poison, v)) :
    s.doCkWrite pkt = v.ckReply pkt 11 2 [] [] := by
  unfold State.guestOf at inside
  unfold State.doCkWrite
  simp only [vc, type, taken, crc, on, inside, put, ne_eq, not_true_eq_false, or_self, Bool.not_true,
    Bool.false_eq_true, if_false]

end Inside
end Write

section Read
variable (vc : pkt.vc = 6) (type : pkt.type = 12) (taken : s.takeEjected pkt = some t) (crc : pkt.crcOk = true)
  (on : t.isOn Pg.ckp = true)
include vc type taken crc on

theorem doCkRead_untagged (untagged : t.tagPart pkt.tag = none) :
    s.doCkRead pkt = t.ckReply pkt 13 1 [(0x14, 1, 0, pkt.fld 0x14 1 0)] [] := by
  unfold State.doCkRead
  simp only [vc, type, taken, crc, on, untagged, ne_eq, not_true_eq_false, or_self, Bool.not_true, Bool.false_eq_true,
    if_false]

section Tagged
variable (tagged : t.tagPart pkt.tag = some q)
include tagged

theorem doCkRead_outside
    (outside : ¬(pkt.fld 0x20 63 0 + pkt.len ≤ 4 * t.ckpSlot q ∧ pkt.len ≤ 8192)) :
    s.doCkRead pkt = t.ckReply pkt 13 1 [(0x14, 1, 0, pkt.fld 0x14 1 0)] [] := by
  rw [not_and_or, Nat.not_le, Nat.not_le] at outside
  unfold State.doCkRead
  simp only [vc, type, taken, crc, on, tagged, if_pos outside, ne_eq, not_true_eq_false, or_self, Bool.not_true,
    Bool.false_eq_true, if_false]

theorem doCkRead_reads {bs : List Byte} (within : pkt.fld 0x20 63 0 + pkt.len ≤ 4 * t.ckpSlot q ∧ pkt.len ≤ 8192)
    (read : t.read q (t.ckpBase q + pkt.fld 0x20 63 0) pkt.len = (.ok bs, v)) :
    s.doCkRead pkt = v.ckReply pkt 13 0 [(0x14, 1, 0, pkt.fld 0x14 1 0)] bs := by
  have inside : ¬(4 * t.ckpSlot q < pkt.fld 0x20 63 0 + pkt.len ∨ 8192 < pkt.len) := by
    rwa [not_or, Nat.not_lt, Nat.not_lt]
  unfold State.doCkRead
  simp only [vc, type, taken, crc, on, tagged, if_neg inside, read, ne_eq, not_true_eq_false, or_self, Bool.not_true,
    Bool.false_eq_true, if_false]

end Tagged
end Read
end Guest

/-! Acknowledgements (R372) -/

/-- The partition whose snapshot waits for an acknowledgement. -/
def State.ackOf (s : State) (pkt : Packet) : Option Nat :=
  (List.range 8).find? fun p =>
    decide (s.rf Pg.ckp (Reg.ckpBuddyp p) 27 16 = pkt.tag ∧ s.rf Pg.ckp (Reg.ckpBuddyp p) 15 0 = pkt.src.toNat) &&
      ((s.ckpt p).snap.any (fun x => x.acks.any (fun a => decide (a.1 = pkt.fld 0x20 63 0))))

/-- The snapshot of a partition with an acknowledgement that it waited for. -/
def State.acked (s : State) (p : Nat) (pkt : Packet) : State :=
  s.updSnap p fun x =>
    let x := { x with acks := x.acks.eraseP (fun a => decide (a.1 = pkt.fld 0x20 63 0)) }
    if !x.opened then { x with opened := true } else if x.guestHdr then { x with guestDone := true } else x

section Ack
variable {s t : State} {pkt : Packet} {p : Nat}

theorem doCkAck_none (absent : s.takeEjected pkt = none) : s.doCkAck pkt = s := by
  unfold State.doCkAck
  simp only [absent, ite_self]

section Came
variable (vc : pkt.vc = 6) (type : pkt.type = 11) (taken : s.takeEjected pkt = some t)
include vc type taken

/-- An acknowledgement that a snapshot waits for fails its guest copy or lets it go on. -/
theorem doCkAck_taken :
    s.doCkAck pkt =
      match t.ackOf pkt, pkt.crcOk with
      | some p, true =>
        if pkt.fld 0x18 24 22 ≠ 0 then t.guestFail p
        else
          let v := t.acked p pkt
          (if (v.ckpt p).snap.any (·.guestDone) then v.bump Pg.ckp Reg.ckpCntCommit else v).snapNext p
      | _, _ => t := by
  unfold State.doCkAck
  simp only [vc, type, taken, ne_eq, not_true_eq_false, or_self, if_false]
  rfl

theorem doCkAck_stray (stray : t.ackOf pkt = none ∨ pkt.crcOk = false) : s.doCkAck pkt = t := by
  rw [doCkAck_taken vc type taken]
  obtain none | bad := stray
  · rw [none]
  · rw [bad]
    cases t.ackOf pkt <;> rfl

section Mine
variable (mine : t.ackOf pkt = some p) (crc : pkt.crcOk = true)
include mine crc

theorem doCkAck_refused (refused : pkt.fld 0x18 24 22 ≠ 0) : s.doCkAck pkt = t.guestFail p := by
  rw [doCkAck_taken vc type taken, mine, crc]
  exact if_pos refused

theorem doCkAck_goesOn (ok : pkt.fld 0x18 24 22 = 0) :
    s.doCkAck pkt =
      (if ((t.acked p pkt).ckpt p).snap.any (·.guestDone) then (t.acked p pkt).bump Pg.ckp Reg.ckpCntCommit
        else t.acked p pkt).snapNext p := by
  rw [doCkAck_taken vc type taken, mine, crc]
  exact if_neg (not_not_intro ok)

end Mine
end Came
end Ack

/-! The data of a restore (R375) -/

section Data
variable {s t v : State} {pkt : Packet} {p : Nat} {x : Restore} {d : BitVec 256}

theorem doCkData_none (absent : s.takeEjected pkt = none) : s.doCkData pkt = s := by
  unfold State.doCkData
  simp only [absent, ite_self]

section Asked
variable (vc : pkt.vc = 6) (type : pkt.type = 13) (taken : s.takeEjected pkt = some t)
  (tagged : t.tagPart pkt.tag = some p) (restore : (t.ckpt p).restore = some x) (crc : pkt.crcOk = true)
  (asked : x.asked.map (·.1) = some (pkt.fld 0x20 63 0)) (entry : t.restoreEntry p x.entry = (none, d, v))
  (holder : rsHolder d = pkt.src)
include vc type taken tagged restore crc asked entry holder

/-- Data that the restore asked for are taken, or end it, by their status. -/
theorem doCkData_asked :
    s.doCkData pkt =
      match pkt.fld 0x18 24 22 with
      | 0 => if pkt.payload.length = (if x.stage = 3 then 4096 else 64) then v.restoreTake p x d pkt.payload else v
      | 2 => v.restoreFail p 5
      | _ => v.restoreFail p 1 := by
  unfold State.doCkData
  simp only [vc, type, taken, tagged, restore, crc, asked, entry, holder, ne_eq, not_true_eq_false, or_self,
    Bool.not_true, Bool.false_eq_true, if_false]
    <;> rfl

theorem doCkData_takes (ok : pkt.fld 0x18 24 22 = 0)
    (size : pkt.payload.length = (if x.stage = 3 then 4096 else 64)) :
    s.doCkData pkt = v.restoreTake p x d pkt.payload := by
  rw [doCkData_asked vc type taken tagged restore crc asked entry holder, ok]
  exact if_pos size

theorem doCkData_poisoned (poisoned : pkt.fld 0x18 24 22 = 2) : s.doCkData pkt = v.restoreFail p 5 := by
  simp only [doCkData_asked vc type taken tagged restore crc asked entry holder, poisoned]

theorem doCkData_refused (refused : pkt.fld 0x18 24 22 = 1) : s.doCkData pkt = v.restoreFail p 1 := by
  simp only [doCkData_asked vc type taken tagged restore crc asked entry holder, refused]

end Asked
end Data

/-! What waits too long (R372, R375) -/

/-- CKP_TMO has passed since a time. -/
def State.ckpLate (s : State) (at_ : Nat) : Bool := decide (at_ + (s.reg Pg.ckp Reg.ckpTmo).toNat ≤ s.now)

/-- An acknowledgement of the partition's guest copy is late. -/
def State.guestLate (s : State) (p : Nat) : Bool :=
  (s.ckpt p).snap.any (fun x => x.guest && x.acks.any (fun a => s.ckpLate a.2))

/-- The data that the partition's restore asked for are late. -/
def State.restoreLate (s : State) (p : Nat) : Bool :=
  (s.ckpt p).restore.any (fun r => r.asked.any (fun a => s.ckpLate a.2))

section Timeout
variable {s : State} {p : Nat}

theorem doCkpTimeout_guest (late : s.guestLate p = true) :
    s.doCkpTimeout p = if s.restoreLate p then (s.guestFail p).restoreFail p 4 else s.guestFail p := by
  unfold State.doCkpTimeout
  extract_lets lateOf c t
  have ended : t = s.guestFail p := if_pos late
  rw [ended]
  rfl

theorem doCkpTimeout_noGuest (early : s.guestLate p = false) :
    s.doCkpTimeout p = if s.restoreLate p then s.restoreFail p 4 else s := by
  unfold State.doCkpTimeout
  extract_lets lateOf c t
  have kept : t = s := if_neg (Bool.eq_false_iff.1 early)
  rw [kept]
  rfl

end Timeout

/-- Settles O47: arming by the shard list, a packet by the copy or restore that it belongs to, and a wait by the time
that has passed. -/
theorem checkpointsAndRestores : Obligations.CheckpointsAndRestores := by
  unfold Obligations.CheckpointsAndRestores
  refine ⟨fun r p step l v => ⟨?_, ?_, ?_, ?_, ?_⟩, fun pkt t v q bs => ⟨?_, ?_, ?_, ?_, ?_, ?_, ?_, ?_⟩,
    fun pkt t v p x d => ⟨?_, ?_, ?_, ?_, ?_, ?_, ?_, ?_, ?_⟩, fun p => ⟨?_, ?_, ?_, ?_⟩⟩
  · exact writeDoes_of (fun _ => rfl) fun u _ ⟨list, fit⟩ => by rw [regAct_ckpArmp, ckpArm_read list, if_pos fit]
  · exact writeDoes_of (fun _ => rfl) fun u _ ⟨list, misfit⟩ => by
      rw [regAct_ckpArmp, ckpArm_read list, if_neg (Bool.eq_false_iff.1 misfit)]
  · exact writeDoes_of (fun _ => rfl) fun u _ list => by rw [regAct_ckpArmp, ckpArm_unread list]
  · exact writeDoes_of (fun _ => rfl) fun u _ _ => by
      rw [regAct_ckpCmdp_restore, State.startRestore]
  · exact writeDoes_of (fun _ => rfl) fun u _ _ => by
      rw [regAct_ckpCmdp_abort, State.abortRestore]
  · exact workDoes_of (fun _ => rfl) fun u ⟨⟨vc, type, taken, crc, on⟩, inside, put⟩ =>
      doCkWrite_written vc type taken crc on inside put
  · exact workDoes_of (fun _ => rfl) fun u ⟨⟨vc, type, taken, crc, on⟩, inside, put⟩ =>
      doCkWrite_poisoned vc type taken crc on inside put
  · exact workDoes_of (fun _ => rfl) fun u ⟨⟨vc, type, taken, crc, on⟩, outside⟩ =>
      doCkWrite_outside vc type taken crc on outside
  · exact workDoes_of (fun _ => rfl) fun u absent => doCkWrite_none absent
  · exact workDoes_of (fun _ => rfl) fun u ⟨⟨vc, type, taken, crc, on⟩, tagged, within, read⟩ =>
      doCkRead_reads vc type taken crc on tagged within read
  · exact workDoes_of (fun _ => rfl) fun u ⟨⟨vc, type, taken, crc, on⟩, tagged, outside⟩ =>
      doCkRead_outside vc type taken crc on tagged outside
  · exact workDoes_of (fun _ => rfl) fun u ⟨⟨vc, type, taken, crc, on⟩, untagged⟩ =>
      doCkRead_untagged vc type taken crc on untagged
  · exact workDoes_of (fun _ => rfl) fun u absent => doCkRead_none absent
  · exact workDoes_of (fun _ => rfl) fun u ⟨⟨vc, type, taken⟩, mine, crc, refused⟩ =>
      doCkAck_refused vc type taken mine crc refused
  · exact workDoes_of (fun _ => rfl) fun u ⟨⟨vc, type, taken⟩, mine, crc, ok, done⟩ =>
      (doCkAck_goesOn vc type taken mine crc ok).trans (congrArg (State.snapNext · p) (if_pos done))
  · exact workDoes_of (fun _ => rfl) fun u ⟨⟨vc, type, taken⟩, mine, crc, ok, more⟩ =>
      (doCkAck_goesOn vc type taken mine crc ok).trans
        (congrArg (State.snapNext · p) (if_neg (Bool.eq_false_iff.1 more)))
  · exact workDoes_of (fun _ => rfl) fun u ⟨⟨vc, type, taken⟩, stray⟩ => doCkAck_stray vc type taken stray
  · exact workDoes_of (fun _ => rfl) fun u absent => doCkAck_none absent
  · exact workDoes_of (fun _ => rfl)
      fun u ⟨⟨vc, type, taken, tagged, restore, crc, asked, entry, holder⟩, ok, size⟩ =>
      doCkData_takes vc type taken tagged restore crc asked entry holder ok size
  · exact workDoes_of (fun _ => rfl)
      fun u ⟨⟨vc, type, taken, tagged, restore, crc, asked, entry, holder⟩, poisoned⟩ =>
      doCkData_poisoned vc type taken tagged restore crc asked entry holder poisoned
  · exact workDoes_of (fun _ => rfl)
      fun u ⟨⟨vc, type, taken, tagged, restore, crc, asked, entry, holder⟩, refused⟩ =>
      doCkData_refused vc type taken tagged restore crc asked entry holder refused
  · exact workDoes_of (fun _ => rfl) fun u absent => doCkData_none absent
  · exact workDoes_of (fun _ => rfl) fun u ⟨guest, asked⟩ =>
      (doCkpTimeout_guest guest).trans (if_neg (Bool.eq_false_iff.1 asked))
  · exact workDoes_of (fun _ => rfl) fun u ⟨guest, asked⟩ => (doCkpTimeout_noGuest guest).trans (if_pos asked)
  · exact workDoes_of (fun _ => rfl) fun u ⟨guest, asked⟩ => (doCkpTimeout_guest guest).trans (if_pos asked)
  · exact workDoes_of (fun _ => rfl) fun u ⟨guest, asked⟩ =>
      (doCkpTimeout_noGuest guest).trans (if_neg (Bool.eq_false_iff.1 asked))

end Sys2Proof.Machine
end

section
/-! The security and debug pages (R385, R386, R390, R398 to R404): the handover of the management role, image switches,
weight bundles, scrubs, the debug level and the debug window. -/
namespace Sys2Proof.Machine

/-! The management role and image switches (R385, R386) -/

section Management
variable (s : State) (port : Nat) (io : IoResult)

theorem regAct_secMgmt (v : W32) : s.regAct port Pg.sec Reg.secMgmt v io = s.mgmtWrite v := rfl

theorem regAct_mgtCmd_swap : s.regAct port Pg.mgt Reg.mgtCmd 1 io = s.swapWrite := rfl

variable {s}

theorem swapWrite_unstaged (unstaged : s.sec.mgtState ≠ .staged) : s.swapWrite = (4, s) := if_pos unstaged

/-- A staged image is switched to where it verifies for this device and has the running image's signer. -/
theorem swapWrite_staged (staged : s.sec.mgtState = .staged) :
    s.swapWrite =
      if s.stagedWord 8 = 1 ∧ s.imageOk ∧ s.stagedWord 0x050 = s.sec.signer ∧
          (s.sec.signer = 1 → BitVec.ofNat 128 (leNat (s.staged 0x168 16)) = s.sec.certId) then
        (0, { s with sec := { s.sec with mgtState := .switching, swapAt := s.now, mgtNext := s.imageMeas } })
      else (0, ({ s with sec := { s.sec with mgtState := .verifyFail } } : State).imageFail) :=
  if_neg (not_not_intro staged)

theorem doSwapComplete_still (still : s.switching = false) : s.doSwapComplete = s := if_pos (congrArg not still)

end Management

/-! Weight bundles (R400) -/

section Bundles
variable {s : State} {port : Nat} {p : Part}

theorem bit_go_secBcmd (p : Part) : bit (w32 (at_ 31 1 + p.val)) 31 = true := by
  revert p
  decide

theorem part_secBcmd (p : Part) : (Fin.ofNat 8 (fld (w32 (at_ 31 1 + p.val)) 2 0) : Fin 8) = p := by
  revert p
  decide

theorem regAct_secBcmd (s : State) (port : Nat) (v : W32) (io : IoResult) :
    s.regAct port Pg.sec Reg.secBcmd v io = s.bundleWrite port v := rfl

/-- The port may open a bundle for the partition: the management port, or the owner port under a session. -/
def State.mayOpen (s : State) (port : Nat) (p : Part) : Prop :=
  s.sec.mgmt.map (·.val) = some port ∨
    (s.ctlPort port).session.isSome = true ∧ s.parPort p.val = port ∧ s.parOff p.val = false

/-- A write of SEC_BCMD with GO is denied to other ports, and opens one bundle at a time. -/
theorem bundleWrite_go_denied (denied : ¬s.mayOpen port p) :
    s.bundleWrite port (w32 (at_ 31 1 + p.val)) = (2, s) := by
  have refused : s.sec.mgmt.map (·.val) ≠ some port ∧
      (!decide ((s.ctlPort port).session.isSome = true ∧ s.parPort p.val = port ∧ (!s.parOff p.val) = true)) = true := by
    unfold State.mayOpen at denied
    rw [not_or] at denied
    exact ⟨denied.1, congrArg not (decide_eq_false fun ⟨session, port, runs⟩ =>
      denied.2 ⟨session, port, by rwa [Bool.not_eq_true'] at runs⟩)⟩
  unfold State.bundleWrite
  rw [part_secBcmd]
  exact if_pos refused

theorem bundleWrite_go_may (may : s.mayOpen port p) :
    s.bundleWrite port (w32 (at_ 31 1 + p.val)) =
      if s.sec.opening.isSome then (4, s) else (0, { s with sec := { s.sec with opening := some p } }) := by
  have admitted : ¬(s.sec.mgmt.map (·.val) ≠ some port ∧
      (!decide ((s.ctlPort port).session.isSome = true ∧ s.parPort p.val = port ∧ (!s.parOff p.val) = true)) = true) := by
    rintro ⟨notManager, notOwner⟩
    obtain manager | owner := may
    · exact notManager manager
    · simp [owner] at notOwner
  unfold State.bundleWrite
  rw [part_secBcmd, bit_go_secBcmd]
  exact if_neg admitted

/-- The open of a bundle has ended with a status. -/
def State.bundleEnded (s : State) (st : Nat) : State := { s with sec := { s.sec with opening := none, bStat := st } }

theorem doBundleDone_none (idle : s.sec.opening = none) : s.doBundleDone = s := by
  unfold State.doBundleDone
  simp only [idle]

section Opening
variable {st : Nat} {k : BitVec 512} {id : BitVec 128} (opening : s.sec.opening = some p)
include opening

theorem doBundleDone_keys
    (key : s.bundleTry p.val (s.reg64 Pg.sec Reg.secBaddrLo Reg.secBaddrHi) = (st, some (k, id))) :
    s.doBundleDone =
      (s.bundleEnded st).setPartSec p.val { (s.bundleEnded st).partSec p.val with kc := some k, bundle := some id } := by
  unfold State.doBundleDone
  simp only [opening, key]
  rfl

theorem doBundleDone_fails (noKey : s.bundleTry p.val (s.reg64 Pg.sec Reg.secBaddrLo Reg.secBaddrHi) = (st, none)) :
    s.doBundleDone =
      (((s.bundleEnded st).errorOpen Pg.sec Cls.task p.val 0x11).irq Pg.sec 18).bump Pg.sec Reg.secCntBfail := by
  unfold State.doBundleDone
  simp only [opening, noKey]
  rfl

end Opening
end Bundles

/-! Scrubs (R390) -/

theorem blkOf_par (p : Part) : blkOf (Pg.par p.val) = .par := by
  revert p
  decide

theorem instOf_par (p : Part) : instOf (Pg.par p.val) = p.val := by
  revert p
  decide

section Scrub
variable {s : State} {p : Nat}

theorem regAct_parCmd_scrub (s : State) (port : Nat) (p : Part) (io : IoResult) :
    s.regAct port (Pg.par p.val) Reg.parCmd 1 io = s.scrubWrite p.val := by
  unfold State.regAct
  simp only [blkOf_par, instOf_par]
  rfl

theorem scrubWrite_starts (off : s.parOff p = true) (dirty : (s.partSec p).dirty = true)
    (idle : (s.partSec p).scrubbing = false) :
    s.scrubWrite p = (0, s.setPartSec p { s.partSec p with scrubbing := true, scrubbed := 0 }) := by
  unfold State.scrubWrite
  simp only [off, dirty, idle, Bool.and_self, Bool.false_eq_true, if_true, if_false]
  rfl

theorem scrubWrite_refused (refused : s.parOff p = false ∨ (s.partSec p).dirty = false) : s.scrubWrite p = (4, s) := by
  refine if_neg fun may => ?_
  obtain ⟨off, dirty⟩ := Bool.and_eq_true_iff.1 may
  exact refused.elim (fun on => Bool.false_ne_true (on.symm.trans off))
    fun clean => Bool.false_ne_true (clean.symm.trans dirty)

theorem doScrubDone_idle (idle : (s.partSec p).scrubbing = false) : s.doScrubDone p = s := if_pos (congrArg not idle)

theorem doScrubDone_clears (scrubbing : (s.partSec p).scrubbing = true) :
    s.doScrubDone p =
      (let lo := s.gdrLo p
       let hi := s.gdrHi p
       let t := { s with mem := SMap.dropRange s.mem lo hi, poison := s.poison.dropRange (lo / 512) (hi / 512) }
       (t.setPartSec p { s.partSec p with
          scrubbing := false, dirty := false, scrubbed := (hi - lo) / 2 ^ 30 }).irq (Pg.par p) 16) :=
  if_neg (by simp [scrubbing])

end Scrub

/-! The debug level and the debug window (R401, R403) -/

section Debug
variable (s : State) (port : Nat) (io : IoResult)

theorem regAct_dbgCmd (v : W32) : s.regAct port Pg.dbg Reg.dbgCmd v io = (0, s.dbgCmd v) := rfl

theorem dbgCmd_apply : s.dbgCmd 1 = s.applyToken := by
  unfold State.dbgCmd
  rw [if_pos (by decide), if_neg (by decide)]

theorem dbgCmd_revoke : s.dbgCmd 2 = s.dropGrant := by
  unfold State.dbgCmd
  rw [if_neg (by decide), if_pos (by decide)]

theorem regAct_dbgAdata (v : W32) :
    s.regAct port Pg.dbg Reg.dbgAdata v io = (0, ((s.plainWrite port Pg.dbg Reg.dbgAdata v).dbgAccess (some v)).2) := rfl

variable {s}

theorem dbgAccess_refused {wr : Option W32} (refused : s.dbgStatus ≠ 0) :
    s.dbgAccess wr = s.dbgRefuse s.dbgStatus := by
  unfold State.dbgAccess
  rw [if_pos refused]

end Debug

/-- A read of DBG_ADATA that the port may make performs one access. -/
theorem cfgRead_dbgAdata {s : State} {port : Nat} (env : Env)
    (may : (s.unheld port).mayRead port Pg.dbg Reg.dbgAdata = true) :
    s.cfgRead port (regKey Pg.dbg Reg.dbgAdata) env =
      ((0, ((s.unheld port).dbgAccess none).1), ((s.unheld port).dbgAccess none).2) := by
  have page : regKey Pg.dbg Reg.dbgAdata / 0x1000 = Pg.dbg := page_regKey (by decide)
  have offset : regKey Pg.dbg Reg.dbgAdata % 0x1000 = Reg.dbgAdata := offset_regKey (by decide)
  have mapped : (rowOf Pg.dbg).isNone = false := by decide
  have acts : actsOnRead Pg.dbg Reg.dbgAdata = true := by decide
  have aligned : ¬Reg.dbgAdata % 4 ≠ 0 := by decide
  unfold State.unheld at *
  unfold State.cfgRead
  simp only [page, offset, mapped, acts, may, if_neg aligned, Bool.not_true, Bool.false_eq_true, if_false, if_true]
  rfl

/-- Settles O44: a command by who may give it and the state that it finds, and an event by whether it is due. -/
theorem securityCommands : Obligations.SecurityCommands := by
  unfold Obligations.SecurityCommands
  refine ⟨fun r data => ⟨?_, ?_⟩, fun r => ⟨?_, ?_, ?_⟩, ?_, ?_, fun r p => ⟨?_, ?_, ?_⟩,
    fun p st k id => ⟨?_, ?_, ?_⟩, fun r p => ⟨?_, ?_, ?_, ?_⟩,
    fun r => ⟨?_, ?_, ?_, ?_, fun v => ⟨?_, ?_⟩, fun len => ?_⟩⟩
  · exact writeDoes_of (fun _ => rfl) fun u _ ready => (regAct_secMgmt u r.port _ data).trans (if_pos ready)
  · exact writeDoes_of (fun _ => rfl) fun u _ unready => (regAct_secMgmt u r.port _ data).trans (if_neg unready)
  · exact writeDoes_of (fun _ => rfl) fun u _ unstaged => by rw [regAct_mgtCmd_swap, swapWrite_unstaged unstaged]
  · exact writeDoes_of (fun _ => rfl) fun u _ ⟨staged, good⟩ => by
      rw [regAct_mgtCmd_swap, swapWrite_staged staged, if_pos good]
  · exact writeDoes_of (fun _ => rfl) fun u _ ⟨staged, bad⟩ => by
      rw [regAct_mgtCmd_swap, swapWrite_staged staged, if_neg bad]
  · exact eventDoes_of (fun _ => rfl) fun u switching => if_neg (by simp [switching])
  · exact eventDoes_of (fun _ => rfl) fun u still => doSwapComplete_still still
  · exact writeDoes_of (fun _ => rfl) fun u _ denied => by rw [regAct_secBcmd, bundleWrite_go_denied denied]
  · exact writeDoes_of (fun _ => rfl) fun u _ ⟨may, busy⟩ => by
      rw [regAct_secBcmd, bundleWrite_go_may may, if_pos busy]
  · exact writeDoes_of (fun _ => rfl) fun u _ ⟨may, idle⟩ => by
      rw [regAct_secBcmd, bundleWrite_go_may may, if_neg (by simp [idle])]
  · exact eventDoes_of (fun _ => rfl) fun u ⟨opening, key⟩ => doBundleDone_keys opening key
  · exact eventDoes_of (fun _ => rfl) fun u ⟨opening, noKey⟩ => doBundleDone_fails opening noKey
  · exact eventDoes_of (fun _ => rfl) fun u idle => doBundleDone_none idle
  · exact writeDoes_of (fun _ => rfl) fun u _ ⟨off, dirty, idle⟩ => by
      rw [regAct_parCmd_scrub, scrubWrite_starts off dirty idle]
  · exact writeDoes_of (fun _ => rfl) fun u _ refused => by rw [regAct_parCmd_scrub, scrubWrite_refused refused]
  · exact eventDoes_of (fun _ => rfl) fun u scrubbing => doScrubDone_clears scrubbing
  · exact eventDoes_of (fun _ => rfl) fun u idle => doScrubDone_idle idle
  · exact writeDoes_of (fun _ => rfl) fun u _ _ => by rw [regAct_dbgCmd, dbgCmd_apply]
  · exact writeDoes_of (fun _ => rfl) fun u _ _ => by rw [regAct_dbgCmd, dbgCmd_revoke, State.dropGrant]
  · exact eventDoes_of (fun _ => rfl) fun u expired => if_pos expired
  · exact eventDoes_of (fun _ => rfl) fun u valid =>
      if_neg fun ⟨level, expired⟩ => valid.elim level (Nat.not_lt.2 expired)
  · exact writeDoes_of (fun _ => rfl) fun u _ refused => by rw [regAct_dbgAdata, dbgAccess_refused refused]
  · exact writeDoes_of (fun _ => rfl) fun u _ _ => regAct_dbgAdata u r.port _ v
  · refine requestDoes_of
      (act := fun u => (⟨(u.cfgRead r.port (regKey Pg.dbg Reg.dbgAdata) Env.none).1.1,
        toLE 4 (u.cfgRead r.port (regKey Pg.dbg Reg.dbgAdata) Env.none).1.2.toNat⟩,
        (u.cfgRead r.port (regKey Pg.dbg Reg.dbgAdata) Env.none).2))
      (fun _ => rfl) (fun u may => ?_) (decide_eq_true len)
    rw [cfgRead_dbgAdata Env.none may]
    rfl

end Sys2Proof.Machine
end

section
/-! Supply, clocks, throttling and temperature (R409 to R413): what a reading of each does. -/
namespace Sys2Proof.Machine

/-! The supply (R409) -/

section Supply
variable {s : State} {mv : Nat}

theorem doUndervolt_noted (sound : 48000 ≤ mv) : s.doUndervolt mv = s.setPwr (fun x => { x with supply := mv }) :=
  if_pos sound

theorem doUndervolt_stops (low : mv < 48000) :
    s.doUndervolt mv =
      (((((s.setPwr (fun x => { x with supply := mv })).irq Pg.pwr 22).bump Pg.pwr Reg.pwrCntUv).alert 2).errorOpen
        Pg.pwr Cls.device 0 0x11).pfwNow :=
  if_neg (Nat.not_le.2 low)

theorem doSupplyFail_noted (sound : 45000 ≤ mv ∧ mv ≤ 62000) :
    s.doSupplyFail mv = s.setPwr (fun x => { x with supply := mv }) :=
  if_neg (by omega)

end Supply

/-! Clocks (R410) -/

section Clocks
variable {s : State} {b : Nat}

theorem doPllUnlock_unused (unused : s.pllUsed b = false) : s.doPllUnlock b = s := if_pos (congrArg not unused)

theorem doPllUnlock_used (used : s.pllUsed b = true) :
    s.doPllUnlock b =
      (((s.setPwr (fun x => { x with pll := setBit x.pll b false })).bump Pg.clk Reg.clkCntUnlock).irq Pg.clk 16).error
        Pg.clk Cls.device 0 0x10 b :=
  if_neg (by simp [used])

end Clocks

/-! Throttling (R411) -/

/-- A change of k from one value to another is counted, and one that leaves 16 raises its event. -/
def State.stepNoted (s : State) (k k' : Nat) : State :=
  let s := if k' ≠ k then s.bump Pg.clk Reg.clkCntStep else s
  if k = 16 ∧ k' ≠ 16 then s.irq Pg.pwr 19 else s

section Throttle
variable {s : State} {k k' p10 : Nat} {tj : Int}

theorem stepNoted_same (same : k' = k) : s.stepNoted k k' = s := by
  unfold State.stepNoted
  rw [if_neg (not_not_intro same), if_neg (by omega)]

theorem stepNoted_changed (changed : k' ≠ k) :
    s.stepNoted k k' =
      if k = 16 then (s.bump Pg.clk Reg.clkCntStep).irq Pg.pwr 19 else s.bump Pg.clk Reg.clkCntStep := by
  unfold State.stepNoted
  rw [if_pos changed]
  by_cases full : k = 16
  · rw [if_pos ⟨full, full ▸ changed⟩, if_pos full]
  · rw [if_neg (fun h => full h.1), if_neg full]

/-- The loop of R411 has run for the east die. -/
def State.eastRun (s : State) (tj : Int) (p10 : Nat) : State :=
  s.setPwr (fun x =>
    { x with kEast := (s.throttleStep s.pwr.kEast s.pwr.downEast tj p10).1,
             downEast := (s.throttleStep s.pwr.kEast s.pwr.downEast tj p10).2, tEast := tj, p10 := p10 })

/-- The loop of R411 has run for the west die. -/
def State.westRun (s : State) (tj : Int) (p10 : Nat) : State :=
  s.setPwr (fun x =>
    { x with kWest := (s.throttleStep s.pwr.kWest s.pwr.downWest tj p10).1,
             downWest := (s.throttleStep s.pwr.kWest s.pwr.downWest tj p10).2, tWest := tj, p10 := p10 })

theorem doThrottle_east (on : s.pwr.groupE = true) :
    s.doThrottle 0 tj p10 =
      (s.eastRun tj p10).stepNoted s.pwr.kEast (s.throttleStep s.pwr.kEast s.pwr.downEast tj p10).1 :=
  if_neg (by simp [on])

theorem doThrottle_west (on : s.pwr.groupW = true) :
    s.doThrottle 1 tj p10 =
      (s.westRun tj p10).stepNoted s.pwr.kWest (s.throttleStep s.pwr.kWest s.pwr.downWest tj p10).1 :=
  if_neg (by simp [on])

theorem doThrottle_eastOff (off : s.pwr.groupE = false) : s.doThrottle 0 tj p10 = s := if_pos (congrArg not off)

theorem doThrottle_westOff (off : s.pwr.groupW = false) : s.doThrottle 1 tj p10 = s := if_pos (congrArg not off)

end Throttle

/-! The fast limit (R412) -/

theorem doPeak_holds {s : State} {w : Nat} (high : 2100 < w) (free : s.pwr.fast = false) :
    s.doPeak w = ((s.setPwr (fun x => { x with fast := true })).bump Pg.pwr Reg.pwrCntPeak).irq Pg.pwr 23 :=
  if_neg (by simp [high, free])

/-! Temperatures (R413) -/

section Temperature
variable {s : State}

theorem thermPin_tFabric : s.thermPin.pwr.tFabric = s.pwr.tFabric := by
  unfold State.thermPin
  dsimp only
  split
  · split
    · rfl
    · rw [alert_pwr, irq_pwr]
      rfl
  · split <;> rfl

theorem dieTrip_tFabric (east : Bool) : (s.dieTrip east).pwr.tFabric = s.pwr.tFabric := by
  unfold State.dieTrip
  extract_lets on t
  split
  · rw [errorOpen_pwr]
    cases east <;> rfl
  · rfl

/-- The readings of the three dies are noted. -/
def State.tempsSeen (s : State) (e w f : Int) : State :=
  s.setPwr (fun x => { x with tEast := e, tWest := w, tFabric := f })

/-- THERM_N follows the readings, and a compute die at its limit is off. -/
def State.tempsActed (s : State) (e w f : Int) : State := ((s.tempsSeen e w f).thermPin.dieTrip true).dieTrip false

theorem tempsActed_tFabric (e w f : Int) : (s.tempsActed e w f).pwr.tFabric = f := by
  unfold State.tempsActed
  rw [dieTrip_tFabric, dieTrip_tFabric, thermPin_tFabric]
  rfl

theorem doTempSample_shut {e w f : Int} (shut : s.pwr.tshut = true) : s.doTempSample e w f = s.tempsSeen e w f :=
  if_pos shut

theorem doTempSample_open {e w f : Int} (opened : s.pwr.tshut = false) :
    s.doTempSample e w f =
      if f < 105 then s.tempsActed e w f
      else (((s.tempsActed e w f).deviceReset 0 false).setPwr (fun x =>
        { x with tshut := true, therm := true, groupE := false, groupW := false, groupF := false, pll := 0 })).alert 1 := by
  have acted : s.doTempSample e w f = (s.tempsActed e w f).shutdown := if_neg (Bool.eq_false_iff.1 opened)
  rw [acted]
  unfold State.shutdown
  rw [tempsActed_tFabric]

end Temperature

/-- Settles O48: each reading by its limits, and the loop of R411 by whether the die has power and k changes. -/
theorem supplyClocksAndLimits : Obligations.SupplyClocksAndLimits := by
  unfold Obligations.SupplyClocksAndLimits
  refine ⟨fun mv => ⟨?_, ?_, ?_, ?_⟩, fun b => ⟨?_, ?_⟩, fun tj p10 => ⟨?_, ?_, ?_, ?_, ?_, ?_⟩,
    fun w => ⟨?_, ?_, ?_, ?_⟩, fun e w f => ⟨?_, ?_, ?_⟩⟩
  · exact eventDoes_of (fun _ => rfl) fun u sound => doUndervolt_noted sound
  · exact eventDoes_of (fun _ => rfl) fun u low => doUndervolt_stops low
  · exact alwaysDoes_of (fun _ => rfl) fun u out => if_pos out
  · exact alwaysDoes_of (fun _ => rfl) fun u sound => doSupplyFail_noted sound
  · exact eventDoes_of (fun _ => rfl) fun u used => doPllUnlock_used used
  · exact eventDoes_of (fun _ => rfl) fun u unused => doPllUnlock_unused unused
  · exact eventDoes_of (fun _ => rfl) fun u ⟨on, same⟩ => (doThrottle_east on).trans (stepNoted_same same)
  · exact eventDoes_of (fun _ => rfl) fun u ⟨on, changed⟩ => (doThrottle_east on).trans (stepNoted_changed changed)
  · exact eventDoes_of (fun _ => rfl) fun u off => doThrottle_eastOff off
  · exact eventDoes_of (fun _ => rfl) fun u ⟨on, same⟩ => (doThrottle_west on).trans (stepNoted_same same)
  · exact eventDoes_of (fun _ => rfl) fun u ⟨on, changed⟩ => (doThrottle_west on).trans (stepNoted_changed changed)
  · exact eventDoes_of (fun _ => rfl) fun u off => doThrottle_westOff off
  · exact eventDoes_of (fun _ => rfl) fun u ⟨high, free⟩ => doPeak_holds high free
  · exact eventDoes_of (fun _ => rfl) fun u idle => if_pos idle
  · exact eventDoes_of (fun _ => rfl) fun u low => if_pos low
  · exact eventDoes_of (fun _ => rfl) fun u high => if_neg (Nat.not_lt.2 high)
  · exact alwaysDoes_of (fun _ => rfl) fun u shut => doTempSample_shut shut
  · exact alwaysDoes_of (fun _ => rfl) fun u ⟨opened, cool⟩ => (doTempSample_open opened).trans (if_pos cool)
  · exact alwaysDoes_of (fun _ => rfl) fun u ⟨opened, hot⟩ =>
      (doTempSample_open opened).trans (if_neg (Int.not_lt.2 hot))

end Sys2Proof.Machine
end

section
/-! Power states (R414 to R417): requests, transitions, and the wake from A1. -/
namespace Sys2Proof.Machine

/-! Requests (R415) -/

section Request
variable {s : State} {t : Nat}

theorem bit_pwrCmd_devrst_go (t : BitVec 2) : bit (w32 (at_ 8 1 + t.toNat)) 31 = false := by
  revert t
  decide

theorem bit_pwrCmd_go (t : BitVec 2) : bit (w32 (at_ 8 1 + t.toNat)) 8 = true := by
  revert t
  decide

theorem fld_pwrCmd_target (t : BitVec 2) : fld (w32 (at_ 8 1 + t.toNat)) 1 0 = t.toNat := by
  revert t
  decide

theorem regAct_pwrCmd (s : State) (port : Nat) (v : W32) (io : IoResult) :
    s.regAct port Pg.pwr Reg.pwrCmd v io = s.pwrCmd v := rfl

theorem pwrCmd_request (t : BitVec 2) : s.pwrCmd (w32 (at_ 8 1 + t.toNat)) = s.stateRequest t.toNat := by
  unfold State.pwrCmd
  simp only [bit_pwrCmd_devrst_go, bit_pwrCmd_go, fld_pwrCmd_target, Bool.false_eq_true, false_and, if_false, if_true]

theorem stateRequest_taken (idle : s.pwr.pending = false) (powered : s.pwr.pfw = false) (may : s.mayEnter t = true) :
    s.stateRequest t = (0, s.setPwr (fun x => { x with pending := true, target := t })) :=
  if_neg (by simp [idle, powered, may])

theorem stateRequest_refused (refused : ¬(s.pwr.pending = false ∧ s.pwr.pfw = false ∧ s.mayEnter t = true)) :
    s.stateRequest t = (4, (s.bump Pg.pwr Reg.pwrCntRefused).irq Pg.pwr 18) := by
  rw [not_and_or, not_and_or, Bool.not_eq_false, Bool.not_eq_false, Bool.not_eq_true] at refused
  exact if_pos (refused.imp_right (Or.imp_right (congrArg not)))

end Request

/-! Transitions (R415, R417) -/

/-- The device has reached a power state. -/
def State.reached (s : State) (t : Nat) : State :=
  (s.setPwr (fun x => { x with state := t, pending := false })).irq Pg.pwr 17

section Done
variable {s : State}

theorem doStateDone_idle (idle : s.pwr.pending = false ∨ s.pwr.pfw = true) : s.doStateDone = s :=
  if_pos (idle.imp_left (congrArg not))

section Due
variable (pending : s.pwr.pending = true) (powered : s.pwr.pfw = false)
include pending powered

/-- A transition leaves the state it is in, enters its target, and has reached it. -/
theorem doStateDone_due :
    s.doStateDone =
      (let t := if 2 ≤ s.pwr.state ∧ s.pwr.state ≠ s.pwr.target then s.exitSleep else s
       let t := if 2 ≤ s.pwr.target ∧ t.pwr.state ≠ s.pwr.target then t.enterSleep s.pwr.target else t
       t.reached s.pwr.target) :=
  if_neg (by simp [pending, powered])

theorem doStateDone_awake (same : s.pwr.state = s.pwr.target ∨ (s.pwr.state < 2 ∧ s.pwr.target < 2)) :
    s.doStateDone = s.reached s.pwr.target := by
  rw [doStateDone_due pending powered, if_neg (by omega)]
  dsimp only
  rw [if_neg (by omega)]

theorem doStateDone_sleeps (awake : s.pwr.state < 2) (sleep : 2 ≤ s.pwr.target) :
    s.doStateDone = (s.enterSleep s.pwr.target).reached s.pwr.target := by
  rw [doStateDone_due pending powered, if_neg (by omega)]
  dsimp only
  rw [if_pos (by omega)]

theorem doStateDone_wakes (asleep : 2 ≤ s.pwr.state) (awake : s.pwr.target < 2) :
    s.doStateDone = s.exitSleep.reached s.pwr.target := by
  rw [doStateDone_due pending powered, if_pos (by omega)]
  dsimp only
  rw [if_neg (by omega)]

end Due
end Done

/-- Settles O49: a request by whether the device may take it, a transition by its two ends, and a wake by the next
launch. -/
theorem powerStates : Obligations.PowerStates := by
  unfold Obligations.PowerStates
  refine ⟨fun r t => ⟨?_, ?_⟩, ⟨?_, ?_, ?_, ?_⟩, ⟨?_, ?_⟩⟩
  · exact writeDoes_of (fun _ => rfl) fun u _ ⟨idle, powered, may⟩ => by
      rw [regAct_pwrCmd, pwrCmd_request, stateRequest_taken idle powered may]
  · exact writeDoes_of (fun _ => rfl) fun u _ refused => by
      rw [regAct_pwrCmd, pwrCmd_request, stateRequest_refused refused]
  · exact eventDoes_of (fun _ => rfl) fun u ⟨⟨pending, powered⟩, same⟩ => doStateDone_awake pending powered same
  · exact eventDoes_of (fun _ => rfl) fun u ⟨⟨pending, powered⟩, awake, sleep⟩ =>
      doStateDone_sleeps pending powered awake sleep
  · exact eventDoes_of (fun _ => rfl) fun u ⟨⟨pending, powered⟩, asleep, awake⟩ =>
      doStateDone_wakes pending powered asleep awake
  · exact eventDoes_of (fun _ => rfl) fun u idle => doStateDone_idle idle
  · exact eventDoes_of (fun _ => rfl) fun u wake => if_pos wake
  · exact eventDoes_of (fun _ => rfl) fun u later => if_neg later

end Sys2Proof.Machine
end

section
/-! Resets, the power-fail warning and start-up (R418 to R423). -/
namespace Sys2Proof.Machine

/-! Power-on and RST_N (R418, R419, R422) -/

section Pins
variable {s : State} {mv : Nat}

theorem doPowerOn_idle (idle : s.pwr.powered = true ∨ mv < 50000) : s.doPowerOn mv = s := if_pos idle

theorem doPowerOn_on (off : s.pwr.powered = false) (enough : 50000 ≤ mv) :
    s.doPowerOn mv = (s.toOff mv).setPwr (fun x => { x with powered := true, step := 1 }) :=
  if_neg (by simp [off, enough])

theorem doRstAssert_off (off : s.pwr.powered = false) : s.doRstAssert = s := if_pos (congrArg not off)

/-- RST_N low resets the device and holds it, in step 1 or before the release of step 2. -/
theorem doRstAssert_on (on : s.pwr.powered = true) :
    s.doRstAssert = s.deviceReset (if s.pwr.dev = .boot ∧ s.pwr.step = 1 then 1 else 2) true :=
  if_neg (by simp [on])

/-- The device is no longer held in reset. -/
def State.rstFreed (s : State) : State := s.setPwr (fun x => { x with inReset := false })

theorem doRstRelease_idle (idle : s.pwr.powered = false ∨ s.pwr.inReset = false) : s.doRstRelease = s :=
  if_pos (idle.imp (congrArg not) (congrArg not))

section Held
variable (on : s.pwr.powered = true) (held : s.pwr.inReset = true)
include on held

theorem doRstRelease_held :
    s.doRstRelease =
      if s.rstFreed.pwr.step = 1 ∨ (s.rstFreed.pwr.tshut ∧ !s.rstFreed.diesCool) then s.rstFreed
      else s.rstFreed.setPwr (fun x =>
        { x with step := 3, tshut := false, therm := x.therm && !x.tshut, groupE := true, groupW := true,
                 groupF := true, pll := x.pll ||| pllEarly }) :=
  if_neg (by simp [on, held])

theorem doRstRelease_resumes (step : s.pwr.step ≠ 1) (cool : s.pwr.tshut = false ∨ s.diesCool = true) :
    s.doRstRelease =
      s.rstFreed.setPwr (fun x =>
        { x with step := 3, tshut := false, therm := x.therm && !x.tshut, groupE := true, groupW := true,
                 groupF := true, pll := x.pll ||| pllEarly }) := by
  refine (doRstRelease_held on held).trans (if_neg ?_)
  rintro (first | ⟨shut, hot⟩)
  · exact step first
  · obtain opened | cool := cool
    · exact Bool.false_ne_true (opened.symm.trans shut)
    · exact Bool.false_ne_true ((congrArg not cool).symm.trans hot)

theorem doRstRelease_waits (waits : s.pwr.step = 1 ∨ (s.pwr.tshut = true ∧ s.diesCool = false)) :
    s.doRstRelease = s.rstFreed :=
  (doRstRelease_held on held).trans (if_pos (waits.imp_right (And.imp_right (congrArg not))))

end Held
end Pins

/-! DEVRST and BOOT_GO (R418, R423) -/

section Registers
variable {s : State}

theorem bit_devrst_go (key : Byte) : bit (w32 (at_ 31 1 + at_ 16 key.toNat)) 31 = true := by
  revert key
  decide

theorem bit_devrst_state (key : Byte) : bit (w32 (at_ 31 1 + at_ 16 key.toNat)) 8 = false := by
  revert key
  decide

theorem fld_devrst_key (key : Byte) : fld (w32 (at_ 31 1 + at_ 16 key.toNat)) 23 16 = key.toNat := by
  unfold fld w32 at_ nbits
  rw [BitVec.toNat_ofNat, Nat.shiftLeft_eq, Nat.shiftLeft_eq, Nat.shiftRight_eq_div_pow]
  omega

/-- A write of PWR_CMD with DEVRST asks for a reset where its key is right. -/
theorem pwrCmd_devrst (key : Byte) :
    s.pwrCmd (w32 (at_ 31 1 + at_ 16 key.toNat)) =
      (0, if key = 0x5A then s.setPwr (fun x => { x with rstReq := true }) else s) := by
  have right : key.toNat = 0x5A ↔ key = 0x5A := by bv_omega
  unfold State.pwrCmd
  simp only [bit_devrst_go, bit_devrst_state, fld_devrst_key, right, true_and, Bool.false_eq_true, if_false]
  rfl

theorem regAct_pwrBoot (s : State) (port : Nat) (v : W32) (io : IoResult) :
    s.regAct port Pg.pwr Reg.pwrBoot v io = (0, s.bootWrite v) := rfl

variable {v : W32}

/-- PWR_BOOT holds what is written to it. -/
def State.bootKept (s : State) (v : W32) : State := s.setReg Pg.pwr Reg.pwrBoot (v &&& 0x10FFF)

/-- Step 7 has been released. -/
def State.bootReleased (s : State) : State := s.setPwr (fun x => { x with bootGo := true })

theorem bootWrite_kept (noGo : bit v 31 = false) : s.bootWrite v = s.bootKept v := if_pos (congrArg not noGo)

theorem bootWrite_go (go : bit v 31 = true) :
    s.bootWrite v =
      if s.pwr.step = 6 ∧ s.pwr.tested = true ∧ (!s.pwr.pfw) = true then (s.bootKept v).bootReleased.beginStep7
      else (s.bootKept v).bootReleased :=
  if_neg (by simp [go])

theorem bootWrite_begins (go : bit v 31 = true) (step : s.pwr.step = 6) (tested : s.pwr.tested = true)
    (powered : s.pwr.pfw = false) : s.bootWrite v = (s.bootKept v).bootReleased.beginStep7 :=
  (bootWrite_go go).trans (if_pos ⟨step, tested, congrArg not powered⟩)

theorem bootWrite_waits (go : bit v 31 = true)
    (unready : ¬(s.pwr.step = 6 ∧ s.pwr.tested = true ∧ s.pwr.pfw = false)) :
    s.bootWrite v = (s.bootKept v).bootReleased :=
  (bootWrite_go go).trans
    (if_neg fun ⟨step, tested, powered⟩ => unready ⟨step, tested, by rwa [Bool.not_eq_true'] at powered⟩)

end Registers

/-! Start-up (R422) -/

/-- Start-up goes on to a step, in a state of the device. -/
def State.goStep (s : State) (k : Nat) (d : DevState) : State := s.setPwr (fun x => { x with step := k, dev := d })

section Startup
variable {s : State} {tests : List PageTest}

theorem doStartupStep_stopped (stopped : ¬(s.pwr.pfw = false ∧ s.pwr.dev ≠ .stopped)) : s.doStartupStep tests = s := by
  rw [not_and_or, Bool.not_eq_false, not_not] at stopped
  exact if_pos stopped

section Runs
variable (powered : s.pwr.pfw = false) (runs : s.pwr.dev ≠ .stopped)
include powered runs

theorem startup_proceeds : ¬(s.pwr.pfw = true ∨ s.pwr.dev = .stopped) := by
  rw [powered]
  exact not_or.2 ⟨Bool.false_ne_true, runs⟩

theorem doStartupStep_1 (step : s.pwr.step = 1) :
    s.doStartupStep tests =
      (s.setPwr (fun x => { x with groupE := true, groupW := true, groupF := true, pll := x.pll ||| pllEarly })).goStep 2
        .boot := by
  unfold State.doStartupStep
  simp only [if_neg (startup_proceeds powered runs), step]
  rfl

theorem doStartupStep_2 (step : s.pwr.step = 2) :
    s.doStartupStep tests = if s.pwr.inReset then s else s.goStep 3 .boot := by
  unfold State.doStartupStep
  simp only [if_neg (startup_proceeds powered runs), step]
  rfl

theorem doStartupStep_3 (step : s.pwr.step = 3) :
    s.doStartupStep tests =
      if s.pwr.inReset then s
      else ((({ s with sec := { s.sec with identity := true } } : State).setPwr
        (fun x => { x with pll := x.pll ||| pllLate })).goStep 4 .boot).newNonce.bootStart (Pg.ope 11) := by
  unfold State.doStartupStep
  simp only [if_neg (startup_proceeds powered runs), step]
  rfl

theorem doStartupStep_4 (step : s.pwr.step = 4) :
    s.doStartupStep tests =
      if s.isOn (Pg.ope 11) = true ∧ (List.range 4).any (fun n => s.ctlUp n) = true then s.goStep 5 .fwload else s := by
  unfold State.doStartupStep
  simp only [if_neg (startup_proceeds powered runs), step]
  rfl

theorem doStartupStep_5 (step : s.pwr.step = 5) :
    s.doStartupStep tests = if s.sec.mgmt.isSome = true then s.goStep 6 .selftest else s := by
  unfold State.doStartupStep
  simp only [if_neg (startup_proceeds powered runs), step]
  rfl

/-- The self-tests of step 6 have run. -/
def State.selfTested (s : State) (tests : List PageTest) : State :=
  if s.pwr.tested = true then s else (s.bootTests tests).setPwr (fun x => { x with tested := true })

theorem doStartupStep_6 (step : s.pwr.step = 6) :
    s.doStartupStep tests =
      if (s.selfTested tests).pwr.bootGo = true then (s.selfTested tests).beginStep7 else s.selfTested tests := by
  unfold State.doStartupStep
  simp only [if_neg (startup_proceeds powered runs), step]
  rfl

theorem doStartupStep_7 (step : s.pwr.step = 7) :
    s.doStartupStep tests =
      if s.started ((List.range 32).map Pg.gmc) = true then
        ((List.range 11).map Pg.ope ++ s.bootLinks).foldl (fun s g => s.bootStart g) (s.copyImage.goStep 8 .training)
      else s := by
  unfold State.doStartupStep
  simp only [if_neg (startup_proceeds powered runs), step]
  rfl

theorem doStartupStep_8 (step : s.pwr.step = 8) :
    s.doStartupStep tests =
      if s.started ((List.range 11).map Pg.ope ++ s.bootLinks) = true then s.goStep 9 .training else s := by
  unfold State.doStartupStep
  simp only [if_neg (startup_proceeds powered runs), step]
  rfl

theorem doStartupStep_9 (step : s.pwr.step = 9) :
    s.doStartupStep tests =
      if s.way.mode = .locked ∨ s.rb Pg.pwr Reg.pwrBoot 16 = true ∨
          s.pwr.firstMarker.any (fun t => decide (t + 2000000000 ≤ s.now)) = true then s.goStep 10 .training
      else s := by
  unfold State.doStartupStep
  simp only [if_neg (startup_proceeds powered runs), step]
  rfl

theorem doStartupStep_10 (step : s.pwr.step = 10) :
    s.doStartupStep tests = ((s.goStep 0 .ready).irq Pg.pwr 16).alert 4 := by
  unfold State.doStartupStep
  simp only [if_neg (startup_proceeds powered runs), step]
  rfl

end Runs
end Startup

/-- Settles O50: a pin and a command by the state that they find, and start-up by its step and what that waits for. -/
theorem resetsAndStartup : Obligations.ResetsAndStartup := by
  unfold Obligations.ResetsAndStartup
  refine ⟨fun mv => ⟨?_, ?_⟩, ⟨?_, ?_, ?_, ?_, ?_, ?_, ?_, ?_⟩, fun r key data => ⟨?_, ?_, ?_, ?_, ?_⟩,
    fun tests => ⟨⟨?_, ?_⟩, ⟨?_, ?_⟩, ⟨?_, ?_⟩, ⟨?_, ?_⟩, ⟨?_, ?_⟩, ?_, ⟨?_, ?_⟩, ⟨?_, ?_⟩, ⟨?_, ?_⟩, ⟨?_, ?_⟩, ?_⟩⟩
  · exact alwaysDoes_of (fun _ => rfl) fun u ⟨off, enough⟩ => doPowerOn_on off enough
  · exact alwaysDoes_of (fun _ => rfl) fun u idle => doPowerOn_idle idle
  · exact alwaysDoes_of (fun _ => rfl) fun u ⟨on, later⟩ => by rw [doRstAssert_on on, if_neg later]
  · exact alwaysDoes_of (fun _ => rfl) fun u ⟨on, first⟩ => by rw [doRstAssert_on on, if_pos first]
  · exact alwaysDoes_of (fun _ => rfl) fun u off => doRstAssert_off off
  · exact alwaysDoes_of (fun _ => rfl) fun u ⟨on, held, step, cool⟩ => doRstRelease_resumes on held step cool
  · exact alwaysDoes_of (fun _ => rfl) fun u ⟨on, held, waits⟩ => doRstRelease_waits on held waits
  · exact alwaysDoes_of (fun _ => rfl) fun u idle => doRstRelease_idle idle
  · exact eventDoes_of (fun _ => rfl) fun u _ => rfl
  · exact alwaysDoes_of (fun _ => rfl) fun u _ => rfl
  · exact writeDoes_of (fun _ => rfl) fun u _ right => by rw [regAct_pwrCmd, pwrCmd_devrst, if_pos right]
  · exact writeDoes_of (fun _ => rfl) fun u _ wrong => by rw [regAct_pwrCmd, pwrCmd_devrst, if_neg wrong]
  · exact writeDoes_of (fun _ => rfl) fun u _ noGo => by rw [regAct_pwrBoot, bootWrite_kept noGo]; rfl
  · exact writeDoes_of (fun _ => rfl) fun u _ ⟨go, step, tested, powered⟩ => by
      rw [regAct_pwrBoot, bootWrite_begins go step tested powered]; rfl
  · exact writeDoes_of (fun _ => rfl) fun u _ ⟨go, unready⟩ => by rw [regAct_pwrBoot, bootWrite_waits go unready]; rfl
  · exact eventDoes_of (fun _ => rfl) fun u ⟨⟨powered, runs⟩, step, _⟩ => doStartupStep_1 powered runs step
  · exact eventDoes_of (fun _ => rfl) fun u ⟨_, _, never⟩ => absurd trivial never
  · exact eventDoes_of (fun _ => rfl) fun u ⟨⟨powered, runs⟩, step, due⟩ => by
      rw [doStartupStep_2 powered runs step, if_neg (by rw [due]; exact Bool.false_ne_true)]; rfl
  · exact eventDoes_of (fun _ => rfl) fun u ⟨⟨powered, runs⟩, step, waits⟩ => by
      rw [doStartupStep_2 powered runs step, if_pos (Bool.not_eq_false _ ▸ waits)]
  · exact eventDoes_of (fun _ => rfl) fun u ⟨⟨powered, runs⟩, step, due⟩ => by
      rw [doStartupStep_3 powered runs step, if_neg (by rw [due]; exact Bool.false_ne_true)]; rfl
  · exact eventDoes_of (fun _ => rfl) fun u ⟨⟨powered, runs⟩, step, waits⟩ => by
      rw [doStartupStep_3 powered runs step, if_pos (Bool.not_eq_false _ ▸ waits)]
  · exact eventDoes_of (fun _ => rfl) fun u ⟨⟨powered, runs⟩, step, due⟩ => by
      rw [doStartupStep_4 powered runs step, if_pos due]; rfl
  · exact eventDoes_of (fun _ => rfl) fun u ⟨⟨powered, runs⟩, step, waits⟩ => by
      rw [doStartupStep_4 powered runs step, if_neg waits]
  · exact eventDoes_of (fun _ => rfl) fun u ⟨⟨powered, runs⟩, step, due⟩ => by
      rw [doStartupStep_5 powered runs step, if_pos due]; rfl
  · exact eventDoes_of (fun _ => rfl) fun u ⟨⟨powered, runs⟩, step, waits⟩ => by
      rw [doStartupStep_5 powered runs step, if_neg waits]
  · exact eventDoes_of (fun _ => rfl) fun u ⟨⟨powered, runs⟩, step⟩ => doStartupStep_6 powered runs step
  · exact eventDoes_of (fun _ => rfl) fun u ⟨⟨powered, runs⟩, step, due⟩ => by
      rw [doStartupStep_7 powered runs step, if_pos due]; rfl
  · exact eventDoes_of (fun _ => rfl) fun u ⟨⟨powered, runs⟩, step, waits⟩ => by
      rw [doStartupStep_7 powered runs step, if_neg waits]
  · exact eventDoes_of (fun _ => rfl) fun u ⟨⟨powered, runs⟩, step, due⟩ => by
      rw [doStartupStep_8 powered runs step, if_pos due]; rfl
  · exact eventDoes_of (fun _ => rfl) fun u ⟨⟨powered, runs⟩, step, waits⟩ => by
      rw [doStartupStep_8 powered runs step, if_neg waits]
  · exact eventDoes_of (fun _ => rfl) fun u ⟨⟨powered, runs⟩, step, due⟩ => by
      rw [doStartupStep_9 powered runs step, if_pos due]; rfl
  · exact eventDoes_of (fun _ => rfl) fun u ⟨⟨powered, runs⟩, step, waits⟩ => by
      rw [doStartupStep_9 powered runs step, if_neg waits]
  · exact eventDoes_of (fun _ => rfl) fun u ⟨⟨powered, runs⟩, step, _⟩ => doStartupStep_10 powered runs step
  · exact eventDoes_of (fun _ => rfl) fun u ⟨_, _, never⟩ => absurd trivial never
  · exact eventDoes_of (fun _ => rfl) fun u stopped => doStartupStep_stopped stopped

end Sys2Proof.Machine
end

section
/-! The service bus (R432 to R434). -/
namespace Sys2Proof.Machine

section Bus
variable {s : State} {a : BitVec 7} {index : Byte} {data : List Byte}

theorem assignAddr_takes (up : s.svcUp = true) (free : s.svc.dynAddr = none) :
    s.assignAddr a = { s with svc := { s.svc with dynAddr := some a } } :=
  if_pos ⟨up, Option.isNone_iff_eq_none.2 free⟩

theorem assignAddr_kept (kept : ¬(s.svcUp = true ∧ s.svc.dynAddr = none)) : s.assignAddr a = s :=
  if_neg fun ⟨up, free⟩ => kept ⟨up, Option.isNone_iff_eq_none.1 free⟩

/-- The index of the service bus is the one written. -/
def State.svcIndexed (s : State) (index : Byte) : State := { s with svc := { s.svc with index := index.toNat } }

/-- A write of a bus that answers sets the index and then acts by it. -/
theorem doSvcWrite_on (on : s.svcUp = true ∧ s.svc.dynAddr.isSome = true) :
    s.doSvcWrite index data =
      if data.length < 4 then s.svcIndexed index
      else if index = 0x14 then
        { s.svcIndexed index with
          svc := { (s.svcIndexed index).svc with
            alert := s.svc.alert &&& ~~~(BitVec.ofNat 7 (leNat (data.take 4))) } }
      else if index = 0x18 then
        { s.svcIndexed index with
          svc := { (s.svcIndexed index).svc with alertEn := BitVec.ofNat 7 (leNat (data.take 4)) } }
      else s.svcIndexed index :=
  if_pos on

theorem doSvcWrite_indexes (on : s.svcUp = true ∧ s.svc.dynAddr.isSome = true)
    (inert : data.length < 4 ∨ (index ≠ 0x14 ∧ index ≠ 0x18)) : s.doSvcWrite index data = s.svcIndexed index := by
  rw [doSvcWrite_on on]
  obtain short | ⟨noClear, noEnable⟩ := inert
  · rw [if_pos short]
  · rw [if_neg noClear, if_neg noEnable, ite_self]

end Bus

/-- Settles O51: an address, a read and a write by whether the bus answers, an interrupt by whether one waits. -/
theorem serviceBus : Obligations.ServiceBus := by
  unfold Obligations.ServiceBus
  refine ⟨fun a => ⟨?_, ?_, ?_, ?_⟩, fun index data => ⟨?_, ?_, ?_, ?_, ?_, ?_⟩, fun d rest acked => ⟨?_, ?_⟩⟩
  · exact alwaysDoes_of (fun _ => rfl) fun u ⟨up, free⟩ => assignAddr_takes up free
  · exact alwaysDoes_of (fun _ => rfl) fun u kept => assignAddr_kept kept
  · exact alwaysDoes_of (fun _ => rfl) fun u ⟨up, free⟩ => assignAddr_takes up free
  · exact alwaysDoes_of (fun _ => rfl) fun u kept => assignAddr_kept kept
  · exact alwaysDoes_of (fun _ => rfl) fun u on => if_pos on
  · exact alwaysDoes_of (fun _ => rfl) fun u silent => if_neg silent
  · exact alwaysDoes_of (fun _ => rfl) fun u ⟨on, long, clear⟩ => by
      rw [doSvcWrite_on on, if_neg (Nat.not_lt.2 long), if_pos clear]; rfl
  · exact alwaysDoes_of (fun _ => rfl) fun u ⟨on, long, enable⟩ => by
      subst enable
      rw [doSvcWrite_on on, if_neg (Nat.not_lt.2 long), if_neg (by decide), if_pos rfl]; rfl
  · exact alwaysDoes_of (fun _ => rfl) fun u ⟨on, inert⟩ => doSvcWrite_indexes on inert
  · exact alwaysDoes_of (fun _ => rfl) fun u silent => if_neg silent
  · exact alwaysDoes_of (fun _ => rfl) fun u waiting => by unfold State.doIbiRetry; rw [waiting]
  · exact alwaysDoes_of (fun _ => rfl) fun u idle => by unfold State.doIbiRetry; rw [idle]

end Sys2Proof.Machine
end

section
/-! What every command does (chapter 95): a step runs the command at the front, a command completes, and a stopped
device ignores it. -/
namespace Sys2Proof.Machine

/-- Settles O52: the step is a match on the waiting commands. -/
theorem stepRunsTheFrontCommand : Obligations.StepRunsTheFrontCommand := by
  unfold Obligations.StepRunsTheFrontCommand
  exact fun _ _ _ waiting => step_cons waiting

/-! A command completes -/

/-- What a command may leave: the waiting commands and the time as they were, and perhaps more sent. -/
def State.Completes (s t : State) : Prop :=
  t.pending = s.pending ∧ t.now = s.now ∧ ∃ sent, t.outbox = sent ++ s.outbox

theorem completes_refl (s : State) : s.Completes s := ⟨rfl, rfl, [], rfl⟩

theorem completes_done (s t : State) : s.Completes (s.done t) :=
  ⟨done_pending s t, done_now s t, _, done_outbox s t⟩

theorem run_completes (f : State → State) (s : State) : ∃ t, run f s = .next t ∧ s.Completes t := by
  cases live : s.live with
  | true => exact ⟨_, run_live f s live, completes_done s _⟩
  | false => exact ⟨_, run_dead f s live, completes_refl s⟩

/-- Settles O53: each of the four forms of a command answers the state as it was or one that is done. -/
theorem everyCommandCompletes : Obligations.EveryCommandCompletes := by
  unfold Obligations.EveryCommandCompletes
  intro c s
  obtain ⟨idle, _⟩ | ⟨f, runs, _⟩ | ⟨f, works, _⟩ | ⟨f, acts, _⟩ := exec_form c
  · exact ⟨s, idle s, completes_refl s⟩
  · rw [runs]
    exact run_completes f s
  · rw [works]
    exact run_completes _ s
  · rw [acts, always_eq]
    exact ⟨_, rfl, completes_done s _⟩

/-! A stopped device -/

theorem work_dead (f : State → State) (s : State) (dead : s.live = false) : work f s = .next s := run_dead _ s dead

/-- A command of the engines does nothing once a power-fail warning has stopped them. -/
theorem work_pfw (f : State → State) (s : State) (live : s.live = true) (warned : s.pwr.pfw = true) :
    work f s = .next (s.done s.hush) := by
  unfold work
  rw [run_live _ s live]
  exact congrArg (fun u => Host.Outcome.next (s.done u)) (if_pos warned)

theorem exec_dead {c : Instr} {s : State} (conditional : unconditional c = false) (dead : s.live = false) :
    exec c s = .next s := by
  obtain ⟨idle, _⟩ | ⟨f, runs, _⟩ | ⟨f, works, _⟩ | ⟨f, _, _, always⟩ := exec_form c
  · exact idle s
  · rw [runs, run_dead f s dead]
  · rw [works, work_dead f s dead]
  · exact absurd (conditional.symm.trans always) Bool.false_ne_true

theorem exec_pfw {c : Instr} {s : State} (engines : engineWork c = true) (live : s.live = true)
    (warned : s.pwr.pfw = true) : exec c s = .next (s.done s.hush) := by
  obtain ⟨_, other, _⟩ | ⟨_, _, other, _⟩ | ⟨f, works, _⟩ | ⟨_, _, other, _⟩ := exec_form c
  · exact absurd (other.symm.trans engines) Bool.false_ne_true
  · exact absurd (other.symm.trans engines) Bool.false_ne_true
  · rw [works, work_pfw f s live warned]
  · exact absurd (other.symm.trans engines) Bool.false_ne_true

/-- Settles O56: by the form of the command. -/
theorem stoppedDeviceIgnores : Obligations.StoppedDeviceIgnores := by
  unfold Obligations.StoppedDeviceIgnores
  exact ⟨fun _ _ conditional dead => exec_dead conditional dead,
    fun _ _ engines live warned => exec_pfw engines live warned⟩

end Sys2Proof.Machine
end

section
/-! A quiet command (chapter 95): nothing that could follow its own effect is due. -/
namespace Sys2Proof.Machine

/-- A fold whose steps leave its start as it is ends there. -/
theorem foldl_kept {f : State → Nat → State} {s : State} {l : List Nat} (kept : ∀ n ∈ l, f s n = s) :
    l.foldl f s = s :=
  List.foldlRecOn (motive := (· = s)) l f rfl fun _ at_s n mem => at_s ▸ kept n mem

section Quiet
variable {s : State} {n : Nat}

/-- What quiet says, part by part. -/
theorem quiet_iff :
    s.quiet = true ↔
      s.pwr.rstReq = false ∧ s.sec.handover = none ∧ s.stops = [] ∧ (∀ c ∈ List.range 64, s.coreQuiet c = true) ∧
        (∀ n ∈ List.range 8, s.unitQuiet n = true) ∧ (∀ n ∈ List.range 12, s.engineQuiet n = true) ∧
        s.tolQuiet = true := by
  unfold State.quiet
  simp only [Bool.and_eq_true, Bool.not_eq_true', Option.isNone_iff_eq_none, List.isEmpty_iff, List.all_eq_true, and_assoc]

/-! Requests and errors -/

theorem takeRequests_kept (noReset : s.pwr.rstReq = false) (noHandover : s.sec.handover = none) :
    s.takeRequests = s := by
  unfold State.takeRequests
  rw [noReset, noHandover]
  rfl

theorem takeStops_kept (noStop : s.stops = []) : s.takeStops = s := by
  unfold State.takeStops
  rw [noStop, List.foldl_nil, ← noStop]

/-! Pages that have left ON -/

theorem downCore_kept (quiet : s.coreQuiet n = true) : s.downCore n = s := by
  refine if_neg fun ⟨busy, down⟩ => ?_
  unfold State.coreQuiet at quiet
  rw [down, Option.isNone_eq_false_iff.2 busy] at quiet
  exact Bool.false_ne_true quiet

theorem downUnit_kept (quiet : s.unitQuiet n = true) : s.downUnit n = s := by
  unfold State.unitQuiet at quiet
  rw [Bool.and_eq_true] at quiet
  obtain ⟨lanes, work⟩ := quiet
  have drover : ¬(s.pageDown (Pg.drv n) = true ∧
      (List.range 4).any (fun l => (vget (s.drvUnit n).lanes l).core.isSome) = true) := by
    rintro ⟨down, busy⟩
    rw [down, Bool.not_true, Bool.false_or, List.all_eq_true] at lanes
    obtain ⟨l, mem, core⟩ := List.any_eq_true.1 busy
    rw [Option.isNone_iff_eq_none.1 (lanes l mem)] at core
    exact Bool.false_ne_true core
  have convoy : ¬(s.pageDown (Pg.cnv n) = true ∧
      ((!(s.cnvEng n).comb.isEmpty) = true ∨ (!(s.cnvEng n).tasks.isEmpty) = true ∨
        (s.cnvEng n).mans.toList.any (·.isSome) = true)) := by
    rintro ⟨down, busy⟩
    rw [down, Bool.not_true, Bool.false_or, Bool.and_eq_true, Bool.and_eq_true, List.all_eq_true] at work
    obtain ⟨⟨comb, tasks⟩, mans⟩ := work
    obtain merging | ending | filling := busy
    · rw [comb] at merging
      exact Bool.false_ne_true merging
    · rw [tasks] at ending
      exact Bool.false_ne_true ending
    · obtain ⟨m, mem, held⟩ := List.any_eq_true.1 filling
      rw [Option.isNone_iff_eq_none.1 (mans m mem)] at held
      exact Bool.false_ne_true held
  unfold State.downUnit
  rw [if_neg drover]
  exact if_neg convoy

/-! The ports of optical engines -/

/-- The logical lanes of the ports that an engine serves. -/
def engineLanes (e : Nat) : List Nat :=
  if e < 8 ∨ e = 9 ∨ e = 10 then [0] else if e = 8 then [0, 4] else [0, 1, 2, 3]

theorem portsLost_eq_foldl (s : State) (e : Nat) : s.portsLost e = (engineLanes e).foldl (fun s l => s.portLost e l) s :=
  rfl

/-- No port of an engine that is off carries a link that it could lose. -/
theorem portLost_kept (quiet : s.engineQuiet n = true) (off : s.isOn (Pg.ope n) = false) {l : Nat}
    (lane : l ∈ engineLanes n) : s.portLost n l = s := by
  unfold State.engineQuiet at quiet
  rw [off, Bool.false_or] at quiet
  unfold State.portLost
  split at quiet
  case isTrue torus =>
    rw [if_pos torus]
    refine if_neg fun ⟨on, up⟩ => ?_
    rw [on, up] at quiet
    exact Bool.false_ne_true quiet
  case isFalse noTorus =>
    rw [if_neg noTorus]
    split at quiet
    case isTrue spine =>
      subst spine
      rw [if_pos rfl]
      rw [Bool.and_eq_true, Bool.not_eq_true', Bool.not_eq_true'] at quiet
      obtain ⟨first, second⟩ := quiet
      obtain rfl | rfl : l = 0 ∨ l = 4 := by simpa [engineLanes] using lane
      · exact spineDown_down first
      · exact spineDown_down second
    case isFalse noSpine =>
      rw [if_neg noSpine]
      split at quiet
      case isTrue cxl =>
        rw [if_pos cxl]
        exact doCxlLoss_off (Bool.not_eq_eq_eq_not.1 quiet)
      case isFalse noCxl =>
        rw [if_neg noCxl]
        refine if_neg fun ⟨few, on, up⟩ => ?_
        have down := List.all_eq_true.1 quiet l (List.mem_range.2 few)
        rw [on, decide_eq_true up] at down
        exact Bool.false_ne_true down

theorem downEngine_kept (quiet : s.engineQuiet n = true) : s.downEngine n = s := by
  unfold State.downEngine
  cases on : s.isOn (Pg.ope n) with
  | true => exact if_pos rfl
  | false =>
    rw [if_neg Bool.false_ne_true, portsLost_eq_foldl]
    exact foldl_kept fun l lane => portLost_kept quiet on lane

theorem takeDowns_kept (cores : ∀ c ∈ List.range 64, s.coreQuiet c = true)
    (units : ∀ n ∈ List.range 8, s.unitQuiet n = true) (engines : ∀ n ∈ List.range 12, s.engineQuiet n = true) :
    s.takeDowns = s := by
  unfold State.takeDowns
  rw [foldl_kept fun c mem => downCore_kept (cores c mem)]
  dsimp only
  rw [foldl_kept fun n mem => downUnit_kept (units n mem)]
  exact foldl_kept fun n mem => downEngine_kept (engines n mem)

/-! The Tollgate -/

theorem tolPump_kept (started : ∀ o ∈ s.tol.ops, o.startedAt.isSome = true) : s.tolPump = s := by
  unfold State.tolPump
  cases s.tol.ops.length with
  | zero => rfl
  | succ k =>
    unfold State.pumpOps
    have idle : s.tol.ops.find? (fun o => o.startedAt.isNone &&
        decide ((s.tol.ops.filter (fun q => q.startedAt.isSome && decide (q.group = o.group))).length < 4)) = none :=
      List.find?_eq_none.2 fun o mem => by simp [Option.isNone_eq_false_iff.2 (started o mem)]
    simp only [idle]

theorem giveResults_kept (quiet : s.tolQuiet = true) : s.giveResults n = s := by
  unfold State.tolQuiet at quiet
  rw [Bool.and_eq_true, List.isEmpty_iff, List.all_eq_true] at quiet
  obtain ⟨noResult, started⟩ := quiet
  cases n with
  | zero => rfl
  | succ k =>
    unfold State.giveResults
    simp only [noResult, tolPump_kept started, List.isEmpty_nil, if_true]

end Quiet

/-- What follows a command leaves a quiet state as it is. -/
theorem settle_quiet {t : State} (quiet : t.quiet = true) : t.settle = t := by
  obtain ⟨noReset, noHandover, noStop, cores, units, engines, tollgate⟩ := quiet_iff.1 quiet
  unfold State.settle
  rw [takeRequests_kept noReset noHandover, takeStops_kept noStop, takeDowns_kept cores units engines,
    giveResults_kept tollgate, takeStops_kept noStop]

/-- Settles O57: nothing is settled, so that the command ends with its own effect. -/
theorem quietCommandsEndThere : Obligations.QuietCommandsEndThere := by
  unfold Obligations.QuietCommandsEndThere State.done State.plain
  intro s t quiet
  rw [settle_quiet quiet]

end Sys2Proof.Machine
end
